-- ==== Sys2Proof/Word.lean ====
section
/-! DEFINITION. The word and byte types of the block, and the bit-field and byte-order arithmetic on them. A
register is a 32-bit word (Chapter 2); a byte is 8 bits; a frame is its bytes in wire order. -/

namespace Sys2Proof

/-- A register or a BAR2 word. -/
abbrev Word := BitVec 32

/-- A byte. -/
abbrev Byte := BitVec 8

/-- Bytes in wire order, or in ascending address order. -/
abbrev Bytes := List Byte

/-- Bits [hi:lo] of a number. -/
def bitsOf (n hi lo : Nat) : Nat := n / 2 ^ lo % 2 ^ (hi + 1 - lo)

/-- A number with bits [hi:lo] replaced by `v`, taken modulo the field's width. -/
def putBits (n hi lo v : Nat) : Nat :=
  n / 2 ^ (hi + 1) * 2 ^ (hi + 1) + v % 2 ^ (hi + 1 - lo) * 2 ^ lo + n % 2 ^ lo

/-- One bit of a number. -/
def bitOf (n i : Nat) : Bool := n / 2 ^ i % 2 == 1

/-- 1 for true, 0 for false: a one-bit field's value. -/
def b2n (b : Bool) : Nat := if b then 1 else 0

/-- A signed reading of the low `w` bits of a number. -/
def toSigned (w n : Nat) : Int :=
  if n % 2 ^ w < 2 ^ (w - 1) then (n % 2 ^ w : Nat) else ((n % 2 ^ w : Nat) : Int) - (2 ^ w : Nat)

/-- The low `w` bits of an integer, in two's complement. -/
def ofSigned (w : Nat) (i : Int) : Nat := (i % (2 ^ w : Nat)).toNat

/-- The number that bytes spell, most significant byte first. -/
def beNat (bs : Bytes) : Nat := bs.foldl (fun a b => a * 256 + b.toNat) 0

/-- The number that bytes spell, least significant byte first. -/
def leNat (bs : Bytes) : Nat := bs.foldr (fun b a => a * 256 + b.toNat) 0

/-- `k` bytes of a number, least significant byte first. -/
def leBytes : Nat → Nat → Bytes
  | 0, _ => []
  | k + 1, n => BitVec.ofNat 8 n :: leBytes k (n / 256)

/-- `k` bytes of a number, most significant byte first. -/
def beBytes (k n : Nat) : Bytes := (leBytes k n).reverse

/-- Bytes `at` to `at + k − 1` of a byte string, short where the string ends. -/
def slice (bs : Bytes) (at_ k : Nat) : Bytes := (bs.drop at_).take k

/-- The big-endian number in bytes `at` to `at + k − 1`. -/
def beAt (bs : Bytes) (at_ k : Nat) : Nat := beNat (slice bs at_ k)

/-- The little-endian number in bytes `at` to `at + k − 1`. -/
def leAt (bs : Bytes) (at_ k : Nat) : Nat := leNat (slice bs at_ k)

/-- Byte `i`, 0 past the end. -/
def byteAt (bs : Bytes) (i : Nat) : Nat := match bs[i]? with | some b => b.toNat | none => 0

/-- `bs` with the bytes from `at` on overwritten by `v`, the length kept. -/
def putBytes (bs : Bytes) (at_ : Nat) (v : Bytes) : Bytes :=
  (bs.take at_ ++ v ++ bs.drop (at_ + v.length)).take bs.length

/-- Bits of a number that are 1 in both, as a number. -/
def natAnd (a b : Nat) : Nat := a &&& b

/-- The number of ones among the low `w` bits. -/
def popCount (w n : Nat) : Nat := ((List.range w).filter (bitOf n)).length

/-- The positions of the ones among the low `w` bits, ascending. -/
def onesOf (w n : Nat) : List Nat := (List.range w).filter (bitOf n)

/-- The lowest one among the low `w` bits, 0 where there is none. -/
def lowestOne (w n : Nat) : Nat := (onesOf w n).headD 0

/-- A number with ones at the given positions. -/
def maskOf (l : List Nat) : Nat := l.eraseDups.foldl (fun a i => a + 2 ^ i) 0

end Sys2Proof
end

