-- ==== Sys2Proof/Syntax.lean ====
section
/-! DEFINITION. The commands of the block: one constructor per row of the command table, with the row's operands.
A command is an access by the host or another writer, a stimulus from outside with its data, or an occurrence inside
the block that names its unit. -/

namespace Sys2Proof

/-- A CAN frame on the bus: identifier type, identifier, control bits as W4 of a message-object header lays them out
(Table 7-4), acceptance field and SEC bit (XL only), data bytes. -/
structure CanFrame where
  ide : Bool
  id : Nat
  w4 : Nat
  af : Nat
  sec : Bool
  data : Bytes
  deriving DecidableEq, Repr


/-- A record that twins share (R274): an FDB entry of a pipe (address, FID, port, removed), the state of an SRF (index,
RECOV_SEQ, HISTORY), or a change of the node directory. -/
inductive TwinRec
  | fdb (pipe mac fid port : Nat) (gone : Bool)
  | srf (index recov history : Nat)
  | node (kind chan : Nat) (key : Bytes) (nodeId : Nat) (present : Bool)
  deriving DecidableEq, Repr

/-- An update message (Table 15-7 and the layout after it): the payload fields, and the bytes from byte 32 on. Paths are
the four 16-bit levels, level 0 first. -/
structure UpdMsg where
  target : List Nat
  origin : List Nat
  manifest : Nat
  code : Nat
  flags : Nat
  time : Nat
  body : Bytes
  deriving DecidableEq, Repr

/-- The commands. -/
inductive Instr
  /-- REGISTER_WRITE (R55): a BAR0 write TLP of ndw words with first byte enables be -/
  | registerWrite (off : Nat) (w : Word) (be ndw : Nat)
  /-- BAR0_LONG_READ (R42): a read of ndw words of BAR0 or BAR2; what its first line of LPDDR4X is found to hold -/
  | bar0LongRead (off ndw : Nat) (bar2 : Bool) (ecc : Nat)
  /-- TABLE_WORD_WRITE (R170): a host write of a word, or more, at a BAR2 offset; first and last byte enables -/
  | tableWordWrite (off : Nat) (w : Word) (be : Nat) (more : List Word) (lastBe ecc : Nat)
  /-- REGISTER_ACCESS_TIMEOUT (R62): a host access of a BAR0 offset times out; w is the word of a write -/
  | registerAccessTimeout (off : Nat) (w : Option Word)
  /-- PAGE_ENABLE (R48): a host write of PAGE_CTL.EN of the page with this BAR0 page number -/
  | pageEnable (page : Nat) (en : Bool)
  /-- PAGE_QUIESCE (R48): a host write of PAGE_CTL.QUIESCE -/
  | pageQuiesce (page : Nat) (q : Bool)
  /-- PAGE_SRST (R49): a host write of PAGE_CTL.SRST -/
  | pageSrst (page : Nat)
  /-- QUIESCE_DRAINED (R48): the work in flight of a quiescing page is finished -/
  | quiesceDrained (page : Nat)
  /-- PAGE_RESET_COMPLETE (R49): a block reset completes -/
  | pageResetComplete (page : Nat)
  /-- PAGE_LOCK_WRITE (R52): a host write of PAGE_LOCK -/
  | pageLockWrite (page : Nat) (w : Word)
  /-- CNT_CLR (R103): a host write of a register with a CLR bit -/
  | cntClr (off : Nat) (w : Word)
  /-- EVT_PEND_CLEAR (R71): a host write of EVT_PEND; sources and detail bytes that occur in the same cycle -/
  | evtPendClear (page : Nat) (w : Word) (again : List (Nat × Nat))
  /-- EVENT_OCCURRENCE (R69): event source EVn occurs with a detail byte -/
  | eventOccurrence (n detail : Nat)
  /-- GRP_EOI (R73): a host write of GRP_EOI -/
  | grpEoi (w : Word)
  /-- LOG_POP (R59): a BAR0 read of one or two words at LOG_POP -/
  | logPop (ndw : Nat)
  /-- LOG_OVF_CLEAR (R77): the host writes 1 to LOG_STS.OVF -/
  | logOvfClear
  /-- HSPI_READ (R67): an HSPI READ of n words; the words that time out; what its first line of LPDDR4X is found to hold
  -/
  | hspiRead (addr n : Nat) (late : List Nat) (ecc : Nat)
  /-- HSPI_WRITE (R68): an HSPI WRITE; each word with the number of buffered words applied before it arrives; nibbles of
  an incomplete word -/
  | hspiWrite (addr : Nat) (words : List (Nat × Nat)) (nibbles : Nat)
  /-- HSPI_WRITE_APPLY (R68): the oldest buffered HSPI word is applied -/
  | hspiWriteApply (late : Bool)
  /-- READ_STATUS (R66): HSPI READ_STATUS -/
  | readStatus
  /-- CLEAR_STATUS (R66): HSPI CLEAR_STATUS -/
  | clearStatus
  /-- HSPI_UNKNOWN_COMMAND (R66): an HSPI command byte of another code -/
  | hspiUnknownCommand (code : Nat)
  /-- DIE_LINK_CHECK_FAIL (R14): a die-to-die transfer fails its check for the given number of retries -/
  | dieLinkCheckFail (retries : Nat)
  /-- DIE_LINK_RETRY (R473): the Supervisor retries a lost link; whether the transfer passes -/
  | dieLinkRetry (pass : Bool)
  /-- FRAME_ADMISSION (R102): the oldest frame of fabric port `port` that waits to enter is admitted or refused per
  target -/
  | frameAdmission (port : Nat)
  /-- ROUND_START (R88): phase 0 of a round: every input plans -/
  | roundStart
  /-- FLUSH_TIMER_EXPIRY (R87): the flush timer of the spreading buffer (out, tc) of an input expires -/
  | flushTimerExpiry (input out tc : Nat)
  /-- CELL_ARRIVAL (R94): what an input sends in a phase reaches its middle position -/
  | cellArrival (input phase : Nat)
  /-- ROUND_END (R93): the groups sent in the round are appended -/
  | roundEnd
  /-- OUTPUT_CELL_TAKE (R97): an output takes a cell in a phase; ecc 0 good, 1 corrected, 2 uncorrectable, 3 list parity
  error -/
  | outputCellTake (out phase ecc : Nat)
  /-- SLICE_LEAVE_PATTERN (R105): an ACTIVE slice with SKIP = 1 leaves the pattern at a round boundary -/
  | sliceLeavePattern (slice : Nat)
  /-- PURGE_COMPLETE (R106): the purge of a slice ends; cells in which its discards found a corrected and an
  uncorrectable error -/
  | purgeComplete (slice corr uncorr : Nat)
  /-- SLICE_REBUILD_START (R105): a slice in OUT starts its rebuild -/
  | sliceRebuildStart (slice : Nat)
  /-- REBUILD_COMPLETE (R105): the rebuild ends, the memory good or not -/
  | rebuildComplete (slice : Nat) (good : Bool)
  /-- SLICE_JOIN_PATTERN (R105): a rebuilt slice joins the pattern at a round boundary -/
  | sliceJoinPattern (slice : Nat)
  /-- SLICE_READMIT_DONE (R105): every pinned pair has moved -/
  | sliceReadmitDone (slice : Nat)
  /-- HOT_POSITION (R110): a position has stood above THRESH for WINDOW_US -/
  | hotPosition (pos : Nat)
  /-- RESEED_REQ (R111): the host writes RESEED_CTL -/
  | reseedReq (w : Word)
  /-- PIN_SEED_WRITE (R111): the host writes PIN_SEED -/
  | pinSeedWrite (w : Word)
  /-- PIN_CLASS_WRITE (R111): the host writes PIN_CLASS -/
  | pinClassWrite (w : Word)
  /-- SEED_PAIR_MOVE (R112): a held pair has no cell in flight -/
  | seedPairMove (out tc : Nat)
  /-- SEED_PAIR_ABANDON (R112): HOLD_US passes before a held pair drains -/
  | seedPairAbandon (out tc : Nat)
  /-- SEED_HOLD_RETRY (R107): HOLD_US after an abandonment the hold starts again -/
  | seedHoldRetry (out tc : Nat)
  /-- FRER_HALF_WRITE (R516): the host writes FRER_HALF -/
  | frerHalfWrite (w : Word)
  /-- E_TX_SELECT (R117): a frame boundary of an E port; ecc 0 none, 1 corrected, 2 uncorrectable word in the frame next
  selected, 3 in the frame in transmission -/
  | eTxSelect (port ecc : Nat)
  /-- CT_UNDERRUN (R126): an E port needs a cut-through byte that has not arrived -/
  | ctUnderrun (port : Nat)
  /-- GATE_ENTRY_CHANGE (R119): TIME_NS has reached the end of a gate-control entry -/
  | gateEntryChange (port : Nat)
  /-- CONFIG_CHANGE (R120): the host writes GATE_CTL of an egress page -/
  | configChange (port : Nat) (w : Word)
  /-- GATE_CONFIG_APPLY (R120): TIME_NS has reached the pending set's change time -/
  | gateConfigApply (port : Nat)
  /-- EGRESS_QUIESCE_TIMEOUT (R138): 100 ms of QUIESCING have passed on an egress page -/
  | egressQuiesceTimeout (out : Nat)
  /-- QUEUE_RUN_START (R128): the host writes RUN = 1 -/
  | queueRunStart (queue : Nat)
  /-- QUEUE_RUN_STOP (R128): the host writes RUN = 0 -/
  | queueRunStop (queue : Nat)
  /-- QUEUE_FLUSH (R128): the host writes FLUSH = 1 with RUN = 0 -/
  | queueFlush (queue : Nat)
  /-- QUEUE_TAIL_WRITE (R129): the host writes TAIL -/
  | queueTailWrite (queue : Nat) (w : Word)
  /-- HOST_RX_PUBLISH (R130): output F16 to F19 writes its next frame to its host queue; `posted`: the descriptors in
  host memory from HEAD on; ecc 0 none, 1 corrected, 2 uncorrectable in the frame that waits next, 3 in the frame begun;
  23: the frame that recirculates -/
  | hostRxPublish (out ecc : Nat) (posted : Bytes)
  /-- QUEUE_IRQ_TIME_EXPIRY (R134): IRQ.TIME_US has passed since the oldest unsignalled frame -/
  | queueIrqTimeExpiry (queue : Nat)
  /-- HOST_TX_FETCH (R132): the device reads the next frame of a TX queue; `parts`: what host memory holds, descriptor
  and buffer, or record header and bytes; ecc 0 none, 1 corrected, 2 uncorrectable word of the data stage -/
  | hostTxFetch (queue ecc : Nat) (parts : List (Bytes × Bytes))
  /-- DMA_COMPLETION_TIMEOUT (R135): a DMA read of a queue times out -/
  | dmaCompletionTimeout (queue : Nat)
  /-- DMA_COMPLETION_ERROR (R135): a DMA read of a queue completes unsuccessfully -/
  | dmaCompletionError (queue : Nat)
  /-- POINTER_FLUSH (R137): a pointer error of a host queue or of a class queue of an output; `single`: one bit -/
  | pointerFlush (queue : Bool) (number tc : Nat) (single : Bool)
  /-- FRAME_LOOKUP (R147): the oldest frame of a port that waits for its lookup is looked up; `mismatch`: the lockstep
  copies disagree; `parity`: BAR2 offset of an entry that has taken a parity error, 0 for none -/
  | frameLookup (port : Nat) (mismatch : Bool) (parity : Nat)
  /-- GRIST_EDIT (R146): the oldest looked-up frame of a port is edited and goes toward the fabric -/
  | gristEdit (port : Nat)
  /-- LEARN_COMMIT (R156): a pipe carries out its next learn or move request -/
  | learnCommit (pipe : Nat)
  /-- SPARGE_VISIT (R159): Sparge visits its next entry; `hit`: a lookup hits it in the same CLK_FAB cycle -/
  | spargeVisit (pipe : Nat) (hit : Bool)
  /-- FDB_FLUSH (R161): the host writes FDB_FLUSH of a pipe -/
  | fdbFlush (pipe : Nat) (w : Word)
  /-- FDB_FLUSH_COMPLETE (R161): a flush has visited every entry -/
  | fdbFlushComplete (pipe : Nat)
  /-- SRF_RESET_TIMEOUT (R168): the reset timer of a sequence recovery function expires -/
  | srfResetTimeout (srf : Nat)
  /-- STREAM_FLIP_NOW (R172): the host writes 1 to STREAM_BANK.FLIP_NOW -/
  | streamFlipNow
  /-- STREAM_FLIP_AT (R172): the host writes 1 to STREAM_BANK.FLIP_AT -/
  | streamFlipAt
  /-- STREAM_FLIP_CANCEL (R172): the host writes 1 to STREAM_BANK.FLIP_CANCEL -/
  | streamFlipCancel
  /-- STREAM_FLIP_DUE (R172): TIME_NS has reached FLIP_AT -/
  | streamFlipDue
  /-- STREAM_DRAIN_END (R173): the last frame of the previous epoch has left -/
  | streamDrainEnd
  /-- LINK_UP (R180): an E port gains synchronisation or block lock; `code`: the speed code of the in-band control word
  -/
  | linkUp (port code : Nat)
  /-- LINK_DOWN (R180): an E port loses its link; `lock`: block lock is still held -/
  | linkDown (port : Nat) (lock : Bool)
  /-- ETH_RX_FRAME (R182): a frame ends on an E port; `bytes`: destination address to FCS; `ago`: ns since its stamp
  point -/
  | ethRxFrame (port : Nat) (bytes : Bytes) (codeErr : Bool) (ago : Nat)
  /-- TS_POP (R198): the host reads TS_POP of an E port or a segment, `ndw` words -/
  | tsPop (segment : Bool) (number ndw : Nat)
  /-- TS_FLUSH (R198): the host writes TS_CTL -/
  | tsFlush (port : Nat) (w : Word)
  /-- LPI_ENTRY (R194): an E port has been idle for IDLE_US, or, with `partner`, its partner enters low-power idle -/
  | lpiEntry (port : Nat) (partner : Bool)
  /-- LPI_WAKE_END (R195): TW_TX_NS has passed since low-power idle ended, or, with `partner`, the partner has left its
  own -/
  | lpiWakeEnd (port : Nat) (partner : Bool)
  /-- T1S_RX_FRAME (R204): a frame ends on a segment; `opportunity`: the transmit opportunity it came in, used under
  PLCA; `ago`: ns since the stamp point -/
  | t1sRxFrame (segment opportunity : Nat) (bytes : Bytes) (codeErr : Bool) (ago : Nat)
  /-- T1S_NODE_DEPART (R206): no GOOD frame has come for DEPART_MS from the node of a discovery entry -/
  | t1sNodeDepart (segment entry : Nat)
  /-- PLCA_BEACON (R203): the coordinator sends a BEACON and runs its own opportunity -/
  | plcaBeacon (segment : Nat)
  /-- PLCA_BEACON_LOST (R203): a follower has seen no BEACON for 4,000 bit times -/
  | plcaBeaconLost (segment : Nat)
  /-- T1S_COLLISION (R202): the frame in transmission on a segment collides -/
  | t1sCollision (segment : Nat) (late : Bool)
  /-- CAN_RX_STORE (R218): a CAN frame is received without error; `ago`: ns since its start-of-frame bit; `ecc`: 1 a
  corrected, 2 an uncorrectable object word -/
  | canRxStore (channel : Nat) (frame : CanFrame) (ago ecc : Nat)
  /-- CAN_PROTOCOL_EXCEPTION (R213): the reserved bit after FDF or XLF is recessive -/
  | canProtocolException (channel : Nat)
  /-- OBJECT_W7_WRITE (R216): the host writes W7 of a message object -/
  | objectW7Write (object : Nat) (w : Word)
  /-- CAN_TX_COMPLETE (R222): the frame on the wire ends without error; `tdcv`: delay measured; `ecc`: 1 a corrected, 2
  an uncorrectable object word; `ago`: ns since the sample point of its start-of-frame bit -/
  | canTxComplete (channel tdcv ecc ago : Nat)
  /-- CAN_ARB_LOST (R221): the frame on the wire loses arbitration -/
  | canArbLost (channel : Nat)
  /-- CAN_ERROR (R225): an error is detected; `tx`: in a frame that the channel sends; `extra`: 0 the normal counter
  step, 1 that of a dominant bit after a receiver's flag, 2 none; `tdcv`: the delay measured in it -/
  | canError (channel lec : Nat) (tx : Bool) (extra : Nat) (tdcv : Option Nat)
  /-- CAN_INTEGRATED (R225): 11 consecutive recessive bits while integrating -/
  | canIntegrated (channel : Nat)
  /-- CAN_RECOVER (R228): the host writes CTL -/
  | canRecover (channel : Nat) (w : Word)
  /-- CAN_RECOVERY_COMPLETE (R225): the 128th sequence of 11 recessive bits -/
  | canRecoveryComplete (channel : Nat)
  /-- TRCV_STATE_REQUEST (R229): the host writes TRCV_CTL -/
  | trcvStateRequest (channel : Nat) (w : Word)
  /-- TRCV_STATE_REACHED (R230): the transceiver completes its transition -/
  | trcvStateReached (channel : Nat)
  /-- TXD_TMO (R231): an integrated transceiver has been driven dominant for 1 ms -/
  | txdTmo (channel : Nat)
  /-- BUS_DOM (R231): an integrated transceiver finds the bus dominant for 1 ms -/
  | busDom (channel : Nat)
  /-- THERMAL (R231): an integrated transceiver passes its thermal limit -/
  | thermal (channel : Nat)
  /-- LIN_SLOT_START (R238): a slot of a commander begins; `err`: 1 a bit error in its header, 2 in its response -/
  | linSlotStart (channel err : Nat)
  /-- LIN_HEADER_RX (R233): a responder takes a header at `rate` bit/s; `ago`: ns since the break's falling edge; `bad`:
  a bit error in the response it sends -/
  | linHeaderRx (channel rate pid ago : Nat) (bad : Bool)
  /-- LIN_RESPONSE_RX (R235): a subscribed response ends in time; `bytes`: data and checksum -/
  | linResponseRx (channel : Nat) (bytes : Bytes) (framing : Bool)
  /-- LIN_RESPONSE_TIMEOUT (R235): the frame's maximum time expires after `got` bytes -/
  | linResponseTimeout (channel got : Nat)
  /-- LIN_DATA_STAGE (R237): the host writes FT_DATA_LO of an entry -/
  | linDataStage (channel id : Nat) (w : Word)
  /-- LIN_DATA_COMMIT (R237): the host writes FT_DATA_HI of an entry -/
  | linDataCommit (channel id : Nat) (w : Word)
  /-- SCHED_SWITCH (R239): the host writes SCHED_CTL -/
  | schedSwitch (channel : Nat) (w : Word)
  /-- WAKE_TX (R240): the host writes LIN_TRCV -/
  | wakeTx (channel : Nat) (w : Word)
  /-- ROUTE_LOOKUP (R245): the bus bridge looks up the oldest stored frame -/
  | routeLookup
  /-- BRIDGE_COPY_PLACE (R254): a waiting copy is placed into a pool object of a CAN channel -/
  | bridgeCopyPlace (channel : Nat)
  /-- RT_FLIP_NOW (R251): the host writes RT_FLIP.NOW -/
  | rtFlipNow
  /-- RT_FLIP_AT (R251): the host writes RT_FLIP.AT -/
  | rtFlipAt
  /-- RT_FLIP_CANCEL (R251): the host writes RT_FLIP.CANCEL -/
  | rtFlipCancel
  /-- RT_FLIP_DUE (R251): TIME_NS reaches FLIP_AT -/
  | rtFlipDue
  /-- RT_DRAIN_END (R252): the draining period after a flip ends -/
  | rtDrainEnd
  /-- F20_FRAME_RX (R258): the next frame of output 20 leaves the fabric; `ecc`: 0 no memory error, 1 a corrected word
  of the egress buffer, 2 an uncorrectable one -/
  | f20FrameRx (ecc : Nat)
  /-- TUNNEL_FRAME_SEND (R260): the oldest full frame of a transmit tunnel is sent -/
  | tunnelFrameSend (tunnel : Nat)
  /-- TUNNEL_HOLD_EXPIRY (R260): HOLD_US has passed since the open frame's first message -/
  | tunnelHoldExpiry (tunnel : Nat)
  /-- TUNNEL_FRAG_TIMEOUT (R262): a reassembly context has been incomplete for 1 ms -/
  | tunnelFragTimeout (tunnel : Nat)
  /-- JALDEN_FRAME_RX (R269): a Jalden frame arrives; `crc`: its CRC is good -/
  | jaldenFrameRx (lane typ cls seq ack creditP creditNp : Nat) (payload : Bytes) (crc : Bool)
  /-- JALDEN_REPLAY_TIMEOUT (R269): no ACK has advanced for 10 µs -/
  | jaldenReplayTimeout (lane : Nat)
  /-- JALDEN_IDLE_ACK (R269): a lane with nothing else to send sends IDLE_ACK -/
  | jaldenIdleAck (lane : Nat)
  /-- JL_BLOCK_LOCK (R270): a lane in mode 5 gains block lock -/
  | jlBlockLock (lane : Nat)
  /-- JL_BLOCK_LOCK_LOST (R270): a lane loses block lock -/
  | jlBlockLockLost (lane : Nat)
  /-- DISCOVER_RX (R271): a DISCOVER payload arrives with ACK and credits in its header -/
  | discoverRx (lane ack creditP creditNp : Nat) (payload : Bytes)
  /-- DISCOVER_SEND (R270): a lane sends DISCOVER -/
  | discoverSend (lane : Nat)
  /-- JL_RETRY (R270): the host writes JL_LANE -/
  | jlRetry (lane : Nat) (w : Word)
  /-- RACC_GO (R273): the host writes RACC_CMD -/
  | raccGo (w : Word)
  /-- RACC_REQUEST_RX (R273): a remote access request arrives on a lane; 16 stands for this unit's own -/
  | raccRequestRx (lane : Nat) (path : List Nat) (depth twin op addr wdata : Nat) (late : Bool)
  /-- RACC_COMPLETION_RX (R267): a completion arrives on a lane for the request of `origin` (16: this unit's own) -/
  | raccCompletionRx (lane origin status rdata : Nat)
  /-- RACC_TIMEOUT (R267): CPL_TMO has passed without a completion -/
  | raccTimeout
  /-- TWIN_STATE_SEND (R274): the twin sends what has changed since it last did -/
  | twinStateSend
  /-- TWIN_STATE_RX (R274): records of the twin arrive on a lane -/
  | twinStateRx (lane : Nat) (recs : List TwinRec)
  /-- TWIN_PEER_TIMEOUT (R275): no valid Jalden frame on any twin lane for PEER_TMO_US -/
  | twinPeerTimeout
  /-- KTL_DISPATCH_FRAME (R310): the next frame of output 21 leaves the fabric and is dispatched -/
  | ktlDispatchFrame (ecc : Nat)
  /-- KTL_FRAG_TIMEOUT (R311): a cluster's reassembly context has been incomplete for 1 ms -/
  | ktlFragTimeout (cluster origin bus : Nat)
  /-- JOB_START (R313): the dispatcher of a cluster starts a job -/
  | jobStart (cluster : Nat)
  /-- JOB_BUDGET_EXPIRY (R330): a job has run JOB_LIMIT cycles at an instruction boundary -/
  | jobBudgetExpiry (core : Nat)
  /-- CORE_RESUME (R331): the host writes CORE_CTL of a core -/
  | coreResume (core : Nat) (data : Word)
  /-- ADD (R319): the instruction ADD of a Kettle core -/
  | opAdd (core wait mem : Nat)
  /-- SUB (R319): the instruction SUB of a Kettle core -/
  | opSub (core wait mem : Nat)
  /-- AND (R319): the instruction AND of a Kettle core -/
  | opAnd (core wait mem : Nat)
  /-- OR (R319): the instruction OR of a Kettle core -/
  | opOr (core wait mem : Nat)
  /-- XOR (R319): the instruction XOR of a Kettle core -/
  | opXor (core wait mem : Nat)
  /-- SHL (R319): the instruction SHL of a Kettle core -/
  | opShl (core wait mem : Nat)
  /-- SHR (R319): the instruction SHR of a Kettle core -/
  | opShr (core wait mem : Nat)
  /-- SAR (R319): the instruction SAR of a Kettle core -/
  | opSar (core wait mem : Nat)
  /-- MUL (R319): the instruction MUL of a Kettle core -/
  | opMul (core wait mem : Nat)
  /-- SLT (R319): the instruction SLT of a Kettle core -/
  | opSlt (core wait mem : Nat)
  /-- SLTU (R319): the instruction SLTU of a Kettle core -/
  | opSltu (core wait mem : Nat)
  /-- MIN (R319): the instruction MIN of a Kettle core -/
  | opMin (core wait mem : Nat)
  /-- MAX (R319): the instruction MAX of a Kettle core -/
  | opMax (core wait mem : Nat)
  /-- ADDI (R319): the instruction ADDI of a Kettle core -/
  | opAddi (core wait mem : Nat)
  /-- ANDI (R319): the instruction ANDI of a Kettle core -/
  | opAndi (core wait mem : Nat)
  /-- ORI (R319): the instruction ORI of a Kettle core -/
  | opOri (core wait mem : Nat)
  /-- XORI (R319): the instruction XORI of a Kettle core -/
  | opXori (core wait mem : Nat)
  /-- SHLI (R319): the instruction SHLI of a Kettle core -/
  | opShli (core wait mem : Nat)
  /-- SHRI (R319): the instruction SHRI of a Kettle core -/
  | opShri (core wait mem : Nat)
  /-- SARI (R319): the instruction SARI of a Kettle core -/
  | opSari (core wait mem : Nat)
  /-- SHIN (R319): the instruction SHIN of a Kettle core -/
  | opShin (core wait mem : Nat)
  /-- LD8 (R315): the instruction LD8 of a Kettle core -/
  | opLd8 (core wait mem : Nat)
  /-- LD16 (R315): the instruction LD16 of a Kettle core -/
  | opLd16 (core wait mem : Nat)
  /-- LD32 (R315): the instruction LD32 of a Kettle core -/
  | opLd32 (core wait mem : Nat)
  /-- LD64 (R315): the instruction LD64 of a Kettle core -/
  | opLd64 (core wait mem : Nat)
  /-- ST8 (R315): the instruction ST8 of a Kettle core -/
  | opSt8 (core wait mem : Nat)
  /-- ST16 (R315): the instruction ST16 of a Kettle core -/
  | opSt16 (core wait mem : Nat)
  /-- ST32 (R315): the instruction ST32 of a Kettle core -/
  | opSt32 (core wait mem : Nat)
  /-- ST64 (R315): the instruction ST64 of a Kettle core -/
  | opSt64 (core wait mem : Nat)
  /-- BEQ (R318): the instruction BEQ of a Kettle core -/
  | opBeq (core wait mem : Nat)
  /-- BNE (R318): the instruction BNE of a Kettle core -/
  | opBne (core wait mem : Nat)
  /-- BLT (R318): the instruction BLT of a Kettle core -/
  | opBlt (core wait mem : Nat)
  /-- BGE (R318): the instruction BGE of a Kettle core -/
  | opBge (core wait mem : Nat)
  /-- BLTU (R318): the instruction BLTU of a Kettle core -/
  | opBltu (core wait mem : Nat)
  /-- BGEU (R318): the instruction BGEU of a Kettle core -/
  | opBgeu (core wait mem : Nat)
  /-- JAL (R319): the instruction JAL of a Kettle core -/
  | opJal (core wait mem : Nat)
  /-- JR (R319): the instruction JR of a Kettle core -/
  | opJr (core wait mem : Nat)
  /-- EXTI (R320): the instruction EXTI of a Kettle core -/
  | opExti (core wait mem : Nat)
  /-- INSI (R320): the instruction INSI of a Kettle core -/
  | opInsi (core wait mem : Nat)
  /-- EXT (R320): the instruction EXT of a Kettle core -/
  | opExt (core wait mem : Nat)
  /-- INS (R320): the instruction INS of a Kettle core -/
  | opIns (core wait mem : Nat)
  /-- AADD (R316): the instruction AADD of a Kettle core -/
  | opAadd (core wait mem : Nat)
  /-- SREC (R319): the instruction SREC of a Kettle core -/
  | opSrec (core wait mem : Nat)
  /-- PREC (R319): the instruction PREC of a Kettle core -/
  | opPrec (core wait mem : Nat)
  /-- SRCV (R322): the instruction SRCV of a Kettle core -/
  | opSrcv (core wait mem : Nat)
  /-- SFWD (R323): the instruction SFWD of a Kettle core -/
  | opSfwd (core wait mem : Nat)
  /-- SVAL (R319): the instruction SVAL of a Kettle core -/
  | opSval (core wait mem : Nat)
  /-- SSET (R323): the instruction SSET of a Kettle core -/
  | opSset (core wait mem : Nat)
  /-- XFM (R282): the instruction XFM of a Kettle core -/
  | opXfm (core wait mem : Nat)
  /-- PGET (R319): the instruction PGET of a Kettle core -/
  | opPget (core wait mem : Nat)
  /-- PCNT (R319): the instruction PCNT of a Kettle core -/
  | opPcnt (core wait mem : Nat)
  /-- E2EC (R325): the instruction E2EC of a Kettle core -/
  | opE2ec (core wait uwait mem : Nat)
  /-- PASM (R324): the instruction PASM of a Kettle core -/
  | opPasm (core wait mem : Nat)
  /-- E2EP (R325): the instruction E2EP of a Kettle core -/
  | opE2ep (core wait uwait mem : Nat)
  /-- SEND (R324): the instruction SEND of a Kettle core -/
  | opSend (core wait mem : Nat)
  /-- CVU_CALC (R327): the instruction CVU_CALC of a Kettle core -/
  | opCvuCalc (core wait uwait mem : Nat)
  /-- CVU_FEED (R327): the instruction CVU_FEED of a Kettle core -/
  | opCvuFeed (core wait uwait mem : Nat)
  /-- CVU_FINAL (R327): the instruction CVU_FINAL of a Kettle core -/
  | opCvuFinal (core wait uwait mem : Nat)
  /-- CVU_STRIP (R327): the instruction CVU_STRIP of a Kettle core -/
  | opCvuStrip (core wait uwait mem : Nat)
  /-- CVU_APPEND (R327): the instruction CVU_APPEND of a Kettle core -/
  | opCvuAppend (core wait uwait mem : Nat)
  /-- TIME (R319): the instruction TIME of a Kettle core -/
  | opTime (core wait mem : Nat)
  /-- END (R330): the instruction END of a Kettle core -/
  | opEnd (core wait mem : Nat)
  /-- BADOP (R319): the instruction BADOP of a Kettle core -/
  | opBadop (core wait mem : Nat)
  /-- DEADLINE_VISIT (R290): the deadline scanner visits a signal state of the foreground bank -/
  | deadlineVisit (signal : Nat)
  /-- TX_SCHEDULER_VISIT (R288): the transmit scheduler visits a PDU of the foreground bank -/
  | txSchedulerVisit (pdu : Nat)
  /-- TMO_POP (R292): a read of TMO_POP -/
  | tmoPop (dwords : Nat)
  /-- BUILD_GO (R294): the host writes BUILD_CTL with GO -/
  | buildGo (batch : Nat) (byVariant : Bool)
  /-- BUILD_DONE (R294): the build ends; a line that it found uncorrectable; single-bit errors corrected -/
  | buildDone (badLine : Option Nat) (corr : Nat)
  /-- HOST_READY (R295): the host writes BUILD_CTL with HOST_READY -/
  | hostReady (batch : Nat)
  /-- SIG_FLIP_NOW (R296): the host writes SIG.FLIP.NOW -/
  | sigFlipNow
  /-- SIG_FLIP_AT (R296): the host writes SIG.FLIP.AT -/
  | sigFlipAt
  /-- SIG_FLIP_CANCEL (R296): the host writes SIG.FLIP.CANCEL -/
  | sigFlipCancel
  /-- SIG_FLIP_DUE (R296): TIME_NS reaches FLIP_AT -/
  | sigFlipDue
  /-- SIG_DRAIN_END (R297): the draining period after a flip ends -/
  | sigDrainEnd
  /-- NODE_DEPART_TIMEOUT (R300): a local CAN or LIN entry has not been refreshed for DEPART_MS -/
  | nodeDepartTimeout (entry : Nat)
  /-- NODE_POP (R300): a read of NODE_POP -/
  | nodePop (dwords : Nat)
  /-- NODE_SUMMARY_SEND (R302): a snapshot or the changes go to the parent -/
  | nodeSummarySend (snapshot : Bool)
  /-- NODE_SUMMARY_RX (R303): a summary arrives from a child -/
  | nodeSummaryRx (lane src : Nat) (payload : Bytes)
  /-- CHILD_HOLD_EXPIRY (R303): the hold of a child's entries expires -/
  | childHoldExpiry (owner : Nat)
  /-- TWIN_NODE_HOLD_EXPIRY (R304): the hold of the twin's entries expires -/
  | twinNodeHoldExpiry
  /-- DDR_TRAINING_DONE (R305): LPDDR4X training ends -/
  | ddrTrainingDone (ok : Bool)
  /-- SERVO_SAMPLE (R343): the servo takes the oldest sample that waits -/
  | servoSample
  /-- SERVO_MODE_WRITE (R343): the host writes SERVO_CTL -/
  | servoModeWrite (w : Word)
  /-- REACQUIRE (R343): the host writes SERVO_CTL -/
  | reacquire (w : Word)
  /-- CAPTURE_ABSENCE_TIMEOUT (R343): no capture of the servo's input for 2 s -/
  | captureAbsenceTimeout
  /-- HOST_STEP_GO (R345): the host writes STEP_CMD -/
  | hostStepGo (w : Word)
  /-- HOST_STEP_APPLY (R345): the oldest host step that waits is applied at this tick -/
  | hostStepApply
  /-- PDELAY_REQ_RX (R347): the next frame of output 22 is a Pdelay_Req; `ecc`: 0 no memory error, 1 a corrected word of
  the egress buffer, 2 an uncorrectable one; `posted`: the descriptors of HOST_Q from HEAD on -/
  | pdelayReqRx (ecc : Nat) (posted : Bytes)
  /-- PDELAY_REQ_SEND (R347): INTERVAL_MS has passed on a port -/
  | pdelayReqSend (port : Nat)
  /-- PDELAY_RESP_RX (R347): the next frame of output 22 is a Pdelay_Resp or its Follow_Up -/
  | pdelayRespRx (ecc : Nat) (posted : Bytes)
  /-- SYNC_RX (R347): the next frame of output 22 is a Sync or a Follow_Up -/
  | syncRx (ecc : Nat) (posted : Bytes)
  /-- SYNC_ORIGINATE (R347): INTERVAL_MS has passed on a grandmaster instance -/
  | syncOriginate (inst : Nat)
  /-- SYNC_RECEIPT_TIMEOUT (R351): no Sync of an instance within TMO_MS -/
  | syncReceiptTimeout (inst : Nat)
  /-- PTP_FRAME_TO_HOST (R349): the next frame of output 22 is one that the engine does not consume -/
  | ptpFrameToHost (ecc : Nat) (posted : Bytes)
  /-- PPS_EDGE (R353): an edge of a pulse output is due -/
  | ppsEdge (k : Nat)
  /-- PPS_WIDTH_END (R353): WIDTH has passed since an edge of a pulse output -/
  | ppsWidthEnd (k : Nat)
  /-- PPS_CAPTURE (R355): an edge on an input, `ago` ns in the past, has been held until now -/
  | ppsCapture (input : Nat) (falling : Bool) (ago : Nat)
  /-- CAP_POP (R355): a read of CAP_POP of one word or two -/
  | capPop (input ndw : Nat)
  /-- SLOT_ARM (R356): the host writes SLOT_CTL of a slot -/
  | slotArm (slot : Nat) (w : Word)
  /-- SLOT_FIRE (R356): slot k writes; whether the write times out -/
  | slotFire (k : Nat) (late : Bool)
  /-- LOAD (R372): the host writes CMD with GO = 1 and OP 0; FORM, TYPE, slots as in `w` -/
  | load (w : Word)
  /-- LOAD_AUX (R371): the host writes CMD with GO = 1 and OP 1 -/
  | loadAux (w : Word)
  /-- DERIVE (R366): the host writes CMD with GO = 1 and OP 2 -/
  | derive (w : Word)
  /-- COMMIT (R373): the host writes CMD with GO = 1 and OP 3 -/
  | commit (w : Word)
  /-- COMMIT_AT (R374): the host writes CMD with GO = 1 and OP 4 -/
  | commitAt (w : Word)
  /-- CANCEL_AT (R371): the host writes CMD with GO = 1 and OP 5 -/
  | cancelAt (w : Word)
  /-- ERASE (R371): the host writes CMD with GO = 1 and OP 6 -/
  | erase (w : Word)
  /-- ERASE_ALL (R371): the host writes CMD with GO = 1 and OP 7 -/
  | eraseAll (w : Word)
  /-- KILN_COMMAND_DONE (R371): the Kiln command in progress ends -/
  | kilnCommandDone
  /-- TIMED_COMMIT (R374): TIME_NS reaches the instant of the armed commit -/
  | timedCommit
  /-- KEY_STAGE_WRITE (R370): the host writes KEY_STAGE[k] -/
  | keyStageWrite (k : Nat) (w : Word)
  /-- KEY_STAGE_TIMEOUT (R370): 1 ms without a command after the last staged word -/
  | keyStageTimeout
  /-- LIFECYCLE_ADVANCE (R360): the host writes LC_CMD with GO = 1 -/
  | lifecycleAdvance (target : Nat)
  /-- KILN_ID_READY (R363): the fixed derivations complete -/
  | kilnIdReady
  /-- MASK_SWEEP_START (R365): a mask sweep starts -/
  | maskSweepStart
  /-- MASK_SWEEP_VISIT (R365): the sweep visits its next entry -/
  | maskSweepVisit
  /-- DRBG_RESEED (R375): the DRBG is reseeded after 2^20 requests -/
  | drbgReseed
  /-- DRBG_HEALTH_FAIL (R377): a health test fails; `apt`: the adaptive proportion test -/
  | drbgHealthFail (apt : Bool)
  /-- RESTART (R377): the host writes RNG_STS with RESTART = 1 -/
  | restart
  /-- RNG_POP (R376): a read of RNG_POP of one word or two -/
  | rngPop (ndw : Nat)
  /-- BLK_SHA256 (R384): the host writes BLK_CMD with GO = 1 and OP 0 -/
  | blkSha256
  /-- BLK_HMAC_SHA256 (R384): the host writes BLK_CMD with GO = 1 and OP 1 -/
  | blkHmacSha256 (slot : Nat)
  /-- CMAC_GENERATE (R384): the host writes BLK_CMD with GO = 1 and OP 2 -/
  | cmacGenerate (slot : Nat)
  /-- CMAC_VERIFY (R384): the host writes BLK_CMD with GO = 1 and OP 3 -/
  | cmacVerify (slot : Nat)
  /-- IDENTITY_SIGN (R385): the host writes BLK_CMD with GO = 1 and OP 4 -/
  | identitySign
  /-- CHALLENGE_RESPONSE (R386): the host writes BLK_CMD with GO = 1 and OP 5 -/
  | challengeResponse (slot : Nat)
  /-- BLOCK_OP_DONE (R384): the Block operation in progress ends -/
  | blockOpDone
  /-- CIPHER_PARITY_ERROR (R387): a parity error in pipeline `unit` or the Block unit (4), in a frame of a port -/
  | cipherParityError (unit port : Nat) (tx : Bool)
  /-- ALARM_TRIP (R388): a supply (0), the clock (1), the temperature (2) or the shield (3) trips -/
  | alarmTrip (cause : Nat)
  /-- ALARM_ERASURE_DONE (R389): the erasure completes -/
  | alarmErasureDone
  /-- ALARM_CLR (R389): the host writes ALARM_CLR; `present`: a cause is still present -/
  | alarmClr (present : Bool) (w : Word)
  /-- ALARM_RESTORE_DONE (R389): the fixed keys are derived again -/
  | alarmRestoreDone
  /-- RAIL_GOOD (R493): rail r is GOOD; whether it came too late, whether it is above its range -/
  | railGood (r : Nat) (late high : Bool)
  /-- RAIL_NOT_GOOD (R493): rail r is no longer GOOD -/
  | railNotGood (r : Nat)
  /-- SEQ_ERROR_RELEASE (R394): the hold of a sequencing error ends -/
  | seqErrorRelease
  /-- VSUP_UV (R395): VSUP, now mv millivolts, is below its undervoltage threshold -/
  | vsupUv (mv : Nat)
  /-- VSUP_OV (R395): VSUP rises above its overvoltage threshold -/
  | vsupOv
  /-- VSUP_LOSS (R397): VSUP is lost -/
  | vsupLoss
  /-- POWER_ON (R397): VSUP has come and the last rail is GOOD -/
  | powerOn
  /-- THERMAL_SHUTDOWN (R398): the junction reaches 150 degrees C -/
  | thermalShutdown (tj : Nat)
  /-- THERMAL_RECOVERY (R398): the junction has fallen below 130 degrees C -/
  | thermalRecovery (tj : Nat)
  /-- DOM_REQ_WRITE (R399): a write of DOM_REQ -/
  | domReqWrite (w : Word)
  /-- DOMAIN_SWITCH_DONE (R401): the switch in progress ends -/
  | domainSwitchDone
  /-- DOMAIN_CUT_TIMEOUT (R400): DOM_TMO passes before the pages of a domain have drained -/
  | domainCutTimeout
  /-- LP_ENTRY_GO (R403): a write of LP_CTL -/
  | lpEntryGo (w : Word)
  /-- LP_ENTRY_AUTO (R403): the rings agree on sleep -/
  | lpEntryAuto
  /-- LP_ENTRY_COMPLETE (R403): the entry sequence ends -/
  | lpEntryComplete
  /-- WAKE_INPUT (R409): an edge on WAKE input i, held for so many microseconds -/
  | wakeInput (input : Nat) (falling : Bool) (held : Nat)
  /-- CAN_BUS_WAKE (R411): a wake pattern or a wake frame on Cn -/
  | canBusWake (n kind : Nat) (frame : CanFrame)
  /-- LIN_BUS_WAKE (R414): a wake-up signal on Ln -/
  | linBusWake (n : Nat)
  /-- LIN_IDLE_SLEEP (R414): Ln has been idle for the sleep time -/
  | linIdleSleep (n : Nat)
  /-- WAKE_SUPPLIES_GOOD (R405): the supplies are GOOD after a wake -/
  | wakeSuppliesGood
  /-- WAKE_SUPPLY_TIMEOUT (R406): SUPPLY_TMO passes before the supplies are GOOD -/
  | wakeSupplyTimeout
  /-- WAKE_RETRY (R406): the retry time after a supply failure has passed -/
  | wakeRetry
  /-- WAKE_FIRST_CLEAR (R408): a write of WAKE_FIRST -/
  | wakeFirstClear (w : Word)
  /-- PN_SUSPEND (R413): a write of PN_CTL of Cn -/
  | pnSuspend (n : Nat) (w : Word)
  /-- PN_SUSPEND_EFFECT (R413): a suspension takes effect -/
  | pnSuspendEffect (n : Nat)
  /-- NM_ENABLE (R418): the host writes NM_CTL of an instance -/
  | nmEnable (k : Nat) (w : Word)
  /-- NM_WAKE_REQUEST (R418): a wake request of a kind and index reaches an instance -/
  | nmWakeRequest (k kind index : Nat)
  /-- NM_MESSAGE_RX (R415): a ring message is received on the channel of an instance -/
  | nmMessageRx (k ident : Nat) (data : Bytes)
  /-- NM_RING_SEND (R417): T_TYP_MS have passed since the token came -/
  | nmRingSend (k : Nat)
  /-- NM_MSG_COMPLETE (R415): the message of an instance has left its object -/
  | nmMsgComplete (k : Nat)
  /-- NM_TMAX_TIMEOUT (R417): no RING or ALIVE for T_MAX_MS -/
  | nmTmaxTimeout (k : Nat)
  /-- NM_TERR_TIMEOUT (R417): T_ERR_MS have passed -/
  | nmTerrTimeout (k : Nat)
  /-- NM_WBS_EXPIRY (R417): T_WBS_MS have passed in WAIT_SLEEP -/
  | nmWbsExpiry (k : Nat)
  /-- NM_ADDRESS_TIMEOUT (R416): an address has not been heard for N × T_MAX_MS -/
  | nmAddressTimeout (k address : Nat)
  /-- CASK_CHECKPOINT (R425): CKPT_S seconds pass since the last CHECKPOINT or START record -/
  | caskCheckpoint
  /-- HREC_GO (R425): the host writes HREC_CTL with GO = 1, SOURCE and LEN as in `w` -/
  | hrecGo (w : Word)
  /-- CASK_RECORD_WRITE (R429): the next buffered record is programmed; `got`: the read-back of the flash after the
  program, where it is not what programming leaves -/
  | caskRecordWrite (got : Option Bytes)
  /-- CASK_PAGE_PROGRAM (R430): the page image is programmed; what the part reports: 1 the page, 2 the erase of a unit,
  3 its header has failed -/
  | caskPageProgram (fails : Nat)
  /-- CASK_FLUSH_TIMEOUT (R430): FLUSH_MS ms since the oldest record of the image -/
  | caskFlushTimeout (fails : Nat)
  /-- FLUSH (R433): the host writes CMD with GO = 1 and OP 0; what the part reports, as in CASK_PAGE_PROGRAM -/
  | flush (fails : Nat)
  /-- FREE (R433): the host writes CMD with GO = 1 and OP 1 -/
  | free
  /-- CASK_ERASE_ALL (R433): the host writes CMD with GO = 1 and OP 2 -/
  | caskEraseAll
  /-- READ (R433): the host writes CMD with GO = 1 and OP 3 -/
  | read
  /-- CASK_COMMAND_DONE (R433): the erase or read ends; units whose erase failed, ECC status of the read, what the part
  reports of the page image and of the header of the unit opened -/
  | caskCommandDone (failed : List Nat) (ecc fails : Nat) (opened : Bool)
  /-- CASK_SCAN (R434): the recorder page has entered RUN unscanned -/
  | caskScan
  /-- CASK_SCAN_DONE (R434): the scan ends; offsets of the pages that read uncorrectable -/
  | caskScanDone (bad : List Nat)
  /-- SNAP (R437): the host writes PERF_CTL with SNAP = 1 -/
  | snap (w : Word)
  /-- PERF_AT (R437): the host writes PERF_CTL with AT = 1 -/
  | perfAt (w : Word)
  /-- PERF_TIMED_RUN (R437): PERF_AT is reached -/
  | perfTimedRun
  /-- PERF_CLR (R437): the host writes CLR -/
  | perfClr (w : Word)
  /-- TAP_POP (R440): a read of TAP_POP -/
  | tapPop (dwords : Nat)
  /-- HCMD (R445): the host writes HCMD with GO = 1, OPCODE and LEN as in `w` -/
  | hcmd (w : Word)
  /-- HCMD_DONE (R445): a host flash command completes; error of the part, ECC status, data that the part returns -/
  | hcmdDone (fail : Bool) (ecc : Nat) (data : Bytes)
  /-- BOOT_START (R450): the boot ROM finds the flash part: SFDP signature, identifier, SIZE_LOG2, NOR erase unit, ECC
  statuses of pages -/
  | bootStart (sfdp : Bool) (ident size unit : Nat) (ecc : List (Nat × Nat))
  /-- BOOT_FIRMWARE_START (R450): the boot ROM starts a firmware slot or enters recovery; ECC statuses of pages -/
  | bootFirmwareStart (ecc : List (Nat × Nat))
  /-- GET_INFO (R451): the host writes MBX_CMD with GO = 1 and OP 0x01 -/
  | getInfo
  /-- MBX_RESTART (R451): the host writes MBX_CMD with GO = 1 and OP 0x02 -/
  | mbxRestart
  /-- OPEN_SLOT (R452): the host writes MBX_CMD with GO = 1 and OP 0x10 -/
  | openSlot
  /-- WRITE_BLOCK (R452): the host writes MBX_CMD with GO = 1 and OP 0x11; what the part reports of the program -/
  | writeBlock (programmed : Bool)
  /-- CLOSE_SLOT (R453): the host writes MBX_CMD with GO = 1 and OP 0x12 -/
  | closeSlot
  /-- ABORT_SLOT (R451): the host writes MBX_CMD with GO = 1 and OP 0x13 -/
  | abortSlot
  /-- READ_CERT (R451): the host writes MBX_CMD with GO = 1 and OP 0x14 -/
  | readCert (ecc : List (Nat × Nat))
  /-- RACK_PREPARE (R456): the host writes MBX_CMD with GO = 1 and OP 0x20 -/
  | rackPrepare (ecc : List (Nat × Nat))
  /-- RACK_CONFIRM (R456): the host writes MBX_CMD with GO = 1 and OP 0x21 -/
  | rackConfirm
  /-- RACK_REVERT (R456): the host writes MBX_CMD with GO = 1 and OP 0x22 -/
  | rackRevert
  /-- RACK_UNIT (R451): the host writes MBX_CMD with GO = 1 and OP 0x23 -/
  | rackUnit
  /-- APPLY_RECIPE (R334): the host writes MBX_CMD with GO = 1 and OP 0x30 -/
  | applyRecipe (ecc : List (Nat × Nat))
  /-- FUSE (R451): the host writes MBX_CMD with GO = 1 and OP 0x40 -/
  | fuse
  /-- MBX_UNKNOWN_OP (R451): the host writes MBX_CMD with GO = 1 and an OP that is not listed -/
  | mbxUnknownOp (op : Nat)
  /-- XFER_RX (R451): an XFER message arrives; what the part reports of a program -/
  | xferRx (m : UpdMsg) (programmed : Bool) (ecc : List (Nat × Nat))
  /-- XFER_ACK_RX (R451): an XFER_ACK message arrives -/
  | xferAckRx (m : UpdMsg)
  /-- XFER_TIMEOUT (R451): no answer within 10 × CPL_TMO -/
  | xferTimeout
  /-- PREPARE_RX (R456): a PREPARE message arrives -/
  | prepareRx (m : UpdMsg) (ecc : List (Nat × Nat))
  /-- RACK_PREPARATION_DONE (R455): the participant's preparation ends -/
  | rackPreparationDone (ecc : List (Nat × Nat))
  /-- READY_RX (R456): a READY message arrives; the sender is one of a twin pair -/
  | readyRx (twin : Bool) (m : UpdMsg)
  /-- GO_RX (R456): a GO message arrives -/
  | goRx (m : UpdMsg)
  /-- ABORT_RX (R456): an ABORT message arrives -/
  | abortRx (m : UpdMsg)
  /-- DONE_RX (R456): a DONE message arrives; the sender is one of a twin pair -/
  | doneRx (twin : Bool) (m : UpdMsg)
  /-- CONFIRM_RX (R456): a CONFIRM message arrives -/
  | confirmRx (m : UpdMsg)
  /-- REVERT_RX (R456): a REVERT message arrives -/
  | revertRx (m : UpdMsg)
  /-- RACK_READY_DEADLINE (R456): TIME_NS reaches T_ACT − ARM_LEAD_MS -/
  | rackReadyDeadline
  /-- RACK_GUARD_DEADLINE (R456): TIME_NS reaches T_ACT − GUARD_MS -/
  | rackGuardDeadline
  /-- RACK_ACTIVATION (R456): T_ACT passes -/
  | rackActivation
  /-- RACK_CHECK_DEADLINE (R456): TIME_NS reaches T_ACT + CHECK_MS -/
  | rackCheckDeadline
  /-- RACK_REVERT_DEADLINE (R456): TIME_NS reaches T_REV + CHECK_MS -/
  | rackRevertDeadline
  /-- RACK_REVERT_APPLY (R456): T_REV passes -/
  | rackRevertApply
  /-- DEGRADE_REQUEST (R465): a write of DEG_REQ with GO -/
  | degradeRequest (w : Word)
  /-- DEGRADE_GRANT (R466): the Supervisor grants the oldest request -/
  | degradeGrant
  /-- DEGRADE_EXIT (R467): a write of DEG_REQ with EXIT -/
  | degradeExit (w : Word)
  /-- CELLARER_CYCLE (R476): an evaluation cycle; the rules whose samples time out -/
  | cellarerCycle (skips : List Nat)
  /-- CELLARER_LOG (R481): action 0 -/
  | cellarerLog
  /-- CELLARER_EVENT (R481): action 1 -/
  | cellarerEvent
  /-- CELLARER_METER (R481): action 2 -/
  | cellarerMeter
  /-- CELLARER_LISTEN (R481): action 3; whether its write times out -/
  | cellarerListen (late : Bool)
  /-- CELLARER_PIN (R481): action 4 -/
  | cellarerPin
  /-- CELLARER_RESEED (R481): action 5 -/
  | cellarerReseed (late : Bool)
  /-- CELLARER_BATCH (R481): action 6 -/
  | cellarerBatch (late : Bool)
  /-- CELLARER_BLOCK (R481): action 7 -/
  | cellarerBlock (late : Bool)
  /-- CELLARER_DEGRADE (R481): action 8 -/
  | cellarerDegrade (late : Bool)
  /-- RULE_CLEAR (R479): the host writes CLR of rule r -/
  | ruleClear (r : Nat)
  /-- RESET_N_ASSERT (R500): RESET_N is low for ns nanoseconds -/
  | resetNAssert (ns : Nat)
  /-- RESET_N_RELEASE (R500): RESET_N rises -/
  | resetNRelease
  /-- TEST_PIN_HIGH (R490): the levels of TEST1 and TEST0 change -/
  | testPinHigh (levels : Nat)
  /-- PERST_RELEASE (R501): PERSTh_N rises -/
  | perstRelease (h : Nat)
  /-- PCIE_LINK_CHANGE (R139): the link of H port h goes up or down -/
  | pcieLinkChange (h : Nat) (up : Bool) (gen width : Nat)
  /-- EXTEST (R507): levels of the balls as captured; the value loaded -/
  | extest (balls shift : Nat)
  /-- SAMPLE_PRELOAD (R507): levels of the balls as captured; the value loaded -/
  | samplePreload (balls shift : Nat)
  /-- IDCODE (R508): the identification register shifts out -/
  | idcode
  /-- HIGHZ (R507): the chained balls float -/
  | highz
  /-- CLAMP (R507): the boundary outputs are held -/
  | clamp
  /-- BYPASS (R507): code 0xFF or one that Table 17-12 does not list -/
  | bypass (code : Nat)
  /-- DBG_REQ (R509): Update-DR of DBG_REQ -/
  | dbgReq (value : Nat)
  /-- DBG_ACCESS (R510): Update-DR of DBG_ACCESS; whether the access times out -/
  | dbgAccess (op addr data : Nat) (late : Bool)
  /-- MAILBOX_COMMAND_DONE (R451): a long command ends; what the flash part reports -/
  | mailboxCommandDone (ok : Bool) (ecc : List (Nat × Nat))
  /-- SUPERVISOR_LOCKSTEP_MISMATCH (R471): the Supervisor's lockstep pair disagrees -/
  | supervisorLockstepMismatch
  /-- TRANSCEIVER_FAULT_CLEAR (R231): a transceiver fault clears; `bit`: its bit of TRCV_STS -/
  | transceiverFaultClear (channel bit : Nat)
  /-- PLCA_BEACON_RECEIVED (R203): a follower receives a BEACON and runs its own opportunity -/
  | plcaBeaconReceived (segment : Nat)
  /-- THERMAL_WARNING (R398): the junction sensor shows tj -/
  | thermalWarning (tj : Nat)
  /-- VSUP_OVERVOLTAGE_END (R395): VSUP falls below its overvoltage threshold -/
  | vsupOvervoltageEnd
  /-- TAP_TEST_LOGIC_RESET (R507): a low pulse on TRST_N -/
  | tapTestLogicReset
  deriving DecidableEq, Repr

end Sys2Proof
end

