-- ==== Sys2Proof/Decode.lean ====
section
/-! DEFINITION. The words of the command table. Its rows carry no bits: a command is an access or an occurrence, and no
word spells one. -/

namespace Sys2Proof

/-- The command that a word spells by the table's bits: none. -/
def decodeTableWord (_nbits _w : Nat) : Option Instr := none

end Sys2Proof
end

