-- ==== Sys2Proof/Config.lean ====
section
/-! DEFINITION. What the specification leaves open. Every constant here is opaque: it has a type and no value that a
proof can use, so a statement that mentions one holds for every value of it. -/

namespace Sys2Proof.Config

/-- The free value number `n` of width `w`: a value that the specification leaves open (a timed-out write's effect,
random bits of the DRBG, an undefined field). The step reads and advances a counter of State (log entry 2). -/
opaque free (w : Nat) : Nat → BitVec w

/-- The source address of the gPTP engine's frames on a port (R347 gives none; log entry 63). -/
opaque ptpMac : Nat → BitVec 48

/-- The clockIdentity of the gPTP engine (R347 gives none; log entry 63). -/
opaque clockId : BitVec 64

/-- DMA read requests for the bytes at an address, above the fewest that R127 allows: the Max Read Request Size is the
host's setting (log entry 29). -/
opaque extraReads : Nat → Nat → Nat

/-- The TYPE of the GO message of Racking (Table 15-7 lists none; log entry 88). -/
opaque goType : BitVec 8

end Sys2Proof.Config
end

