-- ==== Sys2Proof/Machine/Crypto.lean ====
section
/-! DEFINITION. The cryptographic functions that the specification names by their standards: AES (FIPS 197), GCM (SP
800-38D), CMAC (RFC 4493), key wrap (RFC 3394), SHA-256 (FIPS 180-4), HMAC (RFC 2104), ECDSA on P-256 and the counter-mode KDF. PRESUMED: the arithmetic is
that of the standards, which the specification cites and does not restate (log entry 9). -/

namespace Sys2Proof.Machine

/-! ### AES -/

/-- Doubling in GF(2^8) with polynomial 0x11B. -/
def gf2 (a : Nat) : Nat := if a < 128 then 2 * a else Nat.xor (2 * a - 256) 0x1B

/-- Product in GF(2^8): `k` bits of `b` remain. -/
def gfMul (a b : Nat) : Nat → Nat
  | 0 => 0
  | k + 1 => Nat.xor (if b % 2 = 1 then a else 0) (gfMul (gf2 a) (b / 2) k)

/-- Repeated squaring: x^(2^k). -/
def gfSquare (x : Nat) : Nat → Nat
  | 0 => x
  | k + 1 => gfSquare (gfMul x x 8) k

/-- The inverse in GF(2^8), x^254, 0 for 0. -/
def gfInv (x : Nat) : Nat :=
  (List.range 7).foldl (fun a k => gfMul a (gfSquare x (k + 1)) 8) 1

/-- Rotates a byte left. -/
def rotl8 (x k : Nat) : Nat := (x * 2 ^ k + x / 2 ^ (8 - k)) % 256

/-- The AES S-box. -/
def aesSub (x : Nat) : Nat :=
  let i := gfInv x
  Nat.xor 0x63 (Nat.xor i (Nat.xor (rotl8 i 1) (Nat.xor (rotl8 i 2) (Nat.xor (rotl8 i 3) (rotl8 i 4)))))

/-- The inverse AES S-box. -/
def aesInvSub (y : Nat) : Nat :=
  gfInv (Nat.xor 0x05 (Nat.xor (rotl8 y 1) (Nat.xor (rotl8 y 3) (rotl8 y 6))))

/-- Exclusive or of two byte strings of the same length. -/
def xorBytes (a b : List Nat) : List Nat := List.zipWith Nat.xor a b

/-- The round constant of key expansion step `i`. -/
def aesRcon (i : Nat) : Nat := gfSquareStep i
where
  /-- 2^(i − 1) in GF(2^8) -/
  gfSquareStep : Nat → Nat
    | 0 => 0
    | 1 => 1
    | k + 1 => gf2 (gfSquareStep k)

/-- Key expansion: the words so far are given in reverse; `n` words remain; `nk` is the key length in words. -/
def aesExpand (nk : Nat) : Nat → Nat → List (List Nat) → List (List Nat)
  | 0, _, ws => ws.reverse
  | n + 1, i, ws =>
    let prev := ws.headD []
    let t :=
      if i % nk = 0 then
        match (prev.drop 1 ++ prev.take 1).map aesSub with
        | a :: r => Nat.xor a (aesRcon (i / nk)) :: r
        | [] => []
      else if nk = 8 ∧ i % nk = 4 then prev.map aesSub
      else prev
    aesExpand nk n (i + 1) (xorBytes t ((ws[nk - 1]?).getD []) :: ws)

/-- Splits a list into words of four. -/
def words4 : List Nat → List (List Nat)
  | a :: b :: c :: d :: l => [a, b, c, d] :: words4 l
  | _ => []

/-- The round keys of a 16-byte or 32-byte key, each as 16 bytes. -/
def aesKeys (key : List Nat) : List (List Nat) :=
  let nk := key.length / 4
  let total := 4 * (nk + 7)
  group16 (aesExpand nk (total - nk) nk (words4 key).reverse)
where
  /-- four words at a time -/
  group16 : List (List Nat) → List (List Nat)
    | a :: b :: c :: d :: l => (a ++ b ++ c ++ d) :: group16 l
    | _ => []

/-- ShiftRows; `dir` is 1 to encrypt and 3 to decrypt. -/
def aesShift (dir : Nat) (s : List Nat) : List Nat :=
  (List.range 16).map fun i => s.getD ((i + 4 * dir * (i % 4)) % 16) 0

/-- MixColumns with a row of coefficients. -/
def aesMix (c : List Nat) (s : List Nat) : List Nat :=
  (List.range 16).map fun i =>
    (List.range 4).foldl (fun a j => Nat.xor a (gfMul (s.getD (i / 4 * 4 + j) 0) (c.getD ((j + 4 - i % 4) % 4) 0) 8)) 0

/-- The rounds of encryption after the first key addition. -/
def aesRounds : List (List Nat) → List Nat → List Nat
  | [], s => s
  | [k], s => xorBytes (aesShift 1 (s.map aesSub)) k
  | k :: ks, s => aesRounds ks (xorBytes (aesMix [2, 3, 1, 1] (aesShift 1 (s.map aesSub))) k)

/-- The rounds of decryption after the first key addition. -/
def aesInvRounds : List (List Nat) → List Nat → List Nat
  | [], s => s
  | [k], s => xorBytes ((aesShift 3 s).map aesInvSub) k
  | k :: ks, s => aesInvRounds ks (aesMix [14, 11, 13, 9] (xorBytes ((aesShift 3 s).map aesInvSub) k))

/-- Bytes as numbers. -/
def nums (b : Bytes) : List Nat := b.map BitVec.toNat

/-- Numbers as bytes. -/
def ofNums (l : List Nat) : Bytes := l.map (BitVec.ofNat 8)

/-- AES encryption of one block under a 16-byte or 32-byte key. -/
def aesEnc (key block : Bytes) : Bytes :=
  match aesKeys (nums key) with
  | k :: ks => ofNums (aesRounds ks (xorBytes (nums block) k))
  | [] => block

/-- AES decryption of one block. -/
def aesDec (key block : Bytes) : Bytes :=
  match (aesKeys (nums key)).reverse with
  | k :: ks => ofNums (aesInvRounds ks (xorBytes (nums block) k))
  | [] => block

/-- Exclusive or of two byte strings, the length of the shorter. -/
def xorB (a b : Bytes) : Bytes := List.zipWith (· ^^^ ·) a b

/-! ### GCM -/

/-- Product of GHASH in GF(2^128), bit 0 leftmost: `k` bits of x remain. -/
def ghashMul (x v z : Nat) : Nat → Nat
  | 0 => z
  | k + 1 =>
    let z' := if bitOf x k then Nat.xor z v else z
    let v' := if v % 2 = 1 then Nat.xor (v / 2) (0xE1 * 2 ^ 120) else v / 2
    ghashMul x v' z' k

/-- Cuts bytes into 16-byte blocks, the last padded with zeros; `n` bounds the count. -/
def blocks16 : Nat → Bytes → List Bytes
  | 0, _ => []
  | n + 1, b => if b = [] then [] else (b.take 16 ++ List.replicate (16 - b.length) 0) :: blocks16 n (b.drop 16)

/-- All blocks of a byte string. -/
def padBlocks (b : Bytes) : List Bytes := blocks16 ((b.length + 15) / 16) b

/-- GHASH over blocks. -/
def ghash (h : Nat) (bs : List Bytes) : Nat := bs.foldl (fun y b => ghashMul (Nat.xor y (beNat b)) h 0 128) 0

/-- Counter mode from counter `c` on. -/
def ctrMode (key iv : Bytes) : Nat → List Bytes → Bytes
  | _, [] => []
  | c, b :: bs => xorB b (aesEnc key (iv ++ beBytes 4 c)) ++ ctrMode key iv (c + 1) bs

/-- The GCM tag of (aad, ciphertext). -/
def gcmTag (key iv aad ct : Bytes) : Bytes :=
  let h := beNat (aesEnc key (List.replicate 16 0))
  let lens := beBytes 8 (8 * aad.length) ++ beBytes 8 (8 * ct.length)
  xorB (beBytes 16 (ghash h (padBlocks aad ++ padBlocks ct ++ [lens]))) (aesEnc key (iv ++ beBytes 4 1))

/-- GCM encryption (and, for the text, decryption). -/
def gcmCrypt (key iv text : Bytes) : Bytes := (ctrMode key iv 2 (padBlocks text)).take text.length

/-! ### CMAC and key wrap -/

/-- Doubling in GF(2^128) for the CMAC subkeys. -/
def cmacDouble (x : Nat) : Nat := if x < 2 ^ 127 then 2 * x else Nat.xor (2 * x - 2 ^ 128) 0x87

/-- AES-CMAC. -/
def aesCmac (key msg : Bytes) : Bytes :=
  let k1 := cmacDouble (beNat (aesEnc key (List.replicate 16 0)))
  let n := (msg.length + 15) / 16
  let full := msg ≠ [] ∧ msg.length % 16 = 0
  let head := msg.take (16 * (n - 1))
  let tail := msg.drop (16 * (n - 1))
  let last := if full then xorB tail (beBytes 16 k1)
    else xorB (tail ++ [0x80] ++ List.replicate (15 - tail.length) 0) (beBytes 16 (cmacDouble k1))
  (padBlocks head ++ [last]).foldl (fun x b => aesEnc key (xorB x b)) (List.replicate 16 0)

/-- One unwrapping step: A and the registers R, for step number t of register i. -/
def unwrapStep (kek : Bytes) (n : Nat) (x : Bytes × List Bytes) (j : Nat) : Bytes × List Bytes :=
  let t := 6 * n - j
  let i := (t - 1) % n
  let b := aesDec kek (xorB x.1 (beBytes 8 t) ++ x.2.getD i [])
  (b.take 8, x.2.set i (b.drop 8))

/-- RFC 3394 unwrap of C0 and n 8-byte registers: the integrity value and the key. -/
def keyUnwrap (kek c0 : Bytes) (regs : List Bytes) : Bytes × Bytes :=
  let r := (List.range (6 * regs.length)).foldl (unwrapStep kek regs.length) (c0, regs)
  (r.1, r.2.flatten)

/-! ### SHA-256 -/

/-- The greatest x below 2^k with x^e at most n. -/
def rootBelow (e n : Nat) : Nat → Nat
  | 0 => 0
  | k + 1 =>
    let hi := 2 * rootBelow e (n / 2 ^ e) k
    if (hi + 1) ^ e ≤ n then hi + 1 else hi

/-- The first 32 bits of the fraction of the e-th root of n. -/
def rootFraction (e n : Nat) : Nat := rootBelow e (n * 2 ^ (32 * e)) 37 % 2 ^ 32

/-- The first 64 primes: the numbers below 312 that no smaller prime below 18 divides. -/
def shaPrimes : List Nat :=
  (List.range 312).filter fun n => 1 < n && ([2, 3, 5, 7, 11, 13, 17] : List Nat).all fun d => n ≤ d || n % d != 0

/-- The round constants: the cube roots of the first 64 primes. -/
def shaRoundWords : List Word := shaPrimes.map fun n => BitVec.ofNat 32 (rootFraction 3 n)

/-- The initial hash value: the square roots of the first 8 primes. -/
def shaStart : List Word := (shaPrimes.take 8).map fun n => BitVec.ofNat 32 (rootFraction 2 n)

/-- The message schedule: words so far in reverse, `n` more to make. -/
def shaSchedule : Nat → List Word → List Word
  | 0, w => w.reverse
  | n + 1, w =>
    let g (i : Nat) : Word := w.getD i 0
    let x := g 14
    let y := g 1
    let s0 := x.rotateRight 7 ^^^ x.rotateRight 18 ^^^ (x >>> 3)
    let s1 := y.rotateRight 17 ^^^ y.rotateRight 19 ^^^ (y >>> 10)
    shaSchedule n ((g 15 + s0 + g 6 + s1) :: w)

/-- One round of SHA-256 on the eight working words. -/
def shaRound (v : List Word) (kw : Word) : List Word :=
  let g (i : Nat) : Word := v.getD i 0
  let s1 := (g 4).rotateRight 6 ^^^ (g 4).rotateRight 11 ^^^ (g 4).rotateRight 25
  let ch := (g 4 &&& g 5) ^^^ (~~~(g 4) &&& g 6)
  let t1 := g 7 + s1 + ch + kw
  let s0 := (g 0).rotateRight 2 ^^^ (g 0).rotateRight 13 ^^^ (g 0).rotateRight 22
  let maj := (g 0 &&& g 1) ^^^ (g 0 &&& g 2) ^^^ (g 1 &&& g 2)
  [t1 + s0 + maj, g 0, g 1, g 2, g 3 + t1, g 4, g 5, g 6]

/-- Compresses one 64-byte block. -/
def shaBlock (h : List Word) (b : Bytes) : List Word :=
  let w := (List.range 16).map fun i => BitVec.ofNat 32 (beAt b (4 * i) 4)
  List.zipWith (· + ·) h ((List.zipWith (· + ·) shaRoundWords (shaSchedule 48 w.reverse)).foldl shaRound h)

/-- The blocks of a padded message. -/
def shaBlocks (n : Nat) (b : Bytes) (h : List Word) : List Word :=
  match n with
  | 0 => h
  | n + 1 => shaBlocks n (b.drop 64) (shaBlock h (b.take 64))

/-- SHA-256. -/
def sha256 (m : Bytes) : Bytes :=
  let z := (119 - m.length % 64) % 64
  let p := m ++ [0x80] ++ List.replicate z 0 ++ beBytes 8 (8 * m.length)
  (shaBlocks (p.length / 64) p shaStart).flatMap fun w => beBytes 4 w.toNat

/-- HMAC-SHA-256. -/
def hmacSha256 (key msg : Bytes) : Bytes :=
  let k0 := if 64 < key.length then sha256 key else key
  let k := k0 ++ List.replicate (64 - k0.length) 0
  let pad (c : Byte) : Bytes := k.map (· ^^^ c)
  sha256 (pad 0x5C ++ sha256 (pad 0x36 ++ msg))

/-! ### ECDSA on P-256 with SHA-256 digests (FIPS 186-5; log entry 9) -/

/-- The field prime of P-256. -/
def p256P : Nat := 0xFFFFFFFF00000001000000000000000000000000FFFFFFFFFFFFFFFFFFFFFFFF

/-- The order of P-256. -/
def p256N : Nat := 0xFFFFFFFF00000000FFFFFFFFFFFFFFFFBCE6FAADA7179E84F3B9CAC2FC632551

/-- The coefficient b of P-256. -/
def p256B : Nat := 0x5AC635D8AA3A93E7B3EBBD55769886BC651D06B0CC53B0F63BCE3C3E27D2604B

/-- The base point of P-256. -/
def p256G : Option (Nat × Nat) :=
  some (0x6B17D1F2E12C4247F8BCE6E563A440F277037D812DEB33A0F4A13945D898C296,
    0x4FE342E2FE1A7F9B8EE7EB4A7C0F9E162BCE33576B315ECECBB6406837BF51F5)

/-- b to the power e modulo m, for a 256-bit e. -/
def powMod (b e m : Nat) : Nat :=
  (List.range 256).reverse.foldl (fun a i => if bitOf e i then a * a % m * b % m else a * a % m) 1

/-- The inverse modulo a prime. -/
def invMod (x m : Nat) : Nat := powMod (x % m) (m - 2) m

/-- The sum of two points; none is the point at infinity. -/
def p256Add (a b : Option (Nat × Nat)) : Option (Nat × Nat) :=
  match a, b with
  | none, q => q
  | q, none => q
  | some (x1, y1), some (x2, y2) =>
    let m := p256P
    if x1 = x2 ∧ (y1 + y2) % m = 0 then none
    else
      let l :=
        if x1 = x2 then (3 * x1 * x1 + (m - 3)) * invMod (2 * y1) m % m
        else (y2 + m - y1) * invMod (x2 + m - x1) m % m
      let x3 := (l * l + 2 * m - x1 - x2) % m
      some (x3, (l * (x1 + m - x3) + m - y1) % m)

/-- k times a point. -/
def p256Mul (k : Nat) (q : Option (Nat × Nat)) : Option (Nat × Nat) :=
  (List.range 256).reverse.foldl (fun a i =>
    let d := p256Add a a
    if bitOf k i then p256Add d q else d) none

/-- The signature (r, s) of a digest under scalar d with nonce k. -/
def ecdsaSign (d k : Nat) (digest : Bytes) : Nat × Nat :=
  let r := ((p256Mul k p256G).map (·.1)).getD 0 % p256N
  (r, invMod k p256N * (beNat digest + r * d) % p256N)

/-- Whether (r, s) is a signature of a digest under the public key (x, y). -/
def ecdsaVerify (x y r s : Nat) (digest : Bytes) : Bool :=
  let onCurve := decide (x < p256P ∧ y < p256P ∧ y * y % p256P = (x * x * x + (p256P - 3) * x + p256B) % p256P)
  let ranges := decide (0 < r ∧ r < p256N ∧ 0 < s ∧ s < p256N)
  let w := invMod s p256N
  let q := p256Add (p256Mul (beNat digest * w % p256N) p256G) (p256Mul (r * w % p256N) (some (x, y)))
  onCurve && ranges && (match q with
    | none => false
    | some (a, _) => a % p256N == r)

/-! ### CTR_DRBG of SP 800-90A with AES-256 and the derivation function (R375) -/

/-- The blocks that key and counter make next. -/
def drbgBlocks (key v : Bytes) (n : Nat) : Bytes :=
  (List.range n).flatMap fun i => aesEnc key (beBytes 16 (beNat v + i + 1))

/-- Key and counter after an update with 48 bytes. -/
def drbgUpdate (d : Bytes × Bytes) (data : Bytes) : Bytes × Bytes :=
  let t := xorB (drbgBlocks d.1 d.2 3) data
  (t.take 32, t.drop 32)

/-- The 48 bytes that the derivation function makes of an input. -/
def drbgDerive (input : Bytes) : Bytes :=
  let s := beBytes 4 input.length ++ beBytes 4 48 ++ input ++ [0x80]
  let k0 := ofNums (List.range 32)
  let mac (i : Nat) : Bytes :=
    (padBlocks (beBytes 4 i ++ List.replicate 12 0 ++ s)).foldl (fun x b => aesEnc k0 (xorB x b)) (List.replicate 16 0)
  let k := mac 0 ++ mac 1
  let x := aesEnc k (mac 2)
  let y := aesEnc k x
  x ++ y ++ aesEnc k y

/-- Key and counter after a seed of 384 bits of entropy; instantiation seeds those of zeros. -/
def drbgSeed (d : Bytes × Bytes) (entropy : Bytes) : Bytes × Bytes := drbgUpdate d (drbgDerive entropy)

/-- `n` bytes of output, and key and counter after them. -/
def drbgOutput (d : Bytes × Bytes) (n : Nat) : Bytes × (Bytes × Bytes) :=
  let k := (n + 15) / 16
  ((drbgBlocks d.1 d.2 k).take n, drbgUpdate (d.1, beBytes 16 (beNat d.2 + k)) (List.replicate 48 0))

/-- KDF in counter mode (R362) with a pseudorandom function of the given output length. -/
def kdfCounter (prf : Bytes → Bytes) (size : Nat) (label : List Nat) (context : Bytes) (bits : Nat) : Bytes :=
  let n := (bits / 8 + size - 1) / size
  ((List.range n).flatMap fun i =>
    prf (beBytes 4 (i + 1) ++ ofNums label ++ [0] ++ context ++ beBytes 4 bits)).take (bits / 8)

end Sys2Proof.Machine
end

