-- ==== Sys2Proof/Machine/PageKind.lean ====
section
/-! DEFINITION. The grades, the BAR0 page map and what each page header holds after reset (Tables 0-1, 0-2, 2-1
and 2-3), the power domain of each page (Table 1-5) and the shape of a register description. -/

namespace Sys2Proof.Machine

/-- The three grades (R1, R2, Table 0-1). -/
inductive Grade | tvx6480 | tvx6440 | tvx6420
  deriving DecidableEq, Repr

/-- The kinds of register page (Table 2-1 and the page layout of each owning chapter). -/
inductive PageKind
  | sys | evt | pwrMain | pwrWake | pwrRing | timeClock | timeGptp | timePulse | timeSched
  | fabGlobal | fabSlice | fabPort | pipe | pipeShared | emac | macsec | t1s | can | canGlobal | lin
  | brgGlobal | brgTunnel | brgJalden | sigGlobal | sigNode | ktl | crc | ciphGlobal | ciphBlock
  | kilnMain | kilnSlot | kilnId | caskRec | caskCnt | caskUser | caskTap
  | hostGlobal | hostQueue | hostEgress | upd | qspi | ddr | guardGlobal | guardRule | svc
  deriving DecidableEq, Repr

/-- Access codes (Table 0-5). No register of the specification has the code RS. -/
inductive Acc | rw | ro | wo | w1c | rc | wl
  deriving DecidableEq, Repr

/-- Clamp entries whose legal set depends on the grade or on other fields. -/
inductive SpecialClamp
  | grpTarget | frerHalf | sizeLog2 | hport | tailIndex | forceSpeed | pnLo | pnHi | objCount | ddrWindow
  | dummy | domReq | pnSuspend | nmChan | regionBase | rdOff | evsel | profileSel | degDomains
  deriving DecidableEq, Repr

/-- The Clamp entry of a field (R10, R56). -/
inductive Clamp
  | any
  | range (lo hi : Nat)
  | oneOf (values : List Nat)
  | mult (m lo hi : Nat)
  | zeroOr (lo hi : Nat)
  | special (k : SpecialClamp)
  deriving DecidableEq, Repr

/-- A field of a register: bits [hi:lo], access code, reset value, Clamp entry. -/
structure FieldDesc where
  hi : Nat
  lo : Nat
  acc : Acc
  reset : Nat
  clamp : Clamp
  deriving DecidableEq, Repr

/-- A register or an array of registers: offset + s1·i + s2·j for i < n1 and j < n2. -/
structure RegDesc where
  name : String
  off : Nat
  s1 : Nat
  n1 : Nat
  s2 : Nat
  n2 : Nat
  fields : List FieldDesc
  deriving DecidableEq, Repr

/-- A field with reset value 0 and no Clamp entry. -/
def FieldDesc.plain (a : Acc) (hi lo : Nat) : FieldDesc := ⟨hi, lo, a, 0, .any⟩
def FieldDesc.rw (hi lo : Nat) : FieldDesc := .plain .rw hi lo
def FieldDesc.ro (hi lo : Nat) : FieldDesc := .plain .ro hi lo
def FieldDesc.wo (hi lo : Nat) : FieldDesc := .plain .wo hi lo
def FieldDesc.w1c (hi lo : Nat) : FieldDesc := .plain .w1c hi lo
def FieldDesc.rc (hi lo : Nat) : FieldDesc := .plain .rc hi lo
def FieldDesc.wl (hi lo : Nat) : FieldDesc := .plain .wl hi lo

/-- A field's place: register offset in its page and bits. -/
structure Fld where
  off : Nat
  hi : Nat
  lo : Nat
  deriving DecidableEq, Repr

/-- The same field `d` bytes further: one element of a register array. -/
def Fld.at (f : Fld) (d : Nat) : Fld := ⟨f.off + d, f.hi, f.lo⟩

/-- Grade code (R5). -/
def Grade.code : Grade → Nat
  | .tvx6480 => 0
  | .tvx6440 => 1
  | .tvx6420 => 2

/-- Number of Ethernet ports (Table 0-2). -/
def Grade.ePorts : Grade → Nat
  | .tvx6480 => 16
  | .tvx6440 => 8
  | .tvx6420 => 4

/-- Number of Tun slices (Table 0-2). -/
def Grade.slices : Grade → Nat
  | .tvx6480 => 8
  | .tvx6440 => 4
  | .tvx6420 => 2

/-- Number of CAN channels (Table 0-2). -/
def Grade.canChannels : Grade → Nat
  | .tvx6420 => 16
  | _ => 24

/-- Number of Kettle clusters (Table 0-2). -/
def Grade.clusters : Grade → Nat
  | .tvx6480 => 4
  | .tvx6440 => 2
  | .tvx6420 => 1

/-- Number of PCIe ports (Table 0-2). -/
def Grade.hPorts : Grade → Nat
  | .tvx6480 => 2
  | _ => 1

/-- Whether fabric port Fp is present (Table 0-2). -/
def Grade.fPort (g : Grade) (p : Nat) : Bool :=
  if p < 16 then p < g.ePorts
  else if p < 20 then p < 16 + 2 * g.hPorts
  else p < 24

/-- The mask of the fabric ports present. -/
def Grade.fMask (g : Grade) : Nat := maskOf ((List.range 24).filter g.fPort)

/-- Whether the forwarding pipelines run in lockstep (R2, R3). -/
def Grade.lockstep : Grade → Bool
  | .tvx6480 => true
  | _ => false

/-- Page kind and number of the page at BAR0 offset 4096·n, none for a reserved page (Table 2-1). -/
def pageOf (n : Nat) : Option (PageKind × Nat) :=
  if n < 0x40 then
    match n with
    | 0 => some (.sys, 0)
    | 0x10 => some (.evt, 0)
    | 0x20 => some (.pwrMain, 0)
    | 0x21 => some (.pwrWake, 0)
    | 0x22 => some (.pwrRing, 0)
    | _ => none
  else if n < 0x80 then
    match n with
    | 0x40 => some (.timeClock, 0)
    | 0x41 => some (.timeGptp, 0)
    | 0x42 => some (.timePulse, 0)
    | 0x43 => some (.timeSched, 0)
    | _ => none
  else if n < 0xC0 then
    if n = 0x80 then some (.fabGlobal, 0)
    else if n < 0x89 then some (.fabSlice, n - 0x81)
    else if n < 0xA1 then some (.fabPort, n - 0x89)
    else none
  else if n < 0x100 then
    match n with
    | 0xC0 => some (.pipe, 0)
    | 0xC1 => some (.pipe, 1)
    | 0xC2 => some (.pipeShared, 0)
    | _ => none
  else if n < 0x140 then
    if n < 0x120 then
      if n % 2 = 0 then some (.emac, (n - 0x100) / 2) else some (.macsec, (n - 0x100) / 2)
    else none
  else if n < 0x150 then
    if n < 0x148 then some (.t1s, n - 0x140) else none
  else if n < 0x170 then
    if n < 0x168 then some (.can, n - 0x150) else if n = 0x168 then some (.canGlobal, 0) else none
  else if n < 0x180 then
    if n < 0x178 then some (.lin, n - 0x170) else none
  else if n < 0x1C0 then
    match n with
    | 0x180 => some (.brgGlobal, 0)
    | 0x181 => some (.brgTunnel, 0)
    | 0x182 => some (.brgJalden, 0)
    | 0x1A0 => some (.sigGlobal, 0)
    | 0x1A1 => some (.sigNode, 0)
    | _ => none
  else if n < 0x200 then
    if n < 0x1C4 then some (.ktl, n - 0x1C0) else none
  else if n < 0x210 then some (.crc, n - 0x200)
  else if n < 0x260 then
    match n with
    | 0x210 => some (.ciphGlobal, 0)
    | 0x211 => some (.ciphBlock, 0)
    | 0x220 => some (.kilnMain, 0)
    | 0x221 => some (.kilnSlot, 0)
    | 0x222 => some (.kilnSlot, 1)
    | 0x223 => some (.kilnId, 0)
    | 0x240 => some (.caskRec, 0)
    | 0x241 => some (.caskCnt, 0)
    | 0x242 => some (.caskUser, 0)
    | 0x243 => some (.caskTap, 0)
    | _ => none
  else if n < 0x280 then
    if n = 0x260 then some (.hostGlobal, 0)
    else if n < 0x265 then some (.hostQueue, n - 0x261)
    else if n < 0x268 then none
    else some (.hostEgress, n - 0x268)
  else
    match n with
    | 0x280 => some (.upd, 0)
    | 0x290 => some (.qspi, 0)
    | 0x2A0 => some (.ddr, 0)
    | 0x2C0 => some (.guardGlobal, 0)
    | 0x2C1 => some (.guardRule, 0)
    | 0x2C2 => some (.guardRule, 1)
    | 0x2C3 => some (.guardRule, 2)
    | 0x2C4 => some (.guardRule, 3)
    | 0x2E0 => some (.svc, 0)
    | _ => none

/-- BAR0 offset of page `i` of a kind (Table 2-1 and the page layout of each owning chapter). -/
def pageBase (k : PageKind) (i : Nat) : Nat :=
  match k with
  | .sys => 0
  | .evt => 0x10000
  | .pwrMain => 0x20000
  | .pwrWake => 0x21000
  | .pwrRing => 0x22000
  | .timeClock => 0x40000
  | .timeGptp => 0x41000
  | .timePulse => 0x42000
  | .timeSched => 0x43000
  | .fabGlobal => 0x80000
  | .fabSlice => 0x81000 + 0x1000 * i
  | .fabPort => 0x89000 + 0x1000 * i
  | .pipe => 0xC0000 + 0x1000 * i
  | .pipeShared => 0xC2000
  | .emac => 0x100000 + 0x2000 * i
  | .macsec => 0x101000 + 0x2000 * i
  | .t1s => 0x140000 + 0x1000 * i
  | .can => 0x150000 + 0x1000 * i
  | .canGlobal => 0x168000
  | .lin => 0x170000 + 0x1000 * i
  | .brgGlobal => 0x180000
  | .brgTunnel => 0x181000
  | .brgJalden => 0x182000
  | .sigGlobal => 0x1A0000
  | .sigNode => 0x1A1000
  | .ktl => 0x1C0000 + 0x1000 * i
  | .crc => 0x200000 + 0x1000 * i
  | .ciphGlobal => 0x210000
  | .ciphBlock => 0x211000
  | .kilnMain => 0x220000
  | .kilnSlot => 0x221000 + 0x1000 * i
  | .kilnId => 0x223000
  | .caskRec => 0x240000
  | .caskCnt => 0x241000
  | .caskUser => 0x242000
  | .caskTap => 0x243000
  | .hostGlobal => 0x260000
  | .hostQueue => 0x261000 + 0x1000 * i
  | .hostEgress => 0x268000 + 0x1000 * i
  | .upd => 0x280000
  | .qspi => 0x290000
  | .ddr => 0x2A0000
  | .guardGlobal => 0x2C0000
  | .guardRule => 0x2C1000 + 0x1000 * i
  | .svc => 0x2E0000

/-- Number of pages of a kind on the largest grade. -/
def PageKind.count : PageKind → Nat
  | .fabSlice => 8
  | .fabPort => 24
  | .pipe => 2
  | .emac => 16
  | .macsec => 16
  | .t1s => 8
  | .can => 24
  | .lin => 8
  | .ktl => 4
  | .crc => 16
  | .kilnSlot => 2
  | .hostQueue => 4
  | .hostEgress => 24
  | .guardRule => 4
  | _ => 1

/-- All page kinds, in BAR0 order. -/
def PageKind.all : List PageKind :=
  [.sys, .evt, .pwrMain, .pwrWake, .pwrRing, .timeClock, .timeGptp, .timePulse, .timeSched,
   .fabGlobal, .fabSlice, .fabPort, .pipe, .pipeShared, .emac, .macsec, .t1s, .can, .canGlobal, .lin,
   .brgGlobal, .brgTunnel, .brgJalden, .sigGlobal, .sigNode, .ktl, .crc, .ciphGlobal, .ciphBlock,
   .kilnMain, .kilnSlot, .kilnId, .caskRec, .caskCnt, .caskUser, .caskTap,
   .hostGlobal, .hostQueue, .hostEgress, .upd, .qspi, .ddr, .guardGlobal, .guardRule, .svc]

/-- PAGE_ID.KIND: 0x00 for a block's first kind, then as the owning chapter gives. -/
def PageKind.code : PageKind → Nat
  | .pwrWake => 1 | .pwrRing => 2 | .timeGptp => 1 | .timePulse => 2 | .timeSched => 3
  | .fabSlice => 1 | .fabPort => 2 | .pipeShared => 1 | .macsec => 1 | .canGlobal => 1
  | .brgTunnel => 1 | .brgJalden => 2 | .sigNode => 1 | .ciphBlock => 1 | .kilnSlot => 1 | .kilnId => 2
  | .caskCnt => 1 | .caskUser => 2 | .caskTap => 3 | .hostQueue => 1 | .hostEgress => 2 | .guardRule => 1
  | _ => 0

/-- Whether a grade has page `i` of a kind (R3, R4). -/
def Grade.hasPage (g : Grade) (k : PageKind) (i : Nat) : Bool :=
  match k with
  | .fabSlice => i < g.slices
  | .fabPort => g.fPort i
  | .hostEgress => g.fPort i
  | .emac => i < g.ePorts
  | .macsec => i < g.ePorts
  | .can => i < g.canChannels
  | .ktl => i < g.clusters
  | _ => i < k.count

/-- The power domain that holds a page: 0 is AON (Table 1-5; pages whose block Table 1-5 does not name are in
PD3, log entry 5). -/
def pageDomain (k : PageKind) (i : Nat) : Nat :=
  match k with
  | .pwrMain => 0
  | .pwrWake => 0
  | .fabSlice => if i < 4 then 6 else 7
  | .pipe => if i = 0 then 4 else 5
  | .emac => if i < 8 then 11 else 12
  | .macsec => if i < 8 then 11 else 12
  | .ktl => if i < 2 then 9 else 10
  | .ciphGlobal => 8
  | .ciphBlock => 8
  | .hostGlobal => 13
  | .hostQueue => 13
  | .ddr => 14
  | _ => 3

/-- Whether a page's block lies on the Line die (R64, Table 1-1, Chapter 13). -/
def lineDiePage (k : PageKind) : Bool :=
  match k with
  | .pwrMain => true
  | .pwrWake => true
  | _ => false

/-- The source bits of a page's EVT registers, by the owning chapter (R46; R113, R139, R176, R207, R244, R277,
R308, R335, R336, R392, R421, R441, R460, R484, Tables 2-10 and 11-6). -/
def sourceBits (k : PageKind) : Nat :=
  match k with
  | .sys => 0xF
  | .pwrMain => 0x3F
  | .pwrWake => 0xF
  | .pwrRing => 0xFF
  | .timeClock => 0x7
  | .timeGptp => 0x3
  | .timePulse => 0x7
  | .timeSched => 0x1
  | .fabGlobal => 0x1FF
  | .pipeShared => 0x3FF
  | .emac => 0xF
  | .t1s => 0x3
  | .can => 0x3
  | .lin => 0x3
  | .brgGlobal => 0x1FF
  | .sigGlobal => 0xFF
  | .ktl => 0x7F
  | .crc => 0x1
  | .ciphGlobal => 0xF
  | .kilnMain => 0x3F
  | .caskRec => 0x1F
  | .caskCnt => 0x1
  | .caskTap => 0x1
  | .hostGlobal => 0x3F
  | .upd => 0x3F
  | .qspi => 0x7
  | .ddr => 0x3
  | .guardGlobal => 0xFFFFFFFF
  | .svc => 0x1
  | _ => 0

/-- The page and bit of event source EVn (the tables of event sources of each chapter); none for a reserved
source. -/
def sourceHome (n : Nat) : Option (PageKind × Nat × Nat) :=
  if n < 4 then some (.sys, 0, n)
  else if n < 10 then some (.pwrMain, 0, n - 4)
  else if n < 32 then none
  else if n < 35 then some (.timeClock, 0, n - 32)
  else if n < 37 then some (.timeGptp, 0, n - 35)
  else if n < 40 then some (.timePulse, 0, n - 37)
  else if n = 40 then some (.timeSched, 0, 0)
  else if n = 41 then some (.svc, 0, 0)
  else if n < 48 then some (.upd, 0, n - 42)
  else if n < 51 then some (.qspi, 0, n - 48)
  else if n < 64 then none
  else if n < 73 then some (.fabGlobal, 0, n - 64)
  else if n < 96 then none
  else if n < 106 then some (.pipeShared, 0, n - 96)
  else if n < 128 then none
  else if n < 192 then some (.emac, (n - 128) / 4, (n - 128) % 4)
  else if n < 208 then some (.t1s, (n - 192) / 2, n % 2)
  else if n < 224 then some (.lin, (n - 208) / 2, n % 2)
  else if n < 272 then some (.can, (n - 224) / 2, n % 2)
  else if n < 276 then some (.pwrWake, 0, n - 272)
  else if n < 280 then none
  else if n < 288 then some (.pwrRing, 0, n - 280)
  else if n < 297 then some (.brgGlobal, 0, n - 288)
  else if n < 320 then none
  else if n < 328 then some (.sigGlobal, 0, n - 320)
  else if n < 352 then none
  else if n < 384 then if n % 8 = 7 then none else some (.ktl, (n - 352) / 8, n % 8)
  else if n < 400 then some (.crc, n - 384, 0)
  else if n < 404 then some (.ciphGlobal, 0, n - 400)
  else if n < 416 then none
  else if n < 422 then some (.kilnMain, 0, n - 416)
  else if n < 448 then none
  else if n < 453 then some (.caskRec, 0, n - 448)
  else if n = 453 then some (.caskTap, 0, 0)
  else if n = 454 then some (.caskCnt, 0, 0)
  else if n < 456 then none
  else if n < 462 then some (.hostGlobal, 0, n - 456)
  else if n < 464 then some (.ddr, 0, n - 462)
  else if n < 480 then none
  else if n < 512 then some (.guardGlobal, 0, n - 480)
  else none

end Sys2Proof.Machine
end

