-- ==== Sys2Proof/Machine/RegTable.lean ====
section
/-! DEFINITION. The register tables of the specification, transcribed row by row: for each page kind every
register with its byte offset, its one or two index strides and counts, and for each field its bits, access
code (Table 0-5), reset value and Clamp entry. Reserved bits have no field (R8). A reset entry of "—" or "per
fuse" is transcribed as 0 (log entries 3 and 8). Sources: Tables 2-6, 2-11, 3-9 to 3-11, 4-3 to 4-5, 5-9, 5-10,
6-4 to 6-6, 7-7 to 7-9, 8-13 to 8-15, 9-10 to 9-12, 10-13, 10-15, 11-2 to 11-5, 12-10 to 12-14, 13-9 to 13-11,
14-9 to 14-11, 15-8 to 15-10, 16-7 and 16-8. -/

namespace Sys2Proof.Machine

/-- Registers of the page kind `sys`. -/
def regsSys : List RegDesc := [
  ⟨"BUS_TMO", 0x40, 0x0, 1, 0x0, 1, [⟨15, 0, .rw, 0x320, .range 0x64 0xFFFF⟩]⟩,
  ⟨"BUS_ERR", 0x44, 0x0, 1, 0x0, 1, [.wo 31 31, .ro 23 16, .ro 7 0]⟩,
  ⟨"BUS_ERR_ADDR", 0x48, 0x0, 1, 0x0, 1, [.ro 25 0]⟩]

/-- Registers of the page kind `evt`. -/
def regsEvt : List RegDesc := [
  ⟨"GRP_ROUTE", 0x40, 0x4, 16, 0x0, 1, [.rw 17 16, .rw 13 8, ⟨1, 0, .rw, 0x0, .special .grpTarget⟩]⟩,
  ⟨"GRP_SUM", 0x80, 0x0, 1, 0x0, 1, [.ro 15 0]⟩,
  ⟨"GRP_EOI", 0x84, 0x0, 1, 0x0, 1, [.wo 15 0]⟩,
  ⟨"LOG_CTL", 0x88, 0x0, 1, 0x0, 1, [⟨26, 16, .rw, 0x300, .range 0x1 0x400⟩, .rw 0 0]⟩,
  ⟨"LOG_STS", 0x8C, 0x0, 1, 0x0, 1, [.w1c 16 16, .ro 10 0]⟩,
  ⟨"LOG_LOST", 0x90, 0x0, 1, 0x0, 1, [.ro 31 0]⟩,
  ⟨"LOG_POP", 0x94, 0x0, 1, 0x0, 1, [.rc 31 31, .rc 23 16, .rc 8 0]⟩,
  ⟨"LOG_LAST", 0x98, 0x0, 1, 0x0, 1, [.ro 31 0]⟩,
  ⟨"LOG_STAMP", 0x9C, 0x0, 1, 0x0, 1, [.ro 31 0]⟩,
  ⟨"SRC_PEND", 0xA0, 0x4, 16, 0x0, 1, [.ro 31 0]⟩]

/-- Registers of the page kind `fabGlobal`. -/
def regsFabGlobal : List RegDesc := [
  ⟨"ROUND", 0x40, 0x0, 1, 0x0, 1, [.ro 31 0]⟩,
  ⟨"PHASE", 0x44, 0x0, 1, 0x0, 1, [.ro 4 0]⟩,
  ⟨"FLUSH", 0x48, 0x0, 1, 0x0, 1, [⟨19, 16, .rw, 0x2, .range 0x1 0xF⟩, ⟨15, 0, .rw, 0xC8, .range 0x18 0xFFFF⟩]⟩,
  ⟨"PIN_CLASS", 0x4C, 0x0, 1, 0x0, 1, [⟨7, 0, .wl, 0xC0, .any⟩]⟩,
  ⟨"PIN_SEED", 0x50, 0x0, 1, 0x0, 1, [.rw 31 0]⟩,
  ⟨"RESEED_CTL", 0x54, 0x0, 1, 0x0, 1, [⟨31, 16, .rw, 0x3E8, .range 0x1 0xFFFF⟩, .ro 15 8, .wo 1 1, ⟨0, 0, .rw, 0x1, .any⟩]⟩,
  ⟨"HOT_CTL", 0x58, 0x0, 1, 0x0, 1, [⟨31, 16, .rw, 0x64, .range 0x1 0xFFFF⟩, ⟨14, 0, .rw, 0x200, .range 0x10 0x7FFF⟩]⟩,
  ⟨"RESEED_CNT", 0x5C, 0x0, 1, 0x0, 1, [.ro 31 16, .ro 15 0]⟩,
  ⟨"SEED_APPLIED", 0x60, 0x4, 8, 0x0, 1, [⟨23, 0, .ro, 0xFFFFFF, .any⟩]⟩,
  ⟨"ACTIVE", 0x80, 0x0, 1, 0x0, 1, [⟨12, 8, .ro, 0x18, .any⟩, ⟨7, 0, .ro, 0xFF, .any⟩]⟩,
  ⟨"FRER_HALF", 0x84, 0x0, 1, 0x0, 1, [⟨15, 8, .wl, 0xF0, .special .frerHalf⟩, ⟨7, 0, .wl, 0xF, .special .frerHalf⟩]⟩,
  ⟨"ADM_GUARD", 0x88, 0x0, 1, 0x0, 1, [⟨15, 0, .rw, 0x400, .range 0x0 0x4000⟩]⟩,
  ⟨"HOT_POS", 0x8C, 0x0, 1, 0x0, 1, [.ro 5 5, .ro 4 0]⟩,
  ⟨"ADM_CLASS", 0x90, 0x4, 6, 0x0, 1, [⟨18, 0, .rw, 0x4000, .range 0x90 0x40000⟩]⟩,
  ⟨"ADM_CLASS", 0xA8, 0x4, 2, 0x0, 1, [⟨18, 0, .rw, 0x1000, .range 0x90 0x40000⟩]⟩]

/-- Registers of the page kind `fabSlice`. -/
def regsFabSlice : List RegDesc := [
  ⟨"SLICE_CTL", 0x40, 0x0, 1, 0x0, 1, [⟨1, 1, .rw, 0x1, .any⟩, .rw 0 0]⟩,
  ⟨"SLICE_STS", 0x44, 0x0, 1, 0x0, 1, [.ro 3 3, .ro 2 0]⟩,
  ⟨"FREE_CELLS", 0x48, 0x0, 1, 0x0, 1, [⟨15, 0, .ro, 0x8000, .any⟩]⟩,
  ⟨"FREE_ENTRIES", 0x4C, 0x0, 1, 0x0, 1, [⟨16, 0, .ro, 0x10000, .any⟩]⟩,
  ⟨"ECC_CORR", 0x50, 0x0, 1, 0x0, 1, [.ro 31 0]⟩,
  ⟨"ECC_UNCORR", 0x54, 0x0, 1, 0x0, 1, [.ro 31 0]⟩,
  ⟨"ESC_CTL", 0x58, 0x0, 1, 0x0, 1, [⟨31, 16, .rw, 0xA, .range 0x1 0xFFFF⟩, ⟨7, 0, .rw, 0x4, .range 0x1 0xFF⟩]⟩,
  ⟨"POS_OCC", 0x5C, 0x4, 3, 0x0, 1, [.ro 15 0]⟩,
  ⟨"LOST_CELLS", 0x68, 0x0, 1, 0x0, 1, [.ro 31 0]⟩,
  ⟨"DROP_NOBUF", 0x6C, 0x0, 1, 0x0, 1, [.ro 31 0]⟩]

/-- Registers of the page kind `fabPort`. -/
def regsFabPort : List RegDesc := [
  ⟨"STORE_OCC", 0x40, 0x0, 1, 0x0, 1, [.ro 28 16, .ro 12 0]⟩,
  ⟨"CELLS_IN", 0x44, 0x0, 1, 0x0, 1, [.ro 31 0]⟩,
  ⟨"CELLS_OUT", 0x48, 0x0, 1, 0x0, 1, [.ro 31 0]⟩,
  ⟨"GROUPS_FULL", 0x4C, 0x0, 1, 0x0, 1, [.ro 31 0]⟩,
  ⟨"GROUPS_FLUSH", 0x50, 0x0, 1, 0x0, 1, [.ro 31 0]⟩,
  ⟨"DROP_ADM", 0x54, 0x0, 1, 0x0, 1, [.ro 31 0]⟩,
  ⟨"DROP_SPREAD", 0x58, 0x0, 1, 0x0, 1, [.ro 31 0]⟩,
  ⟨"LOST_FRAMES", 0x5C, 0x0, 1, 0x0, 1, [.ro 31 0]⟩,
  ⟨"CNT_CLR", 0x60, 0x0, 1, 0x0, 1, [.wo 0 0]⟩,
  ⟨"OUT_OCC", 0x64, 0x4, 8, 0x0, 1, [.ro 18 0]⟩,
  ⟨"OUT_GROUPS", 0x84, 0x4, 8, 0x0, 1, [.ro 11 0]⟩]

/-- Registers of the page kind `hostGlobal`. -/
def regsHostGlobal : List RegDesc := [
  ⟨"PROT", 0x40, 0x0, 1, 0x0, 1, [.rw 8 8, .ro 0 0]⟩,
  ⟨"ECC_CORR", 0x44, 0x0, 1, 0x0, 1, [.ro 31 0]⟩,
  ⟨"ECC_UNCORR", 0x48, 0x0, 1, 0x0, 1, [.ro 31 0]⟩,
  ⟨"PTR_ERR", 0x4C, 0x0, 1, 0x0, 1, [.ro 31 16, .ro 15 0]⟩,
  ⟨"MISROUTE", 0x50, 0x0, 1, 0x0, 1, [.ro 31 0]⟩,
  ⟨"LINK", 0x54, 0x0, 1, 0x0, 1, [.ro 24 24, .ro 23 20, .ro 19 16, .ro 8 8, .ro 7 4, .ro 3 0]⟩,
  ⟨"CNT_CLR", 0x58, 0x0, 1, 0x0, 1, [.wo 0 0]⟩,
  ⟨"RXQ_MAP", 0x60, 0x4, 2, 0x0, 1, [.rw 29 24, .rw 21 16, .rw 13 8, .rw 5 0]⟩,
  ⟨"RXQ_MAP", 0x68, 0x4, 2, 0x0, 1, [⟨29, 24, .rw, 0x20, .any⟩, ⟨21, 16, .rw, 0x20, .any⟩, ⟨13, 8, .rw, 0x20, .any⟩, ⟨5, 0, .rw, 0x20, .any⟩]⟩]

/-- Registers of the page kind `hostQueue`. -/
def regsHostQueue : List RegDesc := [
  ⟨"Q_CFG", 0x100, 0x40, 16, 0x0, 1, [⟨20, 16, .rw, 0x4, .special .sizeLog2⟩, .rw 13 8, .rw 5 5, .rw 4 4, .rw 3 3, ⟨2, 2, .rw, 0x0, .special .hport⟩, .rw 1 1, .rw 0 0]⟩,
  ⟨"Q_CTL", 0x104, 0x40, 16, 0x0, 1, [.wo 1 1, .rw 0 0]⟩,
  ⟨"BASE_LO", 0x108, 0x40, 16, 0x0, 1, [⟨31, 0, .rw, 0x0, .mult 0x40 0x0 0xFFFFFFFF⟩]⟩,
  ⟨"BASE_HI", 0x10C, 0x40, 16, 0x0, 1, [.rw 31 0]⟩,
  ⟨"TAIL", 0x110, 0x40, 16, 0x0, 1, [⟨31, 0, .rw, 0x0, .special .tailIndex⟩]⟩,
  ⟨"HEAD", 0x114, 0x40, 16, 0x0, 1, [.ro 31 0]⟩,
  ⟨"WB_LO", 0x118, 0x40, 16, 0x0, 1, [⟨31, 0, .rw, 0x0, .mult 0x4 0x0 0xFFFFFFFF⟩]⟩,
  ⟨"WB_HI", 0x11C, 0x40, 16, 0x0, 1, [.rw 31 0]⟩,
  ⟨"IRQ", 0x120, 0x40, 16, 0x0, 1, [.rw 31 16, ⟨15, 0, .rw, 0x1, .range 0x1 0xFFFF⟩]⟩,
  ⟨"BUF_LEN", 0x124, 0x40, 16, 0x0, 1, [⟨14, 0, .rw, 0x800, .mult 0x40 0x0100 0x4000⟩]⟩,
  ⟨"STS", 0x128, 0x40, 16, 0x0, 1, [.ro 3 1, .ro 0 0]⟩,
  ⟨"FRAMES", 0x12C, 0x40, 16, 0x0, 1, [.ro 31 0]⟩,
  ⟨"DROPS", 0x130, 0x40, 16, 0x0, 1, [.ro 31 16, .ro 15 0]⟩]

/-- Registers of the page kind `hostEgress`. -/
def regsHostEgress : List RegDesc := [
  ⟨"EG_CTL", 0x40, 0x0, 1, 0x0, 1, [⟨16, 16, .rw, 0x1, .any⟩, ⟨15, 8, .rw, 0x4, .range 0x1 0x90⟩, .rw 0 0]⟩,
  ⟨"EG_BUF", 0x44, 0x0, 1, 0x0, 1, [.ro 28 16, ⟨12, 0, .rw, 0xC00, .range 0x90 0xF00⟩]⟩,
  ⟨"EQ", 0x48, 0x4, 8, 0x0, 1, [.ro 28 16, ⟨12, 0, .rw, 0x400, .range 0x90 0x1000⟩]⟩,
  ⟨"EG_DROP", 0x68, 0x4, 8, 0x0, 1, [.ro 31 0]⟩,
  ⟨"CT_END", 0x88, 0x0, 1, 0x0, 1, [.ro 31 16, .ro 15 0]⟩,
  ⟨"CNT_CLR", 0x8C, 0x0, 1, 0x0, 1, [.wo 0 0]⟩,
  ⟨"CBS_EN", 0x90, 0x0, 1, 0x0, 1, [.rw 7 0]⟩,
  ⟨"IDLE_SLOPE", 0x94, 0x4, 8, 0x0, 1, [⟨23, 0, .rw, 0x0, .range 0x0 0x989680⟩]⟩,
  ⟨"CREDIT", 0xB4, 0x4, 8, 0x0, 1, [.ro 31 0]⟩,
  ⟨"GATE_CTL", 0x100, 0x0, 1, 0x0, 1, [⟨24, 16, .rw, 0x1, .range 0x1 0x100⟩, .wo 1 1, .rw 0 0]⟩,
  ⟨"ADMIN_BASE_LO", 0x104, 0x0, 1, 0x0, 1, [.rw 31 0]⟩,
  ⟨"ADMIN_BASE_HI", 0x108, 0x0, 1, 0x0, 1, [.rw 31 0]⟩,
  ⟨"ADMIN_CYCLE", 0x10C, 0x0, 1, 0x0, 1, [⟨31, 0, .rw, 0xF4240, .range 0x40 0x3B9ACA00⟩]⟩,
  ⟨"ADMIN_EXT", 0x110, 0x0, 1, 0x0, 1, [.rw 23 0]⟩,
  ⟨"GATE_STS", 0x114, 0x0, 1, 0x0, 1, [⟨23, 16, .ro, 0xFF, .any⟩, .ro 15 8, .ro 1 1, .ro 0 0]⟩,
  ⟨"GATE_CNT", 0x118, 0x0, 1, 0x0, 1, [.ro 31 16, .ro 15 0]⟩,
  ⟨"OPER_CYCLE", 0x11C, 0x0, 1, 0x0, 1, [.ro 31 0]⟩,
  ⟨"ADMIN_LIST", 0x400, 0x4, 256, 0x0, 1, [⟨31, 24, .rw, 0xFF, .any⟩, ⟨23, 0, .rw, 0xF4240, .range 0x10 0xFFFFFF⟩]⟩,
  ⟨"OPER_LIST", 0x800, 0x4, 256, 0x0, 1, [.ro 31 0]⟩]

/-- Registers of the page kind `pipe`. -/
def regsPipe : List RegDesc := [
  ⟨"FDB_SEED", 0x40, 0x0, 1, 0x0, 1, [.wl 31 0]⟩,
  ⟨"AGE_CTL", 0x44, 0x0, 1, 0x0, 1, [⟨16, 16, .rw, 0x1, .any⟩, ⟨15, 0, .rw, 0x12C, .range 0xA 0xFFFF⟩]⟩,
  ⟨"MOVE_CTL", 0x48, 0x0, 1, 0x0, 1, [⟨31, 16, .rw, 0x3E8, .range 0xA 0x7FFF⟩, ⟨3, 0, .rw, 0x8, .range 0x1 0xE⟩]⟩,
  ⟨"FDB_FLUSH", 0x4C, 0x0, 1, 0x0, 1, [.wo 31 31, .ro 30 30, .rw 29 29, .rw 28 28, .rw 27 27, ⟨20, 16, .rw, 0x0, .range 0x0 0x17⟩, .rw 11 0]⟩,
  ⟨"LEARN_STS", 0x50, 0x0, 1, 0x0, 1, [.ro 6 0]⟩,
  ⟨"LAST_PIN", 0x54, 0x0, 1, 0x0, 1, [.ro 31 31, .ro 14 14, .ro 13 0]⟩,
  ⟨"LOOKUPS", 0x58, 0x0, 1, 0x0, 1, [.ro 31 0]⟩,
  ⟨"FLOODED", 0x5C, 0x0, 1, 0x0, 1, [.ro 31 0]⟩,
  ⟨"LEARNED", 0x60, 0x0, 1, 0x0, 1, [.ro 31 0]⟩,
  ⟨"MOVES", 0x64, 0x0, 1, 0x0, 1, [.ro 31 0]⟩,
  ⟨"PINNED", 0x68, 0x0, 1, 0x0, 1, [.ro 31 0]⟩,
  ⟨"PIN_HITS", 0x6C, 0x0, 1, 0x0, 1, [.ro 31 0]⟩,
  ⟨"AGED", 0x70, 0x0, 1, 0x0, 1, [.ro 31 0]⟩,
  ⟨"LEARN_DROP", 0x74, 0x0, 1, 0x0, 1, [.ro 31 0]⟩,
  ⟨"LEARN_FULL", 0x78, 0x0, 1, 0x0, 1, [.ro 31 0]⟩,
  ⟨"PARITY", 0x7C, 0x0, 1, 0x0, 1, [.ro 31 0]⟩,
  ⟨"LOCKSTEP", 0x80, 0x0, 1, 0x0, 1, [.ro 31 0]⟩,
  ⟨"STAGE_LOST", 0x84, 0x0, 1, 0x0, 1, [.ro 31 0]⟩,
  ⟨"DROP", 0xA0, 0x4, 12, 0x0, 1, [.ro 31 0]⟩,
  ⟨"CNT_CLR", 0xD0, 0x0, 1, 0x0, 1, [.wo 0 0]⟩]

/-- Registers of the page kind `pipeShared`. -/
def regsPipeShared : List RegDesc := [
  ⟨"STREAM_BANK", 0x40, 0x0, 1, 0x0, 1, [.ro 10 8, .w1c 3 3, .ro 2 2, .ro 1 1, .ro 0 0]⟩,
  ⟨"STREAM_FLIP", 0x44, 0x0, 1, 0x0, 1, [.wo 2 2, .wo 1 1, .wo 0 0]⟩,
  ⟨"FLIP_AT_LO", 0x48, 0x0, 1, 0x0, 1, [.rw 31 0]⟩,
  ⟨"FLIP_AT_HI", 0x4C, 0x0, 1, 0x0, 1, [.rw 31 0]⟩,
  ⟨"BANK_SEED", 0x50, 0x4, 2, 0x0, 1, [.rw 31 0]⟩,
  ⟨"BANK_IPMASK", 0x58, 0x4, 2, 0x0, 1, [⟨7, 0, .rw, 0xFF, .any⟩]⟩,
  ⟨"FLOW_SEED", 0x60, 0x0, 1, 0x0, 1, [.rw 31 0]⟩,
  ⟨"TPID_ALT", 0x64, 0x0, 1, 0x0, 1, [⟨15, 0, .rw, 0x9100, .any⟩]⟩,
  ⟨"TRAP", 0x68, 0x0, 1, 0x0, 1, [⟨18, 16, .rw, 0x7, .any⟩, ⟨15, 0, .rw, 0xFFFF, .any⟩]⟩,
  ⟨"HQ_MAP", 0x70, 0x4, 15, 0x0, 1, [.rw 5 0]⟩,
  ⟨"BANK_WR_REJ", 0xB0, 0x0, 1, 0x0, 1, [.ro 31 0]⟩,
  ⟨"EVT_IDX_A", 0xB8, 0x0, 1, 0x0, 1, [.ro 27 16, .ro 11 0]⟩,
  ⟨"EVT_IDX_B", 0xBC, 0x0, 1, 0x0, 1, [.ro 25 16, .ro 9 0]⟩,
  ⟨"PORT_VLAN", 0x100, 0x10, 24, 0x0, 1, [⟨17, 16, .rw, 0x0, .range 0x0 0x2⟩, .rw 14 12, ⟨11, 0, .rw, 0x1, .range 0x1 0xFFE⟩]⟩,
  ⟨"PORT_CTL", 0x104, 0x10, 24, 0x0, 1, [.rw 7 7, ⟨6, 6, .rw, 0x1, .any⟩, ⟨5, 5, .rw, 0x1, .any⟩, .rw 4 4, .rw 3 3, .rw 2 2, ⟨1, 1, .rw, 0x1, .any⟩, ⟨0, 0, .rw, 0x1, .any⟩]⟩,
  ⟨"PCP_MAP", 0x108, 0x10, 24, 0x0, 1, [⟨23, 0, .rw, 0xFAC681, .any⟩]⟩,
  ⟨"PORT_BLK", 0x10C, 0x10, 24, 0x0, 1, [.rw 0 0]⟩]

/-- Registers of the page kind `emac`. -/
def regsEmac : List RegDesc := [
  ⟨"LANE_CFG", 0x40, 0x0, 1, 0x0, 1, [⟨10, 8, .rw, 0x2, .special .forceSpeed⟩, .wl 6 6, .wl 5 5, ⟨4, 4, .rw, 0x1, .any⟩, ⟨3, 0, .wl, 0x0, .range 0x0 0x5⟩]⟩,
  ⟨"LINK_STS", 0x44, 0x0, 1, 0x0, 1, [.ro 10 8, .ro 4 4, .ro 3 3, .ro 2 2, .ro 1 1, .ro 0 0]⟩,
  ⟨"MAX_LEN", 0x48, 0x0, 1, 0x0, 1, [⟨13, 0, .rw, 0x5F2, .range 0x40 0x2400⟩]⟩,
  ⟨"RX_CTL", 0x4C, 0x0, 1, 0x0, 1, [.rw 21 16, .rw 10 8, .rw 1 1, .rw 0 0]⟩,
  ⟨"TAG_CTL", 0x50, 0x0, 1, 0x0, 1, [⟨2, 1, .rw, 0x0, .range 0x0 0x2⟩, .rw 0 0]⟩,
  ⟨"TX_PCP_MAP", 0x54, 0x0, 1, 0x0, 1, [⟨23, 0, .rw, 0xFAC681, .any⟩]⟩,
  ⟨"TS_LAT", 0x58, 0x0, 1, 0x0, 1, [.rw 31 16, .rw 15 0]⟩,
  ⟨"TS_CTL", 0x5C, 0x0, 1, 0x0, 1, [.wo 1 1, ⟨0, 0, .rw, 0x1, .any⟩]⟩,
  ⟨"TS_POP", 0x60, 0x0, 1, 0x0, 1, [.rc 31 31, .rc 27 24, .rc 23 16, .rc 15 0]⟩,
  ⟨"TS_POP_LAST", 0x64, 0x0, 1, 0x0, 1, [.ro 31 0]⟩,
  ⟨"TS_STAMP", 0x68, 0x0, 1, 0x0, 1, [.ro 31 0]⟩,
  ⟨"TS_LEVEL", 0x6C, 0x0, 1, 0x0, 1, [.ro 31 16, .ro 4 0]⟩,
  ⟨"EEE_CTL", 0x70, 0x0, 1, 0x0, 1, [.rw 31 31, ⟨15, 0, .rw, 0x4074, .range 0x1 0xFFFF⟩]⟩,
  ⟨"EEE_IDLE", 0x74, 0x0, 1, 0x0, 1, [⟨15, 0, .rw, 0x64, .range 0x1 0xFFFF⟩]⟩,
  ⟨"RX_GOOD", 0x80, 0x0, 1, 0x0, 1, [.ro 31 0]⟩,
  ⟨"RX_RUNT", 0x84, 0x0, 1, 0x0, 1, [.ro 31 0]⟩,
  ⟨"RX_FCS_ERR", 0x88, 0x0, 1, 0x0, 1, [.ro 31 0]⟩,
  ⟨"RX_OVERSIZE", 0x8C, 0x0, 1, 0x0, 1, [.ro 31 0]⟩,
  ⟨"RX_CODE_ERR", 0x90, 0x0, 1, 0x0, 1, [.ro 31 0]⟩,
  ⟨"RX_BUF_DROP", 0x94, 0x0, 1, 0x0, 1, [.ro 31 0]⟩,
  ⟨"TX_GOOD", 0x98, 0x0, 1, 0x0, 1, [.ro 31 0]⟩,
  ⟨"TX_OVERSIZE", 0x9C, 0x0, 1, 0x0, 1, [.ro 31 0]⟩,
  ⟨"TX_PAD", 0xA0, 0x0, 1, 0x0, 1, [.ro 31 0]⟩,
  ⟨"TX_ABORT", 0xA4, 0x0, 1, 0x0, 1, [.ro 31 0]⟩,
  ⟨"TX_BAD_FCS", 0xA8, 0x0, 1, 0x0, 1, [.ro 31 0]⟩,
  ⟨"LPI_ENTRIES", 0xAC, 0x0, 1, 0x0, 1, [.ro 31 0]⟩,
  ⟨"LPI_WAKE_DELAYED", 0xB0, 0x0, 1, 0x0, 1, [.ro 31 0]⟩,
  ⟨"RX_OCTETS_LO", 0xB4, 0x0, 1, 0x0, 1, [.ro 31 0]⟩,
  ⟨"RX_OCTETS_HI", 0xB8, 0x0, 1, 0x0, 1, [.ro 31 0]⟩,
  ⟨"TX_OCTETS_LO", 0xBC, 0x0, 1, 0x0, 1, [.ro 31 0]⟩,
  ⟨"TX_OCTETS_HI", 0xC0, 0x0, 1, 0x0, 1, [.ro 31 0]⟩,
  ⟨"CNT_CLR", 0xC4, 0x0, 1, 0x0, 1, [.wo 0 0]⟩]

/-- Registers of the page kind `macsec`. -/
def regsMacsec : List RegDesc := [
  ⟨"SECY_CTL", 0x40, 0x0, 1, 0x0, 1, [.rw 13 13, .rw 12 12, ⟨11, 10, .rw, 0x0, .range 0x0 0x2⟩, .wl 9 8, ⟨7, 6, .rw, 0x2, .range 0x0 0x2⟩, ⟨5, 5, .rw, 0x1, .any⟩, .rw 4 4, .rw 3 3, ⟨2, 2, .rw, 0x1, .any⟩, ⟨1, 1, .rw, 0x1, .any⟩, .rw 0 0]⟩,
  ⟨"REPLAY_WIN", 0x44, 0x0, 1, 0x0, 1, [⟨31, 0, .rw, 0x0, .range 0x0 0x40000000⟩]⟩,
  ⟨"TX_SCI_LO", 0x48, 0x0, 1, 0x0, 1, [.rw 31 0]⟩,
  ⟨"TX_SCI_HI", 0x4C, 0x0, 1, 0x0, 1, [.rw 31 0]⟩,
  ⟨"TX_CTL", 0x50, 0x0, 1, 0x0, 1, [.rw 1 0]⟩,
  ⟨"TX_SA", 0x60, 0x10, 4, 0x0, 1, [.rw 31 31, .rw 9 0]⟩,
  ⟨"TX_NEXT_PN_LO", 0x64, 0x10, 4, 0x0, 1, [⟨31, 0, .rw, 0x1, .special .pnLo⟩]⟩,
  ⟨"TX_NEXT_PN_HI", 0x68, 0x10, 4, 0x0, 1, [⟨31, 0, .rw, 0x0, .special .pnHi⟩]⟩,
  ⟨"OUT_PROTECTED", 0xA0, 0x0, 1, 0x0, 1, [.ro 31 0]⟩,
  ⟨"OUT_ENCRYPTED", 0xA4, 0x0, 1, 0x0, 1, [.ro 31 0]⟩,
  ⟨"OUT_UNTAGGED", 0xA8, 0x0, 1, 0x0, 1, [.ro 31 0]⟩,
  ⟨"OUT_NO_SA", 0xAC, 0x0, 1, 0x0, 1, [.ro 31 0]⟩,
  ⟨"OUT_TOO_LONG", 0xB0, 0x0, 1, 0x0, 1, [.ro 31 0]⟩,
  ⟨"IN_UNTAGGED", 0xB4, 0x0, 1, 0x0, 1, [.ro 31 0]⟩,
  ⟨"IN_NO_TAG", 0xB8, 0x0, 1, 0x0, 1, [.ro 31 0]⟩,
  ⟨"IN_BAD_TAG", 0xBC, 0x0, 1, 0x0, 1, [.ro 31 0]⟩,
  ⟨"IN_NO_SCI", 0xC0, 0x0, 1, 0x0, 1, [.ro 31 0]⟩,
  ⟨"IN_UNKNOWN_SCI", 0xC4, 0x0, 1, 0x0, 1, [.ro 31 0]⟩,
  ⟨"IN_OK", 0xC8, 0x0, 1, 0x0, 1, [.ro 31 0]⟩,
  ⟨"IN_UNCHECKED", 0xCC, 0x0, 1, 0x0, 1, [.ro 31 0]⟩,
  ⟨"IN_DELAYED", 0xD0, 0x0, 1, 0x0, 1, [.ro 31 0]⟩,
  ⟨"IN_LATE", 0xD4, 0x0, 1, 0x0, 1, [.ro 31 0]⟩,
  ⟨"IN_INVALID", 0xD8, 0x0, 1, 0x0, 1, [.ro 31 0]⟩,
  ⟨"IN_NOT_VALID", 0xDC, 0x0, 1, 0x0, 1, [.ro 31 0]⟩,
  ⟨"IN_NOT_USING_SA", 0xE0, 0x0, 1, 0x0, 1, [.ro 31 0]⟩,
  ⟨"IN_UNUSED_SA", 0xE4, 0x0, 1, 0x0, 1, [.ro 31 0]⟩,
  ⟨"CNT_CLR", 0xF0, 0x0, 1, 0x0, 1, [.wo 0 0]⟩,
  ⟨"RX_SCI_LO", 0x800, 0x40, 32, 0x0, 1, [.rw 31 0]⟩,
  ⟨"RX_SCI_HI", 0x804, 0x40, 32, 0x0, 1, [.rw 31 0]⟩,
  ⟨"RX_SC_CTL", 0x808, 0x40, 32, 0x0, 1, [.rw 31 31]⟩,
  ⟨"RX_SA", 0x810, 0x40, 32, 0xC, 4, [.rw 31 31, .rw 9 0]⟩,
  ⟨"RX_LOWEST_PN_LO", 0x814, 0x40, 32, 0xC, 4, [⟨31, 0, .rw, 0x1, .special .pnLo⟩]⟩,
  ⟨"RX_LOWEST_PN_HI", 0x818, 0x40, 32, 0xC, 4, [⟨31, 0, .rw, 0x0, .special .pnHi⟩]⟩]

/-- Registers of the page kind `t1s`. -/
def regsT1s : List RegDesc := [
  ⟨"SEG_CTL", 0x40, 0x0, 1, 0x0, 1, [⟨23, 16, .rw, 0x8, .range 0x1 0xFF⟩, ⟨15, 8, .rw, 0x0, .range 0x0 0xFE⟩, ⟨0, 0, .rw, 0x1, .any⟩]⟩,
  ⟨"PLCA_TMR", 0x44, 0x0, 1, 0x0, 1, [⟨23, 16, .rw, 0x80, .range 0x1 0xFF⟩, .rw 15 8, ⟨7, 0, .rw, 0x20, .range 0x1 0xFF⟩]⟩,
  ⟨"SEG_STS", 0x48, 0x0, 1, 0x0, 1, [.ro 2 2, .ro 1 1, .ro 0 0]⟩,
  ⟨"MAX_LEN", 0x4C, 0x0, 1, 0x0, 1, [⟨13, 0, .rw, 0x5F2, .range 0x40 0x2400⟩]⟩,
  ⟨"SEG_VLAN", 0x50, 0x0, 1, 0x0, 1, [⟨15, 15, .rw, 0x1, .any⟩, .rw 14 12, ⟨11, 0, .rw, 0x1, .range 0x1 0xFFE⟩]⟩,
  ⟨"DISC_CTL", 0x54, 0x0, 1, 0x0, 1, [⟨16, 16, .rw, 0x1, .any⟩, ⟨15, 0, .rw, 0x3E8, .range 0xA 0xFFFF⟩]⟩,
  ⟨"TS_POP", 0x58, 0x0, 1, 0x0, 1, [.rc 31 0]⟩,
  ⟨"TS_POP_LAST", 0x5C, 0x0, 1, 0x0, 1, [.ro 31 0]⟩,
  ⟨"TS_STAMP", 0x60, 0x0, 1, 0x0, 1, [.ro 31 0]⟩,
  ⟨"TS_LEVEL", 0x64, 0x0, 1, 0x0, 1, [.ro 31 0]⟩,
  ⟨"RX_GOOD", 0x80, 0x0, 1, 0x0, 1, [.ro 31 0]⟩,
  ⟨"RX_RUNT", 0x84, 0x0, 1, 0x0, 1, [.ro 31 0]⟩,
  ⟨"RX_FCS_ERR", 0x88, 0x0, 1, 0x0, 1, [.ro 31 0]⟩,
  ⟨"RX_OVERSIZE", 0x8C, 0x0, 1, 0x0, 1, [.ro 31 0]⟩,
  ⟨"RX_CODE_ERR", 0x90, 0x0, 1, 0x0, 1, [.ro 31 0]⟩,
  ⟨"TX_GOOD", 0x94, 0x0, 1, 0x0, 1, [.ro 31 0]⟩,
  ⟨"COLLISIONS", 0x98, 0x0, 1, 0x0, 1, [.ro 31 0]⟩,
  ⟨"LATE_COLL", 0x9C, 0x0, 1, 0x0, 1, [.ro 31 0]⟩,
  ⟨"TX_ABORT", 0xA0, 0x0, 1, 0x0, 1, [.ro 31 0]⟩,
  ⟨"BEACON_LOST", 0xA4, 0x0, 1, 0x0, 1, [.ro 31 0]⟩,
  ⟨"DISC_FULL", 0xA8, 0x0, 1, 0x0, 1, [.ro 31 0]⟩,
  ⟨"CNT_CLR", 0xAC, 0x0, 1, 0x0, 1, [.wo 0 0]⟩,
  ⟨"DISC", 0x100, 0x10, 8, 0x0, 1, [.ro 31 31, .ro 7 0]⟩,
  ⟨"DISC_4", 0x104, 0x10, 8, 0x0, 1, [.ro 15 0]⟩,
  ⟨"DISC_8", 0x108, 0x10, 8, 0x0, 1, [.ro 31 0]⟩,
  ⟨"DISC_C", 0x10C, 0x10, 8, 0x0, 1, [.ro 31 0]⟩]

/-- Registers of the page kind `can`. -/
def regsCan : List RegDesc := [
  ⟨"CTL", 0x40, 0x0, 1, 0x0, 1, [.wo 7 7, .rw 6 6, .rw 5 5, ⟨4, 4, .rw, 0x1, .any⟩, .rw 3 3, ⟨2, 2, .rw, 0x1, .any⟩, .rw 0 0]⟩,
  ⟨"NBT", 0x44, 0x0, 1, 0x0, 1, [⟨31, 24, .rw, 0x1, .any⟩, ⟨23, 16, .rw, 0x3E, .range 0x1 0xFF⟩, ⟨15, 9, .rw, 0xF, .range 0x1 0x7F⟩, ⟨8, 2, .rw, 0xF, .any⟩]⟩,
  ⟨"DBT", 0x48, 0x0, 1, 0x0, 1, [.rw 31 27, ⟨26, 22, .rw, 0x6, .any⟩, ⟨21, 18, .rw, 0x1, .range 0x1 0xF⟩, ⟨17, 14, .rw, 0x1, .any⟩]⟩,
  ⟨"XBT", 0x4C, 0x0, 1, 0x0, 1, [.rw 31 27, ⟨26, 22, .rw, 0x6, .any⟩, ⟨21, 18, .rw, 0x1, .range 0x1 0xF⟩, ⟨17, 14, .rw, 0x1, .any⟩]⟩,
  ⟨"TDC", 0x50, 0x0, 1, 0x0, 1, [.rw 31 31, .rw 30 24, .rw 23 23, .rw 22 16]⟩,
  ⟨"PWM", 0x54, 0x0, 1, 0x0, 1, [⟨23, 16, .rw, 0x0, .range 0x0 0x3F⟩, ⟨15, 8, .rw, 0x6, .range 0x2 0x3F⟩, ⟨7, 0, .rw, 0x2, .range 0x1 0x3F⟩]⟩,
  ⟨"STS", 0x58, 0x0, 1, 0x0, 1, [.ro 18 16, .ro 15 8, .ro 4 4, .ro 3 3, .ro 2 0]⟩,
  ⟨"ERR_CNT", 0x5C, 0x0, 1, 0x0, 1, [.ro 24 16, .ro 7 0]⟩,
  ⟨"TRCV_CTL", 0x60, 0x0, 1, 0x0, 1, [.rw 1 0]⟩,
  ⟨"TRCV_STS", 0x64, 0x0, 1, 0x0, 1, [.ro 4 3, .ro 2 2, .ro 1 1, .ro 0 0]⟩,
  ⟨"CUR_TX", 0x68, 0x0, 1, 0x0, 1, [.ro 31 31, .ro 12 0]⟩,
  ⟨"RX_OK", 0x80, 0x0, 1, 0x0, 1, [.ro 31 0]⟩,
  ⟨"TX_OK", 0x84, 0x0, 1, 0x0, 1, [.ro 31 0]⟩,
  ⟨"RX_LOST", 0x88, 0x0, 1, 0x0, 1, [.ro 31 0]⟩,
  ⟨"RX_NO_OBJ", 0x8C, 0x0, 1, 0x0, 1, [.ro 31 0]⟩,
  ⟨"RX_TOO_LONG", 0x90, 0x0, 1, 0x0, 1, [.ro 31 0]⟩,
  ⟨"ERR_DETECT", 0x94, 0x0, 1, 0x0, 1, [.ro 31 0]⟩,
  ⟨"ARB_LOST", 0x98, 0x0, 1, 0x0, 1, [.ro 31 0]⟩,
  ⟨"BUS_OFF", 0x9C, 0x0, 1, 0x0, 1, [.ro 31 0]⟩,
  ⟨"TX_ABORT", 0xA0, 0x0, 1, 0x0, 1, [.ro 31 0]⟩,
  ⟨"TRCV_FAULT", 0xA4, 0x0, 1, 0x0, 1, [.ro 31 0]⟩,
  ⟨"CNT_CLR", 0xA8, 0x0, 1, 0x0, 1, [.wo 0 0]⟩]

/-- Registers of the page kind `canGlobal`. -/
def regsCanGlobal : List RegDesc := [
  ⟨"OBJ_MAP", 0x40, 0x4, 24, 0x0, 1, [.rw 28 16, ⟨11, 0, .rw, 0x0, .special .objCount⟩]⟩,
  ⟨"ECC_CORR", 0xA0, 0x0, 1, 0x0, 1, [.ro 31 0]⟩,
  ⟨"ECC_UNCORR", 0xA4, 0x0, 1, 0x0, 1, [.ro 31 0]⟩,
  ⟨"OBJ_ERR", 0xA8, 0x0, 1, 0x0, 1, [.ro 31 0]⟩]

/-- Registers of the page kind `lin`. -/
def regsLin : List RegDesc := [
  ⟨"LIN_CFG", 0x40, 0x0, 1, 0x0, 1, [⟨31, 16, .rw, 0x4B00, .range 0x3E8 0x4E20⟩, ⟨12, 8, .rw, 0xD, .range 0xD 0x14⟩, ⟨2, 2, .rw, 0x1, .any⟩, .rw 0 0]⟩,
  ⟨"SCHED_CTL", 0x44, 0x0, 1, 0x0, 1, [.rw 17 16, .wo 8 8, .ro 5 4, .rw 0 0]⟩,
  ⟨"SCHED_LEN", 0x48, 0x0, 1, 0x0, 1, [⟨31, 24, .rw, 0x0, .range 0x0 0x20⟩, ⟨23, 16, .rw, 0x0, .range 0x0 0x20⟩, ⟨15, 8, .rw, 0x0, .range 0x0 0x20⟩, ⟨7, 0, .rw, 0x0, .range 0x0 0x20⟩]⟩,
  ⟨"LIN_STS", 0x4C, 0x0, 1, 0x0, 1, [.ro 18 16, .ro 5 0]⟩,
  ⟨"LIN_TRCV", 0x50, 0x0, 1, 0x0, 1, [.wo 1 1, .rw 0 0]⟩,
  ⟨"RX_OK", 0x80, 0x0, 1, 0x0, 1, [.ro 31 0]⟩,
  ⟨"TX_OK", 0x84, 0x0, 1, 0x0, 1, [.ro 31 0]⟩,
  ⟨"NO_RESPONSE", 0x88, 0x0, 1, 0x0, 1, [.ro 31 0]⟩,
  ⟨"INCOMPLETE", 0x8C, 0x0, 1, 0x0, 1, [.ro 31 0]⟩,
  ⟨"CHECKSUM_ERR", 0x90, 0x0, 1, 0x0, 1, [.ro 31 0]⟩,
  ⟨"PARITY_ERR", 0x94, 0x0, 1, 0x0, 1, [.ro 31 0]⟩,
  ⟨"BIT_ERR", 0x98, 0x0, 1, 0x0, 1, [.ro 31 0]⟩,
  ⟨"FRAMING_ERR", 0x9C, 0x0, 1, 0x0, 1, [.ro 31 0]⟩,
  ⟨"SYNC_ERR", 0xA0, 0x0, 1, 0x0, 1, [.ro 31 0]⟩,
  ⟨"RX_LOST", 0xA4, 0x0, 1, 0x0, 1, [.ro 31 0]⟩,
  ⟨"SLOT_OVERRUN", 0xA8, 0x0, 1, 0x0, 1, [.ro 31 0]⟩,
  ⟨"CNT_CLR", 0xAC, 0x0, 1, 0x0, 1, [.wo 0 0]⟩,
  ⟨"FT_CTL", 0x400, 0x10, 64, 0x0, 1, [.rw 31 31, ⟨30, 29, .rw, 0x0, .range 0x0 0x2⟩, ⟨28, 28, .rw, 0x1, .any⟩, ⟨27, 24, .rw, 0x8, .range 0x1 0x8⟩, .rw 23 23, .w1c 22 22, .w1c 21 21, .ro 20 20, .ro 7 0]⟩,
  ⟨"FT_STAMP", 0x404, 0x10, 64, 0x0, 1, [.ro 31 0]⟩,
  ⟨"FT_DATA_LO", 0x408, 0x10, 64, 0x0, 1, [.rw 31 0]⟩,
  ⟨"FT_DATA_HI", 0x40C, 0x10, 64, 0x0, 1, [.rw 31 0]⟩,
  ⟨"SCHED", 0x800, 0x80, 4, 0x4, 32, [⟨31, 24, .rw, 0xA, .range 0x1 0xFF⟩, .rw 17 16, ⟨13, 12, .rw, 0x0, .range 0x0 0x2⟩, .rw 5 0]⟩]

/-- Registers of the page kind `brgGlobal`. -/
def regsBrgGlobal : List RegDesc := [
  ⟨"RT_BANK", 0x40, 0x0, 1, 0x0, 1, [.w1c 3 3, .ro 2 2, .ro 1 1, .ro 0 0]⟩,
  ⟨"RT_FLIP", 0x44, 0x0, 1, 0x0, 1, [.wo 2 2, .wo 1 1, .wo 0 0]⟩,
  ⟨"FLIP_AT_LO", 0x48, 0x0, 1, 0x0, 1, [.rw 31 0]⟩,
  ⟨"FLIP_AT_HI", 0x4C, 0x0, 1, 0x0, 1, [.rw 31 0]⟩,
  ⟨"EXT_SEED", 0x50, 0x4, 2, 0x0, 1, [.rw 31 0]⟩,
  ⟨"SRC_MAC_HI", 0x58, 0x0, 1, 0x0, 1, [.rw 15 0]⟩,
  ⟨"SRC_MAC_LO", 0x5C, 0x0, 1, 0x0, 1, [.rw 31 0]⟩,
  ⟨"KTL_MAC_HI", 0x60, 0x0, 1, 0x0, 1, [.rw 15 0]⟩,
  ⟨"KTL_MAC_LO", 0x64, 0x0, 1, 0x0, 1, [.rw 31 0]⟩,
  ⟨"BRIDGED", 0x68, 0x0, 1, 0x0, 1, [.ro 31 0]⟩,
  ⟨"NO_ROUTE", 0x6C, 0x0, 1, 0x0, 1, [.ro 31 0]⟩,
  ⟨"BANK_WR_REJ", 0x70, 0x0, 1, 0x0, 1, [.ro 31 0]⟩,
  ⟨"STAGE_LOST", 0x74, 0x0, 1, 0x0, 1, [.ro 31 0]⟩,
  ⟨"KTL_DROP", 0x78, 0x0, 1, 0x0, 1, [.ro 31 0]⟩,
  ⟨"T1S_NO_SEG", 0x7C, 0x0, 1, 0x0, 1, [.ro 31 0]⟩,
  ⟨"TX_POOL", 0x80, 0x4, 24, 0x0, 1, [.rw 28 16, ⟨6, 0, .rw, 0x0, .range 0x0 0x40⟩]⟩,
  ⟨"CNT_CLR", 0xE0, 0x0, 1, 0x0, 1, [.wo 0 0]⟩,
  ⟨"CH_DROP", 0x100, 0x4, 32, 0x0, 1, [.ro 31 0]⟩]

/-- Registers of the page kind `brgTunnel`. -/
def regsBrgTunnel : List RegDesc := [
  ⟨"CNT_CLR", 0x40, 0x0, 1, 0x0, 1, [.wo 0 0]⟩,
  ⟨"RX_NO_TUN", 0x44, 0x0, 1, 0x0, 1, [.ro 31 0]⟩,
  ⟨"TX_FRAMES", 0x80, 0x8, 64, 0x0, 1, [.ro 31 0]⟩,
  ⟨"TX_DROP", 0x84, 0x8, 64, 0x0, 1, [.ro 31 0]⟩,
  ⟨"FRAMES", 0x280, 0x10, 32, 0x0, 1, [.ro 31 0]⟩,
  ⟨"SEQ_GAP", 0x284, 0x10, 32, 0x0, 1, [.ro 31 0]⟩,
  ⟨"ERR", 0x288, 0x10, 32, 0x0, 1, [.ro 31 0]⟩,
  ⟨"FRAG_ERR", 0x28C, 0x10, 32, 0x0, 1, [.ro 31 0]⟩,
  ⟨"TUN_RX", 0x600, 0x10, 32, 0x0, 1, [.rw 31 31, ⟨30, 30, .rw, 0x1, .any⟩, .rw 23 0]⟩,
  ⟨"TUN_RX_4", 0x604, 0x10, 32, 0x0, 1, [.ro 15 8, .rw 7 0]⟩,
  ⟨"TUN_RX_STREAM_ID_HI", 0x608, 0x10, 32, 0x0, 1, [.rw 31 0]⟩,
  ⟨"TUN_RX_STREAM_ID_LO", 0x60C, 0x10, 32, 0x0, 1, [.rw 31 0]⟩,
  ⟨"TUN_TX", 0x800, 0x20, 64, 0x0, 1, [.rw 31 31, .rw 30 30, .rw 29 29, .rw 14 12, ⟨11, 0, .rw, 0x1, .range 0x1 0xFFE⟩]⟩,
  ⟨"TUN_TX_4", 0x804, 0x20, 64, 0x0, 1, [.rw 31 16, ⟨13, 0, .rw, 0x5F2, .range 0x90 0x2400⟩]⟩,
  ⟨"TUN_TX_8", 0x808, 0x20, 64, 0x0, 1, [.ro 15 8, ⟨7, 0, .rw, 0x1, .range 0x1 0x40⟩]⟩,
  ⟨"TUN_TX_DA_HI", 0x80C, 0x20, 64, 0x0, 1, [.rw 15 0]⟩,
  ⟨"TUN_TX_DA_LO", 0x810, 0x20, 64, 0x0, 1, [.rw 31 0]⟩,
  ⟨"TUN_TX_STREAM_ID_HI", 0x814, 0x20, 64, 0x0, 1, [.rw 31 0]⟩,
  ⟨"TUN_TX_STREAM_ID_LO", 0x818, 0x20, 64, 0x0, 1, [.rw 31 0]⟩,
  ⟨"TUN_TX_1C", 0x81C, 0x20, 64, 0x0, 1, []⟩]

/-- Registers of the page kind `brgJalden`. -/
def regsBrgJalden : List RegDesc := [
  ⟨"UNIT", 0x40, 0x0, 1, 0x0, 1, [.wl 31 16, .wl 13 12, .wl 9 0]⟩,
  ⟨"PATH01", 0x44, 0x0, 1, 0x0, 1, [.wl 25 16, .wl 9 0]⟩,
  ⟨"PATH23", 0x48, 0x0, 1, 0x0, 1, [.wl 25 16, .wl 9 0]⟩,
  ⟨"TWIN_CTL", 0x4C, 0x0, 1, 0x0, 1, [⟨31, 16, .rw, 0xC8, .range 0x32 0xFFFF⟩, ⟨15, 8, .rw, 0x32, .range 0x1 0xFF⟩, ⟨2, 0, .rw, 0x7, .any⟩]⟩,
  ⟨"TWIN_STS", 0x50, 0x0, 1, 0x0, 1, [.ro 1 1, .ro 0 0]⟩,
  ⟨"CPL_TMO", 0x54, 0x0, 1, 0x0, 1, [⟨15, 0, .rw, 0x3E8, .range 0xA 0xFFFF⟩]⟩,
  ⟨"RACC_DST01", 0x58, 0x0, 1, 0x0, 1, [.rw 25 16, .rw 9 0]⟩,
  ⟨"RACC_DST23", 0x5C, 0x0, 1, 0x0, 1, [.rw 25 16, .rw 9 0]⟩,
  ⟨"RACC_ADDR", 0x60, 0x0, 1, 0x0, 1, [.rw 31 0]⟩,
  ⟨"RACC_WDATA", 0x64, 0x0, 1, 0x0, 1, [.rw 31 0]⟩,
  ⟨"RACC_CMD", 0x68, 0x0, 1, 0x0, 1, [.wo 31 31, .rw 17 16, ⟨9, 8, .rw, 0x0, .range 0x0 0x2⟩, .rw 0 0]⟩,
  ⟨"RACC_STS", 0x6C, 0x0, 1, 0x0, 1, [.ro 31 31, .w1c 30 30, .ro 2 0]⟩,
  ⟨"RACC_RDATA", 0x70, 0x0, 1, 0x0, 1, [.ro 31 0]⟩,
  ⟨"LATE_CPL", 0x74, 0x0, 1, 0x0, 1, [.ro 31 0]⟩,
  ⟨"JL_LANE", 0x80, 0x4, 16, 0x0, 1, [.wo 4 4, ⟨1, 0, .rw, 0x0, .range 0x0 0x2⟩]⟩,
  ⟨"JL_STS", 0xC0, 0x4, 16, 0x0, 1, [.ro 25 16, .ro 7 4, .ro 2 0]⟩,
  ⟨"TX_FRAMES", 0x100, 0x10, 16, 0x0, 1, [.ro 31 0]⟩,
  ⟨"RX_FRAMES", 0x104, 0x10, 16, 0x0, 1, [.ro 31 0]⟩,
  ⟨"RESENDS", 0x108, 0x10, 16, 0x0, 1, [.ro 31 0]⟩,
  ⟨"REPLAY_LOST", 0x10C, 0x10, 16, 0x0, 1, [.ro 31 0]⟩,
  ⟨"CNT_CLR", 0x200, 0x0, 1, 0x0, 1, [.wo 0 0]⟩]

/-- Registers of the page kind `sigGlobal`. -/
def regsSigGlobal : List RegDesc := [
  ⟨"BANK_STS", 0x40, 0x0, 1, 0x0, 1, [.ro 31 24, .ro 23 16, .ro 10 8, .w1c 5 5, .w1c 4 4, .ro 3 3, .ro 2 2, .ro 1 1, .ro 0 0]⟩,
  ⟨"FLIP", 0x44, 0x0, 1, 0x0, 1, [.wo 2 2, .wo 1 1, .wo 0 0]⟩,
  ⟨"FLIP_AT_LO", 0x48, 0x0, 1, 0x0, 1, [.rw 31 0]⟩,
  ⟨"FLIP_AT_HI", 0x4C, 0x0, 1, 0x0, 1, [.rw 31 0]⟩,
  ⟨"BUILD_CTL", 0x50, 0x0, 1, 0x0, 1, [.wo 31 31, .wo 30 30, .rw 8 8, .rw 7 0]⟩,
  ⟨"BUILD_STS", 0x54, 0x0, 1, 0x0, 1, [.ro 31 31, .ro 27 24, .ro 17 0]⟩,
  ⟨"VARIANT", 0x58, 0x0, 1, 0x0, 1, [.rw 31 0]⟩,
  ⟨"DB_BASE", 0x5C, 0x0, 1, 0x0, 1, [.wl 11 0]⟩,
  ⟨"TMO_CTL", 0x60, 0x0, 1, 0x0, 1, [⟨31, 16, .rw, 0x14, .range 0x1 0x3E8⟩, ⟨10, 1, .rw, 0xC8, .range 0x1 0x3E8⟩, ⟨0, 0, .rw, 0x1, .any⟩]⟩,
  ⟨"TMO_POP", 0x64, 0x0, 1, 0x0, 1, [.rc 31 31, .rc 30 30, .rc 16 0]⟩,
  ⟨"TMO_POP_LAST", 0x68, 0x0, 1, 0x0, 1, [.ro 31 0]⟩,
  ⟨"TMO_STAMP", 0x6C, 0x0, 1, 0x0, 1, [.ro 31 0]⟩,
  ⟨"TMO_LEVEL", 0x70, 0x0, 1, 0x0, 1, [.ro 31 16, .ro 8 0]⟩,
  ⟨"PDU_RX", 0x80, 0x0, 1, 0x0, 1, [.ro 31 0]⟩,
  ⟨"PDU_TX", 0x84, 0x0, 1, 0x0, 1, [.ro 31 0]⟩,
  ⟨"NO_PDU", 0x88, 0x0, 1, 0x0, 1, [.ro 31 0]⟩,
  ⟨"SHORT_PDU", 0x8C, 0x0, 1, 0x0, 1, [.ro 31 0]⟩,
  ⟨"RX_EARLY", 0x90, 0x0, 1, 0x0, 1, [.ro 31 0]⟩,
  ⟨"E2E_CRC_ERR", 0x94, 0x0, 1, 0x0, 1, [.ro 31 0]⟩,
  ⟨"E2E_CNT_ERR", 0x98, 0x0, 1, 0x0, 1, [.ro 31 0]⟩,
  ⟨"TIMEOUTS", 0x9C, 0x0, 1, 0x0, 1, [.ro 31 0]⟩,
  ⟨"RECOVERIES", 0xA0, 0x0, 1, 0x0, 1, [.ro 31 0]⟩,
  ⟨"BANK_WR_REJ", 0xA4, 0x0, 1, 0x0, 1, [.ro 31 0]⟩,
  ⟨"BUILD_FAIL", 0xA8, 0x0, 1, 0x0, 1, [.ro 31 0]⟩,
  ⟨"EPOCH_DROP", 0xAC, 0x0, 1, 0x0, 1, [.ro 31 0]⟩,
  ⟨"CNT_CLR", 0xB0, 0x0, 1, 0x0, 1, [.wo 0 0]⟩,
  ⟨"STAGE_LOST", 0xB4, 0x0, 1, 0x0, 1, [.ro 31 0]⟩,
  ⟨"OUT_STREAM", 0x100, 0x20, 16, 0x0, 1, [.rw 31 31, .rw 30 30, .rw 14 12, ⟨11, 0, .rw, 0x1, .range 0x1 0xFFE⟩]⟩,
  ⟨"OUT_STREAM_DA_HI", 0x104, 0x20, 16, 0x0, 1, [.rw 15 0]⟩,
  ⟨"OUT_STREAM_DA_LO", 0x108, 0x20, 16, 0x0, 1, [.rw 31 0]⟩,
  ⟨"OUT_STREAM_SID_HI", 0x10C, 0x20, 16, 0x0, 1, [.rw 31 0]⟩,
  ⟨"OUT_STREAM_SID_LO", 0x110, 0x20, 16, 0x0, 1, [.rw 31 0]⟩,
  ⟨"ORIGIN_SID_HI", 0x308, 0x8, 7, 0x0, 1, [.rw 31 0]⟩,
  ⟨"ORIGIN_SID_LO", 0x30C, 0x8, 7, 0x0, 1, [.rw 31 0]⟩]

/-- Registers of the page kind `sigNode`. -/
def regsSigNode : List RegDesc := [
  ⟨"NODE_CTL", 0x40, 0x0, 1, 0x0, 1, [⟨31, 16, .rw, 0x3E8, .range 0xA 0xFFFF⟩, ⟨15, 0, .rw, 0x1F4, .any⟩]⟩,
  ⟨"SUM_CTL", 0x44, 0x0, 1, 0x0, 1, [⟨16, 16, .rw, 0x1, .any⟩, ⟨15, 0, .rw, 0x3C, .range 0x1 0xFFFF⟩]⟩,
  ⟨"NODE_STS", 0x48, 0x0, 1, 0x0, 1, [.ro 12 0]⟩,
  ⟨"NODE_POP", 0x4C, 0x0, 1, 0x0, 1, [.rc 31 31, .rc 30 30, .rc 11 0]⟩,
  ⟨"NODE_POP_LAST", 0x50, 0x0, 1, 0x0, 1, [.ro 31 0]⟩,
  ⟨"NODE_LEVEL", 0x54, 0x0, 1, 0x0, 1, [.ro 31 16, .ro 6 0]⟩,
  ⟨"ATTACHES", 0x80, 0x0, 1, 0x0, 1, [.ro 31 0]⟩,
  ⟨"DEPARTS", 0x84, 0x0, 1, 0x0, 1, [.ro 31 0]⟩,
  ⟨"DIR_FULL", 0x88, 0x0, 1, 0x0, 1, [.ro 31 0]⟩,
  ⟨"SUM_RX", 0x8C, 0x0, 1, 0x0, 1, [.ro 31 0]⟩,
  ⟨"CNT_CLR", 0x90, 0x0, 1, 0x0, 1, [.wo 0 0]⟩]

/-- Registers of the page kind `ddr`. -/
def regsDdr : List RegDesc := [
  ⟨"DDR_CFG", 0x40, 0x0, 1, 0x0, 1, [⟨8, 8, .wl, 0x1, .any⟩, ⟨7, 4, .wl, 0x4, .range 0x0 0x4⟩, ⟨3, 0, .wl, 0x0, .range 0x0 0x3⟩]⟩,
  ⟨"DDR_STS", 0x44, 0x0, 1, 0x0, 1, [.ro 3 3, .ro 2 2, .ro 1 1, .ro 0 0]⟩,
  ⟨"WIN_BASE", 0x48, 0x0, 1, 0x0, 1, [⟨2, 0, .rw, 0x0, .special .ddrWindow⟩]⟩,
  ⟨"ECC_CORR", 0x4C, 0x0, 1, 0x0, 1, [.ro 31 0]⟩,
  ⟨"ECC_UNCORR", 0x50, 0x0, 1, 0x0, 1, [.ro 31 0]⟩,
  ⟨"ECC_ADDR", 0x54, 0x0, 1, 0x0, 1, [.ro 31 6]⟩,
  ⟨"CNT_CLR", 0x58, 0x0, 1, 0x0, 1, [.wo 0 0]⟩]

/-- Registers of the page kind `ktl`. -/
def regsKtl : List RegDesc := [
  ⟨"CTL", 0x40, 0x0, 1, 0x0, 1, [.rw 0 0]⟩,
  ⟨"JOB_LIMIT", 0x44, 0x0, 1, 0x0, 1, [⟨19, 0, .rw, 0x2710, .range 0x40 0xFFFFF⟩]⟩,
  ⟨"CORE_EN", 0x48, 0x0, 1, 0x0, 1, [⟨7, 0, .rw, 0xFF, .any⟩]⟩,
  ⟨"QUEUE", 0x4C, 0x0, 1, 0x0, 1, [.ro 22 16, .ro 6 0]⟩,
  ⟨"JOBS_RX", 0x80, 0x0, 1, 0x0, 1, [.ro 31 0]⟩,
  ⟨"JOBS_TMO", 0x84, 0x0, 1, 0x0, 1, [.ro 31 0]⟩,
  ⟨"JOBS_TX", 0x88, 0x0, 1, 0x0, 1, [.ro 31 0]⟩,
  ⟨"JOB_DROP", 0x8C, 0x0, 1, 0x0, 1, [.ro 31 0]⟩,
  ⟨"JOB_DEFER", 0x90, 0x0, 1, 0x0, 1, [.ro 31 0]⟩,
  ⟨"REDIRECT", 0x94, 0x0, 1, 0x0, 1, [.ro 31 0]⟩,
  ⟨"BAD_FRAME", 0x98, 0x0, 1, 0x0, 1, [.ro 31 0]⟩,
  ⟨"NO_ORIGIN", 0x9C, 0x0, 1, 0x0, 1, [.ro 31 0]⟩,
  ⟨"FRAG_ERR", 0xA0, 0x0, 1, 0x0, 1, [.ro 31 0]⟩,
  ⟨"FAULTS", 0xA4, 0x0, 1, 0x0, 1, [.ro 31 0]⟩,
  ⟨"SEND_STALL", 0xA8, 0x0, 1, 0x0, 1, [.ro 31 0]⟩,
  ⟨"IMEM_CORR", 0xAC, 0x0, 1, 0x0, 1, [.ro 31 0]⟩,
  ⟨"IMEM_UNCORR", 0xB0, 0x0, 1, 0x0, 1, [.ro 31 0]⟩,
  ⟨"DMEM_CORR", 0xB4, 0x0, 1, 0x0, 1, [.ro 31 0]⟩,
  ⟨"DMEM_UNCORR", 0xB8, 0x0, 1, 0x0, 1, [.ro 31 0]⟩,
  ⟨"CNT_CLR", 0xC0, 0x0, 1, 0x0, 1, [.wo 0 0]⟩,
  ⟨"CORE_STS", 0x100, 0x20, 8, 0x0, 1, [.ro 31 31, .ro 30 30, .ro 29 16, .ro 14 0]⟩,
  ⟨"FAULT", 0x104, 0x20, 8, 0x0, 1, [.w1c 31 31, .ro 27 24, .ro 13 0]⟩,
  ⟨"FAULT_INFO", 0x108, 0x20, 8, 0x0, 1, [.ro 31 0]⟩,
  ⟨"CORE_CTL", 0x10C, 0x20, 8, 0x0, 1, [.wo 0 0]⟩,
  ⟨"JOBS", 0x110, 0x20, 8, 0x0, 1, [.ro 31 0]⟩,
  ⟨"BUSY_CYC", 0x114, 0x20, 8, 0x0, 1, [.ro 31 0]⟩,
  ⟨"X_LO", 0x800, 0x80, 8, 0x8, 16, [.ro 31 0]⟩,
  ⟨"X_HI", 0x804, 0x80, 8, 0x8, 16, [.ro 31 0]⟩]

/-- Registers of the page kind `crc`. -/
def regsCrc : List RegDesc := [
  ⟨"CFG", 0x40, 0x0, 1, 0x0, 1, [⟨22, 16, .wl, 0x20, .range 0x3 0x40⟩, ⟨9, 8, .wl, 0x3, .any⟩, .wl 4 4, .wl 3 3, ⟨2, 2, .wl, 0x1, .any⟩, ⟨1, 1, .wl, 0x1, .any⟩, ⟨0, 0, .wl, 0x1, .any⟩]⟩,
  ⟨"POLY_LO", 0x44, 0x0, 1, 0x0, 1, [⟨31, 0, .wl, 0x4C11DB7, .any⟩]⟩,
  ⟨"POLY_HI", 0x48, 0x0, 1, 0x0, 1, [.wl 31 0]⟩,
  ⟨"INIT_LO", 0x4C, 0x0, 1, 0x0, 1, [⟨31, 0, .wl, 0xFFFFFFFF, .any⟩]⟩,
  ⟨"INIT_HI", 0x50, 0x0, 1, 0x0, 1, [.wl 31 0]⟩,
  ⟨"STS", 0x54, 0x0, 1, 0x0, 1, [.ro 12 8, .ro 0 0]⟩,
  ⟨"USES", 0x58, 0x0, 1, 0x0, 1, [.ro 31 0]⟩,
  ⟨"WAIT_CYC", 0x5C, 0x0, 1, 0x0, 1, [.ro 31 0]⟩,
  ⟨"PARITY", 0x60, 0x0, 1, 0x0, 1, [.ro 31 0]⟩,
  ⟨"CNT_CLR", 0x64, 0x0, 1, 0x0, 1, [.wo 0 0]⟩]

/-- Registers of the page kind `timeClock`. -/
def regsTimeClock : List RegDesc := [
  ⟨"TIME_NS_LO", 0x40, 0x0, 1, 0x0, 1, [.ro 31 0]⟩,
  ⟨"TIME_NS_HI", 0x44, 0x0, 1, 0x0, 1, [.ro 31 0]⟩,
  ⟨"INCR", 0x48, 0x0, 1, 0x0, 1, [⟨31, 0, .rw, 0x50000000, .range 0x4F800000 0x50800000⟩]⟩,
  ⟨"SERVO_CTL", 0x4C, 0x0, 1, 0x0, 1, [.wo 16 16, .rw 9 8, ⟨7, 7, .rw, 0x1, .any⟩, ⟨2, 1, .rw, 0x0, .range 0x0 0x2⟩, .rw 0 0]⟩,
  ⟨"GAIN", 0x50, 0x0, 1, 0x0, 1, [⟨31, 16, .rw, 0x20, .any⟩, ⟨15, 0, .rw, 0x180, .any⟩]⟩,
  ⟨"ADJ_LIM", 0x54, 0x0, 1, 0x0, 1, [⟨23, 0, .rw, 0x51EB8, .range 0x0 0x800000⟩]⟩,
  ⟨"INT_LIM", 0x58, 0x0, 1, 0x0, 1, [⟨23, 0, .rw, 0x51EB8, .range 0x0 0x800000⟩]⟩,
  ⟨"STEP_THRESH", 0x5C, 0x0, 1, 0x0, 1, [⟨31, 0, .rw, 0x4E20, .range 0x64 0xFFFFFFFF⟩]⟩,
  ⟨"STEP_MAX", 0x60, 0x0, 1, 0x0, 1, [⟨31, 0, .rw, 0xF4240, .any⟩]⟩,
  ⟨"LOCK", 0x64, 0x0, 1, 0x0, 1, [⟨23, 16, .rw, 0x4, .range 0x1 0xFF⟩, ⟨15, 0, .rw, 0x3E8, .range 0x1 0xFFFF⟩]⟩,
  ⟨"STEP_LO", 0x68, 0x0, 1, 0x0, 1, [.rw 31 0]⟩,
  ⟨"STEP_HI", 0x6C, 0x0, 1, 0x0, 1, [.rw 31 0]⟩,
  ⟨"STEP_CMD", 0x70, 0x0, 1, 0x0, 1, [.wo 1 1, .wo 0 0]⟩,
  ⟨"SERVO_STS", 0x74, 0x0, 1, 0x0, 1, [.w1c 31 31, .ro 1 0]⟩,
  ⟨"INTEG", 0x78, 0x0, 1, 0x0, 1, [.ro 31 0]⟩,
  ⟨"LAST_E_LO", 0x7C, 0x0, 1, 0x0, 1, [.ro 31 0]⟩,
  ⟨"LAST_E_HI", 0x80, 0x0, 1, 0x0, 1, [.ro 31 0]⟩,
  ⟨"STEP_CNT", 0x84, 0x0, 1, 0x0, 1, [.ro 31 0]⟩,
  ⟨"LAST_STEP_LO", 0x88, 0x0, 1, 0x0, 1, [.ro 31 0]⟩,
  ⟨"LAST_STEP_HI", 0x8C, 0x0, 1, 0x0, 1, [.ro 31 0]⟩,
  ⟨"REFUSE_CNT", 0x90, 0x0, 1, 0x0, 1, [.ro 31 16, .ro 15 0]⟩,
  ⟨"REFUSE_LIM", 0x94, 0x0, 1, 0x0, 1, [.rw 7 0]⟩,
  ⟨"CNT_CLR", 0x98, 0x0, 1, 0x0, 1, [.wo 0 0]⟩]

/-- Registers of the page kind `timeGptp`. -/
def regsTimeGptp : List RegDesc := [
  ⟨"GPTP_CTL", 0x40, 0x0, 1, 0x0, 1, [.rw 21 16, ⟨10, 8, .rw, 0x7, .any⟩, .rw 0 0]⟩,
  ⟨"PDELAY_CTL", 0x44, 0x0, 1, 0x0, 1, [⟨31, 16, .rw, 0x3E8, .oneOf [125, 250, 500, 1000, 2000, 4000, 8000]⟩, ⟨15, 8, .rw, 0x3, .range 0x1 0xFF⟩]⟩,
  ⟨"NEIGHBOR_THRESH", 0x48, 0x0, 1, 0x0, 1, [⟨31, 0, .rw, 0x320, .any⟩]⟩,
  ⟨"PORT_EN", 0x4C, 0x0, 1, 0x0, 1, [.rw 15 0]⟩,
  ⟨"PDELAY_OK", 0x50, 0x0, 1, 0x0, 1, [.ro 15 0]⟩,
  ⟨"INST_CTL", 0x100, 0x40, 4, 0x0, 1, [.rw 31 31, .rw 30 30, ⟨20, 16, .rw, 0x0, .range 0x0 0xF⟩, .rw 14 8, .ro 0 0]⟩,
  ⟨"MASTER_MASK", 0x104, 0x40, 4, 0x0, 1, [.rw 15 0]⟩,
  ⟨"SYNC_CTL", 0x108, 0x40, 4, 0x0, 1, [⟨31, 16, .rw, 0x7D, .oneOf [125, 250, 500, 1000]⟩, ⟨15, 0, .rw, 0x177, .range 0xA 0xFFFF⟩]⟩,
  ⟨"GM_OFFSET_LO", 0x10C, 0x40, 4, 0x0, 1, [.rw 31 0]⟩,
  ⟨"GM_OFFSET_HI", 0x110, 0x40, 4, 0x0, 1, [.rw 31 0]⟩,
  ⟨"LAST_OFFSET_LO", 0x114, 0x40, 4, 0x0, 1, [.ro 31 0]⟩,
  ⟨"LAST_OFFSET_HI", 0x118, 0x40, 4, 0x0, 1, [.ro 31 0]⟩,
  ⟨"RATE", 0x11C, 0x40, 4, 0x0, 1, [.ro 31 0]⟩,
  ⟨"SYNC_RX", 0x120, 0x40, 4, 0x0, 1, [.ro 31 0]⟩,
  ⟨"SYNC_TMO", 0x124, 0x40, 4, 0x0, 1, [.ro 31 0]⟩,
  ⟨"LINK_DELAY", 0x400, 0x10, 16, 0x0, 1, [.ro 31 0]⟩,
  ⟨"NRR", 0x404, 0x10, 16, 0x0, 1, [.ro 31 0]⟩,
  ⟨"PDELAY_TX", 0x408, 0x10, 16, 0x0, 1, [.ro 31 0]⟩,
  ⟨"PDELAY_LOST", 0x40C, 0x10, 16, 0x0, 1, [.ro 31 0]⟩]

/-- Registers of the page kind `timePulse`. -/
def regsTimePulse : List RegDesc := [
  ⟨"OUT_CTL", 0x40, 0x20, 4, 0x0, 1, [.rw 31 31, ⟨30, 30, .rw, 0x1, .any⟩, .ro 1 1, .ro 0 0]⟩,
  ⟨"START_LO", 0x44, 0x20, 4, 0x0, 1, [.rw 31 0]⟩,
  ⟨"START_HI", 0x48, 0x20, 4, 0x0, 1, [.rw 31 0]⟩,
  ⟨"PERIOD", 0x4C, 0x20, 4, 0x0, 1, [⟨31, 0, .rw, 0x3B9ACA00, .zeroOr 0x14 0xFFFFFFFF⟩]⟩,
  ⟨"WIDTH", 0x50, 0x20, 4, 0x0, 1, [⟨31, 0, .rw, 0x2710, .range 0xA 0xFFFFFFFF⟩]⟩,
  ⟨"SKIPPED", 0x54, 0x20, 4, 0x0, 1, [.ro 31 0]⟩,
  ⟨"CAP_CTL", 0x100, 0x20, 2, 0x0, 1, [.rw 31 31, .rw 30 30, ⟨15, 0, .rw, 0x14, .range 0x0 0x3E8⟩]⟩,
  ⟨"CAP_POP", 0x104, 0x20, 2, 0x0, 1, [.rc 31 31, .rc 7 0]⟩,
  ⟨"CAP_POP_LAST", 0x108, 0x20, 2, 0x0, 1, [.ro 31 0]⟩,
  ⟨"CAP_STAMP_LO", 0x10C, 0x20, 2, 0x0, 1, [.ro 31 0]⟩,
  ⟨"CAP_STAMP_HI", 0x110, 0x20, 2, 0x0, 1, [.ro 31 0]⟩,
  ⟨"CAP_LEVEL", 0x114, 0x20, 2, 0x0, 1, [.ro 31 16, .ro 3 0]⟩]

/-- Registers of the page kind `timeSched`. -/
def regsTimeSched : List RegDesc := [
  ⟨"ARMED", 0x40, 0x0, 1, 0x0, 1, [.ro 15 0]⟩,
  ⟨"AT_LO", 0x100, 0x20, 16, 0x0, 1, [.rw 31 0]⟩,
  ⟨"AT_HI", 0x104, 0x20, 16, 0x0, 1, [.rw 31 0]⟩,
  ⟨"ADDR", 0x108, 0x20, 16, 0x0, 1, [⟨25, 0, .rw, 0x0, .mult 0x4 0x0 0x3FFFFFF⟩]⟩,
  ⟨"DATA", 0x10C, 0x20, 16, 0x0, 1, [.rw 31 0]⟩,
  ⟨"SLOT_CTL", 0x110, 0x20, 16, 0x0, 1, [.rw 31 31, .w1c 2 2, .w1c 1 1, .w1c 0 0]⟩]

/-- Registers of the page kind `ciphGlobal`. -/
def regsCiphGlobal : List RegDesc := [
  ⟨"LEN_LIM", 0x40, 0x0, 1, 0x0, 1, [⟨13, 0, .wl, 0x2420, .range 0x40 0x2420⟩]⟩,
  ⟨"PN_WARN32", 0x44, 0x0, 1, 0x0, 1, [⟨31, 0, .rw, 0xC0000000, .range 0x1 0xFFFFFFFE⟩]⟩,
  ⟨"PN_WARN64_LO", 0x48, 0x0, 1, 0x0, 1, [.rw 31 0]⟩,
  ⟨"PN_WARN64_HI", 0x4C, 0x0, 1, 0x0, 1, [⟨31, 0, .rw, 0xC0000000, .any⟩]⟩,
  ⟨"SCA_CTL", 0x50, 0x0, 1, 0x0, 1, [.ro 8 8, ⟨1, 0, .wl, 0x0, .special .dummy⟩]⟩,
  ⟨"PIPE_FRAMES", 0x60, 0x4, 4, 0x0, 1, [.ro 31 0]⟩,
  ⟨"PIPE_PARITY", 0x70, 0x4, 4, 0x0, 1, [.ro 31 0]⟩,
  ⟨"LEN_ERR", 0x80, 0x0, 1, 0x0, 1, [.ro 31 0]⟩,
  ⟨"NO_KEY", 0x84, 0x0, 1, 0x0, 1, [.ro 31 0]⟩,
  ⟨"DUMMY_BLK", 0x88, 0x0, 1, 0x0, 1, [.ro 31 0]⟩,
  ⟨"BLK_PARITY", 0x8C, 0x0, 1, 0x0, 1, [.ro 31 0]⟩,
  ⟨"CNT_CLR", 0x90, 0x0, 1, 0x0, 1, [.wo 0 0]⟩]

/-- Registers of the page kind `ciphBlock`. -/
def regsCiphBlock : List RegDesc := [
  ⟨"BLK_CMD", 0x40, 0x0, 1, 0x0, 1, [.wo 31 31, ⟨27, 24, .rw, 0x0, .range 0x0 0x5⟩, .rw 9 0]⟩,
  ⟨"BLK_LEN", 0x44, 0x0, 1, 0x0, 1, [⟨11, 0, .rw, 0x0, .range 0x0 0x800⟩]⟩,
  ⟨"BLK_STS", 0x48, 0x0, 1, 0x0, 1, [.ro 31 31, .w1c 30 30, .ro 3 0]⟩,
  ⟨"AUTH_CNT", 0x4C, 0x0, 1, 0x0, 1, [.ro 31 0]⟩,
  ⟨"BLK_OUT", 0x80, 0x4, 16, 0x0, 1, [.ro 31 0]⟩,
  ⟨"BLK_BUF", 0x800, 0x4, 512, 0x0, 1, [.rw 31 0]⟩]

/-- Registers of the page kind `kilnMain`. -/
def regsKilnMain : List RegDesc := [
  ⟨"CMD", 0x44, 0x0, 1, 0x0, 1, [.wo 31 31, .rw 30 28, .rw 27 27, .rw 26 26, ⟨25, 24, .rw, 0x0, .range 0x0 0x2⟩, .rw 19 10, .rw 9 0]⟩,
  ⟨"KEY_ATTR", 0x48, 0x0, 1, 0x0, 1, [⟨7, 0, .rw, 0x0, .range 0x0 0x3F⟩]⟩,
  ⟨"KCV_EXP", 0x4C, 0x0, 1, 0x0, 1, [.rw 23 0]⟩,
  ⟨"CMD_STS", 0x50, 0x0, 1, 0x0, 1, [.ro 31 31, .w1c 30 30, .ro 27 24, .ro 23 0]⟩,
  ⟨"WRAP_C0_HI", 0x54, 0x0, 1, 0x0, 1, [.wo 31 0]⟩,
  ⟨"WRAP_C0_LO", 0x58, 0x0, 1, 0x0, 1, [.wo 31 0]⟩,
  ⟨"STAGE_STS", 0x5C, 0x0, 1, 0x0, 1, [.ro 7 0]⟩,
  ⟨"KEY_STAGE", 0x60, 0x4, 8, 0x0, 1, [.wo 31 0]⟩,
  ⟨"COMMIT_AT_LO", 0x80, 0x0, 1, 0x0, 1, [.rw 31 0]⟩,
  ⟨"COMMIT_AT_HI", 0x84, 0x0, 1, 0x0, 1, [.rw 31 0]⟩,
  ⟨"AT_STS", 0x88, 0x0, 1, 0x0, 1, [.ro 31 31, .w1c 30 30, .ro 9 0]⟩,
  ⟨"DRV_CTL", 0x8C, 0x0, 1, 0x0, 1, [.rw 0 0]⟩,
  ⟨"DRV_CTX", 0x90, 0x4, 4, 0x0, 1, [.rw 31 0]⟩,
  ⟨"ALARM_CFG", 0xA0, 0x0, 1, 0x0, 1, [⟨16, 16, .wl, 0x1, .any⟩, ⟨15, 0, .wl, 0xA, .range 0x1 0xFFFF⟩]⟩,
  ⟨"ALARM_STS", 0xA4, 0x0, 1, 0x0, 1, [.ro 31 31, .ro 5 0]⟩,
  ⟨"ALARM_CLR", 0xA8, 0x0, 1, 0x0, 1, [.wo 0 0]⟩,
  ⟨"RNG_POP", 0xAC, 0x0, 1, 0x0, 1, [.rc 31 0]⟩,
  ⟨"RNG_POP_LAST", 0xB0, 0x0, 1, 0x0, 1, [.ro 31 0]⟩,
  ⟨"RNG_STS", 0xB4, 0x0, 1, 0x0, 1, [.ro 31 31, .ro 30 30, .wo 29 29, .ro 15 8, .ro 7 0]⟩,
  ⟨"MASK_SWEEPS", 0xB8, 0x0, 1, 0x0, 1, [.ro 31 0]⟩,
  ⟨"LOADS", 0xC0, 0x0, 1, 0x0, 1, [.ro 31 0]⟩,
  ⟨"DERIVES", 0xC4, 0x0, 1, 0x0, 1, [.ro 31 0]⟩,
  ⟨"COMMITS", 0xC8, 0x0, 1, 0x0, 1, [.ro 31 0]⟩,
  ⟨"KCV_FAIL", 0xCC, 0x0, 1, 0x0, 1, [.ro 31 0]⟩,
  ⟨"REFUSED", 0xD0, 0x0, 1, 0x0, 1, [.ro 31 0]⟩,
  ⟨"ALARMS", 0xD4, 0x0, 1, 0x0, 1, [.ro 31 0]⟩,
  ⟨"CNT_CLR", 0xE0, 0x0, 1, 0x0, 1, [.wo 0 0]⟩]

/-- Registers of the page kind `kilnSlot`. -/
def regsKilnSlot : List RegDesc := [
  ⟨"SLOT_ATTR", 0x100, 0x4, 512, 0x0, 1, [.ro 31 31, .ro 30 30, .ro 29 29, .ro 25 24, .ro 15 8, .ro 7 0]⟩]

/-- Registers of the page kind `kilnId`. -/
def regsKilnId : List RegDesc := [
  ⟨"LC_STS", 0x40, 0x0, 1, 0x0, 1, [.ro 10 10, .ro 9 9, .ro 8 8, .ro 7 4, .ro 3 0]⟩,
  ⟨"LC_CMD", 0x44, 0x0, 1, 0x0, 1, [.wo 31 31, ⟨3, 0, .rw, 0x1, .range 0x1 0x4⟩]⟩,
  ⟨"SERIAL_HI", 0x48, 0x0, 1, 0x0, 1, [.ro 31 0]⟩,
  ⟨"SERIAL_LO", 0x4C, 0x0, 1, 0x0, 1, [.ro 31 0]⟩,
  ⟨"DEBUG_CFG", 0x50, 0x0, 1, 0x0, 1, [.ro 2 0]⟩,
  ⟨"RMA_NONCE_HI", 0x54, 0x0, 1, 0x0, 1, [.ro 31 0]⟩,
  ⟨"RMA_NONCE_LO", 0x58, 0x0, 1, 0x0, 1, [.ro 31 0]⟩,
  ⟨"ID_PUB_X", 0x60, 0x4, 8, 0x0, 1, [.ro 31 0]⟩,
  ⟨"ID_PUB_Y", 0x80, 0x4, 8, 0x0, 1, [.ro 31 0]⟩,
  ⟨"CERT_HASH", 0xA0, 0x4, 8, 0x0, 1, [.ro 31 0]⟩,
  ⟨"RMA_PUBHASH", 0xC0, 0x4, 8, 0x0, 1, [.ro 31 0]⟩]

/-- Registers of the page kind `pwrMain`. -/
def regsPwrMain : List RegDesc := [
  ⟨"PSTATE", 0x40, 0x0, 1, 0x0, 1, [⟨23, 20, .ro, 0x7, .any⟩, .ro 15 12, .ro 4 4, ⟨3, 0, .ro, 0x3, .any⟩]⟩,
  ⟨"LP_CTL", 0x44, 0x0, 1, 0x0, 1, [.wo 31 31, .rw 0 0]⟩,
  ⟨"DOM_REQ", 0x48, 0x0, 1, 0x0, 1, [⟨14, 1, .rw, 0x4, .special .domReq⟩]⟩,
  ⟨"DOM_STS", 0x4C, 0x0, 1, 0x0, 1, [⟨14, 1, .ro, 0x4, .any⟩]⟩,
  ⟨"DOM_BUSY", 0x50, 0x0, 1, 0x0, 1, [.ro 30 17, .ro 14 1]⟩,
  ⟨"DOM_TMO", 0x54, 0x0, 1, 0x0, 1, [⟨15, 0, .rw, 0x2710, .range 0x64 0xFFFF⟩]⟩,
  ⟨"SUPPLY_STS", 0x58, 0x0, 1, 0x0, 1, [.w1c 19 16, .ro 12 12, .ro 11 11, ⟨9, 0, .ro, 0x3FF, .any⟩]⟩,
  ⟨"SUPPLY_TMO", 0x5C, 0x0, 1, 0x0, 1, [⟨15, 0, .rw, 0x32, .range 0x5 0x3E8⟩]⟩,
  ⟨"INH_CTL", 0x60, 0x0, 1, 0x0, 1, [⟨12, 12, .ro, 0x1, .any⟩, ⟨4, 4, .ro, 0x1, .any⟩, .rw 10 10, .rw 2 2, ⟨9, 8, .rw, 0x0, .range 0x0 0x1⟩, ⟨1, 0, .rw, 0x0, .range 0x0 0x1⟩]⟩,
  ⟨"THERM", 0x64, 0x0, 1, 0x0, 1, [⟨23, 16, .rw, 0x78, .range 0x50 0x82⟩, .ro 7 0]⟩,
  ⟨"SLEEPS", 0x68, 0x0, 1, 0x0, 1, [.ro 31 0]⟩,
  ⟨"WAKES", 0x6C, 0x0, 1, 0x0, 1, [.ro 31 0]⟩,
  ⟨"ENTRY_ABORTS", 0x70, 0x0, 1, 0x0, 1, [.ro 31 0]⟩,
  ⟨"SUPPLY_FAIL", 0x74, 0x0, 1, 0x0, 1, [.ro 31 0]⟩,
  ⟨"CNT_CLR", 0x78, 0x0, 1, 0x0, 1, [.wo 0 0]⟩]

/-- Registers of the page kind `pwrWake`. -/
def regsPwrWake : List RegDesc := [
  ⟨"WAKE_SRC", 0x40, 0x0, 1, 0x0, 1, [.w1c 31 0]⟩,
  ⟨"WAKE_FIRST", 0x44, 0x0, 1, 0x0, 1, [.wo 31 31, .ro 8 8, .ro 7 0]⟩,
  ⟨"WAKE_CFG", 0x48, 0x4, 8, 0x0, 1, [.rw 31 31, ⟨30, 29, .rw, 0x0, .range 0x0 0x2⟩, ⟨7, 0, .rw, 0x10, .range 0x1 0xFF⟩]⟩,
  ⟨"CANW_CTL", 0x100, 0x20, 16, 0x0, 1, [.rw 31 30, ⟨29, 28, .rw, 0x2, .any⟩, .rw 27 27, ⟨26, 26, .rw, 0x1, .any⟩, .rw 25 25, ⟨23, 20, .rw, 0x0, .range 0x0 0x8⟩]⟩,
  ⟨"CANW_ID", 0x104, 0x20, 16, 0x0, 1, [.rw 28 0]⟩,
  ⟨"CANW_MASK", 0x108, 0x20, 16, 0x0, 1, [⟨28, 0, .rw, 0x1FFFFFFF, .any⟩]⟩,
  ⟨"CANW_DATA_LO", 0x10C, 0x20, 16, 0x0, 1, [.rw 31 0]⟩,
  ⟨"CANW_DATA_HI", 0x110, 0x20, 16, 0x0, 1, [.rw 31 0]⟩,
  ⟨"CANW_STS", 0x114, 0x20, 16, 0x0, 1, [.w1c 8 8, .ro 5 0]⟩,
  ⟨"PN_CTL", 0x118, 0x20, 16, 0x0, 1, [⟨1, 1, .rw, 0x1, .any⟩, ⟨0, 0, .rw, 0x0, .special .pnSuspend⟩]⟩,
  ⟨"LINW_CTL", 0x300, 0x4, 8, 0x0, 1, [.rw 31 31, ⟨30, 30, .rw, 0x1, .any⟩, ⟨29, 29, .rw, 0x1, .any⟩, ⟨15, 0, .rw, 0xFA0, .range 0xFA0 0x2710⟩]⟩]

/-- Registers of the page kind `pwrRing`. -/
def regsPwrRing : List RegDesc := [
  ⟨"NM_CTL", 0x100, 0x40, 8, 0x0, 1, [.rw 31 31, .rw 30 30, ⟨28, 24, .rw, 0x0, .special .nmChan⟩, .rw 23 16, .rw 15 13, .rw 12 0]⟩,
  ⟨"NM_TMR1", 0x104, 0x40, 8, 0x0, 1, [⟨31, 16, .rw, 0x104, .range 0x14 0xFFFF⟩, ⟨15, 0, .rw, 0x64, .range 0xA 0xFFF⟩]⟩,
  ⟨"NM_TMR2", 0x108, 0x40, 8, 0x0, 1, [⟨31, 16, .rw, 0x5DC, .range 0x64 0xFFFF⟩, ⟨15, 0, .rw, 0x3E8, .range 0x64 0xFFFF⟩]⟩,
  ⟨"NM_USER", 0x10C, 0x40, 8, 0x0, 1, [.rw 31 0]⟩,
  ⟨"NM_STS", 0x110, 0x40, 8, 0x0, 1, [.ro 31 29, .ro 23 16, .ro 15 8, .ro 7 0]⟩,
  ⟨"NM_WAKE_MASK", 0x114, 0x40, 8, 0x0, 1, [⟨31, 0, .rw, 0xFFFFFFFF, .any⟩]⟩,
  ⟨"NM_LINK", 0x118, 0x40, 8, 0x0, 1, [.ro 15 8, ⟨7, 0, .rw, 0xFF, .any⟩]⟩,
  ⟨"NM_CNT", 0x11C, 0x40, 8, 0x0, 1, [.ro 31 16, .ro 15 0]⟩,
  ⟨"NM_TABLE", 0x400, 0x20, 8, 0x4, 8, [.ro 31 0]⟩]

/-- Registers of the page kind `caskRec`. -/
def regsCaskRec : List RegDesc := [
  ⟨"REGION_BASE", 0x40, 0x0, 1, 0x0, 1, [⟨31, 0, .wl, 0x0, .special .regionBase⟩]⟩,
  ⟨"REGION_CFG", 0x44, 0x0, 1, 0x0, 1, [⟨28, 16, .wl, 0x0, .zeroOr 0x2 0x1000⟩, ⟨1, 0, .wl, 0x1, .range 0x0 0x2⟩]⟩,
  ⟨"WR_CTL", 0x48, 0x0, 1, 0x0, 1, [⟨31, 16, .rw, 0xE10, .range 0x3C 0xFFFF⟩, ⟨15, 0, .rw, 0x64, .range 0x1 0x3E8⟩]⟩,
  ⟨"THRESH", 0x4C, 0x0, 1, 0x0, 1, [⟨28, 16, .rw, 0x2, .range 0x1 0xFFF⟩]⟩,
  ⟨"REC_MASK", 0x50, 0x4, 16, 0x0, 1, [⟨31, 0, .rw, 0xFFFFFFFF, .any⟩]⟩,
  ⟨"CMD", 0x90, 0x0, 1, 0x0, 1, [.wo 31 31, .rw 1 0]⟩,
  ⟨"STS", 0x94, 0x0, 1, 0x0, 1, [.ro 31 31, .ro 30 30, .ro 29 29, .ro 26 24, .ro 12 0]⟩,
  ⟨"POS", 0x98, 0x0, 1, 0x0, 1, [.ro 31 0]⟩,
  ⟨"NEXT_SEQ", 0x9C, 0x0, 1, 0x0, 1, [.ro 31 0]⟩,
  ⟨"OPSEC", 0xA0, 0x0, 1, 0x0, 1, [.ro 31 0]⟩,
  ⟨"PWRCYC", 0xA4, 0x0, 1, 0x0, 1, [.ro 31 0]⟩,
  ⟨"BUF_LEVEL", 0xA8, 0x0, 1, 0x0, 1, [.ro 16 0]⟩,
  ⟨"BUF_PEAK", 0xAC, 0x0, 1, 0x0, 1, [.ro 16 0]⟩,
  ⟨"RECORDS", 0xB0, 0x0, 1, 0x0, 1, [.ro 31 0]⟩,
  ⟨"LOST", 0xB4, 0x0, 1, 0x0, 1, [.ro 31 0]⟩,
  ⟨"TORN", 0xB8, 0x0, 1, 0x0, 1, [.ro 31 0]⟩,
  ⟨"CORRUPT", 0xBC, 0x0, 1, 0x0, 1, [.ro 31 0]⟩,
  ⟨"WRITE_ERR", 0xC0, 0x0, 1, 0x0, 1, [.ro 31 0]⟩,
  ⟨"BAD_UNITS", 0xC4, 0x0, 1, 0x0, 1, [.ro 31 0]⟩,
  ⟨"OVERRIDES", 0xC8, 0x0, 1, 0x0, 1, [.ro 31 0]⟩,
  ⟨"CNT_CLR", 0xCC, 0x0, 1, 0x0, 1, [.wo 0 0]⟩,
  ⟨"RD_OFF", 0xD0, 0x0, 1, 0x0, 1, [⟨31, 0, .rw, 0x0, .special .rdOff⟩]⟩,
  ⟨"RD_BUF", 0x100, 0x4, 64, 0x0, 1, [.ro 31 0]⟩,
  ⟨"HREC_CTL", 0x200, 0x0, 1, 0x0, 1, [.wo 31 31, ⟨22, 16, .rw, 0x0, .range 0x0 0x40⟩, .rw 15 0]⟩,
  ⟨"HREC_DATA", 0x240, 0x4, 16, 0x0, 1, [.rw 31 0]⟩]

/-- Registers of the page kind `caskCnt`. -/
def regsCaskCnt : List RegDesc := [
  ⟨"PERF_CTL", 0x40, 0x0, 1, 0x0, 1, [.rw 8 8, .wo 2 2, .wo 1 1, .rw 0 0]⟩,
  ⟨"PERF_AT_LO", 0x44, 0x0, 1, 0x0, 1, [.rw 31 0]⟩,
  ⟨"PERF_AT_HI", 0x48, 0x0, 1, 0x0, 1, [.rw 31 0]⟩,
  ⟨"CLR", 0x4C, 0x0, 1, 0x0, 1, [.wo 15 0]⟩,
  ⟨"PSEL", 0x80, 0x10, 16, 0x0, 1, [.rw 31 31, ⟨22, 22, .rw, 0x1, .any⟩, .rw 21 16, ⟨9, 0, .rw, 0x0, .special .evsel⟩]⟩,
  ⟨"CNT_LO", 0x84, 0x10, 16, 0x0, 1, [.ro 31 0]⟩,
  ⟨"CNT_HI", 0x88, 0x10, 16, 0x0, 1, [.ro 31 0]⟩,
  ⟨"SNAP_LO", 0x200, 0x8, 16, 0x0, 1, [.ro 31 0]⟩,
  ⟨"SNAP_HI", 0x204, 0x8, 16, 0x0, 1, [.ro 31 0]⟩]

/-- Registers of the page kind `caskTap`. -/
def regsCaskTap : List RegDesc := [
  ⟨"TAP_CTL", 0x40, 0x0, 1, 0x0, 1, [.rw 31 31, ⟨27, 24, .rw, 0xF, .any⟩, ⟨17, 16, .rw, 0x0, .range 0x0 0x2⟩, ⟨15, 0, .rw, 0x400, .range 0x10 0xFFFF⟩]⟩,
  ⟨"TAP_FILT", 0x44, 0x0, 1, 0x0, 1, [.rw 11 0]⟩,
  ⟨"TAP_POP", 0x48, 0x0, 1, 0x0, 1, [.rc 31 0]⟩,
  ⟨"TAP_POP_LAST", 0x4C, 0x0, 1, 0x0, 1, [.ro 31 0]⟩,
  ⟨"TAP_W1", 0x50, 0x0, 1, 0x0, 1, [.ro 31 0]⟩,
  ⟨"TAP_W2", 0x54, 0x0, 1, 0x0, 1, [.ro 31 0]⟩,
  ⟨"TAP_W3", 0x58, 0x0, 1, 0x0, 1, [.ro 31 0]⟩,
  ⟨"TAP_LEVEL", 0x5C, 0x0, 1, 0x0, 1, [.ro 31 16, .ro 8 0]⟩,
  ⟨"CNT_CLR", 0x60, 0x0, 1, 0x0, 1, [.wo 0 0]⟩]

/-- Registers of the page kind `upd`. -/
def regsUpd : List RegDesc := [
  ⟨"RACK_STS", 0x40, 0x0, 1, 0x0, 1, [.ro 31 28, .ro 23 16, .ro 9 0]⟩,
  ⟨"MANIFEST_ID", 0x44, 0x0, 1, 0x0, 1, [.ro 31 0]⟩,
  ⟨"T_ACT_LO", 0x48, 0x0, 1, 0x0, 1, [.ro 31 0]⟩,
  ⟨"T_ACT_HI", 0x4C, 0x0, 1, 0x0, 1, [.ro 31 0]⟩,
  ⟨"T_REV_LO", 0x50, 0x0, 1, 0x0, 1, [.ro 31 0]⟩,
  ⟨"T_REV_HI", 0x54, 0x0, 1, 0x0, 1, [.ro 31 0]⟩,
  ⟨"RACK_TMR1", 0x58, 0x0, 1, 0x0, 1, [⟨31, 16, .rw, 0x64, .range 0xA 0xFFFF⟩, ⟨15, 0, .rw, 0x14, .range 0x1 0x3E8⟩]⟩,
  ⟨"RACK_TMR2", 0x5C, 0x0, 1, 0x0, 1, [⟨31, 16, .rw, 0x1F4, .range 0x64 0xFFFF⟩, ⟨15, 0, .rw, 0x32, .range 0xA 0x3E8⟩]⟩,
  ⟨"DB_REGION", 0x60, 0x0, 1, 0x0, 1, [.rw 27 16, .rw 11 0]⟩,
  ⟨"SLOT_STS", 0x64, 0x4, 4, 0x0, 1, [.ro 31 24, .ro 16 16, .ro 15 8, .ro 7 0]⟩,
  ⟨"VER_A", 0x74, 0x8, 4, 0x0, 1, [.ro 31 0]⟩,
  ⟨"VER_B", 0x78, 0x8, 4, 0x0, 1, [.ro 31 0]⟩,
  ⟨"ROLLBACK", 0x94, 0x0, 1, 0x0, 1, [.ro 6 0]⟩,
  ⟨"BOOT_STS", 0x98, 0x0, 1, 0x0, 1, [.ro 31 28, .ro 16 16, .ro 15 0]⟩,
  ⟨"RACKS_DONE", 0x9C, 0x0, 1, 0x0, 1, [.ro 31 0]⟩,
  ⟨"RACKS_FAILED", 0xA0, 0x0, 1, 0x0, 1, [.ro 31 0]⟩,
  ⟨"REVERTS", 0xA4, 0x0, 1, 0x0, 1, [.ro 31 0]⟩,
  ⟨"CNT_CLR", 0xA8, 0x0, 1, 0x0, 1, [.wo 0 0]⟩]

/-- Registers of the page kind `qspi`. -/
def regsQspi : List RegDesc := [
  ⟨"FLASH_INFO", 0x40, 0x0, 1, 0x0, 1, [.ro 31 30, .ro 29 24, .ro 11 0]⟩,
  ⟨"CLK", 0x44, 0x0, 1, 0x0, 1, [⟨3, 0, .rw, 0x7, .any⟩]⟩,
  ⟨"HCMD", 0x48, 0x0, 1, 0x0, 1, [.wo 31 31, .ro 30 30, .ro 29 28, .rw 23 16, ⟨8, 0, .rw, 0x0, .range 0x0 0x100⟩]⟩,
  ⟨"HADDR", 0x4C, 0x0, 1, 0x0, 1, [.rw 31 0]⟩,
  ⟨"ECC_CORR", 0x50, 0x0, 1, 0x0, 1, [.ro 31 0]⟩,
  ⟨"ECC_LIMIT", 0x54, 0x0, 1, 0x0, 1, [.ro 31 0]⟩,
  ⟨"ECC_UNCORR", 0x58, 0x0, 1, 0x0, 1, [.ro 31 0]⟩,
  ⟨"PROG_FAIL", 0x5C, 0x0, 1, 0x0, 1, [.ro 31 0]⟩,
  ⟨"ERASE_FAIL", 0x60, 0x0, 1, 0x0, 1, [.ro 31 0]⟩,
  ⟨"CNT_CLR", 0x64, 0x0, 1, 0x0, 1, [.wo 0 0]⟩,
  ⟨"HBUF", 0x100, 0x4, 64, 0x0, 1, [.rw 31 0]⟩]

/-- Registers of the page kind `svc`. -/
def regsSvc : List RegDesc := [
  ⟨"SV_STS", 0x40, 0x0, 1, 0x0, 1, [.ro 31 31, .ro 23 16]⟩,
  ⟨"FW_VERSION", 0x44, 0x0, 1, 0x0, 1, [.ro 31 0]⟩,
  ⟨"MBX_CMD", 0x48, 0x0, 1, 0x0, 1, [.wo 31 31, .rw 7 0]⟩,
  ⟨"MBX_STS", 0x4C, 0x0, 1, 0x0, 1, [.ro 31 31, .w1c 30 30, .ro 7 0]⟩,
  ⟨"MBX_ARG", 0x50, 0x4, 8, 0x0, 1, [.rw 31 0]⟩,
  ⟨"MBX_RSP", 0x70, 0x4, 8, 0x0, 1, [.ro 31 0]⟩,
  ⟨"DATA", 0x800, 0x4, 512, 0x0, 1, [.rw 31 0]⟩]

/-- Registers of the page kind `guardGlobal`. -/
def regsGuardGlobal : List RegDesc := [
  ⟨"PROFILE", 0x40, 0x0, 1, 0x0, 1, [.ro 10 8, ⟨2, 0, .wl, 0x0, .special .profileSel⟩]⟩,
  ⟨"DEG_REQ", 0x44, 0x0, 1, 0x0, 1, [.wo 31 31, .wo 30 30, ⟨18, 16, .rw, 0x7, .range 0x1 0x7⟩, ⟨14, 1, .rw, 0x0, .special .degDomains⟩]⟩,
  ⟨"DEG_STS", 0x48, 0x0, 1, 0x0, 1, [.ro 31 31, .ro 30 30, .ro 18 16, .ro 14 1]⟩,
  ⟨"AUTO_DEG", 0x4C, 0x0, 1, 0x0, 1, [⟨5, 1, .rw, 0x1F, .any⟩]⟩,
  ⟨"REQUIRED", 0x50, 0x0, 1, 0x0, 1, [⟨14, 1, .ro, 0x4, .any⟩]⟩,
  ⟨"EVALS", 0x60, 0x0, 1, 0x0, 1, [.ro 31 0]⟩,
  ⟨"ACTIONS", 0x64, 0x0, 1, 0x0, 1, [.ro 31 0]⟩,
  ⟨"ACTION_FAIL", 0x68, 0x0, 1, 0x0, 1, [.ro 31 0]⟩,
  ⟨"SAMPLE_ERR", 0x6C, 0x0, 1, 0x0, 1, [.ro 31 0]⟩,
  ⟨"DEG_GRANTS", 0x70, 0x0, 1, 0x0, 1, [.ro 31 0]⟩,
  ⟨"PIPE_HOLDS", 0x74, 0x0, 1, 0x0, 1, [.ro 31 0]⟩,
  ⟨"CNT_CLR", 0x78, 0x0, 1, 0x0, 1, [.wo 0 0]⟩]

/-- Registers of the page kind `guardRule`. -/
def regsGuardRule : List RegDesc := [
  ⟨"RULE_CTL", 0x100, 0x20, 64, 0x0, 1, [.rw 31 31, .wo 30 30, .ro 29 29, ⟨27, 26, .rw, 0x0, .range 0x0 0x2⟩, .rw 25 24, ⟨23, 20, .rw, 0x0, .range 0x0 0x8⟩, ⟨15, 8, .rw, 0x1, .range 0x1 0xFF⟩, ⟨7, 0, .rw, 0x1, .any⟩]⟩,
  ⟨"SRC", 0x104, 0x20, 64, 0x0, 1, [⟨31, 0, .rw, 0x0, .mult 0x4 0x0 0xFFFFFFFF⟩]⟩,
  ⟨"MASK", 0x108, 0x20, 64, 0x0, 1, [⟨31, 0, .rw, 0xFFFFFFFF, .any⟩]⟩,
  ⟨"THRESH", 0x10C, 0x20, 64, 0x0, 1, [.rw 31 0]⟩,
  ⟨"WINDOW", 0x110, 0x20, 64, 0x0, 1, [⟨15, 0, .rw, 0x64, .range 0x1 0xFFFF⟩]⟩,
  ⟨"TARGET", 0x114, 0x20, 64, 0x0, 1, [⟨31, 0, .rw, 0x0, .mult 0x4 0x0 0xFFFFFFFF⟩]⟩,
  ⟨"VALUE", 0x118, 0x20, 64, 0x0, 1, [.rw 31 0]⟩,
  ⟨"FIRES", 0x11C, 0x20, 64, 0x0, 1, [.ro 31 0]⟩]

/-- The register table of each page kind. The CASK user page has no register beyond its header (R438). -/
def regsOf : PageKind → List RegDesc
  | .sys => regsSys
  | .evt => regsEvt
  | .fabGlobal => regsFabGlobal
  | .fabSlice => regsFabSlice
  | .fabPort => regsFabPort
  | .hostGlobal => regsHostGlobal
  | .hostQueue => regsHostQueue
  | .hostEgress => regsHostEgress
  | .pipe => regsPipe
  | .pipeShared => regsPipeShared
  | .emac => regsEmac
  | .macsec => regsMacsec
  | .t1s => regsT1s
  | .can => regsCan
  | .canGlobal => regsCanGlobal
  | .lin => regsLin
  | .brgGlobal => regsBrgGlobal
  | .brgTunnel => regsBrgTunnel
  | .brgJalden => regsBrgJalden
  | .sigGlobal => regsSigGlobal
  | .sigNode => regsSigNode
  | .ddr => regsDdr
  | .ktl => regsKtl
  | .crc => regsCrc
  | .timeClock => regsTimeClock
  | .timeGptp => regsTimeGptp
  | .timePulse => regsTimePulse
  | .timeSched => regsTimeSched
  | .ciphGlobal => regsCiphGlobal
  | .ciphBlock => regsCiphBlock
  | .kilnMain => regsKilnMain
  | .kilnSlot => regsKilnSlot
  | .kilnId => regsKilnId
  | .pwrMain => regsPwrMain
  | .pwrWake => regsPwrWake
  | .pwrRing => regsPwrRing
  | .caskRec => regsCaskRec
  | .caskCnt => regsCaskCnt
  | .caskTap => regsCaskTap
  | .upd => regsUpd
  | .qspi => regsQspi
  | .svc => regsSvc
  | .guardGlobal => regsGuardGlobal
  | .guardRule => regsGuardRule
  | .caskUser => []

end Sys2Proof.Machine
end

