-- ==== Sys2Proof/Machine/State.lean ====
section
/-! DEFINITION. The state of the block as plain data: the register words, the byte memories, the page states, the
event log, the work each block holds, what has been sent to the outside, and the queue of waiting commands. -/

namespace Sys2Proof.Machine

/-- A command that a meaning cannot go on with stops with a fault; no meaning of this model raises one. -/
inductive Fault
  /-- Raised by no meaning: the type must not be empty. Safe. -/
  | none
  deriving DecidableEq, Repr

/-- Why a command has no meaning here. -/
inductive Refusal
  /-- Raised by an arm of exec whose command has no meaning yet. Safe: the run stops. -/
  | notModelled (mnemonic : String)
  deriving DecidableEq, Repr

/-- Page states (Table 2-4). -/
inductive PageState | off | run | quiescing | held | resetting
  deriving DecidableEq, Repr

/-- A record of the event log (R69). -/
structure LogRec where
  source : Nat
  detail : Nat
  stamp : Nat
  deriving DecidableEq, Repr

/-- A record in the Cask's buffer (Table 14-2). Until the scan completes `seq` is the record's place in the buffer and
`opsec` counts from 0; the scan's completion adds the first SEQ and OPSEC_BASE (R426). -/
structure CaskRec where
  kind : Nat
  source : Nat
  overridden : Bool
  seq : Nat
  opsec : Nat
  pwrcyc : Nat
  stamp : Nat
  payload : Bytes
  /-- an OVERRIDE record entered before the scan completed: the place in the buffer of an ACTION record without SEQ -/
  place : Option Nat
  deriving DecidableEq, Repr

/-- A recorder command in progress (Table 14-4); FLUSH is one only while it waits for the QSPI master. -/
inductive CaskJob
  | flush
  | free
  | eraseAll
  | read (off : Nat)
  deriving DecidableEq, Repr

/-- The Cask's own state (Chapter 14). -/
structure Cask where
  /-- the buffer, oldest first (R427) -/
  buf : List CaskRec
  /-- records discarded since the last LOST record (R427) -/
  lost : Nat
  /-- the 64 most recent ACTION records: SEQ, 32-bit address of the word watched, 2^32 where the watch has ended (R428)
  -/
  watch : List (Nat × Nat)
  /-- OPSEC_BASE (R434) -/
  opsecBase : Nat
  /-- CLK_SYS cycles that PD3 has been on (R426) -/
  pd3Cycles : Nat
  /-- a START or CHECKPOINT record has entered since PD3 switched on, so that CKPT_S counts (R425) -/
  clocked : Bool
  /-- the scan: 0 none, 1 due since the page entered RUN, 2 running (R434) -/
  scan : Nat
  /-- the unit open for writing -/
  unit : Option Nat
  /-- USEQ of the unit opened last, 0 for none (R423) -/
  useq : Nat
  /-- next write position in the open unit -/
  off : Nat
  job : Option CaskJob
  /-- the armed instant of PERF_CTL.AT (R437) -/
  perfAt : Option Nat
  deriving DecidableEq, Repr

/-! ### Boot, flash and Racking (Chapter 15) -/

/-- A host flash command in progress (R445). -/
structure FlashJob where
  op : Nat
  addr : Nat
  len : Nat
  deriving DecidableEq, Repr

/-- An image being transferred (R452). -/
structure Staging where
  part : Nat
  /-- the slot written to: 0 A, 1 B; 0 for parts 4 and 5 -/
  slot : Nat
  len : Nat
  /-- offsets of the blocks written, newest first -/
  blocks : List Nat
  deriving DecidableEq, Repr

/-- A mailbox command being executed, for the host or for another unit (R451). -/
structure MbxJob where
  op : Nat
  args : List Nat
  data : Bytes
  /-- path of the unit whose XFER brought it; none for the host's own -/
  origin : Option (List Nat)
  deriving DecidableEq, Repr

/-- The Supervisor's phase (R450). -/
inductive SupPhase
  /-- PD3 is off or the boot ROM has not started -/
  | off
  | bootRom
  | firmware
  | recovery
  /-- lifecycle END: the boot ROM loads nothing -/
  | halted
  deriving DecidableEq, Repr

/-- The Supervisor and the flash beside their registers. -/
structure Sup where
  phase : SupPhase
  /-- CLK_SYS cycle from which BOOT_MS counts: PD3 on, or the restart (R450) -/
  bootAt : Nat
  /-- bytes of the NOR part's erase unit, as its SFDP table gives it (R443, R446) -/
  eraseUnit : Nat
  /-- the NAND part's cache register, bytes by column -/
  cache : List Host.Cell
  hostJob : Option FlashJob
  staging : Option Staging
  /-- state of the MANIFEST partition, as Table 15-3 numbers states -/
  manifest : Nat
  /-- the command the Supervisor executes -/
  job : Option MbxJob
  /-- target path of the host command that waits for XFER_ACK -/
  remote : Option (List Nat)
  /-- target path of the last OPEN_SLOT of the host -/
  target : Option (List Nat)
  /-- the requester that holds the QSPI master: 0 none, 1 the Supervisor, 2 the Cask, 3 the host (R445) -/
  master : Nat
  /-- a slot table record waits for the master (R445, R449) -/
  tableDue : Bool
  /-- NAND pages, by number, that the Supervisor's last reads found uncorrectable (R444) -/
  unread : List Nat
  /-- what becomes of the host's command once the Supervisor runs again: 0 nothing, 1 a RESTART ends, 2 a command that
  has ended with 18 leaves BUSY, 3 a remote command ends with 17 (R451) -/
  resume : Nat
  deriving DecidableEq, Repr

/-- A participant as the coordinator knows it (R456, R457). -/
structure RackUnit where
  path : List Nat
  entries : List Bytes
  /-- it has answered as one of a twin pair -/
  twin : Bool
  /-- its answers to PREPARE, then to GO, then to REVERT: flags, CODE -/
  ready : List (Nat × Nat)
  done : List (Nat × Nat)
  reverted : List (Nat × Nat)
  deriving DecidableEq, Repr

/-- The Racking state of the UPD block (R457) beside its registers. -/
structure Rack where
  /-- coordinator state of Table 15-6a, 0 to 4 -/
  coord : Nat
  units : List RackUnit
  /-- participant state of Table 15-6b: 0 IDLE, 8 to 13 -/
  part : Nat
  /-- manifest entries that name this unit -/
  entries : List Bytes
  /-- the coordinator's path -/
  origin : List Nat
  /-- the coordinator's first failing unit (R456) -/
  failUnit : Option Nat
  /-- entries still to be prepared, and whether the Batch build of the entry before them runs (R455) -/
  todo : List Bytes
  building : Bool
  /-- the first code of the preparation that failed, 0 for none -/
  code : Nat
  /-- T_ACT has passed in ARMED, so a revert restores -/
  taken : Bool
  /-- the Supervisor has been restarted for this activation or this revert -/
  restarted : Bool
  /-- DB_BASE before the activation, in MiB -/
  oldBase : Nat
  /-- FG and LATE of the three banks at arming: SIG in bit 0, BRG in bit 1, PIPE in bit 2 -/
  fgs : Nat
  lates : Nat
  /-- GEN of the key slots to be committed, at arming -/
  gens : List (Nat × Nat)
  /-- the old Batch is to be built again once DRAINING clears -/
  rebuild : Bool
  /-- messages held while the Supervisor is not running: TYPE, message; oldest first -/
  held : List (Nat × UpdMsg)
  deriving DecidableEq, Repr

/-! ### The Cellarer (Chapter 16) -/

/-- A rule's sampling state (R478, R479). -/
structure RuleSt where
  /-- no sample since EN became 1 -/
  fresh : Bool
  /-- v of the previous sample -/
  prev : Nat
  /-- v of the first sample of the window -/
  ref : Nat
  /-- evaluation cycles into the window -/
  win : Nat
  /-- consecutive samples in which the condition held, and in which it failed -/
  held : Nat
  failed : Nat
  deriving DecidableEq, Repr

/-- A queued action: rule, code, TARGET, VALUE (R480). -/
structure GuardAct where
  rule : Nat
  code : Nat
  target : Nat
  value : Nat
  deriving DecidableEq, Repr

/-- The Cellarer's state. -/
structure Guard where
  rules : List (Nat × RuleSt)
  queue : List GuardAct
  /-- a BATCH action whose build is running, and FG_BATCH before it -/
  batch : Option (GuardAct × Nat)
  deriving DecidableEq, Repr

/-! ### JTAG and pins (Chapter 17) -/

/-- The TAP, the debug port and the pins that gate the Logic die. -/
structure Jtag where
  ir : Nat
  /-- the boundary register, 345 cells, cell 0 in bit 0 -/
  boundary : Nat
  granted : Bool
  refused : Bool
  dbgStatus : Nat
  dbgAddr : Nat
  dbgData : Nat
  /-- TEST0 and TEST1 levels -/
  test : Nat
  /-- PERST0_N and PERST1_N levels -/
  perst : Nat
  deriving DecidableEq, Repr

/-! ### Frames and cells -/

/-- What travels with a frame through the fabric: the lookup result or the fixed result of R152, and the cell
header's fields that all its cells share (Tables 3-1, 3-2, 5-2). -/
structure FrameInfo where
  /-- ingress fabric port -/
  src : Nat
  /-- carries the fixed result of R152, not a lookup result -/
  fixed : Bool
  /-- FRAME_TAG -/
  tag : Nat
  /-- target fabric ports, as a mask of F0–F23 -/
  targets : Nat
  tc : Nat
  epoch : Nat
  member : Nat
  ctx : Nat
  key : Nat
  /-- RX_STAMP -/
  stamp : Nat
  /-- frame length L; 0 in the header of a cut-through frame (R124) -/
  len : Nat
  /-- forwarded by cut-through (R123) -/
  cut : Bool
  /-- the flags FCS_ERR, RUNT, OVERSIZE, TRUNC of a captured frame, as bits of Table 4-1 byte 14 -/
  flags : Nat
  /-- the host queue that a capture port names (R185) -/
  queue : Option Nat
  /-- the bus-frame header that Grist removed (R257): it stays known with the frame, not among its bytes (log entry 37)
  -/
  hdr : Bytes
  deriving DecidableEq, Repr

/-- A cell (Tables 3-1 to 3-3). -/
structure FabCell where
  info : FrameInfo
  /-- FRAME_CELL -/
  j : Nat
  /-- CELL_IDX -/
  idx : Nat
  /-- ROUND_TAG -/
  rtag : Nat
  last : Bool
  bad : Bool
  payload : Bytes
  deriving DecidableEq, Repr

/-- A frame on its way into the fabric, with the bytes DA to FCS. `bad` is known at its end (R124). -/
structure FabFrame where
  info : FrameInfo
  bytes : Bytes
  bad : Bool
  /-- bytes of the port's receive buffer that it frees when it has passed (R184) -/
  held : Nat
  deriving DecidableEq, Repr

/-- A frame received and waiting for its lookup (R140). `hdr` is the bus-frame header of a frame from F20 or F21
(R257); `tc` is a host frame's class (R144). -/
structure RxFrame where
  src : Nat
  stamp : Nat
  bytes : Bytes
  hdr : Bytes
  bad : Bool
  flags : Nat
  tc : Option Nat
  /-- bytes of the port's receive buffer that it holds (R184) -/
  held : Nat
  /-- the host queue and class of a port in capture class (R185) -/
  capture : Option (Nat × Nat)
  deriving DecidableEq, Repr

/-- A frame whose lookup result has been composed and which Grist still holds (R146). -/
structure Looked where
  frame : RxFrame
  targets : Nat
  targetsB : Nat
  split : Bool
  tc : Nat
  epoch : Nat
  member : Nat
  ctx : Nat
  key : Nat
  strip : Bool
  insert : Option Nat
  dei : Bool
  /-- what the parse at the lookup has found for the edits: the offset after the tags, and whether there is an outer tag
  -/
  after : Nat
  tagged : Bool
  deriving DecidableEq, Repr

/-! ### The Tun fabric (Chapter 3) -/

/-- The spreading buffer of a pair (R86, R87). -/
structure SpreadBuf where
  out : Nat
  tc : Nat
  cells : List FabCell
  /-- the flush timer has expired -/
  expired : Bool
  /-- became due by flush and has not yet been given a group -/
  due : Bool
  deriving DecidableEq, Repr

/-- A multicast frame that waits for its groups (R99). -/
structure McastWait where
  info : FrameInfo
  cells : List FabCell
  deriving DecidableEq, Repr

/-- A planned cell of the round: phase, cell, number of its group in the input's round. -/
structure Planned where
  phase : Nat
  cell : FabCell
  group : Nat
  deriving DecidableEq, Repr

/-- The ingress adapter of a fabric input. -/
structure Ingress where
  /-- FRAME_TAG of the next frame -/
  nextTag : Nat
  spread : List SpreadBuf
  mcast : List McastWait
  /-- waiting pinned cells with their middle positions, in the order they entered (R92) -/
  pins : List (Nat × FabCell)
  /-- frames held by a seed or mode change (R100, R112) -/
  held : List FabFrame
  /-- class and the output served last for it (R88) -/
  rr : List (Nat × Nat)
  /-- due buffers that the last round skipped, by 8·output + class, in the order in which they stood (R88) -/
  skipped : List Nat
  plan : List Planned
  /-- groups formed this round -/
  groups : Nat
  /-- cells admitted since the last round end, by 8·output + class (R102) -/
  admitted : List (Nat × Nat)
  deriving DecidableEq, Repr

/-- A cell buffer of a slice in use. -/
structure CellBuf where
  no : Nat
  /-- position in the slice, 0–2 -/
  pos : Nat
  refs : Nat
  cell : FabCell
  pinned : Bool
  lost : Bool
  deriving DecidableEq, Repr

/-- A list entry in use. `group` is 0 for a pinned cell, the group's number otherwise. -/
structure ListEntry where
  no : Nat
  buf : Nat
  group : Nat
  deriving DecidableEq, Repr

/-- The list of a pair in a slice. -/
structure FabList where
  out : Nat
  tc : Nat
  entries : List ListEntry
  deriving DecidableEq, Repr

/-- A Tun slice. The free lists hold first the numbers never used, from `fresh` on, then those returned; `just`: the
buffers returned in the present slot, which go to the tail when it ends (R95). -/
structure Slice where
  fresh : Nat
  returned : List Nat
  just : List Nat
  freshE : Nat
  returnedE : List Nat
  bufs : List CellBuf
  lists : List FabList
  /-- CLK_SYS cycles of the uncorrectable errors inside the window (R104) -/
  errors : List Nat
  /-- the rebuild has completed with the memory good (R105) -/
  rebuilt : Bool
  /-- cells lost at the removal in progress (R106) -/
  lost : Nat
  deriving DecidableEq, Repr

/-- A cell of a spread group that has arrived in this round and is held aside until its end (R93). -/
structure Aside where
  src : Nat
  group : Nat
  slice : Nat
  /-- the middle position at which it arrived -/
  position : Nat
  cell : FabCell
  /-- the cell buffer and the entries per target; none where the slice had no room (R94) -/
  stored : Option (Nat × List (Nat × Nat))
  deriving DecidableEq, Repr

/-- How a cell of a group stands at its output. -/
inductive CellState
  | waiting
  | got (c : FabCell)
  | lost (c : FabCell)
  deriving DecidableEq, Repr

/-- A group of a pair, sent and not yet complete (R93, R96). -/
structure Group where
  no : Nat
  out : Nat
  tc : Nat
  src : Nat
  cells : List CellState
  /-- the middle position of each cell (R93) -/
  positions : List Nat
  /-- cells handed on, in index order -/
  done : Nat
  deriving DecidableEq, Repr

/-- A frame on its way to one output: cells still in the fabric or at its input, cells read so far. -/
structure Flight where
  src : Nat
  tag : Nat
  out : Nat
  tc : Nat
  epoch : Nat
  left : Nat
  cells : List FabCell
  lost : Bool
  bad : Bool
  handed : Bool
  /-- discarded while under reassembly (R138) -/
  gone : Bool
  /-- the slices whose purge has still to discard a cell of it (R106, R517) -/
  purge : List Nat
  deriving DecidableEq, Repr

/-- A held pair (R112). `waiting` is true between an abandonment and the hold that repeats it. -/
structure Hold where
  out : Nat
  tc : Nat
  waiting : Bool
  deriving DecidableEq, Repr

/-- The Tun fabric. -/
structure Fabric where
  /-- frames edited by Grist and waiting to enter, by ingress port, oldest first -/
  entering : List FabFrame
  inputs : List (Nat × Ingress)
  slices : List (Nat × Slice)
  aside : List Aside
  groups : List Group
  nextGroup : Nat
  flights : List Flight
  /-- OUT_OCC at the end of the previous round, by 8·output + class (R102) -/
  occ : List (Nat × Nat)
  holds : List Hold
  /-- pair 8·output + class and its seed, where it is not on PIN_SEED (R112) -/
  pairSeed : List (Nat × Nat)
  /-- pair and its spreading mode, where it has still to take the mode of PIN_CLASS -/
  pairMode : List (Nat × Bool)
  /-- pair and the slices of its position list, where it has still to move (R107) -/
  pairSlices : List (Nat × Nat)
  /-- pairs of the seed change in progress that have neither moved nor been abandoned -/
  seedPend : List Nat
  /-- bit m: position m is hot in its present run (R110) -/
  hot : Nat
  /-- a seed change waits for the random bit generator to run (R111, R377) -/
  seedWait : Bool
  deriving DecidableEq, Repr

/-! ### Egress buffers and class queues (Chapter 4) -/

/-- A frame in a class queue. `cells` is what it occupies; `whole` says that its last cell has been written. -/
structure EgFrame where
  info : FrameInfo
  bytes : Bytes
  cells : Nat
  whole : Bool
  bad : Bool
  deriving DecidableEq, Repr

/-- A gate-control list with its times (R119, R120). -/
structure GateList where
  entries : List (Nat × Nat)
  len : Nat
  base : Nat
  cycle : Nat
  ext : Nat
  deriving DecidableEq, Repr

/-- The edit of the outer tag at egress (Table 6-3): remove it, set its VID, insert a tag after the source address. -/
structure TxEdit where
  strip : Bool
  vid : Option Nat
  insert : Bytes
  deriving DecidableEq, Repr

/-- How a frame is protected (R199, R380): key, IV, SecTAG, and the confidentiality offset where it is encrypted. -/
structure Prot where
  key : Bytes
  iv : Bytes
  secTag : Bytes
  conf : Option Nat
  deriving DecidableEq, Repr

/-- A frame in transmission on an E port. -/
structure Sending where
  frame : EgFrame
  edit : TxEdit
  prot : Option Prot
  /-- transmit stamp (R197) -/
  stamp : Nat
  /-- start, in picoseconds of CLK_SYS time -/
  start : Nat
  deriving DecidableEq, Repr

/-- A frame that is being written into a host RX queue (R125, R130, R131). -/
structure RxWrite where
  frame : EgFrame
  queue : Nat
  /-- bytes of the frame written so far, and where in a FIFO they lie -/
  written : Nat
  place : Nat
  deriving DecidableEq, Repr

/-- The egress side of a fabric output. Times are picoseconds of CLK_SYS time. -/
structure Egress where
  /-- frames of all classes, in the order in which they were handed over -/
  queue : List EgFrame
  sending : Option Sending
  /-- credits of the eight classes in 10⁻⁹ bit (R118) -/
  credit : List Int
  /-- time up to which the credits are computed -/
  creditAt : Nat
  /-- end of the frame in transmission -/
  busyTo : Nat
  oper : Option GateList
  pend : Option GateList
  /-- the pending set's change time -/
  changeAt : Nat
  lpi : Bool
  /-- the scheduler selects nothing until the wake ends (R195) -/
  waking : Bool
  /-- at F16 to F19, the frame being written into a host queue -/
  writing : Option RxWrite
  deriving DecidableEq, Repr

/-- A frame being delivered into or fetched from a host queue (R130 to R132). -/
structure HostQueue where
  /-- Q_CFG, BASE and BUF_LEN as latched at the start -/
  cfg : Nat
  base : Nat
  bufLen : Nat
  /-- frames published since the last message -/
  unsignalled : Nat
  deriving DecidableEq, Repr

/-! ### Ports (Chapter 6) -/

/-- A transmit stamp record (R198). -/
structure StampRec where
  word : Nat
  stamp : Nat
  deriving DecidableEq, Repr

/-- An E port. -/
structure EPort where
  /-- LANE_CFG.MODE, TX_INV and RX_INV in use, as latched (R178) -/
  mode : Nat
  inv : Nat
  /-- bytes of the receive buffer in use (R184) -/
  rxBytes : Nat
  stamps : List StampRec
  /-- bit a: transmit SA a has sent its last packet number (R381) -/
  stopped : Nat
  /-- the speed code of the in-band control word that reports link up, while there is one (R179, R180) -/
  word : Option Nat
  /-- a 10GBASE-R lane receives local fault (R180) -/
  fault : Bool
  deriving DecidableEq, Repr

/-- A T1S segment. -/
structure Segment where
  stamps : List StampRec
  /-- frames waiting to be sent, as they leave; the first may be in transmission -/
  tx : List Bytes
  /-- collisions of the first frame -/
  collisions : Nat
  /-- end of the transmission of the first frame, in picoseconds of CLK_SYS time; 0 while it has not begun -/
  busyTo : Nat
  /-- end of the backoff after a collision, or start of the own transmit opportunity -/
  waitTo : Nat
  /-- frames that may still start in the transmit opportunity in progress or to come (R203) -/
  burst : Nat
  /-- latest start of the next of them: within TO_TIMER of the opportunity's begin, BURST_TMR of the previous one's end
  -/
  limit : Nat
  /-- end of the cycle of NODE_COUNT transmit opportunities, before which the coordinator sends no further BEACON -/
  cycleTo : Nat
  deriving DecidableEq, Repr

/-- A segment with nothing in it. -/
def Segment.new : Segment := ⟨[], [], 0, 0, 0, 0, 0, 0⟩

/-! ### CAN and LIN channels (Chapter 7) -/

/-- A CAN channel: what its registers do not hold. -/
structure CanCh where
  /-- time of the start-of-frame bit of the frame on the wire that the channel sends -/
  sof : Nat
  /-- end of the suspend transmission, in picoseconds of CLK_SYS time (R226) -/
  holdTo : Nat
  /-- the transceiver state requested and not yet in force (R230) -/
  trcv : Option Nat
  /-- suspended for partial networking (R413) -/
  susp : Bool
  deriving DecidableEq, Repr

/-- A LIN frame in progress: identifier, time of the break's falling edge, and the collision table where its slot is
event-triggered. -/
structure LinOpen where
  id : Nat
  time : Nat
  coll : Option Nat
  deriving DecidableEq, Repr

/-- What a LIN channel sends: a header, its response, or both. -/
structure LinTx where
  id : Nat
  /-- picoseconds of a bit time -/
  bit : Nat
  /-- end of the header, at which the first data byte starts, in picoseconds of CLK_SYS time -/
  start : Nat
  /-- the channel sends the response, and a bit of it will read back wrong -/
  respond : Bool
  bad : Bool
  /-- data and checksum once the first data byte has started, and the end of the checksum byte -/
  sent : Option (Bytes × Nat)
  deriving DecidableEq, Repr

/-- A LIN channel: what its registers do not hold. -/
structure LinCh where
  /-- next entry of the active schedule table -/
  pos : Nat
  frame : Option LinOpen
  tx : Option LinTx
  /-- table that SWITCH has asked for, and the table of a collision -/
  switch : Option Nat
  coll : Option Nat
  /-- the next slot waits for the frame in progress (R238): where a bit of it will read back wrong, as its command said
  -/
  due : Option Nat
  /-- staged FT_DATA_LO values by identifier (R237) -/
  staged : List (Nat × Nat)
  deriving DecidableEq, Repr

/-! ### The bus bridge (Chapter 8) -/

/-- A flip request that is pending (R172, R251, R296); `late` is a timed one armed with its time past (R352). -/
inductive FlipReq | none | now | at_ | late
  deriving DecidableEq, Repr

/-- Words of a table entry that wait for its last word (R170): table, entry, word index and value. -/
structure Staged where
  table : Nat
  entry : Nat
  words : List (Nat × Nat)
  deriving DecidableEq, Repr

/-- What the bridge takes from a channel. -/
inductive BusMsg
  | can (n : Nat) (f : CanFrame)
  | lin (n id : Nat) (data : Bytes)
  deriving DecidableEq, Repr

/-- A stored frame that waits for its lookup, with the TIME_NS of its receive stamp. -/
structure BridgeIn where
  msg : BusMsg
  time : Nat
  deriving DecidableEq, Repr

/-- A frame that a transmit tunnel collects (R260): its messages, and channel and receive time of the first. -/
structure TunOpen where
  msgs : List Bytes
  src : Nat
  time : Nat
  deriving DecidableEq, Repr

/-- A transmit tunnel: frames that are full and wait to be sent, and the open one. -/
structure Tunnel where
  ready : List TunOpen
  opened : Option TunOpen
  deriving DecidableEq, Repr

/-- The reassembly context of a receive tunnel (R262). -/
structure TunCtx where
  seq : Nat
  bus : Nat
  prio : Nat
  time : Nat
  frame : CanFrame
  deriving DecidableEq, Repr

/-- The bus bridge. -/
structure Bridge where
  waiting : List BridgeIn
  flip : FlipReq
  /-- FLIP_AT of the timed flip that is draining (R251) -/
  bound : Option Nat
  /-- copies that wait for a pool object, by CAN channel (R254) -/
  queues : List (Nat × List CanFrame)
  tunnels : List (Nat × Tunnel)
  /-- reassembly contexts by receive tunnel -/
  ctx : List (Nat × TunCtx)
  deriving DecidableEq, Repr

/-! ### Jalden Link (Chapter 8) -/

/-- A Jalden frame of class 0 to 2: its SEQ once it is sent, TYPE, CLASS, payload, and for a remote access request
the lane that its completion goes back to (16: this unit's own request). -/
structure JlFrame where
  seq : Nat
  typ : Nat
  cls : Nat
  payload : Bytes
  origin : Nat
  deriving DecidableEq, Repr

/-- A Jalden lane. -/
structure JlLane where
  /-- next SEQ to send, next SEQ expected -/
  seq : Nat
  exp : Nat
  /-- frames that no ACK has covered (R269), frames that wait for credit (R266) -/
  replay : List JlFrame
  wait : List JlFrame
  /-- resends without ACK progress -/
  stalls : Nat
  /-- credit held, posted and non-posted -/
  credP : Nat
  credNP : Nat
  /-- credit to return with the next header -/
  retP : Nat
  retNP : Nat
  /-- ACCEPT to be sent, ACCEPT = 1 sent, ACCEPT = 1 received (R270) -/
  mine : Bool
  sent : Bool
  peer : Bool
  /-- origins of the requests outstanding on the lane, oldest first: a lane, 16 this unit, 17 this unit where the
  request has timed out (R267) -/
  outst : List Nat
  deriving DecidableEq, Repr

/-- A remote access request (R273). -/
structure RaccReq where
  path : List Nat
  depth : Nat
  twin : Nat
  op : Nat
  addr : Nat
  wdata : Nat
  deriving DecidableEq, Repr

/-- What Jalden Link holds beside its lanes. -/
structure Jalden where
  lanes : List (Nat × JlLane)
  /-- this unit's request that names the unit itself and waits to be executed -/
  own : Option RaccReq
  /-- OP of this unit's request in progress, as its GO found it (R273) -/
  op : Nat
  /-- FDB and SRF records as last shared with the twin (R274) -/
  shared : List TwinRec
  deriving DecidableEq, Repr

/-! ### The forwarding pipelines (Chapter 5) -/

/-- A learn or move request (R155). -/
structure LearnReq where
  mac : Nat
  fid : Nat
  port : Nat
  deriving DecidableEq, Repr

/-- State of a flow meter (R165): buckets in units of 2⁻²⁰ byte, last update in CLK_FAB cycles. -/
structure Meter where
  c : Nat
  e : Nat
  last : Nat
  red : Bool
  deriving DecidableEq, Repr

/-- One forwarding pipeline. -/
structure Pipe where
  learn : List LearnReq
  /-- index of the next Sparge visit -/
  sparge : Nat
  /-- FDB_SEED as latched (R161) -/
  seed : Nat
  /-- the flush in progress: STATIC, BY_PORT, PORT, BY_FID, FID as latched -/
  flush : Option (Bool × Bool × Nat × Bool × Nat)
  /-- entries that the flush has visited -/
  visited : Nat
  /-- the port served last (R140) -/
  served : Nat
  /-- CLK_SYS cycles of the lockstep mismatches of the last second (R472) -/
  mismatches : List Nat
  /-- CLK_SYS cycle of the reset that mismatches caused -/
  resetAt : Option Nat
  deriving DecidableEq, Repr

/-- The forwarding state both pipelines share, and the frames in them. -/
structure Fwd where
  waiting : List RxFrame
  looked : List Looked
  pipes : List (Nat × Pipe)
  flowSeed : Nat
  flip : FlipReq
  staged : List Staged
  meters : List (Nat × Meter)
  /-- BAR2 offsets of the table entries with a parity error (R174) -/
  parity : List Nat
  /-- running reset timers of sequence recovery functions: 1 + the CLK_SYS cycle of the last frame passed (R168) -/
  srf : List (Nat × Nat)
  /-- FDB entries that a lookup has hit: BAR2 offset and CLK_SYS cycle of the last hit (R160) -/
  hits : List (Nat × Nat)
  deriving DecidableEq, Repr

/-! ### The signal gateway and the Kettle clusters (Chapters 9 and 10) -/

/-- A node directory entry (Table 9-9); VALID is that it stands in the directory. -/
structure NodeEntry where
  remote : Bool
  kind : Nat
  chan : Nat
  twin : Bool
  owner : Nat
  key : Bytes
  nodeId : Nat
  seen : Nat
  deriving DecidableEq, Repr

/-- A running build: the Batch as BUILD_CTL named it and BY_VARIANT. -/
structure BuildJob where
  batch : Nat
  byVariant : Bool
  deriving DecidableEq, Repr

/-- The signal gateway: what neither its registers nor the Signal Cache hold. -/
structure Sig where
  flip : FlipReq
  /-- the flip instant, TIME_NS; none before the first flip -/
  instant : Option Nat
  build : Option BuildJob
  /-- LAST_RX of every signal state of banks 0 and 1 that `lastRx` does not list -/
  base0 : Nat
  base1 : Nat
  /-- LAST_RX by 131,072·bank + index -/
  lastRx : List (Nat × Nat)
  /-- the timeout FIFO (R292) -/
  tmo : List StampRec
  /-- signals whose timeout job has not been accepted (R312) -/
  deferred : List Nat
  /-- next cyclic instant by PDU index, where a visit has passed one (R288) -/
  next : List (Nat × Nat)
  /-- PDUs whose cyclic transmission is due and not accepted (R312) -/
  owed : List Nat
  /-- TIME_NS plus 1 at which a PDU was last sent, by 32,768·bank + index (R288) -/
  sentAt : List (Nat × Nat)
  /-- sequence numbers by OUT_STREAM entry (R289) -/
  seqs : List (Nat × Nat)
  /-- the node directory by entry number -/
  nodes : List (Nat × Option NodeEntry)
  /-- the node FIFO (R300) -/
  nodeFifo : List Nat
  /-- changes not yet sent to the parent, and local changes not yet sent to the twin: entry, present -/
  changes : List (NodeEntry × Bool)
  twinChanges : List (NodeEntry × Bool)
  /-- snapshots being received, by 1024·lane + unit ID of the child, with what each has named so far (R303) -/
  named : List (Nat × List NodeEntry)
  /-- children whose lane has left UP (R303) -/
  holds : List Nat
  /-- TWIN entries that the peer has not re-sent since PEER_LOST (R304) -/
  twinHold : List NodeEntry
  deriving DecidableEq, Repr

/-- A Kettle job (R309, Tables 10-3 and 10-4). `data`: the bytes received. -/
structure Job where
  kind : Nat
  pdu : Nat
  bank : Nat
  epoch : Nat
  origin : Nat
  chan : Nat
  stamp : Nat
  sig : Nat
  ident : Nat
  flags : Nat
  sdt : Nat
  vcid : Nat
  af : Nat
  data : Bytes
  deriving DecidableEq, Repr

/-- A Recipe instruction that has begun: its word, TIME_NS[31:0] and the cycles of its job at issue. -/
structure KtlMid where
  word : Nat
  stamp : Nat
  cycles : Nat
  deriving DecidableEq, Repr

/-- A Kettle core. `pdu` is that of its current or last job; `cycles` counts from the start of the job; `counted`: the
job has counted PDU_RX; `assembled`: it has run PASM of its PDU. -/
structure KCore where
  regs : List (BitVec 64)
  pc : Nat
  job : Option Job
  pdu : Nat
  start : Nat
  cycles : Nat
  counted : Bool
  assembled : Bool
  halted : Bool
  tx : Bytes
  /-- an instruction that has begun and not ended: it waits for a unit, runs on one, or is a waiting SEND -/
  mid : Option KtlMid
  /-- CLK_KTL cycle in which the job started -/
  began : Nat
  deriving DecidableEq, Repr

/-- The configuration of a check-value unit (Table 10-15). -/
structure CrcCfg where
  width : Nat
  poly : Nat
  init : Nat
  refin : Bool
  refout : Bool
  inv : Bool
  fieldBe : Bool
  idPrefix : Bool
  feed : Nat
  deriving DecidableEq, Repr

/-- The instruction that a check-value unit serves (R328): its core, whether it waited for the unit and how many cycles
by the clock, and the configuration it started with. -/
structure CrcUse where
  core : Nat
  waited : Bool
  wait : Nat
  cfg : CrcCfg
  deriving DecidableEq, Repr

/-- A check-value unit: the instruction in progress, and the cores that wait, each with the CLK_KTL cycle of its
request, in the order of R328. -/
structure CrcUnit where
  serving : Option CrcUse
  waiting : List (Nat × Nat)
  deriving DecidableEq, Repr

/-- A reassembly context of a cluster (R311): ORIGIN, receive stamp and what R262 compares. -/
structure KtlCtx where
  origin : Nat
  stamp : Nat
  ctx : TunCtx
  deriving DecidableEq, Repr

/-- A Kettle cluster: its job queue and its contexts, those that have waited longest first. -/
structure Cluster where
  queue : List Job
  ctxs : List KtlCtx
  /-- XL frames discarded or rejected and counted in FRAG_ERR: ORIGIN, bus id, PRIO_ID, message_timestamp (R311) -/
  rejected : List (Nat × Nat × Nat × Nat)
  deriving DecidableEq, Repr

/-- A Tap record (Table 14-8). -/
structure TapRec where
  w0 : Nat
  w1 : Nat
  w2 : Nat
  w3 : Nat
  deriving DecidableEq, Repr

/-- The Tap: eligible instructions since the last sample, the count that brings the next one, and the FIFO (R439). -/
structure Tap where
  count : Nat
  target : Option Nat
  fifo : List TapRec
  deriving DecidableEq, Repr

/-! ### Power and the sleep-agreement rings (Chapter 13) -/

/-- A ring message: kind 0 RING, 1 ALIVE, 2 LIMPHOME; SLEEP_IND, SLEEP_ACK, CNT, REASON (0 without WAKE_FLAG). -/
structure NmMsg where
  kind : Nat
  ind : Bool
  ack : Bool
  cnt : Nat
  reason : Nat
  deriving DecidableEq, Repr

/-- A ring instance: its latest message while it has not completed OK, the one to follow it, the token, a wake request
recorded for RESET. -/
structure NmInst where
  msg : Option NmMsg
  next : Option NmMsg
  token : Bool
  wake : Option Nat
  deriving DecidableEq, Repr

/-- What AON holds beside its registers. -/
structure Power where
  /-- the Logic die is held in reset for a sequencing error (R394) -/
  hold : Bool
  /-- RESET_N is low (R500) -/
  resetN : Bool
  /-- the junction has reached 150 °C and has not fallen below 130 °C (R398) -/
  hot : Bool
  /-- CAUSE that the entry sequence in progress will leave (R403) -/
  entry : Option Nat
  /-- the wake path: 0 not taken, 1 waits for the rails, 2 waits to retry (R405, R406) -/
  waking : Nat
  /-- consecutive supply failures -/
  fails : Nat
  /-- wakes latched since the last one was acted on (R398, R406) -/
  woken : Bool
  /-- off requests served by cutting: domains that the switch in progress waits for are drained (R400) -/
  draining : Bool
  /-- events of wakes while PD3 is off: source, detail (R408) -/
  events : List (Nat × Nat)
  /-- suspensions requested and not yet in effect (R413) -/
  suspend : List Nat
  /-- VSUP is below 4.0 V: the LIN transmitters hold recessive (R395) -/
  linLow : Bool
  /-- the 32 kHz cycle in which WAKE_FIRST was recorded (R408) -/
  first : Nat
  /-- PD3 is to be switched on when no hold is left and every rail is GOOD (R501) -/
  release : Bool
  deriving DecidableEq, Repr

/-! ### Time (Chapter 11) -/

/-- The peer delay exchange of a port (R347, R350): number, whether it is in progress, stamp of the request as sent,
stamp of the request at the peer in 2⁻¹⁶ ns and of the response here; `missed`: exchanges lost since the last that
completed. -/
structure PdPort where
  seq : Nat
  busy : Bool
  t1 : Option Nat
  resp : Option (Int × Nat)
  missed : Option Nat
  /-- t3 and t4 of the exchange completed last -/
  last : Option (Int × Nat)
  deriving DecidableEq, Repr

/-- The Sync received last on an instance whose Follow_Up is awaited: number, stamp, correction in 2⁻¹⁶ ns. -/
structure SyncIn where
  seq : Nat
  stamp : Nat
  corr : Int
  deriving DecidableEq, Repr

/-- What a relayed Follow_Up carries: origin in ns, correction in 2⁻¹⁶ ns, cumulativeScaledRateOffset, and the stamp at
which the Sync came in with the link delay of its port. -/
structure FollowUp where
  origin : Nat
  corr : Int
  rate : Int
  stamp : Nat
  delay : Nat
  deriving DecidableEq, Repr

/-- A Sync sent by the engine: instance, port, number; `gm`: originated here; `rx`: number of the Sync it relays; its
transmit stamp and, for a relayed one, what its Follow_Up carries. -/
structure SyncOut where
  inst : Nat
  port : Nat
  seq : Nat
  gm : Bool
  rx : Nat
  tx : Option Nat
  info : Option FollowUp
  deriving DecidableEq, Repr

/-- A pulse output: START, PERIOD and WIDTH as latched, the next edge, and the end of the pulse (R353). -/
structure PpsOut where
  start : Nat
  period : Nat
  width : Nat
  next : Option Nat
  closes : Option Nat
  deriving DecidableEq, Repr

/-- An armed slot: AT, ADDR and DATA as latched, and whether it is late (R356). -/
structure Slot where
  at_ : Nat
  addr : Nat
  data : Nat
  late : Bool
  /-- the CLK_SYS cycle at which it became due -/
  due : Option Nat
  deriving DecidableEq, Repr

/-- The TIME block: what its registers do not hold. -/
structure Timed where
  /-- the servo's counter n (R343) -/
  n : Nat
  /-- samples that the servo has still to take -/
  samples : List Int
  /-- host steps that wait for their tick, with FORCE (R345) -/
  steps : List (Int × Bool)
  /-- capture FIFOs, number and stamp of each record, and the number of the next capture (R355) -/
  caps : List (Nat × List (Nat × Nat))
  capSeq : List (Nat × Nat)
  outs : List (Nat × PpsOut)
  slots : List (Nat × Slot)
  pd : List (Nat × PdPort)
  syncIn : List (Nat × SyncIn)
  syncOut : List SyncOut
  /-- number of the next Sync by instance -/
  syncSeq : List (Nat × Nat)
  deriving DecidableEq, Repr

/-! ### The Kiln and the cipher engine (Chapter 12) -/

/-- A secret held as a pair: secret xor mask, mask (R365). -/
structure Masked where
  share : Bytes
  mask : Bytes
  deriving DecidableEq, Repr

/-- A checked shadow with the TYPE and USAGE it will bring (R372). -/
structure ShadowKey where
  key : Masked
  typ : Nat
  usage : Nat
  deriving DecidableEq, Repr

/-- The secrets of a working key slot (R368); its attributes stand in SLOT_ATTR. -/
structure KeySlot where
  key : Option Masked
  shadow : Option ShadowKey
  aux : Option Masked
  deriving DecidableEq, Repr

/-- A Kiln command in progress: CMD, KEY_ATTR and KCV_EXP as it started (R371). -/
structure KilnCmd where
  word : Nat
  attr : Nat
  kcv : Nat
  /-- KEY_STAGE and STAGE_STS.WORDS as GO found them -/
  stage : List Nat
  words : Nat
  deriving DecidableEq, Repr

/-- A Block unit operation: BLK_CMD and BLK_LEN as it started, and the key that it took then, with TYPE and USAGE
(R384). -/
structure BlockJob where
  word : Nat
  len : Nat
  key : Option (Nat × Nat × Masked)
  deriving DecidableEq, Repr

/-- The alarm's states (Table 12-9). -/
inductive AlarmState | normal | erasing | alarm | restoring
  deriving DecidableEq, Repr

/-- The Kiln and the Block unit. -/
structure Kiln where
  slots : List (Nat × KeySlot)
  /-- the device KEK and the identity scalar (Table 12-3) -/
  kek : Option Masked
  scalar : Option Masked
  /-- KEY_STAGE and WRAP_C0 -/
  stage : List Nat
  c0 : Nat
  cmd : Option KilnCmd
  /-- the timed commit that is armed: slot, instant (R374) -/
  at_ : Option (Nat × Nat)
  /-- the operation of the Block unit in progress -/
  block : Option BlockJob
  alarm : AlarmState
  /-- CLK_SYS cycle of the last state parity error (R387) -/
  lastParity : Option Nat
  /-- a lifecycle advance has been programmed since reset (R360) -/
  advanced : Bool
  /-- next entry of the mask sweep in progress (R365) -/
  sweep : Option Nat
  /-- DRBG requests since it was last seeded (R375) -/
  draws : Nat
  /-- the 2,048 fuse bits (Table 12-2) -/
  fuses : Nat
  /-- key and counter of the CTR_DRBG (R375) -/
  drbg : Bytes × Bytes
  /-- RMA_NONCE has been drawn since PD3 was switched on (R367) -/
  nonced : Bool
  /-- useful blocks since the last dummy block, by pipeline (R390) -/
  useful : List (Nat × Nat)
  deriving DecidableEq, Repr

/-- What the block has sent to the outside. -/
inductive Out
  /-- An MSI-X message: H port, vector (R73). -/
  | msix (h vector : Nat)
  /-- Words returned by a read, the first address first. -/
  | readData (words : List Nat)
  /-- A BAR0 read completed with Unsupported Request (R42). -/
  | unsupportedRequest
  /-- The HSPI status byte (R66). -/
  | hspiStatus (b : Nat)
  /-- A frame sent on E port n, DA to FCS as it left, with its transmit stamp (R188, R197). -/
  | ethTx (n : Nat) (bytes : Bytes) (stamp : Nat)
  /-- A frame sent on T1S segment n (R202). -/
  | t1sTx (n : Nat) (bytes : Bytes)
  /-- A Jalden frame sent on lane n: TYPE, CLASS, SEQ, ACK, CREDIT_P, CREDIT_NP, payload, and the whole of it from
  header to CRC-32 (R268, Table 8-10). -/
  | jalden (n typ cls seq ack creditP creditNp : Nat) (payload wire : Bytes)
  /-- A CAN frame sent on Cn from an object (R221). -/
  | canTx (n obj : Nat) (f : CanFrame)
  /-- Bytes that a LIN channel drives after the sync byte: a commander's protected identifier, then the response bytes
  that it sends (R233, R234). -/
  | linTx (n : Nat) (bytes : Bytes)
  /-- The wake-up signal of a LIN channel (R240). -/
  | linWake (n : Nat)
  /-- What the TAP captures into its data register, which shifts out on TDO: bits, value (R507 to R510). -/
  | tdo (bits value : Nat)
  /-- A DMA write to host memory of an H port (R127). -/
  | hostWrite (h addr : Nat) (bytes : Bytes)
  deriving DecidableEq, Repr

/-- The HSPI target (R65 to R68, Table 2-8). -/
structure Hspi where
  /-- buffered write words, oldest first: address, data, and whether the word begins an aligned line of 64 bytes that
  its transaction covers (R306) -/
  buf : List (Nat × Nat × Bool)
  tmo : Bool
  partialWord : Bool
  addrErr : Bool
  wrDrop : Bool
  deriving DecidableEq, Repr

/-- The machine. -/
structure State where
  /-- the grade (R1, R5), never written by a step -/
  grade : Grade
  /-- register words by BAR0 offset, those that differ from their reset words -/
  regs : List (Nat × Word)
  /-- bytes of the BAR2 tables and memories by BAR2 offset -/
  bar2 : List Host.Cell
  /-- bytes of LPDDR4X -/
  ddr : List Host.Cell
  /-- bytes of the external flash -/
  flash : List Host.Cell
  /-- page states by page base -/
  pages : List (Nat × PageState)
  /-- bases of the pages that have entered RUN since they had power (R503) -/
  ran : List Nat
  /-- the 92-bit time count of R337 -/
  time : BitVec 92
  /-- the event log, oldest first (R69, R77) -/
  log : List LogRec
  /-- bit g: group g is armed (R73) -/
  armed : Nat
  /-- MSI-X vectors that are masked, and those whose message is pending, by 64·h + vector (R73; log entry 122) -/
  msixMask : List Nat
  msixPend : List Nat
  hspi : Hspi
  cask : Cask
  fab : Fabric
  egress : List (Nat × Egress)
  hostQ : List (Nat × HostQueue)
  fwd : Fwd
  ports : List (Nat × EPort)
  segs : List (Nat × Segment)
  can : List (Nat × CanCh)
  lin : List (Nat × LinCh)
  brg : Bridge
  jal : Jalden
  sig : Sig
  clusters : List (Nat × Cluster)
  cores : List (Nat × KCore)
  units : List (Nat × CrcUnit)
  /-- BAR2 offsets of the Kettle memory words that are uncorrectable (R330) -/
  ktlBad : List Nat
  /-- LPDDR4X lines that are uncorrectable (R306) -/
  ddrBad : List Nat
  tap : Tap
  timed : Timed
  power : Power
  nm : List (Nat × NmInst)
  kiln : Kiln
  sup : Sup
  rack : Rack
  guard : Guard
  jtag : Jtag
  /-- CLK_SYS cycles since reset -/
  cycles : Nat
  /-- the die-to-die link has been declared lost (R14) -/
  dieLost : Bool
  /-- degraded requests not yet granted: cause, domains (R465, R466) -/
  degPend : List (Nat × Nat)
  out : List Out
  /-- the model's own counter of free values taken (log entry 2) -/
  freeCount : Nat
  /-- commands waiting, first in first out -/
  pending : List Instr
  deriving DecidableEq, Repr

/-- The state right after reset. -/
def State.reset : State where
  grade := .tvx6480
  regs := []
  bar2 := []
  ddr := []
  flash := []
  pages := []
  ran := []
  time := 0
  log := []
  armed := 0xFFFF
  msixMask := []
  msixPend := []
  hspi := ⟨[], false, false, false, false⟩
  cask := ⟨[], 0, [], 0, 0, false, 0, none, 0, 0, none, none⟩
  sup := ⟨.off, 0, 4096, [], none, none, 0, none, none, none, 0, false, [], 0⟩
  rack := ⟨0, [], 0, [], [], none, [], false, 0, false, false, 0, 0, 0, [], false, []⟩
  guard := ⟨[], [], none⟩
  jtag := ⟨0x02, 0, false, false, 0, 0, 0, 0, 0⟩
  fab := ⟨[], [], [], [], [], 1, [], [], [], [], [], [], [], 0, false⟩
  degPend := []
  egress := []
  hostQ := []
  fwd := ⟨[], [], [], 0, .none, [], [], [], [], []⟩
  ports := []
  segs := []
  can := []
  lin := []
  jal := ⟨[], none, 0, []⟩
  sig := ⟨.none, none, none, 0, 0, [], [], [], [], [], [], [], [], [], [], [], [], [], []⟩
  clusters := []
  cores := []
  units := []
  ktlBad := []
  ddrBad := []
  tap := ⟨0, none, []⟩
  timed := ⟨0, [], [], [], [], [], [], [], [], [], []⟩
  power := ⟨false, false, false, none, 0, 0, false, false, [], [], false, 0, false⟩
  nm := []
  brg := ⟨[], .none, none, [], [], []⟩
  kiln := ⟨[], none, none, List.replicate 8 0, 0, none, none, none, .normal, none, false, none, 0, 0, ([], []), false, []⟩
  cycles := 0
  dieLost := false
  out := []
  freeCount := 0
  pending := []

end Sys2Proof.Machine
end

