-- ==== Sys2Proof/Machine/Store.lean ====
section
/-! DEFINITION. The canonical sparse store: a list of (key, value) pairs with keys strictly rising and no value equal
to what an unlisted key reads as. `d` gives the value of an unlisted key. -/

namespace Sys2Proof.Machine

/-- The value at a key. -/
def look {α : Type} (d : Nat → α) : List (Nat × α) → Nat → α
  | [], k => d k
  | (a, v) :: l, k => if a = k then v else look d l k

/-- Writes the value at a key, keeping the canonical form. -/
def put {α : Type} [DecidableEq α] (d : Nat → α) : List (Nat × α) → Nat → α → List (Nat × α)
  | [], k, v => if v = d k then [] else [(k, v)]
  | (a, w) :: l, k, v =>
    if k < a then (if v = d k then (a, w) :: l else (k, v) :: (a, w) :: l)
    else if k = a then (if v = d k then l else (k, v) :: l)
    else (a, w) :: put d l k v

/-- The canonical form, above a lower bound for the keys. -/
def storeWfFrom {α : Type} [DecidableEq α] (d : Nat → α) : Nat → List (Nat × α) → Bool
  | _, [] => true
  | lo, (a, v) :: l => lo ≤ a && v ≠ d a && storeWfFrom d (a + 1) l

/-- The canonical form: keys strictly rising, no entry equal to what an unlisted key reads as. -/
def storeWf {α : Type} [DecidableEq α] (d : Nat → α) (l : List (Nat × α)) : Bool := storeWfFrom d 0 l

end Sys2Proof.Machine
end

