-- ==== Sys2Proof/Machine/Fields.lean ====
section
/-! DEFINITION. The registers and fields that the meanings name, as offset and bits: F.<page kind>_<register>_<field>
for a field, F.<page kind>_<register> for a whole register. Every line is a row of the register tables that
RegTable.lean transcribes; an array's other elements are reached with Fld.at. -/

namespace Sys2Proof.Machine

def F.sys_BUS_TMO_TMO_CYC : Fld := ⟨0x40, 15, 0⟩
def F.sys_BUS_ERR_REJ_CNT : Fld := ⟨0x44, 23, 16⟩
def F.sys_BUS_ERR_TMO_CNT : Fld := ⟨0x44, 7, 0⟩
def F.sys_BUS_ERR_ADDR_OFFSET : Fld := ⟨0x48, 25, 0⟩
def F.evt_GRP_ROUTE_PIN : Fld := ⟨0x40, 17, 16⟩
def F.evt_GRP_ROUTE_VECTOR : Fld := ⟨0x40, 13, 8⟩
def F.evt_GRP_ROUTE_TARGET : Fld := ⟨0x40, 1, 0⟩
def F.evt_GRP_SUM_SUM : Fld := ⟨0x80, 15, 0⟩
def F.evt_LOG_CTL_THRESH : Fld := ⟨0x88, 26, 16⟩
def F.evt_LOG_CTL_LOG_EN : Fld := ⟨0x88, 0, 0⟩
def F.evt_LOG_STS_OVF : Fld := ⟨0x8C, 16, 16⟩
def F.evt_LOG_LOST_LOST : Fld := ⟨0x90, 31, 0⟩
def F.evt_LOG_LOST : Fld := ⟨0x90, 31, 0⟩
def F.evt_LOG_LAST_LAST : Fld := ⟨0x98, 31, 0⟩
def F.evt_LOG_STAMP_STAMP : Fld := ⟨0x9C, 31, 0⟩
def F.fabGlobal_ROUND_ROUND : Fld := ⟨0x40, 31, 0⟩
def F.fabGlobal_PHASE_PHASE : Fld := ⟨0x44, 4, 0⟩
def F.fabGlobal_FLUSH_HOLD_GRP : Fld := ⟨0x48, 19, 16⟩
def F.fabGlobal_PIN_CLASS_MASK : Fld := ⟨0x4C, 7, 0⟩
def F.fabGlobal_PIN_SEED_SEED : Fld := ⟨0x50, 31, 0⟩
def F.fabGlobal_RESEED_CTL_PEND_CLASS : Fld := ⟨0x54, 15, 8⟩
def F.fabGlobal_RESEED_CTL_AUTO : Fld := ⟨0x54, 0, 0⟩
def F.fabGlobal_HOT_CTL_THRESH : Fld := ⟨0x58, 14, 0⟩
def F.fabGlobal_RESEED_CNT_ABANDON : Fld := ⟨0x5C, 31, 16⟩
def F.fabGlobal_RESEED_CNT_DONE : Fld := ⟨0x5C, 15, 0⟩
def F.fabGlobal_SEED_APPLIED_OUT : Fld := ⟨0x60, 23, 0⟩
def F.fabGlobal_ACTIVE_GROUP_SIZE : Fld := ⟨0x80, 12, 8⟩
def F.fabGlobal_ACTIVE_SLICES : Fld := ⟨0x80, 7, 0⟩
def F.fabGlobal_FRER_HALF_HALF_B : Fld := ⟨0x84, 15, 8⟩
def F.fabGlobal_FRER_HALF_HALF_A : Fld := ⟨0x84, 7, 0⟩
def F.fabGlobal_ADM_GUARD_GUARD : Fld := ⟨0x88, 15, 0⟩
def F.fabGlobal_HOT_POS_VALID : Fld := ⟨0x8C, 5, 5⟩
def F.fabGlobal_HOT_POS_POS : Fld := ⟨0x8C, 4, 0⟩
def F.fabGlobal_ADM_CLASS_LIMIT : Fld := ⟨0x90, 18, 0⟩
def F.fabSlice_SLICE_CTL_AUTO_SKIP : Fld := ⟨0x40, 1, 1⟩
def F.fabSlice_SLICE_CTL_SKIP : Fld := ⟨0x40, 0, 0⟩
def F.fabSlice_SLICE_STS_BY_FAULT : Fld := ⟨0x44, 3, 3⟩
def F.fabSlice_SLICE_STS_STATE : Fld := ⟨0x44, 2, 0⟩
def F.fabSlice_FREE_CELLS_COUNT : Fld := ⟨0x48, 15, 0⟩
def F.fabSlice_FREE_ENTRIES_COUNT : Fld := ⟨0x4C, 16, 0⟩
def F.fabSlice_ECC_CORR_COUNT : Fld := ⟨0x50, 31, 0⟩
def F.fabSlice_ECC_UNCORR_COUNT : Fld := ⟨0x54, 31, 0⟩
def F.fabSlice_ESC_CTL_WINDOW_MS : Fld := ⟨0x58, 31, 16⟩
def F.fabSlice_ESC_CTL_LIMIT : Fld := ⟨0x58, 7, 0⟩
def F.fabSlice_POS_OCC_COUNT : Fld := ⟨0x5C, 15, 0⟩
def F.fabSlice_LOST_CELLS_COUNT : Fld := ⟨0x68, 31, 0⟩
def F.fabSlice_DROP_NOBUF_COUNT : Fld := ⟨0x6C, 31, 0⟩
def F.fabPort_STORE_OCC_PEAK : Fld := ⟨0x40, 28, 16⟩
def F.fabPort_STORE_OCC_LEVEL : Fld := ⟨0x40, 12, 0⟩
def F.fabPort_CELLS_IN_COUNT : Fld := ⟨0x44, 31, 0⟩
def F.fabPort_CELLS_OUT_COUNT : Fld := ⟨0x48, 31, 0⟩
def F.fabPort_GROUPS_FULL_COUNT : Fld := ⟨0x4C, 31, 0⟩
def F.fabPort_GROUPS_FLUSH_COUNT : Fld := ⟨0x50, 31, 0⟩
def F.fabPort_DROP_ADM_COUNT : Fld := ⟨0x54, 31, 0⟩
def F.fabPort_DROP_SPREAD_COUNT : Fld := ⟨0x58, 31, 0⟩
def F.fabPort_LOST_FRAMES_COUNT : Fld := ⟨0x5C, 31, 0⟩
def F.fabPort_OUT_OCC_COUNT : Fld := ⟨0x64, 18, 0⟩
def F.fabPort_OUT_GROUPS_COUNT : Fld := ⟨0x84, 11, 0⟩
def F.hostGlobal_PROT_MODE_NEXT : Fld := ⟨0x40, 8, 8⟩
def F.hostGlobal_PROT_MODE : Fld := ⟨0x40, 0, 0⟩
def F.hostGlobal_ECC_CORR_COUNT : Fld := ⟨0x44, 31, 0⟩
def F.hostGlobal_ECC_UNCORR_COUNT : Fld := ⟨0x48, 31, 0⟩
def F.hostGlobal_PTR_ERR_CORR : Fld := ⟨0x4C, 31, 16⟩
def F.hostGlobal_PTR_ERR_FLUSH : Fld := ⟨0x4C, 15, 0⟩
def F.hostGlobal_MISROUTE_COUNT : Fld := ⟨0x50, 31, 0⟩
def F.hostGlobal_LINK_H1_UP : Fld := ⟨0x54, 24, 24⟩
def F.hostGlobal_LINK_H1_GEN : Fld := ⟨0x54, 23, 20⟩
def F.hostGlobal_LINK_H1_WIDTH : Fld := ⟨0x54, 19, 16⟩
def F.hostGlobal_LINK_H0_UP : Fld := ⟨0x54, 8, 8⟩
def F.hostGlobal_LINK_H0_GEN : Fld := ⟨0x54, 7, 4⟩
def F.hostGlobal_LINK_H0_WIDTH : Fld := ⟨0x54, 3, 0⟩
def F.hostQueue_Q_CFG_SIZE_LOG2 : Fld := ⟨0x100, 20, 16⟩
def F.hostQueue_Q_CFG_HPORT : Fld := ⟨0x100, 2, 2⟩
def F.hostQueue_Q_CFG_FORMAT : Fld := ⟨0x100, 1, 1⟩
def F.hostQueue_Q_CTL_RUN : Fld := ⟨0x104, 0, 0⟩
def F.hostQueue_BASE_LO_ADDR : Fld := ⟨0x108, 31, 0⟩
def F.hostQueue_BASE_HI_ADDR : Fld := ⟨0x10C, 31, 0⟩
def F.hostQueue_TAIL_INDEX : Fld := ⟨0x110, 31, 0⟩
def F.hostQueue_HEAD_INDEX : Fld := ⟨0x114, 31, 0⟩
def F.hostQueue_WB_LO_ADDR : Fld := ⟨0x118, 31, 0⟩
def F.hostQueue_WB_HI_ADDR : Fld := ⟨0x11C, 31, 0⟩
def F.hostQueue_IRQ_TIME_US : Fld := ⟨0x120, 31, 16⟩
def F.hostQueue_IRQ_FRAMES : Fld := ⟨0x120, 15, 0⟩
def F.hostQueue_BUF_LEN_LEN : Fld := ⟨0x124, 14, 0⟩
def F.hostQueue_STS_REASON : Fld := ⟨0x128, 3, 1⟩
def F.hostQueue_STS_STOPPED : Fld := ⟨0x128, 0, 0⟩
def F.hostQueue_FRAMES_COUNT : Fld := ⟨0x12C, 31, 0⟩
def F.hostQueue_DROPS_REWIND : Fld := ⟨0x130, 31, 16⟩
def F.hostQueue_DROPS_NOBUF : Fld := ⟨0x130, 15, 0⟩
def F.hostEgress_EG_CTL_LEN_AWARE : Fld := ⟨0x40, 16, 16⟩
def F.hostEgress_EG_CTL_CT_LEAD : Fld := ⟨0x40, 15, 8⟩
def F.hostEgress_EG_CTL_CT_EN : Fld := ⟨0x40, 0, 0⟩
def F.hostEgress_EG_BUF_LEVEL : Fld := ⟨0x44, 28, 16⟩
def F.hostEgress_EG_BUF_XOFF : Fld := ⟨0x44, 12, 0⟩
def F.hostEgress_EQ_LEVEL : Fld := ⟨0x48, 28, 16⟩
def F.hostEgress_EQ_LIMIT : Fld := ⟨0x48, 12, 0⟩
def F.hostEgress_EG_DROP_COUNT : Fld := ⟨0x68, 31, 0⟩
def F.hostEgress_CT_END_UNDERRUN : Fld := ⟨0x88, 31, 16⟩
def F.hostEgress_CT_END_BAD : Fld := ⟨0x88, 15, 0⟩
def F.hostEgress_CBS_EN_MASK : Fld := ⟨0x90, 7, 0⟩
def F.hostEgress_IDLE_SLOPE_KBPS : Fld := ⟨0x94, 23, 0⟩
def F.hostEgress_CREDIT_BITS : Fld := ⟨0xB4, 31, 0⟩
def F.hostEgress_GATE_CTL_ADMIN_LEN : Fld := ⟨0x100, 24, 16⟩
def F.hostEgress_GATE_CTL_GATE_EN : Fld := ⟨0x100, 0, 0⟩
def F.hostEgress_ADMIN_BASE_LO_NS : Fld := ⟨0x104, 31, 0⟩
def F.hostEgress_ADMIN_BASE_HI_NS : Fld := ⟨0x108, 31, 0⟩
def F.hostEgress_ADMIN_CYCLE_NS : Fld := ⟨0x10C, 31, 0⟩
def F.hostEgress_ADMIN_EXT_NS : Fld := ⟨0x110, 23, 0⟩
def F.hostEgress_GATE_STS_GATES : Fld := ⟨0x114, 23, 16⟩
def F.hostEgress_GATE_STS_ENTRY : Fld := ⟨0x114, 15, 8⟩
def F.hostEgress_GATE_STS_OPER : Fld := ⟨0x114, 1, 1⟩
def F.hostEgress_GATE_STS_PEND : Fld := ⟨0x114, 0, 0⟩
def F.hostEgress_GATE_CNT_HOLD : Fld := ⟨0x118, 31, 16⟩
def F.hostEgress_GATE_CNT_STEP : Fld := ⟨0x118, 15, 0⟩
def F.hostEgress_OPER_CYCLE_NS : Fld := ⟨0x11C, 31, 0⟩
def F.hostEgress_ADMIN_LIST_GATES : Fld := ⟨0x400, 31, 24⟩
def F.hostEgress_ADMIN_LIST_INTERVAL : Fld := ⟨0x400, 23, 0⟩
def F.hostEgress_OPER_LIST_ENTRY : Fld := ⟨0x800, 31, 0⟩
def F.pipe_FDB_SEED_SEED : Fld := ⟨0x40, 31, 0⟩
def F.pipe_AGE_CTL_AGE_EN : Fld := ⟨0x44, 16, 16⟩
def F.pipe_MOVE_CTL_WIN_MS : Fld := ⟨0x48, 31, 16⟩
def F.pipe_MOVE_CTL_LIMIT : Fld := ⟨0x48, 3, 0⟩
def F.pipe_FDB_FLUSH_BUSY : Fld := ⟨0x4C, 30, 30⟩
def F.pipe_FDB_FLUSH_STATIC : Fld := ⟨0x4C, 29, 29⟩
def F.pipe_FDB_FLUSH_BY_PORT : Fld := ⟨0x4C, 28, 28⟩
def F.pipe_FDB_FLUSH_BY_FID : Fld := ⟨0x4C, 27, 27⟩
def F.pipe_FDB_FLUSH_PORT : Fld := ⟨0x4C, 20, 16⟩
def F.pipe_FDB_FLUSH_FID : Fld := ⟨0x4C, 11, 0⟩
def F.pipe_LEARN_STS_LEVEL : Fld := ⟨0x50, 6, 0⟩
def F.pipe_LAST_PIN_VALID : Fld := ⟨0x54, 31, 31⟩
def F.pipe_LAST_PIN_CAM : Fld := ⟨0x54, 14, 14⟩
def F.pipe_LAST_PIN_WHERE : Fld := ⟨0x54, 13, 0⟩
def F.pipe_LOOKUPS_COUNT : Fld := ⟨0x58, 31, 0⟩
def F.pipe_FLOODED_COUNT : Fld := ⟨0x5C, 31, 0⟩
def F.pipe_LEARNED_COUNT : Fld := ⟨0x60, 31, 0⟩
def F.pipe_MOVES_COUNT : Fld := ⟨0x64, 31, 0⟩
def F.pipe_PINNED_COUNT : Fld := ⟨0x68, 31, 0⟩
def F.pipe_PIN_HITS_COUNT : Fld := ⟨0x6C, 31, 0⟩
def F.pipe_AGED_COUNT : Fld := ⟨0x70, 31, 0⟩
def F.pipe_LEARN_DROP_COUNT : Fld := ⟨0x74, 31, 0⟩
def F.pipe_LEARN_FULL_COUNT : Fld := ⟨0x78, 31, 0⟩
def F.pipe_PARITY_COUNT : Fld := ⟨0x7C, 31, 0⟩
def F.pipe_LOCKSTEP_COUNT : Fld := ⟨0x80, 31, 0⟩
def F.pipe_STAGE_LOST_COUNT : Fld := ⟨0x84, 31, 0⟩
def F.pipe_DROP_COUNT : Fld := ⟨0xA0, 31, 0⟩
def F.pipeShared_STREAM_BANK_EPOCH : Fld := ⟨0x40, 10, 8⟩
def F.pipeShared_STREAM_BANK_LATE : Fld := ⟨0x40, 3, 3⟩
def F.pipeShared_STREAM_BANK_FLIP_PEND : Fld := ⟨0x40, 2, 2⟩
def F.pipeShared_STREAM_BANK_DRAINING : Fld := ⟨0x40, 1, 1⟩
def F.pipeShared_STREAM_BANK_FG : Fld := ⟨0x40, 0, 0⟩
def F.pipeShared_FLIP_AT_LO_NS : Fld := ⟨0x48, 31, 0⟩
def F.pipeShared_FLIP_AT_HI_NS : Fld := ⟨0x4C, 31, 0⟩
def F.pipeShared_BANK_SEED_SEED : Fld := ⟨0x50, 31, 0⟩
def F.pipeShared_BANK_IPMASK_MASK : Fld := ⟨0x58, 7, 0⟩
def F.pipeShared_FLOW_SEED_SEED : Fld := ⟨0x60, 31, 0⟩
def F.pipeShared_TPID_ALT_TPID : Fld := ⟨0x64, 15, 0⟩
def F.pipeShared_TRAP_TC : Fld := ⟨0x68, 18, 16⟩
def F.pipeShared_TRAP_MASK : Fld := ⟨0x68, 15, 0⟩
def F.pipeShared_HQ_MAP_QUEUE : Fld := ⟨0x70, 5, 0⟩
def F.pipeShared_BANK_WR_REJ_COUNT : Fld := ⟨0xB0, 31, 0⟩
def F.pipeShared_EVT_IDX_A_LAST_RED : Fld := ⟨0xB8, 27, 16⟩
def F.pipeShared_EVT_IDX_A_LAST_BLOCK : Fld := ⟨0xB8, 11, 0⟩
def F.pipeShared_EVT_IDX_B_LAST_RESET : Fld := ⟨0xBC, 25, 16⟩
def F.pipeShared_EVT_IDX_B_LAST_ROGUE : Fld := ⟨0xBC, 9, 0⟩
def F.pipeShared_PORT_VLAN_ACCEPT : Fld := ⟨0x100, 17, 16⟩
def F.pipeShared_PORT_VLAN_DEF_PCP : Fld := ⟨0x100, 14, 12⟩
def F.pipeShared_PORT_VLAN_PVID : Fld := ⟨0x100, 11, 0⟩
def F.pipeShared_PORT_CTL_PORT_TYPE : Fld := ⟨0x104, 7, 7⟩
def F.pipeShared_PORT_CTL_TRUST_PCP : Fld := ⟨0x104, 6, 6⟩
def F.pipeShared_PORT_CTL_SID_EN : Fld := ⟨0x104, 5, 5⟩
def F.pipeShared_PORT_CTL_HAIRPIN : Fld := ⟨0x104, 4, 4⟩
def F.pipeShared_PORT_CTL_MIRROR_OUT : Fld := ⟨0x104, 3, 3⟩
def F.pipeShared_PORT_CTL_MIRROR_IN : Fld := ⟨0x104, 2, 2⟩
def F.pipeShared_PORT_CTL_INGRESS_FILTER : Fld := ⟨0x104, 1, 1⟩
def F.pipeShared_PORT_CTL_LEARN : Fld := ⟨0x104, 0, 0⟩
def F.pipeShared_PCP_MAP_MAP : Fld := ⟨0x108, 23, 0⟩
def F.pipeShared_PORT_BLK_BLOCK : Fld := ⟨0x10C, 0, 0⟩
def F.emac_LANE_CFG_FORCE_SPEED : Fld := ⟨0x40, 10, 8⟩
def F.emac_LANE_CFG_RX_INV : Fld := ⟨0x40, 6, 6⟩
def F.emac_LANE_CFG_TX_INV : Fld := ⟨0x40, 5, 5⟩
def F.emac_LANE_CFG_AN_EN : Fld := ⟨0x40, 4, 4⟩
def F.emac_LANE_CFG_MODE : Fld := ⟨0x40, 3, 0⟩
def F.emac_LINK_STS_SPEED : Fld := ⟨0x44, 10, 8⟩
def F.emac_LINK_STS_TX_LPI : Fld := ⟨0x44, 4, 4⟩
def F.emac_LINK_STS_RX_LPI : Fld := ⟨0x44, 3, 3⟩
def F.emac_LINK_STS_BLOCK_LOCK : Fld := ⟨0x44, 2, 2⟩
def F.emac_LINK_STS_AN_DONE : Fld := ⟨0x44, 1, 1⟩
def F.emac_LINK_STS_LINK : Fld := ⟨0x44, 0, 0⟩
def F.emac_MAX_LEN_BYTES : Fld := ⟨0x48, 13, 0⟩
def F.emac_RX_CTL_CAP_Q : Fld := ⟨0x4C, 21, 16⟩
def F.emac_RX_CTL_CAP_TC : Fld := ⟨0x4C, 10, 8⟩
def F.emac_RX_CTL_KEEP_BAD : Fld := ⟨0x4C, 1, 1⟩
def F.emac_RX_CTL_CAPTURE : Fld := ⟨0x4C, 0, 0⟩
def F.emac_TAG_CTL_TPID_SEL : Fld := ⟨0x50, 2, 1⟩
def F.emac_TAG_CTL_PUSH : Fld := ⟨0x50, 0, 0⟩
def F.emac_TX_PCP_MAP_MAP : Fld := ⟨0x54, 23, 0⟩
def F.emac_TS_LAT_TX_LAT : Fld := ⟨0x58, 31, 16⟩
def F.emac_TS_LAT_RX_LAT : Fld := ⟨0x58, 15, 0⟩
def F.emac_TS_CTL_STAMP_EN : Fld := ⟨0x5C, 0, 0⟩
def F.emac_TS_POP_LAST_LAST : Fld := ⟨0x64, 31, 0⟩
def F.emac_TS_STAMP_STAMP : Fld := ⟨0x68, 31, 0⟩
def F.emac_TS_LEVEL_LOST : Fld := ⟨0x6C, 31, 16⟩
def F.emac_TS_LEVEL_LEVEL : Fld := ⟨0x6C, 4, 0⟩
def F.emac_EEE_CTL_LPI_EN : Fld := ⟨0x70, 31, 31⟩
def F.emac_RX_GOOD_COUNT : Fld := ⟨0x80, 31, 0⟩
def F.emac_RX_RUNT_COUNT : Fld := ⟨0x84, 31, 0⟩
def F.emac_RX_FCS_ERR_COUNT : Fld := ⟨0x88, 31, 0⟩
def F.emac_RX_OVERSIZE_COUNT : Fld := ⟨0x8C, 31, 0⟩
def F.emac_RX_CODE_ERR_COUNT : Fld := ⟨0x90, 31, 0⟩
def F.emac_RX_BUF_DROP_COUNT : Fld := ⟨0x94, 31, 0⟩
def F.emac_TX_GOOD_COUNT : Fld := ⟨0x98, 31, 0⟩
def F.emac_TX_OVERSIZE_COUNT : Fld := ⟨0x9C, 31, 0⟩
def F.emac_TX_PAD_COUNT : Fld := ⟨0xA0, 31, 0⟩
def F.emac_TX_ABORT_COUNT : Fld := ⟨0xA4, 31, 0⟩
def F.emac_TX_BAD_FCS_COUNT : Fld := ⟨0xA8, 31, 0⟩
def F.emac_LPI_ENTRIES_COUNT : Fld := ⟨0xAC, 31, 0⟩
def F.emac_LPI_WAKE_DELAYED : Fld := ⟨0xB0, 31, 0⟩
def F.emac_RX_OCTETS_LO_COUNT : Fld := ⟨0xB4, 31, 0⟩
def F.emac_RX_OCTETS_HI_COUNT : Fld := ⟨0xB8, 31, 0⟩
def F.emac_TX_OCTETS_LO_COUNT : Fld := ⟨0xBC, 31, 0⟩
def F.emac_TX_OCTETS_HI_COUNT : Fld := ⟨0xC0, 31, 0⟩
def F.macsec_SECY_CTL_RX_EN : Fld := ⟨0x40, 13, 13⟩
def F.macsec_SECY_CTL_TX_EN : Fld := ⟨0x40, 12, 12⟩
def F.macsec_SECY_CTL_CONF_OFFSET : Fld := ⟨0x40, 11, 10⟩
def F.macsec_SECY_CTL_SUITE : Fld := ⟨0x40, 9, 8⟩
def F.macsec_SECY_CTL_VALIDATE : Fld := ⟨0x40, 7, 6⟩
def F.macsec_SECY_CTL_REPLAY_PROTECT : Fld := ⟨0x40, 5, 5⟩
def F.macsec_SECY_CTL_USE_SCB : Fld := ⟨0x40, 4, 4⟩
def F.macsec_SECY_CTL_USE_ES : Fld := ⟨0x40, 3, 3⟩
def F.macsec_SECY_CTL_INCLUDE_SCI : Fld := ⟨0x40, 2, 2⟩
def F.macsec_SECY_CTL_CONF : Fld := ⟨0x40, 1, 1⟩
def F.macsec_SECY_CTL_PROTECT_FRAMES : Fld := ⟨0x40, 0, 0⟩
def F.macsec_REPLAY_WIN_WINDOW : Fld := ⟨0x44, 31, 0⟩
def F.macsec_TX_SCI_LO_SCI : Fld := ⟨0x48, 31, 0⟩
def F.macsec_TX_SCI_HI_SCI : Fld := ⟨0x4C, 31, 0⟩
def F.macsec_TX_CTL_ENC_AN : Fld := ⟨0x50, 1, 0⟩
def F.macsec_TX_SA_IN_USE : Fld := ⟨0x60, 31, 31⟩
def F.macsec_TX_SA_KEY_SLOT : Fld := ⟨0x60, 9, 0⟩
def F.macsec_TX_NEXT_PN_LO_PN : Fld := ⟨0x64, 31, 0⟩
def F.macsec_TX_NEXT_PN_HI_PN : Fld := ⟨0x68, 31, 0⟩
def F.macsec_OUT_PROTECTED_COUNT : Fld := ⟨0xA0, 31, 0⟩
def F.macsec_OUT_ENCRYPTED_COUNT : Fld := ⟨0xA4, 31, 0⟩
def F.macsec_OUT_UNTAGGED_COUNT : Fld := ⟨0xA8, 31, 0⟩
def F.macsec_OUT_NO_SA_COUNT : Fld := ⟨0xAC, 31, 0⟩
def F.macsec_OUT_TOO_LONG_COUNT : Fld := ⟨0xB0, 31, 0⟩
def F.macsec_IN_UNTAGGED_COUNT : Fld := ⟨0xB4, 31, 0⟩
def F.macsec_IN_NO_TAG_COUNT : Fld := ⟨0xB8, 31, 0⟩
def F.macsec_IN_BAD_TAG_COUNT : Fld := ⟨0xBC, 31, 0⟩
def F.macsec_IN_NO_SCI_COUNT : Fld := ⟨0xC0, 31, 0⟩
def F.macsec_IN_UNKNOWN_SCI_COUNT : Fld := ⟨0xC4, 31, 0⟩
def F.macsec_IN_OK_COUNT : Fld := ⟨0xC8, 31, 0⟩
def F.macsec_IN_UNCHECKED_COUNT : Fld := ⟨0xCC, 31, 0⟩
def F.macsec_IN_DELAYED_COUNT : Fld := ⟨0xD0, 31, 0⟩
def F.macsec_IN_LATE_COUNT : Fld := ⟨0xD4, 31, 0⟩
def F.macsec_IN_INVALID_COUNT : Fld := ⟨0xD8, 31, 0⟩
def F.macsec_IN_NOT_VALID_COUNT : Fld := ⟨0xDC, 31, 0⟩
def F.macsec_IN_NOT_USING_SA_COUNT : Fld := ⟨0xE0, 31, 0⟩
def F.macsec_IN_UNUSED_SA_COUNT : Fld := ⟨0xE4, 31, 0⟩
def F.macsec_RX_SCI_LO_SCI : Fld := ⟨0x800, 31, 0⟩
def F.macsec_RX_SCI_HI_SCI : Fld := ⟨0x804, 31, 0⟩
def F.macsec_RX_SC_CTL_VALID : Fld := ⟨0x808, 31, 31⟩
def F.macsec_RX_SA_IN_USE : Fld := ⟨0x810, 31, 31⟩
def F.macsec_RX_SA_KEY_SLOT : Fld := ⟨0x810, 9, 0⟩
def F.macsec_RX_LOWEST_PN_LO_PN : Fld := ⟨0x814, 31, 0⟩
def F.macsec_RX_LOWEST_PN_HI_PN : Fld := ⟨0x818, 31, 0⟩
def F.t1s_SEG_CTL_NODE_COUNT : Fld := ⟨0x40, 23, 16⟩
def F.t1s_SEG_CTL_LOCAL_ID : Fld := ⟨0x40, 15, 8⟩
def F.t1s_SEG_CTL_PLCA_EN : Fld := ⟨0x40, 0, 0⟩
def F.t1s_PLCA_TMR_BURST_TMR : Fld := ⟨0x44, 23, 16⟩
def F.t1s_PLCA_TMR_MAX_BC : Fld := ⟨0x44, 15, 8⟩
def F.t1s_PLCA_TMR_TO_TIMER : Fld := ⟨0x44, 7, 0⟩
def F.t1s_SEG_STS_COORD : Fld := ⟨0x48, 2, 2⟩
def F.t1s_SEG_STS_PLCA_OK : Fld := ⟨0x48, 1, 1⟩
def F.t1s_SEG_STS_PHY_OK : Fld := ⟨0x48, 0, 0⟩
def F.t1s_MAX_LEN_BYTES : Fld := ⟨0x4C, 13, 0⟩
def F.t1s_SEG_VLAN_UNTAG_TX : Fld := ⟨0x50, 15, 15⟩
def F.t1s_SEG_VLAN_DEF_PCP : Fld := ⟨0x50, 14, 12⟩
def F.t1s_SEG_VLAN_PVID : Fld := ⟨0x50, 11, 0⟩
def F.t1s_DISC_CTL_DISC_EN : Fld := ⟨0x54, 16, 16⟩
def F.t1s_TS_POP_LAST_LAST : Fld := ⟨0x5C, 31, 0⟩
def F.t1s_TS_STAMP_STAMP : Fld := ⟨0x60, 31, 0⟩
def F.t1s_RX_GOOD_COUNT : Fld := ⟨0x80, 31, 0⟩
def F.t1s_RX_RUNT_COUNT : Fld := ⟨0x84, 31, 0⟩
def F.t1s_RX_FCS_ERR_COUNT : Fld := ⟨0x88, 31, 0⟩
def F.t1s_RX_OVERSIZE_COUNT : Fld := ⟨0x8C, 31, 0⟩
def F.t1s_RX_CODE_ERR_COUNT : Fld := ⟨0x90, 31, 0⟩
def F.t1s_TX_GOOD_COUNT : Fld := ⟨0x94, 31, 0⟩
def F.t1s_COLLISIONS_COUNT : Fld := ⟨0x98, 31, 0⟩
def F.t1s_LATE_COLL_COUNT : Fld := ⟨0x9C, 31, 0⟩
def F.t1s_TX_ABORT_COUNT : Fld := ⟨0xA0, 31, 0⟩
def F.t1s_BEACON_LOST_COUNT : Fld := ⟨0xA4, 31, 0⟩
def F.t1s_DISC_FULL_COUNT : Fld := ⟨0xA8, 31, 0⟩
def F.t1s_DISC_VALID : Fld := ⟨0x100, 31, 31⟩
def F.t1s_DISC_NODE_ID : Fld := ⟨0x100, 7, 0⟩
def F.t1s_DISC_4_MAC_HI : Fld := ⟨0x104, 15, 0⟩
def F.t1s_DISC_8_MAC_LO : Fld := ⟨0x108, 31, 0⟩
def F.t1s_DISC_C_LAST_SEEN : Fld := ⟨0x10C, 31, 0⟩
def F.can_CTL_AUTO_RECOVER : Fld := ⟨0x40, 6, 6⟩
def F.can_CTL_PEX_EN : Fld := ⟨0x40, 5, 5⟩
def F.can_CTL_TMS : Fld := ⟨0x40, 4, 4⟩
def F.can_CTL_XL_EN : Fld := ⟨0x40, 3, 3⟩
def F.can_CTL_FD_EN : Fld := ⟨0x40, 2, 2⟩
def F.can_CTL_CLK80 : Fld := ⟨0x40, 0, 0⟩
def F.can_NBT_NBRP : Fld := ⟨0x44, 31, 24⟩
def F.can_NBT_NTSEG1 : Fld := ⟨0x44, 23, 16⟩
def F.can_NBT_NTSEG2 : Fld := ⟨0x44, 15, 9⟩
def F.can_DBT_BRP : Fld := ⟨0x48, 31, 27⟩
def F.can_DBT_TSEG1 : Fld := ⟨0x48, 26, 22⟩
def F.can_DBT_TSEG2 : Fld := ⟨0x48, 21, 18⟩
def F.can_XBT_BRP : Fld := ⟨0x4C, 31, 27⟩
def F.can_XBT_TSEG1 : Fld := ⟨0x4C, 26, 22⟩
def F.can_XBT_TSEG2 : Fld := ⟨0x4C, 21, 18⟩
def F.can_TDC_DTDC_EN : Fld := ⟨0x50, 31, 31⟩
def F.can_TDC_XTDC_EN : Fld := ⟨0x50, 23, 23⟩
def F.can_STS_STATE : Fld := ⟨0x58, 18, 16⟩
def F.can_STS_TDCV : Fld := ⟨0x58, 15, 8⟩
def F.can_STS_TX_ACTIVE : Fld := ⟨0x58, 3, 3⟩
def F.can_STS_LEC : Fld := ⟨0x58, 2, 0⟩
def F.can_ERR_CNT_TEC : Fld := ⟨0x5C, 24, 16⟩
def F.can_ERR_CNT_REC : Fld := ⟨0x5C, 7, 0⟩
def F.can_TRCV_CTL_STATE : Fld := ⟨0x60, 1, 0⟩
def F.can_TRCV_STS_STATE : Fld := ⟨0x64, 4, 3⟩
def F.can_TRCV_STS_THERMAL : Fld := ⟨0x64, 2, 2⟩
def F.can_TRCV_STS_BUS_DOM : Fld := ⟨0x64, 1, 1⟩
def F.can_TRCV_STS_TXD_TMO : Fld := ⟨0x64, 0, 0⟩
def F.can_TRCV_STS : Fld := ⟨0x64, 31, 0⟩
def F.can_CUR_TX_VALID : Fld := ⟨0x68, 31, 31⟩
def F.can_CUR_TX_OBJECT : Fld := ⟨0x68, 12, 0⟩
def F.can_RX_OK_COUNT : Fld := ⟨0x80, 31, 0⟩
def F.can_TX_OK_COUNT : Fld := ⟨0x84, 31, 0⟩
def F.can_RX_LOST_COUNT : Fld := ⟨0x88, 31, 0⟩
def F.can_RX_NO_OBJ_COUNT : Fld := ⟨0x8C, 31, 0⟩
def F.can_RX_TOO_LONG_COUNT : Fld := ⟨0x90, 31, 0⟩
def F.can_ERR_DETECT_COUNT : Fld := ⟨0x94, 31, 0⟩
def F.can_ARB_LOST_COUNT : Fld := ⟨0x98, 31, 0⟩
def F.can_BUS_OFF_COUNT : Fld := ⟨0x9C, 31, 0⟩
def F.can_TX_ABORT_COUNT : Fld := ⟨0xA0, 31, 0⟩
def F.can_TRCV_FAULT_COUNT : Fld := ⟨0xA4, 31, 0⟩
def F.canGlobal_OBJ_MAP_FIRST : Fld := ⟨0x40, 28, 16⟩
def F.canGlobal_OBJ_MAP_COUNT : Fld := ⟨0x40, 11, 0⟩
def F.canGlobal_ECC_CORR_COUNT : Fld := ⟨0xA0, 31, 0⟩
def F.canGlobal_ECC_UNCORR_COUNT : Fld := ⟨0xA4, 31, 0⟩
def F.canGlobal_OBJ_ERR_COUNT : Fld := ⟨0xA8, 31, 0⟩
def F.lin_LIN_CFG_BAUD : Fld := ⟨0x40, 31, 16⟩
def F.lin_LIN_CFG_BREAK_BITS : Fld := ⟨0x40, 12, 8⟩
def F.lin_LIN_CFG_AUTOBAUD : Fld := ⟨0x40, 2, 2⟩
def F.lin_LIN_CFG_ROLE : Fld := ⟨0x40, 0, 0⟩
def F.lin_SCHED_CTL_NEXT : Fld := ⟨0x44, 17, 16⟩
def F.lin_SCHED_CTL_ACTIVE : Fld := ⟨0x44, 5, 4⟩
def F.lin_SCHED_CTL_RUN : Fld := ⟨0x44, 0, 0⟩
def F.lin_SCHED_LEN_LEN0 : Fld := ⟨0x48, 7, 0⟩
def F.lin_SCHED_LEN : Fld := ⟨0x48, 31, 0⟩
def F.lin_LIN_STS_STATE : Fld := ⟨0x4C, 18, 16⟩
def F.lin_LIN_STS_LAST_ID : Fld := ⟨0x4C, 5, 0⟩
def F.lin_LIN_TRCV_STATE : Fld := ⟨0x50, 0, 0⟩
def F.lin_RX_OK_COUNT : Fld := ⟨0x80, 31, 0⟩
def F.lin_TX_OK_COUNT : Fld := ⟨0x84, 31, 0⟩
def F.lin_NO_RESPONSE_COUNT : Fld := ⟨0x88, 31, 0⟩
def F.lin_INCOMPLETE_COUNT : Fld := ⟨0x8C, 31, 0⟩
def F.lin_CHECKSUM_ERR_COUNT : Fld := ⟨0x90, 31, 0⟩
def F.lin_PARITY_ERR_COUNT : Fld := ⟨0x94, 31, 0⟩
def F.lin_BIT_ERR_COUNT : Fld := ⟨0x98, 31, 0⟩
def F.lin_FRAMING_ERR_COUNT : Fld := ⟨0x9C, 31, 0⟩
def F.lin_SYNC_ERR_COUNT : Fld := ⟨0xA0, 31, 0⟩
def F.lin_RX_LOST_COUNT : Fld := ⟨0xA4, 31, 0⟩
def F.lin_SLOT_OVERRUN_COUNT : Fld := ⟨0xA8, 31, 0⟩
def F.lin_FT_CTL_VALID : Fld := ⟨0x400, 31, 31⟩
def F.lin_FT_CTL_DIR : Fld := ⟨0x400, 30, 29⟩
def F.lin_FT_CTL_ENHANCED : Fld := ⟨0x400, 28, 28⟩
def F.lin_FT_CTL_LEN : Fld := ⟨0x400, 27, 24⟩
def F.lin_FT_CTL_BRIDGE : Fld := ⟨0x400, 23, 23⟩
def F.lin_FT_CTL_NEW_DATA : Fld := ⟨0x400, 22, 22⟩
def F.lin_FT_CTL_LOST : Fld := ⟨0x400, 21, 21⟩
def F.lin_FT_CTL_UPDATED : Fld := ⟨0x400, 20, 20⟩
def F.lin_FT_STAMP_STAMP : Fld := ⟨0x404, 31, 0⟩
def F.lin_FT_DATA_LO_DATA : Fld := ⟨0x408, 31, 0⟩
def F.lin_FT_DATA_HI_DATA : Fld := ⟨0x40C, 31, 0⟩
def F.lin_SCHED_COLL_TABLE : Fld := ⟨0x800, 17, 16⟩
def F.lin_SCHED_TYPE : Fld := ⟨0x800, 13, 12⟩
def F.lin_SCHED_ID : Fld := ⟨0x800, 5, 0⟩
def F.brgGlobal_RT_BANK_LATE : Fld := ⟨0x40, 3, 3⟩
def F.brgGlobal_RT_BANK_FLIP_PEND : Fld := ⟨0x40, 2, 2⟩
def F.brgGlobal_RT_BANK_DRAINING : Fld := ⟨0x40, 1, 1⟩
def F.brgGlobal_RT_BANK_FG : Fld := ⟨0x40, 0, 0⟩
def F.brgGlobal_FLIP_AT_LO_NS : Fld := ⟨0x48, 31, 0⟩
def F.brgGlobal_FLIP_AT_HI_NS : Fld := ⟨0x4C, 31, 0⟩
def F.brgGlobal_EXT_SEED_SEED : Fld := ⟨0x50, 31, 0⟩
def F.brgGlobal_SRC_MAC_HI_MAC : Fld := ⟨0x58, 15, 0⟩
def F.brgGlobal_SRC_MAC_LO_MAC : Fld := ⟨0x5C, 31, 0⟩
def F.brgGlobal_KTL_MAC_HI_MAC : Fld := ⟨0x60, 15, 0⟩
def F.brgGlobal_KTL_MAC_LO_MAC : Fld := ⟨0x64, 31, 0⟩
def F.brgGlobal_BRIDGED_COUNT : Fld := ⟨0x68, 31, 0⟩
def F.brgGlobal_NO_ROUTE_COUNT : Fld := ⟨0x6C, 31, 0⟩
def F.brgGlobal_BANK_WR_REJ_COUNT : Fld := ⟨0x70, 31, 0⟩
def F.brgGlobal_STAGE_LOST_COUNT : Fld := ⟨0x74, 31, 0⟩
def F.brgGlobal_KTL_DROP_COUNT : Fld := ⟨0x78, 31, 0⟩
def F.brgGlobal_T1S_NO_SEG_COUNT : Fld := ⟨0x7C, 31, 0⟩
def F.brgGlobal_TX_POOL_FIRST : Fld := ⟨0x80, 28, 16⟩
def F.brgGlobal_TX_POOL_COUNT : Fld := ⟨0x80, 6, 0⟩
def F.brgGlobal_CH_DROP_COUNT : Fld := ⟨0x100, 31, 0⟩
def F.brgTunnel_RX_NO_TUN_COUNT : Fld := ⟨0x44, 31, 0⟩
def F.brgTunnel_TX_FRAMES_COUNT : Fld := ⟨0x80, 31, 0⟩
def F.brgTunnel_TX_DROP_COUNT : Fld := ⟨0x84, 31, 0⟩
def F.brgTunnel_FRAMES_COUNT : Fld := ⟨0x280, 31, 0⟩
def F.brgTunnel_SEQ_GAP_COUNT : Fld := ⟨0x284, 31, 0⟩
def F.brgTunnel_ERR_COUNT : Fld := ⟨0x288, 31, 0⟩
def F.brgTunnel_FRAG_ERR_COUNT : Fld := ⟨0x28C, 31, 0⟩
def F.brgTunnel_TUN_RX_VALID : Fld := ⟨0x600, 31, 31⟩
def F.brgTunnel_TUN_RX_SEQ_CHK : Fld := ⟨0x600, 30, 30⟩
def F.brgTunnel_TUN_RX_CHAN_MASK : Fld := ⟨0x600, 23, 0⟩
def F.brgTunnel_TUN_RX_4_EXP_SEQ : Fld := ⟨0x604, 15, 8⟩
def F.brgTunnel_TUN_RX_4_LIN_MASK : Fld := ⟨0x604, 7, 0⟩
def F.brgTunnel_TUN_RX_STREAM_ID_HI_STREAM_ID_HI : Fld := ⟨0x608, 31, 0⟩
def F.brgTunnel_TUN_RX_STREAM_ID_LO_STREAM_ID_LO : Fld := ⟨0x60C, 31, 0⟩
def F.brgTunnel_TUN_TX_VALID : Fld := ⟨0x800, 31, 31⟩
def F.brgTunnel_TUN_TX_TAG_EN : Fld := ⟨0x800, 30, 30⟩
def F.brgTunnel_TUN_TX_BRIEF : Fld := ⟨0x800, 29, 29⟩
def F.brgTunnel_TUN_TX_PCP : Fld := ⟨0x800, 14, 12⟩
def F.brgTunnel_TUN_TX_VID : Fld := ⟨0x800, 11, 0⟩
def F.brgTunnel_TUN_TX_4_HOLD_US : Fld := ⟨0x804, 31, 16⟩
def F.brgTunnel_TUN_TX_4_MAX_FRAME : Fld := ⟨0x804, 13, 0⟩
def F.brgTunnel_TUN_TX_8_SEQ : Fld := ⟨0x808, 15, 8⟩
def F.brgTunnel_TUN_TX_8_MAX_MSGS : Fld := ⟨0x808, 7, 0⟩
def F.brgTunnel_TUN_TX_DA_HI_DA_HI : Fld := ⟨0x80C, 15, 0⟩
def F.brgTunnel_TUN_TX_DA_LO_DA_LO : Fld := ⟨0x810, 31, 0⟩
def F.brgTunnel_TUN_TX_STREAM_ID_HI_STREAM_ID_HI : Fld := ⟨0x814, 31, 0⟩
def F.brgTunnel_TUN_TX_STREAM_ID_LO_STREAM_ID_LO : Fld := ⟨0x818, 31, 0⟩
def F.brgJalden_UNIT_DOMAIN : Fld := ⟨0x40, 31, 16⟩
def F.brgJalden_UNIT_DEPTH : Fld := ⟨0x40, 13, 12⟩
def F.brgJalden_UNIT_ID : Fld := ⟨0x40, 9, 0⟩
def F.brgJalden_PATH01_L1 : Fld := ⟨0x44, 25, 16⟩
def F.brgJalden_PATH01_L0 : Fld := ⟨0x44, 9, 0⟩
def F.brgJalden_PATH23_L3 : Fld := ⟨0x48, 25, 16⟩
def F.brgJalden_PATH23_L2 : Fld := ⟨0x48, 9, 0⟩
def F.brgJalden_TWIN_STS_PEER_LOST : Fld := ⟨0x50, 1, 1⟩
def F.brgJalden_TWIN_STS_PEER_UP : Fld := ⟨0x50, 0, 0⟩
def F.brgJalden_RACC_DST01_L1 : Fld := ⟨0x58, 25, 16⟩
def F.brgJalden_RACC_DST01_L0 : Fld := ⟨0x58, 9, 0⟩
def F.brgJalden_RACC_DST23_L3 : Fld := ⟨0x5C, 25, 16⟩
def F.brgJalden_RACC_DST23_L2 : Fld := ⟨0x5C, 9, 0⟩
def F.brgJalden_RACC_ADDR_ADDR : Fld := ⟨0x60, 31, 0⟩
def F.brgJalden_RACC_WDATA_DATA : Fld := ⟨0x64, 31, 0⟩
def F.brgJalden_RACC_CMD_DEPTH : Fld := ⟨0x68, 17, 16⟩
def F.brgJalden_RACC_CMD_OP : Fld := ⟨0x68, 9, 8⟩
def F.brgJalden_RACC_CMD_TWIN_SEL : Fld := ⟨0x68, 0, 0⟩
def F.brgJalden_RACC_STS_BUSY : Fld := ⟨0x6C, 31, 31⟩
def F.brgJalden_RACC_STS_DONE : Fld := ⟨0x6C, 30, 30⟩
def F.brgJalden_RACC_STS_STATUS : Fld := ⟨0x6C, 2, 0⟩
def F.brgJalden_RACC_STS : Fld := ⟨0x6C, 31, 0⟩
def F.brgJalden_RACC_RDATA_DATA : Fld := ⟨0x70, 31, 0⟩
def F.brgJalden_LATE_CPL_COUNT : Fld := ⟨0x74, 31, 0⟩
def F.brgJalden_JL_LANE_ROLE : Fld := ⟨0x80, 1, 0⟩
def F.brgJalden_JL_STS_PEER_ID : Fld := ⟨0xC0, 25, 16⟩
def F.brgJalden_JL_STS_REASON : Fld := ⟨0xC0, 7, 4⟩
def F.brgJalden_JL_STS_STATE : Fld := ⟨0xC0, 2, 0⟩
def F.brgJalden_TX_FRAMES_COUNT : Fld := ⟨0x100, 31, 0⟩
def F.brgJalden_RX_FRAMES_COUNT : Fld := ⟨0x104, 31, 0⟩
def F.brgJalden_RESENDS_COUNT : Fld := ⟨0x108, 31, 0⟩
def F.brgJalden_REPLAY_LOST_COUNT : Fld := ⟨0x10C, 31, 0⟩
def F.sigGlobal_BANK_STS_BG_BATCH : Fld := ⟨0x40, 31, 24⟩
def F.sigGlobal_BANK_STS_FG_BATCH : Fld := ⟨0x40, 23, 16⟩
def F.sigGlobal_BANK_STS_EPOCH : Fld := ⟨0x40, 10, 8⟩
def F.sigGlobal_BANK_STS_REFUSED : Fld := ⟨0x40, 5, 5⟩
def F.sigGlobal_BANK_STS_LATE : Fld := ⟨0x40, 4, 4⟩
def F.sigGlobal_BANK_STS_BG_READY : Fld := ⟨0x40, 3, 3⟩
def F.sigGlobal_BANK_STS_FLIP_PEND : Fld := ⟨0x40, 2, 2⟩
def F.sigGlobal_BANK_STS_DRAINING : Fld := ⟨0x40, 1, 1⟩
def F.sigGlobal_BANK_STS_FG : Fld := ⟨0x40, 0, 0⟩
def F.sigGlobal_FLIP_AT_LO_NS : Fld := ⟨0x48, 31, 0⟩
def F.sigGlobal_FLIP_AT_HI_NS : Fld := ⟨0x4C, 31, 0⟩
def F.sigGlobal_BUILD_CTL_BY_VARIANT : Fld := ⟨0x50, 8, 8⟩
def F.sigGlobal_BUILD_CTL_BATCH : Fld := ⟨0x50, 7, 0⟩
def F.sigGlobal_BUILD_STS_BUSY : Fld := ⟨0x54, 31, 31⟩
def F.sigGlobal_BUILD_STS_RESULT : Fld := ⟨0x54, 27, 24⟩
def F.sigGlobal_BUILD_STS_PROGRESS : Fld := ⟨0x54, 17, 0⟩
def F.sigGlobal_VARIANT_CODE : Fld := ⟨0x58, 31, 0⟩
def F.sigGlobal_DB_BASE_MIB : Fld := ⟨0x5C, 11, 0⟩
def F.sigGlobal_TMO_CTL_GRACE_US : Fld := ⟨0x60, 31, 16⟩
def F.sigGlobal_TMO_CTL_DRAIN_MS : Fld := ⟨0x60, 10, 1⟩
def F.sigGlobal_TMO_CTL_SCAN_EN : Fld := ⟨0x60, 0, 0⟩
def F.sigGlobal_TMO_POP_LAST_LAST : Fld := ⟨0x68, 31, 0⟩
def F.sigGlobal_TMO_STAMP_STAMP : Fld := ⟨0x6C, 31, 0⟩
def F.sigGlobal_TMO_LEVEL_LOST : Fld := ⟨0x70, 31, 16⟩
def F.sigGlobal_TMO_LEVEL_LEVEL : Fld := ⟨0x70, 8, 0⟩
def F.sigGlobal_PDU_RX_COUNT : Fld := ⟨0x80, 31, 0⟩
def F.sigGlobal_PDU_TX_COUNT : Fld := ⟨0x84, 31, 0⟩
def F.sigGlobal_NO_PDU_COUNT : Fld := ⟨0x88, 31, 0⟩
def F.sigGlobal_SHORT_PDU_COUNT : Fld := ⟨0x8C, 31, 0⟩
def F.sigGlobal_RX_EARLY_COUNT : Fld := ⟨0x90, 31, 0⟩
def F.sigGlobal_E2E_CRC_ERR_COUNT : Fld := ⟨0x94, 31, 0⟩
def F.sigGlobal_E2E_CNT_ERR_COUNT : Fld := ⟨0x98, 31, 0⟩
def F.sigGlobal_TIMEOUTS_COUNT : Fld := ⟨0x9C, 31, 0⟩
def F.sigGlobal_RECOVERIES_COUNT : Fld := ⟨0xA0, 31, 0⟩
def F.sigGlobal_BANK_WR_REJ_COUNT : Fld := ⟨0xA4, 31, 0⟩
def F.sigGlobal_BUILD_FAIL_COUNT : Fld := ⟨0xA8, 31, 0⟩
def F.sigGlobal_EPOCH_DROP_COUNT : Fld := ⟨0xAC, 31, 0⟩
def F.sigGlobal_STAGE_LOST_COUNT : Fld := ⟨0xB4, 31, 0⟩
def F.sigGlobal_OUT_STREAM_VALID : Fld := ⟨0x100, 31, 31⟩
def F.sigGlobal_OUT_STREAM_TAG_EN : Fld := ⟨0x100, 30, 30⟩
def F.sigGlobal_OUT_STREAM_PCP : Fld := ⟨0x100, 14, 12⟩
def F.sigGlobal_OUT_STREAM_VID : Fld := ⟨0x100, 11, 0⟩
def F.sigGlobal_OUT_STREAM_DA_HI_DA_HI : Fld := ⟨0x104, 15, 0⟩
def F.sigGlobal_OUT_STREAM_DA_LO_DA_LO : Fld := ⟨0x108, 31, 0⟩
def F.sigGlobal_OUT_STREAM_SID_HI_SID_HI : Fld := ⟨0x10C, 31, 0⟩
def F.sigGlobal_OUT_STREAM_SID_LO_SID_LO : Fld := ⟨0x110, 31, 0⟩
def F.sigGlobal_ORIGIN_SID_HI_SID : Fld := ⟨0x308, 31, 0⟩
def F.sigGlobal_ORIGIN_SID_LO_SID : Fld := ⟨0x30C, 31, 0⟩
def F.sigNode_SUM_CTL_SEND_EN : Fld := ⟨0x44, 16, 16⟩
def F.sigNode_NODE_STS_COUNT : Fld := ⟨0x48, 12, 0⟩
def F.sigNode_NODE_POP_LAST_LAST : Fld := ⟨0x50, 31, 0⟩
def F.sigNode_NODE_LEVEL_LOST : Fld := ⟨0x54, 31, 16⟩
def F.sigNode_NODE_LEVEL_LEVEL : Fld := ⟨0x54, 6, 0⟩
def F.sigNode_ATTACHES_COUNT : Fld := ⟨0x80, 31, 0⟩
def F.sigNode_DEPARTS_COUNT : Fld := ⟨0x84, 31, 0⟩
def F.sigNode_DIR_FULL_COUNT : Fld := ⟨0x88, 31, 0⟩
def F.sigNode_SUM_RX_COUNT : Fld := ⟨0x8C, 31, 0⟩
def F.ddr_DDR_CFG_ECC_EN : Fld := ⟨0x40, 8, 8⟩
def F.ddr_DDR_CFG_DENSITY : Fld := ⟨0x40, 3, 0⟩
def F.ddr_DDR_STS_TRAIN_FAIL : Fld := ⟨0x44, 2, 2⟩
def F.ddr_DDR_STS_TRAINED : Fld := ⟨0x44, 1, 1⟩
def F.ddr_DDR_STS_READY : Fld := ⟨0x44, 0, 0⟩
def F.ddr_WIN_BASE_WINDOW : Fld := ⟨0x48, 2, 0⟩
def F.ddr_ECC_CORR_COUNT : Fld := ⟨0x4C, 31, 0⟩
def F.ddr_ECC_UNCORR_COUNT : Fld := ⟨0x50, 31, 0⟩
def F.ddr_ECC_ADDR_LINE : Fld := ⟨0x54, 31, 6⟩
def F.ktl_CTL_HALT_ON_FAULT : Fld := ⟨0x40, 0, 0⟩
def F.ktl_JOB_LIMIT_CYCLES : Fld := ⟨0x44, 19, 0⟩
def F.ktl_CORE_EN_MASK : Fld := ⟨0x48, 7, 0⟩
def F.ktl_QUEUE_PEAK : Fld := ⟨0x4C, 22, 16⟩
def F.ktl_QUEUE_LEVEL : Fld := ⟨0x4C, 6, 0⟩
def F.ktl_JOBS_RX_COUNT : Fld := ⟨0x80, 31, 0⟩
def F.ktl_JOBS_TMO_COUNT : Fld := ⟨0x84, 31, 0⟩
def F.ktl_JOBS_TX_COUNT : Fld := ⟨0x88, 31, 0⟩
def F.ktl_JOB_DROP_COUNT : Fld := ⟨0x8C, 31, 0⟩
def F.ktl_JOB_DEFER_COUNT : Fld := ⟨0x90, 31, 0⟩
def F.ktl_REDIRECT_COUNT : Fld := ⟨0x94, 31, 0⟩
def F.ktl_BAD_FRAME_COUNT : Fld := ⟨0x98, 31, 0⟩
def F.ktl_NO_ORIGIN_COUNT : Fld := ⟨0x9C, 31, 0⟩
def F.ktl_FRAG_ERR_COUNT : Fld := ⟨0xA0, 31, 0⟩
def F.ktl_FAULTS_COUNT : Fld := ⟨0xA4, 31, 0⟩
def F.ktl_SEND_STALL_COUNT : Fld := ⟨0xA8, 31, 0⟩
def F.ktl_IMEM_CORR_COUNT : Fld := ⟨0xAC, 31, 0⟩
def F.ktl_IMEM_UNCORR_COUNT : Fld := ⟨0xB0, 31, 0⟩
def F.ktl_DMEM_CORR_COUNT : Fld := ⟨0xB4, 31, 0⟩
def F.ktl_DMEM_UNCORR_COUNT : Fld := ⟨0xB8, 31, 0⟩
def F.ktl_FAULT_VALID : Fld := ⟨0x104, 31, 31⟩
def F.ktl_FAULT_CODE : Fld := ⟨0x104, 27, 24⟩
def F.ktl_FAULT_PC : Fld := ⟨0x104, 13, 0⟩
def F.ktl_FAULT_INFO_INFO : Fld := ⟨0x108, 31, 0⟩
def F.ktl_JOBS_COUNT : Fld := ⟨0x110, 31, 0⟩
def F.ktl_BUSY_CYC_COUNT : Fld := ⟨0x114, 31, 0⟩
def F.crc_CFG_WIDTH : Fld := ⟨0x40, 22, 16⟩
def F.crc_CFG_FEED : Fld := ⟨0x40, 9, 8⟩
def F.crc_CFG_ID_PREFIX : Fld := ⟨0x40, 4, 4⟩
def F.crc_CFG_FIELD_BE : Fld := ⟨0x40, 3, 3⟩
def F.crc_CFG_INV : Fld := ⟨0x40, 2, 2⟩
def F.crc_CFG_REFOUT : Fld := ⟨0x40, 1, 1⟩
def F.crc_CFG_REFIN : Fld := ⟨0x40, 0, 0⟩
def F.crc_POLY_LO_POLY : Fld := ⟨0x44, 31, 0⟩
def F.crc_POLY_HI_POLY : Fld := ⟨0x48, 31, 0⟩
def F.crc_INIT_LO_INIT : Fld := ⟨0x4C, 31, 0⟩
def F.crc_INIT_HI_INIT : Fld := ⟨0x50, 31, 0⟩
def F.crc_USES_COUNT : Fld := ⟨0x58, 31, 0⟩
def F.crc_WAIT_CYC_COUNT : Fld := ⟨0x5C, 31, 0⟩
def F.crc_PARITY_COUNT : Fld := ⟨0x60, 31, 0⟩
def F.timeClock_INCR_INCR : Fld := ⟨0x48, 31, 0⟩
def F.timeClock_SERVO_CTL_SEL : Fld := ⟨0x4C, 9, 8⟩
def F.timeClock_SERVO_CTL_STEP_EN : Fld := ⟨0x4C, 7, 7⟩
def F.timeClock_SERVO_CTL_SRC : Fld := ⟨0x4C, 2, 1⟩
def F.timeClock_SERVO_CTL_MODE : Fld := ⟨0x4C, 0, 0⟩
def F.timeClock_GAIN_KI : Fld := ⟨0x50, 31, 16⟩
def F.timeClock_GAIN_KP : Fld := ⟨0x50, 15, 0⟩
def F.timeClock_ADJ_LIM_LSB : Fld := ⟨0x54, 23, 0⟩
def F.timeClock_INT_LIM_LSB : Fld := ⟨0x58, 23, 0⟩
def F.timeClock_STEP_THRESH_NS : Fld := ⟨0x5C, 31, 0⟩
def F.timeClock_STEP_MAX_NS : Fld := ⟨0x60, 31, 0⟩
def F.timeClock_LOCK_CNT : Fld := ⟨0x64, 23, 16⟩
def F.timeClock_LOCK_NS : Fld := ⟨0x64, 15, 0⟩
def F.timeClock_STEP_LO_NS : Fld := ⟨0x68, 31, 0⟩
def F.timeClock_STEP_HI_NS : Fld := ⟨0x6C, 31, 0⟩
def F.timeClock_SERVO_STS_REFUSED : Fld := ⟨0x74, 31, 31⟩
def F.timeClock_SERVO_STS_STATE : Fld := ⟨0x74, 1, 0⟩
def F.timeClock_INTEG_LSB : Fld := ⟨0x78, 31, 0⟩
def F.timeClock_LAST_E_LO_NS : Fld := ⟨0x7C, 31, 0⟩
def F.timeClock_LAST_E_HI_NS : Fld := ⟨0x80, 31, 0⟩
def F.timeClock_STEP_CNT_COUNT : Fld := ⟨0x84, 31, 0⟩
def F.timeClock_LAST_STEP_LO_NS : Fld := ⟨0x88, 31, 0⟩
def F.timeClock_LAST_STEP_HI_NS : Fld := ⟨0x8C, 31, 0⟩
def F.timeClock_REFUSE_CNT_CONSEC : Fld := ⟨0x90, 31, 16⟩
def F.timeClock_REFUSE_CNT_TOTAL : Fld := ⟨0x90, 15, 0⟩
def F.timeClock_REFUSE_LIM_LIM : Fld := ⟨0x94, 7, 0⟩
def F.timeGptp_GPTP_CTL_HOST_Q : Fld := ⟨0x40, 21, 16⟩
def F.timeGptp_GPTP_CTL_TC : Fld := ⟨0x40, 10, 8⟩
def F.timeGptp_GPTP_CTL_COPY : Fld := ⟨0x40, 0, 0⟩
def F.timeGptp_PDELAY_CTL_INTERVAL_MS : Fld := ⟨0x44, 31, 16⟩
def F.timeGptp_PDELAY_CTL_ALLOWED_LOST : Fld := ⟨0x44, 15, 8⟩
def F.timeGptp_NEIGHBOR_THRESH_NS : Fld := ⟨0x48, 31, 0⟩
def F.timeGptp_PORT_EN_MASK : Fld := ⟨0x4C, 15, 0⟩
def F.timeGptp_PDELAY_OK_MASK : Fld := ⟨0x50, 15, 0⟩
def F.timeGptp_INST_CTL_EN : Fld := ⟨0x100, 31, 31⟩
def F.timeGptp_INST_CTL_GM : Fld := ⟨0x100, 30, 30⟩
def F.timeGptp_INST_CTL_SLAVE_PORT : Fld := ⟨0x100, 20, 16⟩
def F.timeGptp_INST_CTL_DOMAIN_NUM : Fld := ⟨0x100, 14, 8⟩
def F.timeGptp_INST_CTL_SYNCED : Fld := ⟨0x100, 0, 0⟩
def F.timeGptp_MASTER_MASK_MASK : Fld := ⟨0x104, 15, 0⟩
def F.timeGptp_SYNC_CTL_INTERVAL_MS : Fld := ⟨0x108, 31, 16⟩
def F.timeGptp_GM_OFFSET_LO_NS : Fld := ⟨0x10C, 31, 0⟩
def F.timeGptp_GM_OFFSET_HI_NS : Fld := ⟨0x110, 31, 0⟩
def F.timeGptp_LAST_OFFSET_LO_NS : Fld := ⟨0x114, 31, 0⟩
def F.timeGptp_LAST_OFFSET_HI_NS : Fld := ⟨0x118, 31, 0⟩
def F.timeGptp_RATE_RATE : Fld := ⟨0x11C, 31, 0⟩
def F.timeGptp_SYNC_RX_COUNT : Fld := ⟨0x120, 31, 0⟩
def F.timeGptp_SYNC_TMO_COUNT : Fld := ⟨0x124, 31, 0⟩
def F.timeGptp_LINK_DELAY_NS : Fld := ⟨0x400, 31, 0⟩
def F.timeGptp_NRR_RATE : Fld := ⟨0x404, 31, 0⟩
def F.timeGptp_PDELAY_TX_COUNT : Fld := ⟨0x408, 31, 0⟩
def F.timeGptp_PDELAY_LOST_COUNT : Fld := ⟨0x40C, 31, 0⟩
def F.timePulse_OUT_CTL_EN : Fld := ⟨0x40, 31, 31⟩
def F.timePulse_OUT_CTL_POL : Fld := ⟨0x40, 30, 30⟩
def F.timePulse_OUT_CTL_ACTIVE : Fld := ⟨0x40, 1, 1⟩
def F.timePulse_OUT_CTL_PENDING : Fld := ⟨0x40, 0, 0⟩
def F.timePulse_START_LO_NS : Fld := ⟨0x44, 31, 0⟩
def F.timePulse_START_HI_NS : Fld := ⟨0x48, 31, 0⟩
def F.timePulse_PERIOD_NS : Fld := ⟨0x4C, 31, 0⟩
def F.timePulse_WIDTH_NS : Fld := ⟨0x50, 31, 0⟩
def F.timePulse_SKIPPED_COUNT : Fld := ⟨0x54, 31, 0⟩
def F.timePulse_CAP_CTL_EN : Fld := ⟨0x100, 31, 31⟩
def F.timePulse_CAP_CTL_EDGE : Fld := ⟨0x100, 30, 30⟩
def F.timePulse_CAP_CTL_FILT_NS : Fld := ⟨0x100, 15, 0⟩
def F.timePulse_CAP_POP_LAST_LAST : Fld := ⟨0x108, 31, 0⟩
def F.timePulse_CAP_STAMP_LO_NS : Fld := ⟨0x10C, 31, 0⟩
def F.timePulse_CAP_STAMP_HI_NS : Fld := ⟨0x110, 31, 0⟩
def F.timePulse_CAP_LEVEL_LOST : Fld := ⟨0x114, 31, 16⟩
def F.timePulse_CAP_LEVEL_LEVEL : Fld := ⟨0x114, 3, 0⟩
def F.timeSched_ARMED_MASK : Fld := ⟨0x40, 15, 0⟩
def F.timeSched_AT_LO_NS : Fld := ⟨0x100, 31, 0⟩
def F.timeSched_AT_HI_NS : Fld := ⟨0x104, 31, 0⟩
def F.timeSched_ADDR_OFFSET : Fld := ⟨0x108, 25, 0⟩
def F.timeSched_DATA_DATA : Fld := ⟨0x10C, 31, 0⟩
def F.timeSched_SLOT_CTL_ARM : Fld := ⟨0x110, 31, 31⟩
def F.timeSched_SLOT_CTL_ERR : Fld := ⟨0x110, 2, 2⟩
def F.timeSched_SLOT_CTL_LATE : Fld := ⟨0x110, 1, 1⟩
def F.timeSched_SLOT_CTL_FIRED : Fld := ⟨0x110, 0, 0⟩
def F.ciphGlobal_LEN_LIM_BYTES : Fld := ⟨0x40, 13, 0⟩
def F.ciphGlobal_PN_WARN32_PN : Fld := ⟨0x44, 31, 0⟩
def F.ciphGlobal_PN_WARN64_LO_PN : Fld := ⟨0x48, 31, 0⟩
def F.ciphGlobal_PN_WARN64_HI_PN : Fld := ⟨0x4C, 31, 0⟩
def F.ciphGlobal_SCA_CTL_DUMMY : Fld := ⟨0x50, 1, 0⟩
def F.ciphGlobal_PIPE_FRAMES_COUNT : Fld := ⟨0x60, 31, 0⟩
def F.ciphGlobal_PIPE_PARITY_COUNT : Fld := ⟨0x70, 31, 0⟩
def F.ciphGlobal_LEN_ERR_COUNT : Fld := ⟨0x80, 31, 0⟩
def F.ciphGlobal_NO_KEY_COUNT : Fld := ⟨0x84, 31, 0⟩
def F.ciphGlobal_DUMMY_BLK_COUNT : Fld := ⟨0x88, 31, 0⟩
def F.ciphGlobal_BLK_PARITY_COUNT : Fld := ⟨0x8C, 31, 0⟩
def F.ciphBlock_BLK_LEN_BYTES : Fld := ⟨0x44, 11, 0⟩
def F.ciphBlock_BLK_STS_BUSY : Fld := ⟨0x48, 31, 31⟩
def F.ciphBlock_BLK_STS_DONE : Fld := ⟨0x48, 30, 30⟩
def F.ciphBlock_BLK_STS_RESULT : Fld := ⟨0x48, 3, 0⟩
def F.ciphBlock_AUTH_CNT_COUNT : Fld := ⟨0x4C, 31, 0⟩
def F.ciphBlock_BLK_OUT_DATA : Fld := ⟨0x80, 31, 0⟩
def F.ciphBlock_BLK_BUF_DATA : Fld := ⟨0x800, 31, 0⟩
def F.kilnMain_KEY_ATTR_USAGE : Fld := ⟨0x48, 7, 0⟩
def F.kilnMain_KCV_EXP_KCV : Fld := ⟨0x4C, 23, 0⟩
def F.kilnMain_CMD_STS_BUSY : Fld := ⟨0x50, 31, 31⟩
def F.kilnMain_CMD_STS_DONE : Fld := ⟨0x50, 30, 30⟩
def F.kilnMain_CMD_STS_RESULT : Fld := ⟨0x50, 27, 24⟩
def F.kilnMain_CMD_STS_KCV : Fld := ⟨0x50, 23, 0⟩
def F.kilnMain_STAGE_STS_WORDS : Fld := ⟨0x5C, 7, 0⟩
def F.kilnMain_COMMIT_AT_LO_NS : Fld := ⟨0x80, 31, 0⟩
def F.kilnMain_COMMIT_AT_HI_NS : Fld := ⟨0x84, 31, 0⟩
def F.kilnMain_AT_STS_PEND : Fld := ⟨0x88, 31, 31⟩
def F.kilnMain_AT_STS_LATE : Fld := ⟨0x88, 30, 30⟩
def F.kilnMain_AT_STS_SLOT : Fld := ⟨0x88, 9, 0⟩
def F.kilnMain_DRV_CTL_PRF : Fld := ⟨0x8C, 0, 0⟩
def F.kilnMain_DRV_CTX_DATA : Fld := ⟨0x90, 31, 0⟩
def F.kilnMain_ALARM_CFG_TAMPER_EN : Fld := ⟨0xA0, 16, 16⟩
def F.kilnMain_ALARM_CFG_PARITY_WIN_MS : Fld := ⟨0xA0, 15, 0⟩
def F.kilnMain_ALARM_STS_ALARM : Fld := ⟨0xA4, 31, 31⟩
def F.kilnMain_ALARM_STS_CAUSE : Fld := ⟨0xA4, 5, 0⟩
def F.kilnMain_RNG_POP_LAST_LAST : Fld := ⟨0xB0, 31, 0⟩
def F.kilnMain_RNG_STS_RUN : Fld := ⟨0xB4, 31, 31⟩
def F.kilnMain_RNG_STS_FAIL : Fld := ⟨0xB4, 30, 30⟩
def F.kilnMain_RNG_STS_RCT_FAIL : Fld := ⟨0xB4, 15, 8⟩
def F.kilnMain_RNG_STS_APT_FAIL : Fld := ⟨0xB4, 7, 0⟩
def F.kilnMain_MASK_SWEEPS_COUNT : Fld := ⟨0xB8, 31, 0⟩
def F.kilnMain_LOADS_COUNT : Fld := ⟨0xC0, 31, 0⟩
def F.kilnMain_DERIVES_COUNT : Fld := ⟨0xC4, 31, 0⟩
def F.kilnMain_COMMITS_COUNT : Fld := ⟨0xC8, 31, 0⟩
def F.kilnMain_KCV_FAIL_COUNT : Fld := ⟨0xCC, 31, 0⟩
def F.kilnMain_REFUSED_COUNT : Fld := ⟨0xD0, 31, 0⟩
def F.kilnMain_ALARMS_COUNT : Fld := ⟨0xD4, 31, 0⟩
def F.kilnSlot_SLOT_ATTR_VALID : Fld := ⟨0x100, 31, 31⟩
def F.kilnSlot_SLOT_ATTR_SHADOW : Fld := ⟨0x100, 30, 30⟩
def F.kilnSlot_SLOT_ATTR_AUX : Fld := ⟨0x100, 29, 29⟩
def F.kilnSlot_SLOT_ATTR_TYPE : Fld := ⟨0x100, 25, 24⟩
def F.kilnSlot_SLOT_ATTR_USAGE : Fld := ⟨0x100, 15, 8⟩
def F.kilnSlot_SLOT_ATTR_GEN : Fld := ⟨0x100, 7, 0⟩
def F.kilnId_LC_STS_ID_RDY : Fld := ⟨0x40, 10, 10⟩
def F.kilnId_LC_STS_ROOT_OK : Fld := ⟨0x40, 9, 9⟩
def F.kilnId_LC_STS_DEBUG_SUB : Fld := ⟨0x40, 8, 8⟩
def F.kilnId_LC_STS_PEND_STATE : Fld := ⟨0x40, 7, 4⟩
def F.kilnId_LC_STS_STATE : Fld := ⟨0x40, 3, 0⟩
def F.kilnId_LC_CMD_TARGET : Fld := ⟨0x44, 3, 0⟩
def F.kilnId_SERIAL_HI_SERIAL : Fld := ⟨0x48, 31, 0⟩
def F.kilnId_SERIAL_LO_SERIAL : Fld := ⟨0x4C, 31, 0⟩
def F.kilnId_DEBUG_CFG_ALLOW : Fld := ⟨0x50, 2, 0⟩
def F.kilnId_RMA_NONCE_HI_NONCE : Fld := ⟨0x54, 31, 0⟩
def F.kilnId_RMA_NONCE_LO_NONCE : Fld := ⟨0x58, 31, 0⟩
def F.kilnId_ID_PUB_X_DATA : Fld := ⟨0x60, 31, 0⟩
def F.kilnId_ID_PUB_Y_DATA : Fld := ⟨0x80, 31, 0⟩
def F.kilnId_CERT_HASH_DATA : Fld := ⟨0xA0, 31, 0⟩
def F.kilnId_RMA_PUBHASH_DATA : Fld := ⟨0xC0, 31, 0⟩
def F.pwrMain_PSTATE_CAUSE : Fld := ⟨0x40, 23, 20⟩
def F.pwrMain_PSTATE_PREV : Fld := ⟨0x40, 15, 12⟩
def F.pwrMain_PSTATE_ENTRY : Fld := ⟨0x40, 4, 4⟩
def F.pwrMain_PSTATE_STATE : Fld := ⟨0x40, 3, 0⟩
def F.pwrMain_LP_CTL_AUTO : Fld := ⟨0x44, 0, 0⟩
def F.pwrMain_DOM_REQ_ON : Fld := ⟨0x48, 14, 1⟩
def F.pwrMain_DOM_STS_ON : Fld := ⟨0x4C, 14, 1⟩
def F.pwrMain_DOM_BUSY_PEND : Fld := ⟨0x50, 30, 17⟩
def F.pwrMain_DOM_BUSY_BUSY : Fld := ⟨0x50, 14, 1⟩
def F.pwrMain_SUPPLY_STS_SEQ_ERR : Fld := ⟨0x58, 19, 16⟩
def F.pwrMain_SUPPLY_STS_VSUP_OV : Fld := ⟨0x58, 12, 12⟩
def F.pwrMain_SUPPLY_STS_VSUP_UV : Fld := ⟨0x58, 11, 11⟩
def F.pwrMain_SUPPLY_STS_GOOD : Fld := ⟨0x58, 9, 0⟩
def F.pwrMain_INH_CTL_STATE1 : Fld := ⟨0x60, 12, 12⟩
def F.pwrMain_INH_CTL_STATE0 : Fld := ⟨0x60, 4, 4⟩
def F.pwrMain_INH_CTL_KEEP_STBY1 : Fld := ⟨0x60, 10, 10⟩
def F.pwrMain_INH_CTL_KEEP_STBY0 : Fld := ⟨0x60, 2, 2⟩
def F.pwrMain_INH_CTL_MODE1 : Fld := ⟨0x60, 9, 8⟩
def F.pwrMain_INH_CTL_MODE0 : Fld := ⟨0x60, 1, 0⟩
def F.pwrMain_THERM_WARN_C : Fld := ⟨0x64, 23, 16⟩
def F.pwrMain_THERM_TJ : Fld := ⟨0x64, 7, 0⟩
def F.pwrMain_SLEEPS_COUNT : Fld := ⟨0x68, 31, 0⟩
def F.pwrMain_WAKES_COUNT : Fld := ⟨0x6C, 31, 0⟩
def F.pwrMain_ENTRY_ABORTS_COUNT : Fld := ⟨0x70, 31, 0⟩
def F.pwrMain_SUPPLY_FAIL_COUNT : Fld := ⟨0x74, 31, 0⟩
def F.pwrWake_WAKE_SRC_SRC : Fld := ⟨0x40, 31, 0⟩
def F.pwrWake_WAKE_FIRST_VALID : Fld := ⟨0x44, 8, 8⟩
def F.pwrWake_WAKE_FIRST_SRC : Fld := ⟨0x44, 7, 0⟩
def F.pwrWake_WAKE_CFG_EN : Fld := ⟨0x48, 31, 31⟩
def F.pwrWake_WAKE_CFG_EDGE : Fld := ⟨0x48, 30, 29⟩
def F.pwrWake_WAKE_CFG_FILT : Fld := ⟨0x48, 7, 0⟩
def F.pwrWake_CANW_CTL_MODE : Fld := ⟨0x100, 31, 30⟩
def F.pwrWake_CANW_CTL_IDE : Fld := ⟨0x100, 27, 27⟩
def F.pwrWake_CANW_CTL_FD_PASSIVE : Fld := ⟨0x100, 26, 26⟩
def F.pwrWake_CANW_CTL_DATA_EN : Fld := ⟨0x100, 25, 25⟩
def F.pwrWake_CANW_CTL_DLC : Fld := ⟨0x100, 23, 20⟩
def F.pwrWake_CANW_ID_ID : Fld := ⟨0x104, 28, 0⟩
def F.pwrWake_CANW_MASK_MASK : Fld := ⟨0x108, 28, 0⟩
def F.pwrWake_CANW_DATA_LO_DATA : Fld := ⟨0x10C, 31, 0⟩
def F.pwrWake_CANW_DATA_HI_DATA : Fld := ⟨0x110, 31, 0⟩
def F.pwrWake_CANW_STS_OVF : Fld := ⟨0x114, 8, 8⟩
def F.pwrWake_CANW_STS_FEC : Fld := ⟨0x114, 5, 0⟩
def F.pwrWake_PN_CTL_FREEZE : Fld := ⟨0x118, 1, 1⟩
def F.pwrWake_PN_CTL_SUSPEND : Fld := ⟨0x118, 0, 0⟩
def F.pwrWake_LINW_CTL_EN : Fld := ⟨0x300, 31, 31⟩
def F.pwrWake_LINW_CTL_GTS_EN : Fld := ⟨0x300, 30, 30⟩
def F.pwrWake_LINW_CTL_IDLE_EN : Fld := ⟨0x300, 29, 29⟩
def F.pwrRing_NM_CTL_EN : Fld := ⟨0x100, 31, 31⟩
def F.pwrRing_NM_CTL_SLEEP_OK : Fld := ⟨0x100, 30, 30⟩
def F.pwrRing_NM_CTL_CHAN : Fld := ⟨0x100, 28, 24⟩
def F.pwrRing_NM_CTL_ADDR : Fld := ⟨0x100, 23, 16⟩
def F.pwrRing_NM_CTL_BASE : Fld := ⟨0x100, 15, 13⟩
def F.pwrRing_NM_CTL_OBJ : Fld := ⟨0x100, 12, 0⟩
def F.pwrRing_NM_USER_DATA : Fld := ⟨0x10C, 31, 0⟩
def F.pwrRing_NM_STS_STATE : Fld := ⟨0x110, 31, 29⟩
def F.pwrRing_NM_STS_SUCC : Fld := ⟨0x110, 23, 16⟩
def F.pwrRing_NM_STS_N : Fld := ⟨0x110, 15, 8⟩
def F.pwrRing_NM_STS_LAST_CNT : Fld := ⟨0x110, 7, 0⟩
def F.pwrRing_NM_WAKE_MASK_MASK : Fld := ⟨0x114, 31, 0⟩
def F.pwrRing_NM_LINK_LAST_REASON : Fld := ⟨0x118, 15, 8⟩
def F.pwrRing_NM_LINK_LINK : Fld := ⟨0x118, 7, 0⟩
def F.pwrRing_NM_CNT_ABORTS : Fld := ⟨0x11C, 31, 16⟩
def F.pwrRing_NM_CNT_RESTARTS : Fld := ⟨0x11C, 15, 0⟩
def F.pwrRing_NM_TABLE_LISTED : Fld := ⟨0x400, 31, 0⟩
def F.caskRec_REGION_BASE_OFFSET : Fld := ⟨0x40, 31, 0⟩
def F.caskRec_REGION_CFG_UNITS : Fld := ⟨0x44, 28, 16⟩
def F.caskRec_REGION_CFG_UNIT_SIZE : Fld := ⟨0x44, 1, 0⟩
def F.caskRec_THRESH_NEAR_UNITS : Fld := ⟨0x4C, 28, 16⟩
def F.caskRec_REC_MASK : Fld := ⟨0x50, 31, 0⟩
def F.caskRec_CMD_OP : Fld := ⟨0x90, 1, 0⟩
def F.caskRec_STS_FULL : Fld := ⟨0x94, 31, 31⟩
def F.caskRec_STS_SCANNED : Fld := ⟨0x94, 30, 30⟩
def F.caskRec_STS_BUSY : Fld := ⟨0x94, 29, 29⟩
def F.caskRec_STS_SCAN_RESULT : Fld := ⟨0x94, 26, 24⟩
def F.caskRec_STS_FREE_UNITS : Fld := ⟨0x94, 12, 0⟩
def F.caskRec_POS_OFFSET : Fld := ⟨0x98, 31, 0⟩
def F.caskRec_NEXT_SEQ_VALUE : Fld := ⟨0x9C, 31, 0⟩
def F.caskRec_NEXT_SEQ : Fld := ⟨0x9C, 31, 0⟩
def F.caskRec_PWRCYC_VALUE : Fld := ⟨0xA4, 31, 0⟩
def F.caskRec_PWRCYC : Fld := ⟨0xA4, 31, 0⟩
def F.caskRec_BUF_LEVEL_BYTES : Fld := ⟨0xA8, 16, 0⟩
def F.caskRec_BUF_PEAK_BYTES : Fld := ⟨0xAC, 16, 0⟩
def F.caskRec_RECORDS_COUNT : Fld := ⟨0xB0, 31, 0⟩
def F.caskRec_LOST_COUNT : Fld := ⟨0xB4, 31, 0⟩
def F.caskRec_LOST : Fld := ⟨0xB4, 31, 0⟩
def F.caskRec_TORN_COUNT : Fld := ⟨0xB8, 31, 0⟩
def F.caskRec_CORRUPT_COUNT : Fld := ⟨0xBC, 31, 0⟩
def F.caskRec_WRITE_ERR_COUNT : Fld := ⟨0xC0, 31, 0⟩
def F.caskRec_BAD_UNITS_COUNT : Fld := ⟨0xC4, 31, 0⟩
def F.caskRec_OVERRIDES : Fld := ⟨0xC8, 31, 0⟩
def F.caskRec_RD_OFF_OFFSET : Fld := ⟨0xD0, 31, 0⟩
def F.caskRec_RD_BUF_DATA : Fld := ⟨0x100, 31, 0⟩
def F.caskRec_HREC_CTL_LEN : Fld := ⟨0x200, 22, 16⟩
def F.caskRec_HREC_CTL_SOURCE : Fld := ⟨0x200, 15, 0⟩
def F.caskRec_HREC_DATA_DATA : Fld := ⟨0x240, 31, 0⟩
def F.caskCnt_PERF_CTL_RUN_NEXT : Fld := ⟨0x40, 8, 8⟩
def F.caskCnt_PERF_CTL_RUN : Fld := ⟨0x40, 0, 0⟩
def F.caskCnt_PERF_AT_LO_NS : Fld := ⟨0x44, 31, 0⟩
def F.caskCnt_PERF_AT_HI_NS : Fld := ⟨0x48, 31, 0⟩
def F.caskCnt_PSEL_USER_RD : Fld := ⟨0x80, 31, 31⟩
def F.caskCnt_PSEL_ANY : Fld := ⟨0x80, 22, 22⟩
def F.caskCnt_PSEL_INST : Fld := ⟨0x80, 21, 16⟩
def F.caskCnt_PSEL_EVSEL : Fld := ⟨0x80, 9, 0⟩
def F.caskCnt_CNT_LO_COUNT : Fld := ⟨0x84, 31, 0⟩
def F.caskCnt_CNT_LO : Fld := ⟨0x84, 31, 0⟩
def F.caskCnt_CNT_HI_COUNT : Fld := ⟨0x88, 31, 0⟩
def F.caskCnt_CNT_HI : Fld := ⟨0x88, 31, 0⟩
def F.caskCnt_SNAP_LO_COUNT : Fld := ⟨0x200, 31, 0⟩
def F.caskCnt_SNAP_HI_COUNT : Fld := ⟨0x204, 31, 0⟩
def F.caskTap_TAP_CTL_EN : Fld := ⟨0x40, 31, 31⟩
def F.caskTap_TAP_CTL_CLUSTERS : Fld := ⟨0x40, 27, 24⟩
def F.caskTap_TAP_CTL_KIND : Fld := ⟨0x40, 17, 16⟩
def F.caskTap_TAP_CTL_PERIOD : Fld := ⟨0x40, 15, 0⟩
def F.caskTap_TAP_FILT_MIN_LAT : Fld := ⟨0x44, 11, 0⟩
def F.caskTap_TAP_POP_LAST_LAST : Fld := ⟨0x4C, 31, 0⟩
def F.caskTap_TAP_W1_DATA : Fld := ⟨0x50, 31, 0⟩
def F.caskTap_TAP_W2_DATA : Fld := ⟨0x54, 31, 0⟩
def F.caskTap_TAP_W3_DATA : Fld := ⟨0x58, 31, 0⟩
def F.caskTap_TAP_LEVEL_LOST : Fld := ⟨0x5C, 31, 16⟩
def F.caskTap_TAP_LEVEL_LEVEL : Fld := ⟨0x5C, 8, 0⟩
def F.upd_RACK_STS_STATE : Fld := ⟨0x40, 31, 28⟩
def F.upd_RACK_STS_REASON : Fld := ⟨0x40, 23, 16⟩
def F.upd_RACK_STS_UNIT : Fld := ⟨0x40, 9, 0⟩
def F.upd_MANIFEST_ID_ID : Fld := ⟨0x44, 31, 0⟩
def F.upd_T_ACT_LO_NS : Fld := ⟨0x48, 31, 0⟩
def F.upd_T_ACT_HI_NS : Fld := ⟨0x4C, 31, 0⟩
def F.upd_T_REV_LO_NS : Fld := ⟨0x50, 31, 0⟩
def F.upd_T_REV_HI_NS : Fld := ⟨0x54, 31, 0⟩
def F.upd_RACK_TMR1_ARM_LEAD_MS : Fld := ⟨0x58, 31, 16⟩
def F.upd_RACK_TMR1_GUARD_MS : Fld := ⟨0x58, 15, 0⟩
def F.upd_RACK_TMR2_REV_LEAD_MS : Fld := ⟨0x5C, 31, 16⟩
def F.upd_RACK_TMR2_CHECK_MS : Fld := ⟨0x5C, 15, 0⟩
def F.upd_DB_REGION_B_MIB : Fld := ⟨0x60, 27, 16⟩
def F.upd_DB_REGION_A_MIB : Fld := ⟨0x60, 11, 0⟩
def F.upd_SLOT_STS_TRIES : Fld := ⟨0x64, 31, 24⟩
def F.upd_SLOT_STS_ACTIVE : Fld := ⟨0x64, 16, 16⟩
def F.upd_SLOT_STS_STATE_B : Fld := ⟨0x64, 15, 8⟩
def F.upd_SLOT_STS_STATE_A : Fld := ⟨0x64, 7, 0⟩
def F.upd_VER_A_VERSION : Fld := ⟨0x74, 31, 0⟩
def F.upd_VER_B_VERSION : Fld := ⟨0x78, 31, 0⟩
def F.upd_ROLLBACK_COUNT : Fld := ⟨0x94, 6, 0⟩
def F.upd_BOOT_STS_MODE : Fld := ⟨0x98, 31, 28⟩
def F.upd_BOOT_STS_SLOT : Fld := ⟨0x98, 16, 16⟩
def F.upd_BOOT_STS_BOOT_MS : Fld := ⟨0x98, 15, 0⟩
def F.upd_BOOT_STS : Fld := ⟨0x98, 31, 0⟩
def F.upd_RACKS_DONE_COUNT : Fld := ⟨0x9C, 31, 0⟩
def F.upd_RACKS_FAILED_COUNT : Fld := ⟨0xA0, 31, 0⟩
def F.upd_REVERTS_COUNT : Fld := ⟨0xA4, 31, 0⟩
def F.qspi_FLASH_INFO_TYPE : Fld := ⟨0x40, 31, 30⟩
def F.qspi_FLASH_INFO_SIZE_LOG2 : Fld := ⟨0x40, 29, 24⟩
def F.qspi_FLASH_INFO_BAD_BLOCKS : Fld := ⟨0x40, 11, 0⟩
def F.qspi_CLK_DIV : Fld := ⟨0x44, 3, 0⟩
def F.qspi_HCMD_BUSY : Fld := ⟨0x48, 30, 30⟩
def F.qspi_HCMD_RESULT : Fld := ⟨0x48, 29, 28⟩
def F.qspi_HCMD_OPCODE : Fld := ⟨0x48, 23, 16⟩
def F.qspi_HCMD_LEN : Fld := ⟨0x48, 8, 0⟩
def F.qspi_HADDR_ADDR : Fld := ⟨0x4C, 31, 0⟩
def F.qspi_ECC_CORR_COUNT : Fld := ⟨0x50, 31, 0⟩
def F.qspi_ECC_LIMIT_COUNT : Fld := ⟨0x54, 31, 0⟩
def F.qspi_ECC_UNCORR_COUNT : Fld := ⟨0x58, 31, 0⟩
def F.qspi_PROG_FAIL_COUNT : Fld := ⟨0x5C, 31, 0⟩
def F.qspi_ERASE_FAIL_COUNT : Fld := ⟨0x60, 31, 0⟩
def F.qspi_HBUF_DATA : Fld := ⟨0x100, 31, 0⟩
def F.svc_SV_STS_RUN : Fld := ⟨0x40, 31, 31⟩
def F.svc_SV_STS_LOCKSTEP_ERR : Fld := ⟨0x40, 23, 16⟩
def F.svc_FW_VERSION_VERSION : Fld := ⟨0x44, 31, 0⟩
def F.svc_MBX_CMD_OP : Fld := ⟨0x48, 7, 0⟩
def F.svc_MBX_STS_BUSY : Fld := ⟨0x4C, 31, 31⟩
def F.svc_MBX_STS_DONE : Fld := ⟨0x4C, 30, 30⟩
def F.svc_MBX_STS_RESULT : Fld := ⟨0x4C, 7, 0⟩
def F.svc_MBX_ARG_DATA : Fld := ⟨0x50, 31, 0⟩
def F.svc_MBX_RSP_DATA : Fld := ⟨0x70, 31, 0⟩
def F.svc_DATA_DATA : Fld := ⟨0x800, 31, 0⟩
def F.guardGlobal_PROFILE_ACTIVE : Fld := ⟨0x40, 10, 8⟩
def F.guardGlobal_PROFILE_SEL : Fld := ⟨0x40, 2, 0⟩
def F.guardGlobal_DEG_REQ_CAUSE : Fld := ⟨0x44, 18, 16⟩
def F.guardGlobal_DEG_REQ_DOMAINS : Fld := ⟨0x44, 14, 1⟩
def F.guardGlobal_DEG_STS_GRANTED : Fld := ⟨0x48, 31, 31⟩
def F.guardGlobal_DEG_STS_PEND : Fld := ⟨0x48, 30, 30⟩
def F.guardGlobal_DEG_STS_CAUSE : Fld := ⟨0x48, 18, 16⟩
def F.guardGlobal_DEG_STS_DOMAINS : Fld := ⟨0x48, 14, 1⟩
def F.guardGlobal_AUTO_DEG_CAUSE : Fld := ⟨0x4C, 5, 1⟩
def F.guardGlobal_REQUIRED_DOMAINS : Fld := ⟨0x50, 14, 1⟩
def F.guardGlobal_EVALS_COUNT : Fld := ⟨0x60, 31, 0⟩
def F.guardGlobal_ACTIONS_COUNT : Fld := ⟨0x64, 31, 0⟩
def F.guardGlobal_ACTION_FAIL_COUNT : Fld := ⟨0x68, 31, 0⟩
def F.guardGlobal_SAMPLE_ERR_COUNT : Fld := ⟨0x6C, 31, 0⟩
def F.guardGlobal_DEG_GRANTS_COUNT : Fld := ⟨0x70, 31, 0⟩
def F.guardGlobal_PIPE_HOLDS_COUNT : Fld := ⟨0x74, 31, 0⟩
def F.guardRule_RULE_CTL_EN : Fld := ⟨0x100, 31, 31⟩
def F.guardRule_RULE_CTL_LATCHED : Fld := ⟨0x100, 29, 29⟩
def F.guardRule_RULE_CTL_KIND : Fld := ⟨0x100, 27, 26⟩
def F.guardRule_RULE_CTL_CMP : Fld := ⟨0x100, 25, 24⟩
def F.guardRule_RULE_CTL_ACTION : Fld := ⟨0x100, 23, 20⟩
def F.guardRule_RULE_CTL_HOLD : Fld := ⟨0x100, 15, 8⟩
def F.guardRule_RULE_CTL_REARM : Fld := ⟨0x100, 7, 0⟩
def F.guardRule_SRC_ADDR : Fld := ⟨0x104, 31, 0⟩
def F.guardRule_MASK_MASK : Fld := ⟨0x108, 31, 0⟩
def F.guardRule_THRESH_VALUE : Fld := ⟨0x10C, 31, 0⟩
def F.guardRule_WINDOW_CYCLES : Fld := ⟨0x110, 15, 0⟩
def F.guardRule_TARGET_ADDR : Fld := ⟨0x114, 31, 0⟩
def F.guardRule_VALUE_VALUE : Fld := ⟨0x118, 31, 0⟩
def F.guardRule_FIRES_COUNT : Fld := ⟨0x11C, 31, 0⟩

end Sys2Proof.Machine
end

