-- ==== Sys2Proof/Machine/Ops.lean ====
section
/-! DEFINITION. The named operations over the block's stores: the canonical sparse store (register words, memory
bytes, page states), register words and fields, counters, page presence and the page state machine (R46 to R51),
and the time the block keeps (R337). -/

namespace Sys2Proof.Machine

/-! ### Registers -/

/-- Base of the block that holds a kind of page (Table 2-1): its first page's, but the CAN global page follows 24
channel pages. -/
def blockBase (k : PageKind) : Nat := if k = .canGlobal then pageBase .can 0 else pageBase k 0

/-- Reset value of EVT and header registers of a page (Table 2-3, R46; PAGE_CAP is 0 but for SYS, R5, log
entry 4). The CASK user page shows only PAGE_ID and PAGE_VER (R438). -/
def headerReset (g : Grade) (k : PageKind) (i o : Nat) : Nat :=
  match o with
  | 0x000 => blockBase k / 0x10000 % 0x100 * 0x1000000 + k.code * 0x10000 + i
  | 0x004 => 0x01B0
  | 0x008 => if k = .sys then g.code else 0
  | 0x018 => sourceBits k
  | _ => 0

/-- Whether offset `o` of a page belongs to a register description. -/
def RegDesc.holds (d : RegDesc) (o : Nat) : Bool :=
  if o < d.off then false
  else
    let r := o - d.off
    let i := if d.s1 = 0 then 0 else if d.s1 < d.s2 then r % d.s1 else r / d.s1
    let rest := if d.s1 = 0 then r else r - d.s1 * i
    let j := if d.s2 = 0 then 0 else rest / d.s2
    i < d.n1 && j < d.n2 && rest == d.s2 * j

/-- The description of the register at offset `o` of a page of kind `k`. -/
def descAt (k : PageKind) (o : Nat) : Option RegDesc := (regsOf k).find? (RegDesc.holds · o)

/-- A register's reset word from its fields. -/
def RegDesc.resetWord (d : RegDesc) : Nat := d.fields.foldl (fun a f => a + f.reset * 2 ^ f.lo) 0

/-- The protected identifier of a LIN frame identifier (R233; P0 and P1 as the worked example of Chapter 7 forms
them). -/
def pidOf (i : Nat) : Nat :=
  let x (l : List Nat) : Bool := (l.filter (bitOf i)).length % 2 == 1
  i % 64 + 64 * b2n (x [0, 1, 2, 4]) + 128 * b2n (!x [1, 3, 4, 5])

/-- Reset word of the register at a BAR0 offset; 0 where there is none. SCA_CTL and the registers of Table
3-13 depend on the grade. -/
def resetWord (g : Grade) (off : Nat) : Word :=
  match pageOf (off / 0x1000) with
  | none => 0
  | some (k, i) =>
    let o := off % 0x1000
    if o < 0x40 then BitVec.ofNat 32 (headerReset g k i o)
    else
      match descAt k o with
      | none => 0
      | some d =>
        if k = .ciphGlobal ∧ d.name = "SCA_CTL" then (if g = .tvx6480 then 0 else 0x101#32)
        else if k = .fabGlobal ∧ o = 0x080 then BitVec.ofNat 32 (3 * g.slices * 256 + (2 ^ g.slices - 1))
        else if k = .fabGlobal ∧ o = 0x084 then
          BitVec.ofNat 32 ((2 ^ g.slices - 2 ^ (g.slices / 2)) * 256 + (2 ^ (g.slices / 2) - 1))
        else if k = .fabGlobal ∧ 0x060 ≤ o ∧ o < 0x080 then BitVec.ofNat 32 g.fMask
        else if k = .lin ∧ d.name = "FT_CTL" then BitVec.ofNat 32 (d.resetWord + pidOf ((o - 0x400) / 16))
        else BitVec.ofNat 32 d.resetWord

/-- The word a register store holds at a BAR0 offset. -/
def State.rd (s : State) (off : Nat) : Word := look (resetWord s.grade) s.regs off

/-- Writes a register word, with no access rule. -/
def State.wr (s : State) (off : Nat) (w : Word) : State :=
  { s with regs := put (resetWord s.grade) s.regs off w }

/-- A field of the page at `base`. -/
def State.gf (s : State) (base : Nat) (f : Fld) : Nat := bitsOf (s.rd (base + f.off)).toNat f.hi f.lo

/-- Sets a field of the page at `base`, with no access rule. -/
def State.pf (s : State) (base : Nat) (f : Fld) (v : Nat) : State :=
  s.wr (base + f.off) (BitVec.ofNat 32 (putBits (s.rd (base + f.off)).toNat f.hi f.lo v))

/-- A field as a flag. -/
def State.on (s : State) (base : Nat) (f : Fld) : Bool := s.gf base f != 0

/-- The largest value of a field. -/
def Fld.top (f : Fld) : Nat := 2 ^ (f.hi + 1 - f.lo) - 1

/-- Adds `n` to a saturating counter field. -/
def State.addSat (s : State) (base : Nat) (f : Fld) (n : Nat) : State :=
  s.pf base f (min f.top (s.gf base f + n))

/-- Adds 1 to a saturating counter field. -/
def State.inc (s : State) (base : Nat) (f : Fld) : State := s.addSat base f 1

/-- Adds `n` to a wrapping counter field. -/
def State.addWrap (s : State) (base : Nat) (f : Fld) (n : Nat) : State := s.pf base f (s.gf base f + n)

/-- Adds 1 to a wrapping counter field. -/
def State.incW (s : State) (base : Nat) (f : Fld) : State := s.addWrap base f 1

/-- A 64-bit value held in a LO and a HI register (R520). -/
def State.g64 (s : State) (base : Nat) (lo hi : Fld) : Nat := s.gf base hi * 2 ^ 32 + s.gf base lo

/-- Sets a 64-bit value held in a LO and a HI register (R520). -/
def State.p64 (s : State) (base : Nat) (lo hi : Fld) (v : Nat) : State :=
  (s.pf base lo (v % 2 ^ 32)).pf base hi (v / 2 ^ 32)

/-- Sets `n` words from offset `off` on, 4 bytes apart, to zero. -/
def State.zeroWords (s : State) (off : Nat) : Nat → State
  | 0 => s
  | n + 1 => (s.wr off 0).zeroWords (off + 4) n

/-! ### Bytes of the BAR2 memories, of LPDDR4X and of flash -/

/-- A byte of the BAR2 tables and memories; an unlisted byte reads 0 (log entry 6). -/
def State.b2 (s : State) (a : Nat) : Byte := look (fun _ => (0 : Byte)) s.bar2 a

/-- `k` bytes of the BAR2 tables and memories from `a` on. -/
def readMem (d : Byte) (m : List Host.Cell) (a : Nat) : Nat → Bytes
  | 0 => []
  | k + 1 => look (fun _ => d) m a :: readMem d m (a + 1) k

/-- Writes bytes from `a` on. -/
def writeMem (d : Byte) (m : List Host.Cell) (a : Nat) : Bytes → List Host.Cell
  | [] => m
  | b :: bs => writeMem d (put (fun _ => d) m a b) (a + 1) bs

/-- `k` bytes of the BAR2 tables and memories. -/
def State.b2Bytes (s : State) (a k : Nat) : Bytes := readMem 0 s.bar2 a k

/-- Writes bytes into the BAR2 tables and memories. -/
def State.b2Write (s : State) (a : Nat) (bs : Bytes) : State := { s with bar2 := writeMem 0 s.bar2 a bs }

/-- A 32-bit word of the BAR2 tables and memories, least significant byte first. -/
def State.b2w (s : State) (a : Nat) : Nat := leNat (s.b2Bytes a 4)

/-- Writes a 32-bit word of the BAR2 tables and memories. -/
def State.b2wr (s : State) (a v : Nat) : State := s.b2Write a (leBytes 4 v)

/-- `k` bytes of LPDDR4X; an unlisted byte reads 0 (log entry 6). -/
def State.ddrBytes (s : State) (a k : Nat) : Bytes := readMem 0 s.ddr a k

/-- Writes bytes into LPDDR4X. -/
def State.ddrWrite (s : State) (a : Nat) (bs : Bytes) : State := { s with ddr := writeMem 0 s.ddr a bs }

/-- `k` bytes of flash; an unlisted byte is erased, 0xFF (log entry 6). -/
def State.flashBytes (s : State) (a k : Nat) : Bytes := readMem 0xFF s.flash a k

/-- Writes bytes into flash (the effect of an erase and a program together). -/
def State.flashWrite (s : State) (a : Nat) (bs : Bytes) : State := { s with flash := writeMem 0xFF s.flash a bs }

/-- Programs flash bytes: programming only clears bits (R429). -/
def State.flashProgram (s : State) (a : Nat) (bs : Bytes) : State :=
  s.flashWrite a (List.zipWith (· &&& ·) bs (s.flashBytes a bs.length))

/-- Erases `k` bytes of flash from `a` on. -/
def State.flashErase (s : State) (a k : Nat) : State :=
  { s with flash := s.flash.filter (fun c => c.1 < a || a + k ≤ c.1) }

/-! ### Free values and time -/

/-- A fresh free value of width `w`, and the state whose counter has moved on. -/
def State.fresh (s : State) (w : Nat) : BitVec w × State :=
  (Config.free w s.freeCount, { s with freeCount := s.freeCount + 1 })

/-- TIME_NS: the whole nanoseconds of the 92-bit count (R337). -/
def State.now (s : State) : Nat := s.time.toNat / 2 ^ 28

/-- The instant `ps` picoseconds after the tick, as a stamp between two ticks takes it: interpolated from the whole
count and rounded to 1 ns (R339). -/
def State.stampAt (s : State) (ps : Nat) : Nat := (s.time.toNat * 1000 + (ps + 500) * 2 ^ 28) / (1000 * 2 ^ 28)

/-- The stamp of an event `ago` ns before the tick, rounded to 1 ns from the whole count (R339). -/
def State.stampAgo (s : State) (ago : Nat) : Nat := (s.stampAt 0 + 2 ^ 64 - ago % 2 ^ 64) % 2 ^ 64

/-- A 32-bit stamp at a tick: TIME_NS[31:0]. -/
def State.stamp (s : State) : Nat := s.now % 2 ^ 32

/-- CLK_SYS time since reset in picoseconds (Table 1-4: 5 ns a cycle). -/
def State.ps (s : State) : Nat := s.cycles * 5000

/-! ### The hash H (R153) -/

/-- One bit of the CRC-32C shift register. -/
def crcBit (r : Word) : Word := if r.getLsbD 0 then (r >>> 1) ^^^ 0x82F63B78#32 else r >>> 1

/-- One byte of H. -/
def crcByte (r : Word) (d : Byte) : Word :=
  crcBit (crcBit (crcBit (crcBit (crcBit (crcBit (crcBit (crcBit (r ^^^ d.zeroExtend 32))))))))

/-- H(seed, b) (R153). -/
def hashH (seed : Nat) (b : Bytes) : Nat := (b.foldl crcByte (BitVec.ofNat 32 seed)).toNat

/-- The Ethernet FCS over bytes, as the four bytes on the wire: CRC-32 of IEEE 802.3 clause 3.2.9 (PRESUMED, log entry
9). -/
def ethFcs (b : Bytes) : Bytes :=
  let bit (r : Word) : Word := if r.getLsbD 0 then (r >>> 1) ^^^ 0xEDB88320#32 else r >>> 1
  let byte (r : Word) (d : Byte) : Word := bit (bit (bit (bit (bit (bit (bit (bit (r ^^^ d.zeroExtend 32))))))))
  leBytes 4 (~~~(b.foldl byte 0xFFFFFFFF#32)).toNat

/-- The four FCS bytes a frame carries. -/
def carriedFcs (b : Bytes) : Bytes := b.drop (b.length - 4)

/-- The bytes before the FCS. -/
def withoutFcs (b : Bytes) : Bytes := b.take (b.length - 4)

/-- Whether the carried FCS is right. -/
def fcsGood (b : Bytes) : Bool := 4 ≤ b.length && carriedFcs b == ethFcs (withoutFcs b)

/-- Bitwise inverse of bytes. -/
def invBytes (b : Bytes) : Bytes := b.map (~~~ ·)

/-! ### Pages -/

/-- The page header's fields (Table 2-3). -/
def hdrEn : Fld := ⟨0x00C, 0, 0⟩
def hdrSrst : Fld := ⟨0x00C, 1, 1⟩
def hdrQuiesce : Fld := ⟨0x00C, 2, 2⟩
def hdrFault : Fld := ⟨0x010, 3, 3⟩
def hdrPendEn : Fld := ⟨0x010, 4, 4⟩
def hdrRaw : Fld := ⟨0x014, 31, 0⟩
def hdrMask : Fld := ⟨0x018, 31, 0⟩
def hdrPend : Fld := ⟨0x01C, 31, 0⟩
def hdrClampOff : Fld := ⟨0x020, 27, 16⟩
def hdrClampCount : Fld := ⟨0x020, 15, 0⟩
def hdrViol : Fld := ⟨0x024, 15, 8⟩
def hdrLockCtl : Fld := ⟨0x024, 1, 1⟩
def hdrLock : Fld := ⟨0x024, 0, 0⟩

/-- Whether power domain `d` is on: AON always, the rest as PWR.DOM_STS shows (R399). -/
def State.domOn (s : State) (d : Nat) : Bool :=
  if d = 0 then true else bitOf (s.rd (pageBase .pwrMain 0 + 0x04C)).toNat d

/-- Whether what lies on the Line die in domain `d` works: the domain is on and the die-to-die link holds (R14, Table
1-5; log entry 75). -/
def State.lineOn (s : State) (d : Nat) : Bool := s.domOn d && !s.dieLost

/-- Whether a page's registers can be reached: present on the grade and its domain on. -/
def State.alive (s : State) (k : PageKind) (i : Nat) : Bool :=
  s.grade.hasPage k i && s.domOn (pageDomain k i)

/-- Page kinds outside the page state machine (R47, R420, R438). -/
def PageKind.noState (k : PageKind) : Bool :=
  match k with
  | .sys => true
  | .evt => true
  | .pwrMain => true
  | .pwrWake => true
  | .caskUser => true
  | _ => false

/-- The state of a page (R48). -/
def State.pst (s : State) (k : PageKind) (i : Nat) : PageState :=
  look (fun _ => PageState.off) s.pages (pageBase k i)

/-- Sets the state of a page. -/
def State.setPst (s : State) (k : PageKind) (i : Nat) (p : PageState) : State :=
  { s with pages := put (fun _ => PageState.off) s.pages (pageBase k i) p }

/-- Whether a page is in RUN: READY = 1, in a domain that is on (R47, R48). -/
def State.run (s : State) (k : PageKind) (i : Nat) : Bool :=
  s.alive k i && (k.noState || s.pst k i == .run)

/-- The state a page takes from OFF: the rows of Table 2-4 that leave OFF without a reset. -/
def State.settleOff (s : State) (k : PageKind) (i : Nat) : State :=
  let b := pageBase k i
  if s.on b hdrEn then
    if s.on b hdrQuiesce then s.setPst k i .held else s.setPst k i .run
  else s.setPst k i .off

/-- A PAGE_CTL write that has been accepted, as the page state machine sees it in the next cycle (Table 2-4):
`srst` and `en` are the bits the write carries; EN and QUIESCE already stand in the register. -/
def State.pageCtl (s : State) (k : PageKind) (i : Nat) (en srst : Bool) : State :=
  let b := pageBase k i
  match s.pst k i with
  | .off => if srst then s.setPst k i .resetting else s.settleOff k i
  | .run =>
    if srst then s.setPst k i .resetting
    else if !s.on b hdrEn || s.on b hdrQuiesce then s.setPst k i .quiescing
    else s
  | .quiescing =>
    if srst then (s.setPst k i .resetting).pf b hdrPendEn 0
    else s.pf b hdrPendEn (b2n en)
  | .held =>
    if srst then s.setPst k i .resetting
    else if !s.on b hdrEn then s.setPst k i .off
    else if !s.on b hdrQuiesce then s.setPst k i .run
    else s
  | .resetting => s

/-- The drain of a quiescing page completes (Table 2-4). -/
def State.pageDrained (s : State) (k : PageKind) (i : Nat) : State :=
  let b := pageBase k i
  if s.pst k i = .quiescing then
    if !s.on b hdrEn then s.setPst k i .off
    else if s.on b hdrQuiesce then (s.setPst k i .held).pf b hdrPendEn 0
    else (s.setPst k i .run).pf b hdrPendEn 0
  else s

/-- A page enters RUN between the two states. -/
def enteredRun (s t : State) (k : PageKind) (i : Nat) : Bool :=
  s.pst k i != .run && t.pst k i == .run

/-! ### Outputs and the performance counters -/

/-- Records something the block sends to the outside, oldest first. -/
def State.emit (s : State) (o : Out) : State := { s with out := s.out ++ [o] }

/-- Counted events without an instance: INST is ignored (Table 14-7). -/
def perfNoInst : List Nat := [0x000, 0x001, 0x050, 0x051, 0x071, 0x081, 0x0A0, 0x0A1, 0x0B0, 0x0B1]

/-- The numbers of the performance counters whose selection is (event, number) (R436). -/
def State.perfHits (s : State) (ev inst : Nat) : List Nat :=
  let b := pageBase .caskCnt 0
  if s.run .caskCnt 0 && s.on b F.caskCnt_PERF_CTL_RUN then
    (List.range 16).filter fun c =>
      s.gf b (F.caskCnt_PSEL_EVSEL.at (16 * c)) == ev &&
        (perfNoInst.contains ev || s.on b (F.caskCnt_PSEL_ANY.at (16 * c)) || s.gf b (F.caskCnt_PSEL_INST.at (16 * c)) == inst)
  else []

/-- Adds `n` occurrences of a counted event to every performance counter that selects it (R436); counters
wrap at 64 bits. -/
def State.perf (s : State) (ev inst n : Nat) : State :=
  (s.perfHits ev inst).foldl (fun t c =>
    let lo := F.caskCnt_CNT_LO.at (16 * c)
    let hi := F.caskCnt_CNT_HI.at (16 * c)
    t.p64 (pageBase .caskCnt 0) lo hi ((t.g64 (pageBase .caskCnt 0) lo hi + n) % 2 ^ 64)) s

end Sys2Proof.Machine
end

