-- ==== Sys2Proof/Machine/Flags.lean ====
section
/-! DEFINITION. The event flags: what an occurrence of an event source does (R69 to R77), the entry of a record into
the Cask's buffer (R425 to R428), the level sources, and the group summaries with their messages (R72, R73). -/

namespace Sys2Proof.Machine

/-! ### The Cask's buffer -/

/-- Bytes of a record in flash and in the buffer: 24 header bytes, the padded payload, 4 check bytes (Table 14-2). -/
def CaskRec.len (r : CaskRec) : Nat := 28 + (r.payload.length + 3) / 4 * 4

/-- Bytes held by the buffer. -/
def Cask.bytes (c : Cask) : Nat := c.buf.foldl (fun a r => a + r.len) 0

/-- Whether a record kind may use the last 4 KiB of the buffer: ACTION, OVERRIDE, START and LOST (R427). -/
def caskReserved (kind : Nat) : Bool := kind == 1 || kind == 2 || kind == 5 || kind == 7

/-- Whether a record finds room (R427). -/
def Cask.room (c : Cask) (r : CaskRec) : Bool :=
  c.bytes + r.len ≤ (if caskReserved r.kind then 65536 else 65536 - 4096)

/-- OPSEC: OPSEC_BASE plus the whole seconds that PD3 has been on (R426; CLK_SYS is 200 MHz, Table 1-4). -/
def Cask.opsec (c : Cask) : Nat := (c.opsecBase + c.pd3Cycles / 200000000) % 2 ^ 32

/-- Appends a record that has room. Once the scan has completed it takes the next SEQ; before that it takes SEQ,
OPSEC and PWRCYC when the scan completes (R426). -/
def State.caskPush (s : State) (r : CaskRec) : State :=
  let b := pageBase .caskRec 0
  let scanned := s.on b F.caskRec_STS_SCANNED
  let next := s.gf b F.caskRec_NEXT_SEQ
  let r' := if scanned then { r with seq := next, opsec := s.cask.opsec, pwrcyc := s.gf b F.caskRec_PWRCYC }
    else { r with seq := 2 ^ 32 + s.cask.buf.length, opsec := s.cask.pd3Cycles / 200000000 }
  let s1 := { s with cask := { s.cask with buf := s.cask.buf ++ [r'] } }
  let s2 := if scanned then s1.pf b F.caskRec_NEXT_SEQ (next + 1) else s1
  let level := s2.cask.bytes
  let s3 := s2.pf b F.caskRec_BUF_LEVEL_BYTES level
  s3.pf b F.caskRec_BUF_PEAK_BYTES (max (s3.gf b F.caskRec_BUF_PEAK_BYTES) level)

/-- Enters the LOST record that goes before the next record, where others have been discarded; without room for it the
state stays (R427). -/
def State.caskLost (s : State) (stamp : Nat) : State :=
  let r : CaskRec := ⟨7, 0, false, 0, 0, 0, stamp, leBytes 4 s.cask.lost, none⟩
  if s.cask.lost ≠ 0 ∧ s.cask.room r then
    let t := s.caskPush r
    { t with cask := { t.cask with lost := 0 } }
  else s

/-- A record enters the Cask's buffer, or is discarded and counted where it finds no room; a LOST record goes in
first when room for both has returned (R425, R427). Answers also whether this discard is the first since CNT_CLR. -/
def State.caskEnter (s : State) (kind source : Nat) (stamp : Nat) (payload : Bytes) : State × Bool :=
  let b := pageBase .caskRec 0
  if s.domOn 3 then
    let s1 := s.caskLost stamp
    let r : CaskRec := ⟨kind, source, false, 0, 0, 0, stamp, payload, none⟩
    if s1.cask.lost = 0 && s1.cask.room r then
      let t := s1.caskPush r
      ({ t with cask := { t.cask with clocked := t.cask.clocked || kind == 6 } }, false)
    else
      let first := s.gf b F.caskRec_LOST == 0
      let s2 := (s.inc b F.caskRec_LOST).perf 0x0B1 0 1
      ({ s2 with cask := { s2.cask with lost := s2.cask.lost + 1 } }, first)
  else (s, false)

/-! ### Occurrences -/

/-- The group of the sources of a page: every page's sources lie in one group of 32 (Table 2-9). -/
def pageGroup (k : PageKind) (i : Nat) : Nat :=
  match k with
  | .sys => 0
  | .pwrMain => 0
  | .timeClock => 1 | .timeGptp => 1 | .timePulse => 1 | .timeSched => 1 | .svc => 1 | .upd => 1 | .qspi => 1
  | .fabGlobal => 2
  | .pipeShared => 3
  | .emac => 4 + i / 8
  | .t1s => 6
  | .lin => 6
  | .can => if i < 16 then 7 else 8
  | .pwrWake => 8
  | .pwrRing => 8
  | .brgGlobal => 9
  | .sigGlobal => 10
  | .ktl => 11
  | .crc => 12
  | .ciphGlobal => 12
  | .kilnMain => 13
  | .guardGlobal => 15
  | _ => 14

/-- PEND of source EVn. -/
def State.evPend (s : State) (n : Nat) : Bool :=
  match sourceHome n with
  | none => false
  | some (k, i, b) => s.alive k i && bitOf (s.rd (pageBase k i + 0x01C)).toNat b

/-- MASK of source EVn; a reserved source counts as masked. -/
def State.evMasked (s : State) (n : Nat) : Bool :=
  match sourceHome n with
  | none => true
  | some (k, i, b) => bitOf (s.rd (pageBase k i + 0x018)).toNat b

/-- The summary bit of group g as R72 computes it. -/
def State.groupSum (s : State) (g : Nat) : Bool :=
  (List.range 32).any fun i => s.evPend (32 * g + i) && !s.evMasked (32 * g + i)

/-- A message to a vector of H port h; while the vector is masked its pending bit is set in its place (R73; log entry
122). -/
def State.message (s : State) (h vector : Nat) : State :=
  let v := 64 * h + vector
  if s.msixMask.contains v then { s with msixPend := v :: s.msixPend.filter (· != v) }
  else s.emit (.msix h vector)

/-- Recomputes the summary of group g; on a rise with the group armed and routed to an H port the message is sent
and the group disarmed (R72, R73). With PD3 off the EVT page has no power. -/
def State.regroup (s : State) (g : Nat) : State :=
  let b := pageBase .evt 0
  let old := bitOf (s.gf b F.evt_GRP_SUM_SUM) g
  let now := if s.domOn 3 then s.groupSum g else old
  let s1 := if old = now then s
    else s.pf b F.evt_GRP_SUM_SUM (putBits (s.gf b F.evt_GRP_SUM_SUM) g g (b2n now))
  let target := s1.gf b (F.evt_GRP_ROUTE_TARGET.at (4 * g))
  if !old && now && bitOf s1.armed g && (target == 1 || target == 2) then
    { s1.message (target - 1) (s1.gf b (F.evt_GRP_ROUTE_VECTOR.at (4 * g))) with
      armed := putBits s1.armed g g 0 }
  else s1

/-- Whether INTn_N is driven low: some group routed to it has its summary 1 (R73). -/
def State.intLow (s : State) (n : Nat) : Bool :=
  let b := pageBase .evt 0
  s.domOn 3 && (List.range 16).any fun g =>
    s.gf b (F.evt_GRP_ROUTE_TARGET.at (4 * g)) == 3 && s.gf b (F.evt_GRP_ROUTE_PIN.at (4 * g)) == n
      && bitOf (s.gf b F.evt_GRP_SUM_SUM) g

/-- The event log takes a record, or discards it and counts it when it is full (R69, R77). Records of different sources
stand in the order of occurrence, a DESIGN CHOICE where R76 leaves their order open (log entry 120). -/
def State.logPush (s : State) (r : LogRec) : State :=
  let b := pageBase .evt 0
  if s.log.length < 1024 then { s with log := s.log ++ [r] }
  else (s.pf b F.evt_LOG_STS_OVF 1).inc b F.evt_LOG_LOST

/-- One occurrence of a source, without the level sources and events that follow from it: PEND is set, a record is
appended while the source is unmasked and logging is enabled, the Cask takes a record while REC_MASK admits the source
(R69, R70, R77, R425). The second answer says whether the Cask discarded its first record. While the die-to-die link is
lost an occurrence on the Line die sets PEND in its page and reaches nothing on the Logic die (R14; log entry 125). -/
def State.raiseOnce (s : State) (n detail : Nat) : State × Bool :=
  match sourceHome n with
  | none => (s, false)
  | some (k, i, bit) =>
    if s.alive k i then
      let b := pageBase k i
      let masked := s.evMasked n
      let s1 := s.pf b hdrPend (putBits (s.gf b hdrPend) bit bit 1)
      if s.dieLost && lineDiePage k then (s1, false) else
      let s2 := if !masked && s1.domOn 3 && s1.on (pageBase .evt 0) F.evt_LOG_CTL_LOG_EN then
          s1.logPush ⟨n, detail % 256, s1.stamp⟩ else s1
      let s3 := s2.regroup (n / 32)
      if bitOf (s3.gf (pageBase .caskRec 0) (F.caskRec_REC_MASK.at (4 * (n / 32)))) (n % 32) then
        s3.caskEnter 0 n s3.stamp (leBytes 4 (detail % 256))
      else (s3, false)
    else (s, false)

/-- An occurrence, and EV451 where the Cask discards its first record since CNT_CLR (R427). -/
def State.raise1 (s : State) (n detail : Nat) : State :=
  let r := s.raiseOnce n detail
  if r.2 then (r.1.raiseOnce 451 0).1 else r.1

/-- Sets the live state of a level source; a rise from 0 to 1 is an occurrence (R69). -/
def State.level1 (s : State) (n : Nat) (v : Bool) (detail : Nat) : State :=
  match sourceHome n with
  | none => s
  | some (k, i, bit) =>
    if s.alive k i then
      let b := pageBase k i
      let old := bitOf (s.gf b hdrRaw) bit
      if old = v then s
      else
        let s1 := s.pf b hdrRaw (putBits (s.gf b hdrRaw) bit bit (b2n v))
        if v then s1.raise1 n detail else s1
    else s

/-- EV3 and EV2 follow the event log's level and OVF (Table 2-10). -/
def State.logLevels (s : State) : State :=
  let b := pageBase .evt 0
  let s1 := s.level1 3 (decide (s.gf b F.evt_LOG_CTL_THRESH ≤ s.log.length)) 0
  s1.level1 2 (s1.on b F.evt_LOG_STS_OVF) 0

/-- Event source EVn occurs (R69). -/
def State.raise (s : State) (n detail : Nat) : State := (s.raise1 n detail).logLevels

/-- Sets the live state of level source EVn. -/
def State.level (s : State) (n : Nat) (v : Bool) (detail : Nat) : State := (s.level1 n v detail).logLevels

/-- Raises `n` only where `first` holds: the sources of the form "first … since CNT_CLR". -/
def State.raiseIf (s : State) (c : Bool) (n detail : Nat) : State := if c then s.raise n detail else s

/-- Adds 1 to a saturating counter and, where it stood at 0, raises the event of its first occurrence since CNT_CLR
(R103 and the like). -/
def State.incFirst (s : State) (base : Nat) (f : Fld) (n detail : Nat) : State :=
  let first := s.gf base f == 0
  (s.inc base f).raiseIf first n detail

/-- A record enters the Cask's buffer, with EV451 for the first discard since CNT_CLR (R425, R427). -/
def State.caskRecord (s : State) (kind source : Nat) (payload : Bytes) : State :=
  let r := s.caskEnter kind source s.stamp payload
  if r.2 then r.1.raise 451 0 else r.1

/-- A degraded request waits for its grant (R465, R466). -/
def State.degrade (s : State) (cause domains : Nat) : State :=
  let s1 := { s with degPend := s.degPend ++ [(cause, domains)] }
  s1.pf (pageBase .guardGlobal 0) F.guardGlobal_DEG_STS_PEND 1

/-- The device writes a degraded request itself where the cause's bit is set in AUTO_DEG (R465); bit n of `domains` is
PDn, bit n - 1 of the field. -/
def State.autoDegrade (s : State) (cause domains : Nat) : State :=
  let b := pageBase .guardGlobal 0
  if bitOf (s.gf b F.guardGlobal_AUTO_DEG_CAUSE) (cause - 1) then
    ((s.pf b F.guardGlobal_DEG_REQ_CAUSE cause).pf b F.guardGlobal_DEG_REQ_DOMAINS (domains / 2)).degrade cause domains
  else s

/-- Who writes (R35). Every command is an instant of its own: the order in which writes are applied, those of one cycle
too, is the order of their commands (DESIGN CHOICE, log entry 121). -/
inductive Writer | host | supervisor | cellarer
  deriving DecidableEq, Repr

/-- An accepted write of the word at a 32-bit address: a write by the host or the Supervisor of a watched field enters
an OVERRIDE record, marks the ACTION record where it is still in the buffer and ends the watch; a Cellarer write ends
it without a record (R428). -/
def State.noteOverride (s : State) (who : Writer) (addr value : Nat) : State :=
  match s.cask.watch.find? (fun w => w.2 == addr) with
  | none => s
  | some (seq, _) =>
    let s1 := { s with cask := { s.cask with watch := s.cask.watch.map (fun w => if w.2 = addr then (w.1, 2 ^ 32) else w) } }
    if who = .cellarer then s1
    else
      let mark (r : CaskRec) : CaskRec := if r.kind = 1 ∧ r.seq = seq then { r with overridden := true } else r
      let s2 := { s1 with cask := { s1.cask with buf := s1.cask.buf.map mark } }
      let who' : Nat := if who = .host then 0 else 1
      let s3 := s2.caskRecord 2 0 (leBytes 4 seq ++ leBytes 4 who' ++ leBytes 4 value)
      let n := s3.cask.buf.length
      let note (r : CaskRec) : CaskRec := if r.seq + 1 = 2 ^ 32 + n then { r with place := some (seq - 2 ^ 32) } else r
      let s4 : State := if 2 ^ 32 ≤ seq ∧ s2.cask.buf.length < n then { s3 with cask := { s3.cask with buf := s3.cask.buf.map note } } else s3
      s4.inc (pageBase .caskRec 0) F.caskRec_OVERRIDES

/-- A Cellarer action ends: counted, and entered as an ACTION record, from which the Cask watches the word that the
action wrote (R425, R428, R481, R482, Table 14-3; log entry 93). -/
def State.actionRecord (s : State) (rule code : Nat) (failed : Bool) (target value before : Nat) (watch : Option Nat) :
    State :=
  let b := pageBase .guardGlobal 0
  let s1 := if failed then s.inc b F.guardGlobal_ACTION_FAIL_COUNT else (s.incW b F.guardGlobal_ACTIONS_COUNT).perf 0x0A1 0 1
  let code' := if failed then code + 0x80 else code
  let t := s1.caskRecord 1 rule (leBytes 2 rule ++ leBytes 1 code' ++ [0] ++ leBytes 4 target ++ leBytes 4 value
    ++ leBytes 4 before)
  match t.cask.buf.reverse.find? (fun r => r.kind == 1) with
  | none => t
  | some r =>
    if s1.cask.buf.length < t.cask.buf.length ∧ !(s1.cask.buf.any fun x => x.kind == 1 && x.seq == r.seq) then
      let l := t.cask.watch ++ [(r.seq, watch.getD (2 ^ 32))]
      { t with cask := { t.cask with watch := l.drop (l.length - 64) } }
    else t

end Sys2Proof.Machine
end

