-- ==== Sys2Proof/Machine/Operands.lean ====
section
/-! DEFINITION. The operand of a register write and of a register address: the nearest legal value of a Clamp entry
(R10, R55, R56), the access codes (Table 0-5), page locking (R52 to R54), rejected writes (R41, R42, R51, R63 to
R65), the 32-bit address form of HSPI and the other writers (R65), and the plain BAR0 write that all writers share. -/

namespace Sys2Proof.Machine

/-! ### Clamping -/

/-- The value of a list nearest to `v`, the smaller of two equally near (R56). -/
def nearestOf (l : List Nat) (v : Nat) : Nat :=
  match l with
  | [] => v
  | a :: l => l.foldl (fun b c =>
      let db := if b ≤ v then v - b else b - v
      let dc := if c ≤ v then v - c else c - v
      if dc < db ∨ (dc = db ∧ c < b) then c else b) a

/-- The multiple of `m` within [lo, hi] nearest to `v`, the smaller of two equally near (R56). -/
def nearestMult (m lo hi v : Nat) : Nat :=
  let q := v / m * m
  let n := if 2 * (v - q) ≤ m then q else q + m
  max ((lo + m - 1) / m * m) (min n (hi / m * m))

/-- The event numbers of Table 14-7. -/
def perfSelections : List Nat :=
  [0x000, 0x001, 0x010, 0x011, 0x012, 0x020, 0x021, 0x022, 0x023, 0x024, 0x030, 0x031, 0x032, 0x040, 0x041,
   0x042, 0x048, 0x050, 0x051, 0x060, 0x061, 0x062, 0x063, 0x070, 0x071, 0x080, 0x081, 0x090, 0x091, 0x0A0,
   0x0A1, 0x0B0, 0x0B1]

/-- Bytes of a Cask unit: UNIT_SIZE 0 is 4 KiB, 1 is 64 KiB, 2 is 128 KiB (Table 14-9). -/
def State.caskUnitBytes (s : State) : Nat :=
  match s.gf (pageBase .caskRec 0) F.caskRec_REGION_CFG_UNIT_SIZE with
  | 0 => 4096
  | 1 => 65536
  | _ => 131072

/-- The mask of the domains that a grade holds: PD7, PD10 and PD12 only on the TVX-6480 (R28); bit n is PDn. -/
def Grade.domMask (g : Grade) : Nat := if g = .tvx6480 then 0x7FFE else 0x7FFE - 0x80 - 0x400 - 0x1000

/-- The legal value that a Clamp entry gives for `v`: `word` is the whole word written, `page` the page base, `o`
the register's offset in it. FORCE_SPEED follows MODE as it stands after the write (R179): the value held where the page
is locked, the clamped one otherwise. -/
def clampTo (s : State) (page o word : Nat) (c : Clamp) (v : Nat) : Nat :=
  match c with
  | .any => v
  | .range lo hi => max lo (min hi v)
  | .oneOf l => nearestOf l v
  | .mult m lo hi => nearestMult m lo hi v
  | .zeroOr lo hi => if v = 0 then 0 else if v < lo then nearestOf [0, lo] v else min hi v
  | .special .grpTarget => if s.grade = .tvx6480 then v else nearestOf [0, 1, 3] v
  | .special .frerHalf => v
  | .special .sizeLog2 => if bitOf word 1 then max 12 (min 28 v) else max 4 (min 16 v)
  | .special .hport => if s.grade = .tvx6480 then v else 0
  | .special .tailIndex =>
    let cfg := (s.rd (page + (o - 0x10))).toNat
    let size := 2 ^ bitsOf cfg 20 16
    if bitOf cfg 1 then nearestMult 0x10 0 (size - 1) v else min v (size - 1)
  | .special .forceSpeed =>
    let mode := if s.on page ⟨0x024, 0, 0⟩ then s.gf page F.emac_LANE_CFG_MODE else min 5 (bitsOf word 3 0)
    match mode with
    | 1 => min v 2
    | 2 => 3
    | 4 => 5
    | _ => min v 5
  | .special .pnLo => if (s.rd (page + o + 4)).toNat = 0 then max 1 v else v
  | .special .pnHi => if 2 ≤ s.gf page F.macsec_SECY_CTL_SUITE then v else 0
  | .special .objCount => min v (min 0x800 (8192 - bitsOf word 28 16))
  | .special .ddrWindow => min v (2 ^ s.gf page F.ddr_DDR_CFG_DENSITY - 1)
  | .special .dummy => if s.grade = .tvx6480 then 0 else max 1 (min 2 v)
  | .special .domReq =>
    let keep := natAnd (2 * s.gf (pageBase .guardGlobal 0) F.guardGlobal_REQUIRED_DOMAINS) (s.rd (page + o)).toNat
    bitsOf (natAnd ((v * 2) ||| keep ||| 8) s.grade.domMask) 14 1
  | .special .pnSuspend => if bitsOf (s.rd (page + o - 0x18)).toNat 31 30 = 0 then 0 else v
  | .special .nmChan => min v (s.grade.canChannels - 1)
  | .special .regionBase => nearestMult s.caskUnitBytes 0 0xFFFFFFFF v
  | .special .rdOff =>
    nearestMult 4 0 (s.gf page F.caskRec_REGION_CFG_UNITS * s.caskUnitBytes - 256) v
  | .special .evsel => nearestOf perfSelections v
  | .special .profileSel => if s.grade = .tvx6420 then min v 2 else min v 4
  | .special .degDomains => putBits v 2 2 0

/-! ### Access codes -/

/-- What a write makes of a register: the new word, whether a field was clamped, whether a WL field was left
unchanged because of the lock (R53 to R55). -/
structure WriteEffect where
  word : Nat
  clamped : Bool
  violated : Bool
  deriving DecidableEq, Repr

/-- One field of a written word under its access code (Table 0-5). -/
def fieldEffect (s : State) (page o data : Nat) (locked : Bool) (e : WriteEffect) (f : FieldDesc) : WriteEffect :=
  let v := bitsOf data f.hi f.lo
  let held := bitsOf e.word f.hi f.lo
  let stored := clampTo s page o data f.clamp v
  match f.acc with
  | .ro => e
  | .rc => e
  | .wo => e
  | .w1c => { e with word := putBits e.word f.hi f.lo (held - natAnd held v) }
  | .rw => { e with word := putBits e.word f.hi f.lo stored, clamped := e.clamped || stored != v }
  | .wl =>
    if locked then { e with violated := e.violated || v != held }
    else { e with word := putBits e.word f.hi f.lo stored, clamped := e.clamped || stored != v }

/-- How a register write ended. -/
inductive WriteResult | accepted | rejected | ignored
  deriving DecidableEq, Repr

/-- A rejected write: counted, its offset kept, EV1 raised (R63, R65); with PD3 off there is nothing to count it. -/
def State.reject (s : State) (off : Nat) : State :=
  let b := pageBase .sys 0
  if s.domOn 3 then ((s.inc b F.sys_BUS_ERR_REJ_CNT).pf b F.sys_BUS_ERR_ADDR_OFFSET off).raise 1 0 else s

/-- Notes a clamped write (R55). -/
def State.noteClamp (s : State) (base o : Nat) (c : Bool) : State :=
  if c then (s.inc base hdrClampCount).pf base hdrClampOff o else s

/-- Notes a write ignored because of the lock (R54). -/
def State.noteViol (s : State) (base : Nat) (v : Bool) : State := if v then s.inc base hdrViol else s

/-- PAGE_CTL of a page is locked (R53). -/
def State.ctlLocked (s : State) (k : PageKind) (i : Nat) : Bool :=
  s.on (pageBase k i) hdrLock && s.on (pageBase k i) hdrLockCtl

/-- A word would change a field of PAGE_CTL (R54); SRST holds 0. -/
def State.ctlDiffers (s : State) (k : PageKind) (i data : Nat) : Bool :=
  natAnd (s.gf (pageBase k i) ⟨0x00C, 2, 0⟩) 5 != natAnd data 5 || bitOf data 1

/-- A write to a header register of a page (Table 2-3). PAGE_CTL runs the page state machine. -/
def State.headerWrite (s : State) (k : PageKind) (i o data : Nat) : State × WriteResult :=
  let b := pageBase k i
  match o with
  | 0x00C =>
    if k.noState then (s, .ignored)
    else if s.ctlLocked k i then (s.noteViol b (s.ctlDiffers k i data), .ignored)
    else
      let s1 := (s.pf b hdrEn data).pf b hdrQuiesce (data / 4)
      (s1.pageCtl k i (bitOf data 0) (bitOf data 1), .accepted)
  | 0x018 => ((s.pf b hdrMask (natAnd data (sourceBits k))).regroup (pageGroup k i), .accepted)
  | 0x01C =>
    let held := s.gf b hdrPend
    ((s.pf b hdrPend (held - natAnd held data)).regroup (pageGroup k i), .accepted)
  | 0x020 =>
    if bitOf data 31 then ((s.pf b hdrClampOff 0).pf b hdrClampCount 0, .accepted) else (s, .accepted)
  | 0x024 =>
    let lock := max (s.gf b hdrLock) (bitsOf data 0 0)
    let ctl := max (s.gf b hdrLockCtl) (bitsOf data 1 1)
    ((s.pf b hdrLock lock).pf b hdrLockCtl ctl, .accepted)
  | _ => (s, .ignored)

/-- A write to a block register of a page by its description. -/
def State.descWrite (s : State) (base o data : Nat) (d : RegDesc) : State × WriteResult :=
  let locked := s.on base hdrLock
  let e := d.fields.foldl (fieldEffect s base o data locked) ⟨(s.rd (base + o)).toNat, false, false⟩
  let s1 := s.wr (base + o) (BitVec.ofNat 32 e.word)
  ((s1.noteClamp base o e.clamped).noteViol base e.violated,
    if e.violated && e.word == (s.rd (base + o)).toNat then .ignored else .accepted)

/-- Registers that a page's layout lists and that this page or grade does not have: they read 0 and ignore writes
(R4; Chapters 4, 7 and 8, Per grade). -/
def absentReg (g : Grade) (k : PageKind) (i o : Nat) : Bool :=
  match k with
  | .hostEgress => 16 ≤ i && (o == 0x040 || o == 0x088 || (0x090 ≤ o && o < 0xC00))
  | .canGlobal => 0x040 + 4 * g.canChannels ≤ o && o < 0x0A0
  | .brgJalden =>
    (0x080 + 4 * g.ePorts ≤ o && o < 0x0C0) || (0x0C0 + 4 * g.ePorts ≤ o && o < 0x100)
      || (0x100 + 16 * g.ePorts ≤ o && o < 0x200)
  | _ => false

/-- The plain write of a word to a BAR0 offset by any writer: reserved pages and pages whose domain is off reject
it, absent pages ignore it, the lock and the Clamp entries apply (R4, R8, R41, R51, R53, R55, R64, R438). With PD3 off
there is no register bus, and no writer (R35, Table 13-2; log entry 100). The effects of trigger fields are added by the
block that owns the register. -/
def State.regWrite (s : State) (off : Nat) (w : Word) : State × WriteResult :=
  if !s.domOn 3 then (s, .rejected) else
  match pageOf (off / 0x1000) with
  | none => (s.reject off, .rejected)
  | some (k, i) =>
    if !s.grade.hasPage k i then (s, .ignored)
    else if s.dieLost && lineDiePage k then (s.reject off, .rejected)
    else if !s.domOn (pageDomain k i) then (s.reject off, .rejected)
    else if k = .caskUser then (s, .ignored)
    else
      let o := off % 0x1000 / 4 * 4
      if o < 0x40 then s.headerWrite k i o w.toNat
      else if absentReg s.grade k i o then (s, .ignored)
      else
        match descAt k o with
        | none => (s, .ignored)
        | some d => s.descWrite (pageBase k i) o w.toNat d

/-- A register write by `who`: the plain write, the Cask's watch where it is accepted, then the owner's trigger on the
state after it; rejected and ignored writes trigger nothing. -/
def State.writeBy (s : State) (who : Writer) (off : Nat) (w : Word) (k : State → State) : State :=
  match s.regWrite off w with
  | (t, .accepted) => k (t.noteOverride who off w.toNat)
  | (t, _) => t

/-- A register write by the host. -/
def State.hostWrite (s : State) (off : Nat) (w : Word) (k : State → State) : State := s.writeBy .host off w k

/-- What every meaning answers: a command of this block always leads to a next state. -/
abbrev Answer := Host.Outcome State Fault Refusal

/-! ### The 32-bit address form (R65) -/

/-- The space and offset that a 32-bit address names. -/
inductive Place
  | bar0 (off : Nat)
  | bar2 (off : Nat)
  | nowhere
  deriving DecidableEq, Repr

/-- Bits [31:30] choose the space; bits [29:26] must be 0 in BAR0 space (R65). -/
def placeOf (a : Nat) : Place :=
  match bitsOf a 31 30 with
  | 0 => if bitsOf a 29 26 = 0 then .bar0 (bitsOf a 25 0) else .nowhere
  | 1 => .bar2 (bitsOf a 29 0)
  | _ => .nowhere

end Sys2Proof.Machine
end

