-- ==== Sys2Proof/Machine/Queue.lean ====
section
/-! DEFINITION. The egress buffer and the class queues of a fabric output (R114, R115), the credits of its shaped
classes (R118) and the end of low-power idle (R195). -/

namespace Sys2Proof.Machine

/-- An egress side with nothing in it. -/
def Egress.new : Egress where
  queue := []
  sending := none
  credit := List.replicate 8 0
  creditAt := 0
  busyTo := 0
  oper := none
  pend := none
  changeAt := 0
  lpi := false
  waking := false
  writing := none

/-- The egress side of fabric output p. -/
def State.eg (s : State) (p : Nat) : Egress := look (fun _ => Egress.new) s.egress p

/-- Replaces the egress side of fabric output p. -/
def State.setEg (s : State) (p : Nat) (e : Egress) : State :=
  { s with egress := put (fun _ => Egress.new) s.egress p e }

/-- Base of the egress page of output p. -/
def egBase (p : Nat) : Nat := pageBase .hostEgress p

/-- An E port with nothing in it. -/
def EPort.new : EPort := ⟨0, 0, 0, [], 0, none, false⟩

/-- E port n. -/
def State.port (s : State) (n : Nat) : EPort := look (fun _ => EPort.new) s.ports n

/-- Replaces E port n. -/
def State.setPort (s : State) (n : Nat) (e : EPort) : State :=
  { s with ports := put (fun _ => EPort.new) s.ports n e }

/-- Speed codes (Table 6-1) as kb/s. -/
def speedKbps (code : Nat) : Nat :=
  match code with
  | 0 => 10000
  | 1 => 100000
  | 2 => 1000000
  | 3 => 2500000
  | 4 => 5000000
  | _ => 10000000

/-- Port rate of En in kb/s (LINK_STS.SPEED). -/
def State.rate (s : State) (n : Nat) : Nat := speedKbps (s.gf (pageBase .emac n) F.emac_LINK_STS_SPEED)

/-- MAX_LEN that governs output p: that of the E port; 9,216 on a Jalden lane (R181, R268) and on the other outputs,
which have none (log entry 10). -/
def State.maxLen (s : State) (p : Nat) : Nat :=
  if p < 16 ∧ (s.port p).mode ≠ 5 then s.gf (pageBase .emac p) F.emac_MAX_LEN_BYTES else 9216

/-- Cells of L bytes (R17). -/
def cellsOf (l : Nat) : Nat := (l + 63) / 64

/-! ### Credit-based shaper (R118) -/

/-- hiCredit of class c on port p in 10⁻⁹ bit; none where it is 2^31 − 1 bits. -/
def State.hiCredit (s : State) (p c : Nat) : Int :=
  let m : Nat := (s.maxLen p + 20) * 8
  let r := s.rate p
  let above := (onesOf 8 (s.gf (egBase p) F.hostEgress_CBS_EN_MASK)).filter (c < ·)
  let slope (k : Nat) : Nat := s.gf (egBase p) (F.hostEgress_IDLE_SLOPE_KBPS.at (4 * k))
  let sum := above.foldl (fun a k => a + slope k) 0
  if r ≤ sum then (2 ^ 31 - 1) * 10 ^ 9
  else (slope c * m * (r + above.length * (r - sum)) * 10 ^ 9 / ((r - sum) * r) : Nat)

/-- loCredit of class c on port p in 10⁻⁹ bit. -/
def State.loCredit (s : State) (p c : Nat) : Int :=
  let m : Int := ((s.maxLen p + 20) * 8 : Nat)
  let idle : Int := (s.gf (egBase p) (F.hostEgress_IDLE_SLOPE_KBPS.at (4 * c)) : Nat)
  let r : Int := (s.rate p : Nat)
  m * (idle - r) * 10 ^ 9 / r

/-- One class's credit after `d` picoseconds in which nothing changes: the first row of R118's table that holds, within
hiCredit and loCredit, whose formula bounds from below where it is negative (DEDUCED, log entry 129). -/
def creditAfter (idle rate hi lo : Int) (sendingIt gateOpen waiting : Bool) (d : Nat) (x : Int) : Int :=
  let y := if sendingIt then x + (idle - rate) * d
    else if !gateOpen then x
    else if waiting then x + idle * d
    else if 0 < x then 0
    else min 0 (x + idle * d)
  max (min 0 lo) (min hi y)

/-- Whether some frame waits in class queue c. -/
def Egress.waits (e : Egress) (c : Nat) : Bool := e.queue.any fun f => f.info.tc == c

/-- The credits of port p after `d` picoseconds; `tx` says that the frame in transmission is still being sent. -/
def State.creditsAfter (s : State) (p : Nat) (tx : Bool) (d : Nat) (cr : List Int) : List Int :=
  let e := s.eg p
  let b := egBase p
  let gates := s.gf b F.hostEgress_GATE_STS_GATES
  let mask := s.gf b F.hostEgress_CBS_EN_MASK
  (List.range 8).map fun c =>
    let x := cr.getD c 0
    if bitOf mask c then
      let mine := match e.sending with
        | some f => tx && f.frame.info.tc == c
        | none => false
      creditAfter (s.gf b (F.hostEgress_IDLE_SLOPE_KBPS.at (4 * c)) : Nat) (s.rate p : Nat)
        (s.hiCredit p c) (s.loCredit p c) mine (bitOf gates c) (e.waits c) d x
    else 0

/-- CREDIT[c] of the classes shaped by `mask` reads the whole bits of the credits `cr`. CREDIT[c] of a class that is not
shaped keeps what it showed last while its credit is 0 (R118 gives it no value; DESIGN CHOICE, log entry 136). -/
def State.showCredits (s : State) (p mask : Nat) (cr : List Int) : State :=
  (onesOf 8 mask).foldl (fun a c =>
    a.pf (egBase p) (F.hostEgress_CREDIT_BITS.at (4 * c)) (ofSigned 32 ((cr.getD c 0).tdiv (10 ^ 9)))) s

/-- Brings the credits of port p up to time `t` and shows them. -/
def State.creditRun (s : State) (p t : Nat) : State :=
  if p < 16 ∧ (s.eg p).creditAt < t then
    let e := s.eg p
    let mid := max e.creditAt (min e.busyTo t)
    let cr := s.creditsAfter p false (t - mid) (s.creditsAfter p true (mid - e.creditAt) e.credit)
    (s.setEg p { e with credit := cr, creditAt := t }).showCredits p (s.gf (egBase p) F.hostEgress_CBS_EN_MASK) cr
  else s

/-- The credits that stood at a write's time before the write, `old`, are those from which it goes on after it (R118).
-/
def State.keepCredit (s : State) (p : Nat) (old : State) : State :=
  let kept := (old.creditRun p old.ps).eg p
  (s.setEg p { s.eg p with credit := kept.credit, creditAt := kept.creditAt }).showCredits p
    (old.gf (egBase p) F.hostEgress_CBS_EN_MASK) kept.credit

/-! ### The buffer -/

/-- Adds cells to EG_BUF.LEVEL. -/
def State.bufAdd (s : State) (p n : Nat) : State := s.addWrap (egBase p) F.hostEgress_EG_BUF_LEVEL n

/-- Frees cells of the egress buffer. -/
def State.bufFree (s : State) (p n : Nat) : State :=
  s.pf (egBase p) F.hostEgress_EG_BUF_LEVEL (s.gf (egBase p) F.hostEgress_EG_BUF_LEVEL - n)

/-- Whether the output takes cells (R114). -/
def State.outRoom (s : State) (p : Nat) : Bool :=
  s.run .hostEgress p && s.gf (egBase p) F.hostEgress_EG_BUF_LEVEL < s.gf (egBase p) F.hostEgress_EG_BUF_XOFF

/-- Counts a drop in EG_DROP[c]; EV460 at the output's first since CNT_CLR. -/
def State.egDrop (s : State) (p c : Nat) : State :=
  let b := egBase p
  let first := (List.range 8).all fun k => s.gf b (F.hostEgress_EG_DROP_COUNT.at (4 * k)) == 0
  (s.inc b (F.hostEgress_EG_DROP_COUNT.at (4 * c))).raiseIf first 460 p

/-- Takes `n` cells out of class queue c's level. -/
def State.eqLess (s : State) (p c n : Nat) : State :=
  let f := F.hostEgress_EQ_LEVEL.at (4 * c)
  s.pf (egBase p) f (s.gf (egBase p) f - n)

/-- A frame handed to a class queue ends low-power idle; a frame that meets the wake time is counted (R195). -/
def State.lpiEnd (s : State) (p : Nat) : State :=
  let e := s.eg p
  if p < 16 ∧ (e.lpi ∨ e.waking) then
    let s1 := s.setEg p { e with lpi := false, waking := true }
    (s1.pf (pageBase .emac p) F.emac_LINK_STS_TX_LPI 0).inc (pageBase .emac p) F.emac_LPI_WAKE_DELAYED
  else s

/-- A frame is handed to its class queue or dropped (R115); one forwarded by cut-through counts as long as MAX_LEN, also
where its one cell is all of it. Its cells already lie in the buffer. -/
def State.handoff (s : State) (p : Nat) (f : EgFrame) : State :=
  let c := f.info.tc
  let s0 := s.creditRun p s.ps
  let fld := F.hostEgress_EQ_LEVEL.at (4 * c)
  let level := s0.gf (egBase p) fld
  let need := if f.info.cut then cellsOf (s0.maxLen p) else f.cells
  if level + need ≤ s0.gf (egBase p) (F.hostEgress_EQ_LIMIT.at (4 * c)) then
    let s1 := s0.pf (egBase p) fld (level + f.cells)
    let e := s1.eg p
    (s1.setEg p { e with queue := e.queue ++ [f] }).lpiEnd p
  else (s0.bufFree p f.cells).egDrop p c

/-- Removes a frame from its queue and frees its cells. -/
def State.unqueue (s : State) (p : Nat) (f : EgFrame) : State :=
  let e := s.eg p
  ((s.setEg p { e with queue := e.queue.erase f }).eqLess p f.info.tc f.cells).bufFree p f.cells

/-- Drops every frame of class queue c, counting each (R137). -/
def State.flushClass (s : State) (p c : Nat) : State :=
  ((s.eg p).queue.filter fun f => f.info.tc == c).foldl (fun a f => (a.unqueue p f).egDrop p c) s

/-- Drops every queued frame of an output, counting each (R138). -/
def State.flushOutput (s : State) (p : Nat) : State :=
  (List.range 8).foldl (fun a c => a.flushClass p c) s

/-- What a bad frame leaves on the wire: the bytes already sent and the inverse of their FCS (R126). -/
def cutOff (sent : Bytes) : Bytes := sent ++ invBytes (ethFcs sent)

/-- Applies the tag edit to a frame's bytes, or to the first of them. -/
def TxEdit.apply (e : TxEdit) (b : Bytes) : Bytes :=
  let rest := if e.strip then b.drop 16 else b.drop 12
  let rest' := match e.vid with
    | none => rest
    | some v => putBytes rest 2 (beBytes 2 (putBits (beAt rest 2 2) 11 0 v))
  b.take 12 ++ e.insert ++ rest'

/-- Whether the edit changes nothing in these bytes. -/
def TxEdit.idle (e : TxEdit) (b : Bytes) : Bool := e.apply b == b

/-- Protects DA, SA and user data without FCS: SecTAG inserted, the text encrypted from the offset on, ICV appended
(IEEE 802.1AE-2018 clause 14, log entry 9). -/
def Prot.apply (p : Prot) (b : Bytes) : Bytes :=
  let addr := b.take 12
  let data := b.drop 12
  let off := match p.conf with
    | some o => o
    | none => data.length
  let clear := data.take off
  let ct := gcmCrypt p.key p.iv (data.drop off)
  addr ++ p.secTag ++ clear ++ ct ++ gcmTag p.key p.iv (addr ++ p.secTag ++ clear) ct

/-- Bytes that protection adds. -/
def Prot.extra (p : Prot) : Nat := p.secTag.length + 16

/-- The bytes of a frame in transmission that stand on the wire from DA on, as far as they are known, before the frame
is whole. -/
def Sending.wireSoFar (x : Sending) : Bytes :=
  let b := x.edit.apply x.frame.bytes
  match x.prot with
  | none => b
  | some p => (p.apply b).take (b.length + p.secTag.length)

/-- The whole frame as it leaves: edited, padded to 64 bytes, protected, with the FCS that R189 gives. Answers also
whether an edited frame carried a wrong FCS, and whether it was padded. -/
def Sending.wireWhole (x : Sending) : Bytes × Bool × Bool :=
  let body := x.edit.apply (withoutFcs x.frame.bytes)
  let pad := 60 - body.length
  let body' := body ++ List.replicate pad 0
  let changed := body' != withoutFcs x.frame.bytes
  let good := fcsGood x.frame.bytes
  match x.prot with
  | none =>
    if changed then (body' ++ (if good then ethFcs body' else invBytes (ethFcs body')), !good, pad != 0)
    else (x.frame.bytes, false, false)
  | some p =>
    let sec := p.apply body'
    (sec ++ (if good then ethFcs sec else invBytes (ethFcs sec)), changed && !good, pad != 0)

/-- How many bytes of a frame in transmission have left by time `t`, 8 preamble bytes first. -/
def State.sentBytes (s : State) (p : Nat) (x : Sending) (t : Nat) : Nat :=
  (t - x.start) * s.rate p / (8 * 10 ^ 9) - 8

/-- The AES pipeline that serves port n, receive or transmit (R378). -/
def State.pipelineOf (s : State) (n : Nat) (tx : Bool) : Nat :=
  match s.grade with
  | .tvx6480 => n / 8 + (if tx then 2 else 0)
  | .tvx6440 => if tx then 2 else 0
  | .tvx6420 => 0

/-- AES blocks of a frame with p bytes after the confidentiality offset, with the dummy blocks that SCA_CTL.DUMMY puts
in after every 7 or 3 useful ones of the pipeline (R378, R390). -/
def State.countBlocks (s : State) (pipe p : Nat) : State :=
  let b := pageBase .ciphGlobal 0
  let n := (p + 15) / 16 + 1
  let all := look (fun _ => 0) s.kiln.useful pipe + n
  let every := match s.gf b F.ciphGlobal_SCA_CTL_DUMMY with
    | 0 => 0
    | 1 => 7
    | _ => 3
  let s1 := if every = 0 then s
    else { s with kiln := { s.kiln with useful := put (fun _ => 0) s.kiln.useful pipe (all % every) } }
  let d := if every = 0 then 0 else all / every
  ((s1.incW b (F.ciphGlobal_PIPE_FRAMES_COUNT.at (4 * pipe))).addWrap b F.ciphGlobal_DUMMY_BLK_COUNT d).perf 0x080 pipe (n + d)

/-- Bytes of a protected frame in transmission after its confidentiality offset. -/
def Sending.secBytes (x : Sending) : Nat :=
  let body := x.edit.apply (if x.frame.whole then withoutFcs x.frame.bytes else x.frame.bytes)
  match x.prot.bind (·.conf) with
  | some o => (max 60 body.length) - 12 - o
  | none => 0

/-- The blocks of a protected frame that was not complete at its start are counted now. -/
def State.countSending (s : State) (p : Nat) (x : Sending) : State :=
  if x.prot.isSome then s.countBlocks (s.pipelineOf p true) x.secBytes else s

/-- Ends the frame in transmission on E port p before its end, with the inverse FCS (R126). -/
def State.endSending (s : State) (p : Nat) : State :=
  let e := s.eg p
  match e.sending with
  | none => s
  | some x =>
    let known := if x.frame.whole then withoutFcs x.wireWhole.1 else x.wireSoFar
    let sent := known.take (s.sentBytes p x s.ps)
    let s1 := (if x.frame.whole then s else s.countSending p x).creditRun p s.ps
    let s2 := (s1.setEg p { s1.eg p with sending := none, busyTo := s.ps }).bufFree p x.frame.cells
    if (s.port p).mode = 5 then s2 else s2.emit (.ethTx p (cutOff sent) x.stamp)

/-- Time on the wire of a frame of `n` bytes with preamble, delimiter and gap, in picoseconds (R117). -/
def State.wireTime (s : State) (p n : Nat) : Nat := (n + 20) * 8 * 10 ^ 9 / s.rate p

/-- A frame exceeds CIPH.LEN_LIM: counted in LEN_ERR, with EV401 at the first (R382). -/
def State.lenError (s : State) : State :=
  (s.incFirst (pageBase .ciphGlobal 0) F.ciphGlobal_LEN_ERR_COUNT 401 0).perf 0x081 0 1

/-- A protected transmit frame exceeds CIPH.LEN_LIM (R382). -/
def State.outTooLong (s : State) (n : Nat) : State :=
  s.lenError.incW (pageBase .macsec n) F.macsec_OUT_TOO_LONG_COUNT

/-- The egress length limit of E port n for a frame with edit `e` (R191). -/
def State.txLimit (s : State) (n : Nat) (e : TxEdit) : Nat := s.maxLen n + (if e.insert = [] then 0 else 4)

/-- Whether a protected frame whose text before protection has `n` bytes with FCS passes CIPH.LEN_LIM (R382). -/
def State.protFits (s : State) (q : Prot) (n : Nat) : Bool :=
  n + q.extra ≤ s.gf (pageBase .ciphGlobal 0) F.ciphGlobal_LEN_LIM_BYTES

/-- A cell of a frame forwarded by cut-through follows its head: the cell's bytes join the frame in its queue or in
transmission. `bad` says that the frame has turned out bad, `last` that this is its last cell. Where its head was
dropped or ended, the cell is discarded (R126). -/
def State.cutFollow (s : State) (p : Nat) (i : FrameInfo) (payload : Bytes) (last bad : Bool) : State :=
  let e := s.eg p
  let same (f : EgFrame) : Bool := f.info.src == i.src && f.info.tag == i.tag && !f.whole
  match e.queue.find? same with
  | some f =>
    if bad && p < 16 then (((s.bufFree p 1).unqueue p f)).egDrop p i.tc
    else
      let f' : EgFrame := { f with bytes := f.bytes ++ payload, cells := f.cells + 1, whole := last, bad := f.bad || bad }
      (s.setEg p { e with queue := e.queue.map fun g => if same g then f' else g }).eqLess p i.tc 0
        |>.addWrap (egBase p) (F.hostEgress_EQ_LEVEL.at (4 * i.tc)) 1
  | none =>
    match e.sending, e.writing with
    | none, none => s.bufFree p 1
    | none, some y =>
      if same y.frame then
        s.setEg p { e with writing := some { y with frame := { y.frame with
          bytes := y.frame.bytes ++ payload, cells := y.frame.cells + 1, whole := last, bad := y.frame.bad || bad } } }
      else s.bufFree p 1
    | some x, _ =>
      if same x.frame then
        let grow (b : Bytes) : Sending := { x with
          frame := { x.frame with bytes := b, cells := x.frame.cells + 1, whole := last && !bad } }
        if bad then
          ((s.setEg p { e with sending := some (grow x.frame.bytes) }).endSending p).inc (egBase p) F.hostEgress_CT_END_BAD
        else
          let y := grow (x.frame.bytes ++ payload)
          let len := (y.edit.apply y.frame.bytes).length
          let busy := if last then x.start + s.wireTime p y.wireWhole.1.length else e.busyTo
          let s1 := (if last then s.countSending p y else s).setEg p { e with sending := some y, busyTo := busy }
          if s.txLimit p y.edit < len then (s1.endSending p).inc (pageBase .emac p) F.emac_TX_OVERSIZE_COUNT
          else if (y.prot.map fun q => !s.protFits q len).getD false then (s1.endSending p).outTooLong p
          else s1
      else s.bufFree p 1

end Sys2Proof.Machine
end

