-- ==== Sys2Proof/Machine/Lane.lean ====
section
/-! DEFINITION. Sending on a Jalden lane: credits, sequence numbers and the replay buffer (R266, R268, R269). -/

namespace Sys2Proof.Machine

/-- Base of the BRG Jalden page. -/
def jlB : Nat := pageBase .brgJalden 0

/-- A lane with nothing in it. -/
def JlLane.new : JlLane := ⟨0, 0, [], [], 0, 0, 0, 0, 0, false, false, false, []⟩

/-- Lane n. -/
def State.jl (s : State) (n : Nat) : JlLane := look (fun _ => JlLane.new) s.jal.lanes n

/-- Replaces lane n. -/
def State.setJl (s : State) (n : Nat) (l : JlLane) : State :=
  { s with jal := { s.jal with lanes := put (fun _ => JlLane.new) s.jal.lanes n l } }

/-- JL_STS.STATE of lane n. -/
def State.jlState (s : State) (n : Nat) : Nat := s.gf jlB (F.brgJalden_JL_STS_STATE.at (4 * n))

/-- JL_LANE.ROLE of lane n. -/
def State.jlRole (s : State) (n : Nat) : Nat := s.gf jlB (F.brgJalden_JL_LANE_ROLE.at (4 * n))

/-- Whether lane n is UP. -/
def State.jlUp (s : State) (n : Nat) : Bool := n < 16 && s.jlState n == 2

/-- Posted credits that a payload takes: 64 bytes each (log entry 43). -/
def creditsOf (payload : Nat) : Nat := (payload + 63) / 64

/-- Bytes in the replay buffer. -/
def JlLane.replayBytes (l : JlLane) : Nat := l.replay.foldl (fun a f => a + 20 + f.payload.length) 0

/-- Whether a frame may be sent: credit of its class, a completion slot for a request, room in the replay buffer. -/
def JlLane.may (l : JlLane) (f : JlFrame) : Bool :=
  l.replayBytes + 20 + f.payload.length ≤ 262144 &&
    match f.cls with
    | 0 => creditsOf f.payload.length ≤ l.credP
    | 1 => 0 < l.credNP && l.outst.length < 16
    | _ => true

/-- A Jalden frame as it stands on the lane: the header of Table 8-10, the payload, and the CRC-32 over both, sent like
an FCS (R268). -/
def jaldenWire (src dst typ cls seq ack creditP creditNp : Nat) (payload : Bytes) : Bytes :=
  let b := leBytes 1 typ ++ leBytes 1 (cls * 64) ++ beBytes 2 payload.length ++ beBytes 2 src ++ beBytes 2 dst ++ beBytes 2 seq
    ++ beBytes 2 ack ++ beBytes 2 creditP ++ leBytes 1 creditNp ++ [0] ++ payload
  b ++ ethFcs b

/-- The frame put out on lane n, from this unit to the lane's peer. -/
def State.jalden (s : State) (n typ cls seq ack creditP creditNp : Nat) (payload : Bytes) : Out :=
  .jalden n typ cls seq ack creditP creditNp payload (jaldenWire (s.gf jlB F.brgJalden_UNIT_ID)
    (s.gf jlB (F.brgJalden_JL_STS_PEER_ID.at (4 * n))) typ cls seq ack creditP creditNp payload)

/-- Puts a header and payload on lane n; the credits to return go with it. -/
def State.jlEmit (s : State) (n typ cls seq : Nat) (payload : Bytes) : State :=
  let l := s.jl n
  let s1 := (s.setJl n { l with retP := 0, retNP := 0 }).emit
    (s.jalden n typ cls seq ((l.exp + 65535) % 65536) l.retP l.retNP payload)
  s1.incW jlB (F.brgJalden_TX_FRAMES_COUNT.at (16 * n))

/-- This unit's remote access ends (R267, R273). -/
def State.raccDone (s : State) (status rdata : Nat) (read : Bool) : State :=
  let s1 := ((s.pf jlB F.brgJalden_RACC_STS_BUSY 0).pf jlB F.brgJalden_RACC_STS_DONE 1).pf jlB F.brgJalden_RACC_STS_STATUS status
  (if read ∧ status = 0 then s1.pf jlB F.brgJalden_RACC_RDATA_DATA rdata else s1).raise 292 status

/-- Sends a frame of class 0 to 2 on lane n; this unit's own posted write is DONE now (R273). -/
def State.jlPut (s : State) (n : Nat) (f : JlFrame) : State :=
  let l := s.jl n
  let g := { f with seq := l.seq }
  let l1 := { l with
    seq := (l.seq + 1) % 65536
    replay := l.replay ++ [g]
    credP := if f.cls = 0 then l.credP - creditsOf f.payload.length else l.credP
    credNP := if f.cls = 1 then l.credNP - 1 else l.credNP
    outst := if f.cls = 1 then l.outst ++ [f.origin] else l.outst }
  let s1 := (s.setJl n l1).jlEmit n f.typ f.cls g.seq f.payload
  if f.cls = 0 ∧ f.typ = 2 ∧ f.origin = 16 then s1.raccDone 0 0 false else s1

/-- The frames that still wait once all that may be sent has been sent: posted frames pass no posted frame,
non-posted requests pass neither (R266). -/
def State.jlDrainList (s : State) (n : Nat) : Bool → Bool → List JlFrame → State × List JlFrame
  | _, _, [] => (s, [])
  | stopP, stopNP, f :: rest =>
    let blocked := (f.cls == 0 && stopP) || (f.cls == 1 && (stopP || stopNP))
    if !blocked && (s.jl n).may f then (s.jlPut n f).jlDrainList n stopP stopNP rest
    else
      let r := s.jlDrainList n (stopP || f.cls == 0) (stopNP || f.cls == 1) rest
      (r.1, f :: r.2)

/-- Sends what credit allows. -/
def State.jlDrain (s : State) (n : Nat) : State :=
  let r := s.jlDrainList n false false (s.jl n).wait
  r.1.setJl n { r.1.jl n with wait := r.2 }

/-- A frame of class 0 to 2 is to be sent on lane n. -/
def State.jlSend (s : State) (n typ cls : Nat) (payload : Bytes) (origin : Nat) : State :=
  (s.setJl n { s.jl n with wait := (s.jl n).wait ++ [⟨0, typ, cls, payload, origin⟩] }).jlDrain n

/-- Whether a DATA frame may be selected for lane n. -/
def State.jlDataOk (s : State) (n len : Nat) : Bool :=
  (s.jl n).wait.all (fun f => f.cls != 0) && (s.jl n).may ⟨0, 1, 0, List.replicate len 0, 16⟩

end Sys2Proof.Machine
end

