-- ==== Sys2Proof/Machine/Keys.lean ====
section
/-! DEFINITION. The working key slots as their users see them (R368, R373, R379, R380), and the draws from the DRBG
(R375). -/

namespace Sys2Proof.Machine

/-- Base of the KILN main page. -/
def kmB : Nat := pageBase .kilnMain 0

/-- Base of the KILN identity page. -/
def kiB : Nat := pageBase .kilnId 0

/-- Base of the CIPH global page. -/
def cgB : Nat := pageBase .ciphGlobal 0

/-- Base of the slot page of slot i. -/
def slotB (i : Nat) : Nat := pageBase .kilnSlot (i / 512)

/-- A field of SLOT_ATTR of slot i. -/
def State.slotF (s : State) (i : Nat) (f : Fld) : Nat := s.gf (slotB i) (f.at (4 * (i % 512)))

/-- Sets a field of SLOT_ATTR of slot i. -/
def State.setSlotF (s : State) (i : Nat) (f : Fld) (v : Nat) : State := s.pf (slotB i) (f.at (4 * (i % 512))) v

/-- The secret of a masked pair. -/
def Masked.value (m : Masked) : Bytes := xorB m.share m.mask

/-- A slot with nothing in it. -/
def KeySlot.new : KeySlot := ⟨none, none, none⟩

/-- The secrets of slot i. -/
def State.slot (s : State) (i : Nat) : KeySlot := look (fun _ => KeySlot.new) s.kiln.slots i

/-- Replaces the secrets of slot i; VALID, SHADOW and AUX follow them. -/
def State.setSlot (s : State) (i : Nat) (k : KeySlot) : State :=
  let s1 := { s with kiln := { s.kiln with slots := put (fun _ => KeySlot.new) s.kiln.slots i k } }
  ((s1.setSlotF i F.kilnSlot_SLOT_ATTR_VALID (b2n k.key.isSome)).setSlotF i F.kilnSlot_SLOT_ATTR_SHADOW
    (b2n k.shadow.isSome)).setSlotF i F.kilnSlot_SLOT_ATTR_AUX (b2n k.aux.isSome)

/-- The active key of a slot that carries a usage, with its TYPE. -/
def State.keyFor (s : State) (i usage : Nat) : Option (Nat × Bytes) :=
  if bitOf (s.slotF i F.kilnSlot_SLOT_ATTR_USAGE) usage then
    (s.slot i).key.map fun k => (s.slotF i F.kilnSlot_SLOT_ATTR_TYPE, k.value)
  else none

/-- Whether the DRBG runs. -/
def State.rngRuns (s : State) : Bool := s.on kmB F.kilnMain_RNG_STS_RUN

/-- The DRBG is seeded with 384 bits of entropy, which are a free value; `anew` instantiates it (R375). -/
def State.seedRng (s : State) (anew : Bool) : State :=
  let r := s.fresh 384
  let d := if anew then (List.replicate 32 0, List.replicate 16 0) else s.kiln.drbg
  { r.2 with kiln := { r.2.kiln with drbg := drbgSeed d (beBytes 48 r.1.toNat), draws := 0 } }

/-- `w` random bits from the DRBG in one request, of a new seed where 2^20 requests have been served of the old one
(R375); from one that is stopped a free value. -/
def State.draw (s0 : State) (w : Nat) : BitVec w × State :=
  if s0.rngRuns then
    let s := if 2 ^ 20 ≤ s0.kiln.draws then s0.seedRng false else s0
    let n := (w + 7) / 8
    let r := drbgOutput s.kiln.drbg n
    (BitVec.ofNat w (beNat r.1 / 2 ^ (8 * n - w)), { s with kiln := { s.kiln with drbg := r.2, draws := s.kiln.draws + 1 } })
  else s0.fresh w

/-- A secret under a fresh mask (R365). -/
def State.mask (s : State) (b : Bytes) : Masked × State :=
  let r := s.draw (8 * b.length)
  let m := beBytes b.length r.1.toNat
  (⟨xorB b m, m⟩, r.2)

/-- SERIAL as 8 bytes, big-endian (R363). -/
def State.serial (s : State) : Bytes :=
  beBytes 4 (s.gf kiB F.kilnId_SERIAL_HI_SERIAL) ++ beBytes 4 (s.gf kiB F.kilnId_SERIAL_LO_SERIAL)

end Sys2Proof.Machine
end

