-- ==== Sys2Proof/Machine/Fabric.lean ====
section
/-! DEFINITION. The Tun fabric (Chapter 3): admission, spreading, the middle stage, the output stage, slice removal and
re-admission, seeds and pinning. Slots are commands: a round is ROUND_START, the arrivals and takes of its phases, and
ROUND_END. -/

namespace Sys2Proof.Machine

/-! ### Access to the fabric's state -/

/-- Base of the FAB global page. -/
def fabB : Nat := pageBase .fabGlobal 0

/-- Base of the page of slice Tn. -/
def slB (n : Nat) : Nat := pageBase .fabSlice n

/-- Base of the port adapter page of Fp. -/
def ptB (p : Nat) : Nat := pageBase .fabPort p

/-- An ingress adapter with nothing in it. -/
def Ingress.new : Ingress := ⟨0, [], [], [], [], [], [], [], 0, []⟩

/-- A slice with nothing in it. -/
def Slice.new : Slice := ⟨0, [], [], 0, [], [], [], [], false, 0⟩

/-- The ingress adapter of input i. -/
def State.ing (s : State) (i : Nat) : Ingress := look (fun _ => Ingress.new) s.fab.inputs i

/-- Replaces the ingress adapter of input i. -/
def State.setIng (s : State) (i : Nat) (g : Ingress) : State :=
  { s with fab := { s.fab with inputs := put (fun _ => Ingress.new) s.fab.inputs i g } }

/-- Slice Tn. -/
def State.tun (s : State) (n : Nat) : Slice := look (fun _ => Slice.new) s.fab.slices n

/-- Replaces slice Tn. -/
def State.setSlice (s : State) (n : Nat) (t : Slice) : State :=
  { s with fab := { s.fab with slices := put (fun _ => Slice.new) s.fab.slices n t } }

/-- Pair number 8·output + class. -/
def pairNo (o c : Nat) : Nat := 8 * o + c

/-- A value by key in a list of pairs. -/
def assoc {α : Type} (l : List (Nat × α)) (k : Nat) : Option α := (l.find? (fun x => x.1 == k)).map (·.2)

/-- A list of pairs without a key. -/
def dropKey {α : Type} (l : List (Nat × α)) (k : Nat) : List (Nat × α) := l.filter (fun x => x.1 != k)

/-- The slices in the pattern, as a mask (R80): ACTIVE.SLICES, in domains that are on. -/
def State.pattern (s : State) : Nat :=
  maskOf ((onesOf 8 (s.gf fabB F.fabGlobal_ACTIVE_SLICES)).filter fun n => s.alive .fabSlice n)

/-- The middle positions of a mask of slices, ascending. -/
def positionsOf (mask : Nat) : List Nat := (onesOf 8 mask).flatMap fun n => [3 * n, 3 * n + 1, 3 * n + 2]

/-- The group size G (R86). -/
def State.groupSize (s : State) : Nat := (positionsOf s.pattern).length

/-- FAB.ROUND.ROUND. -/
def State.round (s : State) : Nat := s.gf fabB F.fabGlobal_ROUND_ROUND

/-- OUT_OCC of a pair. -/
def State.outOcc (s : State) (o c : Nat) : Nat := s.gf (ptB o) (F.fabPort_OUT_OCC_COUNT.at (4 * c))

/-- Sets OUT_OCC of a pair. -/
def State.setOutOcc (s : State) (o c n : Nat) : State := s.pf (ptB o) (F.fabPort_OUT_OCC_COUNT.at (4 * c)) n

/-- OUT_OCC of a pair falls by n. -/
def State.occLess (s : State) (o c n : Nat) : State := s.setOutOcc o c (s.outOcc o c - n)

/-- The spreading mode in force for a pair: true pinned (R83, R112). -/
def State.pinnedPair (s : State) (o c : Nat) : Bool :=
  (assoc s.fab.pairMode (pairNo o c)).getD (bitOf (s.gf fabB F.fabGlobal_PIN_CLASS_MASK) c)

/-- The seed in force for a pair (R112). -/
def State.pairSeedOf (s : State) (o c : Nat) : Nat :=
  (assoc s.fab.pairSeed (pairNo o c)).getD (s.gf fabB F.fabGlobal_PIN_SEED_SEED)

/-- The slices of a pair's position list (R107). -/
def State.pairSlicesOf (s : State) (o c : Nat) : Nat :=
  natAnd ((assoc s.fab.pairSlices (pairNo o c)).getD 0xFF) s.pattern

/-- Whether a pair is held (R112 step 1). -/
def State.heldPair (s : State) (o c : Nat) : Bool :=
  s.fab.holds.any fun h => h.out == o && h.tc == c && !h.waiting

/-- The fabric outputs present on the grade. -/
def State.outs (s : State) : List Nat := (List.range 24).filter s.grade.fPort

/-- The targets of a frame, ascending. -/
def FrameInfo.outs (i : FrameInfo) : List Nat := onesOf 24 i.targets

/-- The position for a pinned frame (R91, R108, R109); none where the pattern holds no slice. -/
def State.pinPosition (s : State) (i : FrameInfo) : Option Nat :=
  let o := lowestOne 24 i.targets
  let all := s.pairSlicesOf o i.tc
  let a := natAnd all (s.gf fabB F.fabGlobal_FRER_HALF_HALF_A)
  let b := natAnd all (s.gf fabB F.fabGlobal_FRER_HALF_HALF_B)
  let mask := match i.member with
    | 1 => if a = 0 then b else a
    | 2 => if b = 0 then a else b
    | _ => all
  let list := positionsOf (if mask = 0 then all else mask)
  let h := hashH (s.pairSeedOf o i.tc) (beBytes 4 i.key)
  list[h % 65536 * list.length / 65536]?

/-! ### The ingress store -/

/-- Changes STORE_OCC of input i by adding and removing cells; PEAK follows (Table 3-11). -/
def State.storeOcc (s : State) (i add less : Nat) : State :=
  let n := s.gf (ptB i) F.fabPort_STORE_OCC_LEVEL + add - less
  let s1 := s.pf (ptB i) F.fabPort_STORE_OCC_LEVEL n
  s1.pf (ptB i) F.fabPort_STORE_OCC_PEAK (max n (s1.gf (ptB i) F.fabPort_STORE_OCC_PEAK))

/-- The cells of an admitted frame (R82). A cut-through frame's first cell carries length 0 (R124); BAD stands in the
last cell of a bad frame. -/
def FabFrame.cells (f : FabFrame) : List FabCell :=
  let n := max 1 (cellsOf f.bytes.length)
  (List.range n).map fun j =>
    ⟨f.info, j, 0, 0, j + 1 == n, f.bad && j + 1 == n, slice f.bytes (64 * j) 64⟩

/-- Puts an admitted frame into the spreading or pinned store, or behind a hold (R83, R84, R89, R99, R100, R112). -/
def State.place (s : State) (f : FabFrame) : State :=
  let i := f.info.src
  let c := f.info.tc
  let g := s.ing i
  let outs := f.info.outs
  let behind := g.held.any fun h => h.info.tc == c && natAnd h.info.targets f.info.targets != 0
  let hold := s.setIng i { g with held := g.held ++ [f] }
  if behind || outs.any (fun o => s.heldPair o c) then hold
  else
    let o := lowestOne 24 f.info.targets
    if s.pinnedPair o c || f.info.member != 0 then
      match s.pinPosition f.info with
      | none => hold
      | some m => s.setIng i { g with pins := g.pins ++ f.cells.map fun x => (m, x) }
    else if outs.length = 1 then
      match g.spread.find? (fun b => b.out == o && b.tc == c) with
      | some b => s.setIng i { g with spread := g.spread.map fun x =>
          if x.out = o ∧ x.tc = c then { b with cells := b.cells ++ f.cells } else x }
      | none => s.setIng i { g with spread := g.spread ++ [⟨o, c, f.cells, false, false⟩] }
    else s.setIng i { g with mcast := g.mcast ++ [⟨f.info, f.cells⟩] }

/-- Places again, in order, the frames that an input holds; those whose hold stands go back (R100, R112). -/
def State.releaseInput (s : State) (i : Nat) : State :=
  let g := s.ing i
  g.held.foldl State.place (s.setIng i { g with held := [] })

/-- The same at every input. -/
def State.releaseAll (s : State) : State :=
  ((s.fab.inputs.filter fun x => x.2.held != []).map (·.1)).foldl State.releaseInput s

/-! ### Admission (R102, R103, R123, R124) -/

/-- H0 and H1 stand in a lookup result as bits 16 and 18; the flow's unseeded hash chooses the fabric port (R81). -/
def hostPick (key t : Nat) : Nat :=
  let odd := bitOf (hashH 0 (beBytes 4 key)) 31
  maskOf ((onesOf 24 t).map fun p => if (p = 16 ∨ p = 18) ∧ odd then p + 1 else p)

/-- The host queue that a frame at an H output is bound for (R133, R149, R185). -/
def State.rxQueueOf (s : State) (p : Nat) (i : FrameInfo) : Nat :=
  match i.queue with
  | some q => q
  | none =>
    let k := i.ctx / 4096
    if k ≠ 0 then s.gf (pageBase .pipeShared 0) (F.pipeShared_HQ_MAP_QUEUE.at (4 * (k - 1)))
    else
      let j := 2 * ((p - 16) / 2) + i.tc / 4
      bitsOf (s.rd (pageBase .hostGlobal 0 + 0x60 + 4 * j)).toNat (8 * (i.tc % 4) + 5) (8 * (i.tc % 4))

/-- Base from which the fields F.hostQueue_… reach the registers of host queue Qn. -/
def qB (n : Nat) : Nat := pageBase .hostQueue (n / 16) + 0x40 * (n % 16)

/-- Whether a frame is forwarded by cut-through (R123, R185); never to a Jalden lane, whose header names the length
(log entry 43). -/
def State.cutOk (s : State) (f : FabFrame) : Bool :=
  let i := f.info
  let o := lowestOne 24 i.targets
  let secured := (s.port i.src).mode != 5 && (List.range 32).any fun k =>
    s.on (pageBase .macsec i.src) (F.macsec_RX_SC_CTL_VALID.at (0x40 * k))
  bitOf (s.gf fabB F.fabGlobal_PIN_CLASS_MASK) i.tc && (onesOf 24 i.targets).length == 1 && i.queue.isNone
    && ((i.src < 16 && !secured) || (16 ≤ i.src && i.src < 20))
    && (if o < 16 then
          s.on (egBase o) F.hostEgress_EG_CTL_CT_EN && (s.port o).mode != 5 && i.src < 16 && s.rate i.src ≤ s.rate o
        else
          let cfg := (look (fun _ => (⟨0, 0, 0, 0⟩ : HostQueue)) s.hostQ (s.rxQueueOf o i)).cfg
          o < 20 && bitOf cfg 5 && !bitOf cfg 0)

/-- The bytes of the receive buffer that a frame held are free (R184); on a Jalden lane their credit returns (R266). -/
def State.freeRx (s : State) (src held : Nat) : State :=
  let s1 := s.setPort src { s.port src with rxBytes := (s.port src).rxBytes - held }
  if src < 16 ∧ (s.port src).mode = 5 then s1.setJl src { s1.jl src with retP := (s1.jl src).retP + creditsOf held } else s1

/-- Whether target o admits n cells of class c at input i (R102). -/
def State.admits (s : State) (i o c n : Nat) : Bool :=
  let k := pairNo o c
  (assoc s.fab.occ k).getD 0 + (assoc (s.ing i).admitted k).getD 0 + n
      ≤ s.gf fabB (F.fabGlobal_ADM_CLASS_LIMIT.at (4 * c))
    && (c == 7 || (onesOf 8 s.pattern).all fun t =>
      s.gf fabB F.fabGlobal_ADM_GUARD_GUARD < s.gf (slB t) F.fabSlice_FREE_CELLS_COUNT)

/-- Counts one refused target (R103). -/
def State.refuse (s : State) (i : Nat) : State :=
  (s.incFirst (ptB i) F.fabPort_DROP_ADM_COUNT 71 i).perf 0x024 i 1

/-- Counts a frame's cells toward an output and the input's own admissions (R102). -/
def State.admitTo (s : State) (i c cells counted : Nat) (o : Nat) : State :=
  let s1 := s.setOutOcc o c (s.outOcc o c + cells)
  let g := s1.ing i
  let k := pairNo o c
  s1.setIng i { g with admitted := dropKey g.admitted k ++ [(k, (assoc g.admitted k).getD 0 + counted)] }

/-- A frame's first cell enters the ingress adapter: the store, then each target (R102, R103). A frame is multicast, and
has its lowest-numbered target, by the targets that admission has left it; one left with a single target is spread as
unicast (DESIGN CHOICE where R100 does not say before or after admission, log entry 126). -/
def State.takeIn (s : State) (f0 : FabFrame) : State :=
  let i := f0.info.src
  let c := f0.info.tc
  let targets := if f0.info.fixed then f0.info.targets else hostPick f0.info.key f0.info.targets
  let f1 : FabFrame := { f0 with info := { f0.info with targets := targets } }
  let cut := s.cutOk f1
  let s0 := s.freeRx i f0.held
  if f0.bad && !cut && f0.info.queue.isNone then s0
  else
    let cells := max 1 (cellsOf f0.bytes.length)
    let counted := if cut then cellsOf (s.maxLen i) else cells
    if 4096 - s.gf (ptB i) F.fabPort_STORE_OCC_LEVEL < counted then
      s0.incFirst (ptB i) F.fabPort_DROP_SPREAD_COUNT 72 i
    else
      let ok := (onesOf 24 targets).filter fun o => s.admits i o c counted
      let refused := (onesOf 24 targets).length - ok.length
      let s1 := (List.replicate refused ()).foldl (fun a _ => a.refuse i) s0
      if ok = [] then s1
      else
        let g := s1.ing i
        let epoch := if f0.info.fixed then s.gf (pageBase .pipeShared 0) F.pipeShared_STREAM_BANK_EPOCH else f0.info.epoch
        let info : FrameInfo := { f0.info with
          targets := maskOf ok, tag := g.nextTag, cut := cut, epoch := epoch,
          len := if cut then 0 else f0.bytes.length }
        let f : FabFrame := { f1 with info := info }
        let s2 := s1.setIng i { g with nextTag := (g.nextTag + 1) % 65536 }
        let s3 := ok.foldl (State.admitTo · i c cells counted ·) s2
        let flights := ok.map fun o => (⟨i, info.tag, o, c, epoch, cells, [], false, false, false, false, []⟩ : Flight)
        let s4 := { s3 with fab := { s3.fab with flights := s3.fab.flights ++ flights } }
        (s4.storeOcc i cells 0).place f

/-- FRAME_ADMISSION: the oldest frame of port p that waits to enter. -/
def execFrameAdmission (p : Nat) (s : State) : Answer :=
  match s.fab.entering.find? (fun f => f.info.src == p) with
  | none => .next s
  | some f => .next ({ s with fab := { s.fab with entering := s.fab.entering.erase f } }.takeIn f)

/-! ### Planning a round (R86 to R88, R92, R99) -/

/-- What an input has planned so far: free phases, pairs that have a group, groups of G and of fewer cells, due buffers
that were skipped. -/
structure PlanAcc where
  free : List Nat
  used : List Nat
  full : Nat
  short : Nat
  skipped : List Nat
  ing : Ingress
  deriving DecidableEq, Repr

/-- Plans one item's group, or nothing where it is skipped; answers the cells taken. -/
def PlanAcc.group (a : PlanAcc) (g round : Nat) (pairs : List Nat) (cells : List FabCell) : PlanAcc × Nat :=
  let n := min cells.length g
  if pairs.any (fun p => a.used.contains p) ∨ n = 0 ∨ a.free.length < n then (a, 0)
  else
    let no := a.ing.groups + 1
    let planned := (List.range n).map fun k =>
      let x := (cells.take n).getD (n - 1 - k) ⟨⟨0, false, 0, 0, 0, 0, 0, 0, 0, 0, 0, false, 0, none, []⟩, 0, 0, 0, false, false, []⟩
      (⟨a.free.getD k 0, { x with idx := n - 1 - k, rtag := round % 256 }, no⟩ : Planned)
    (⟨a.free.drop n, a.used ++ pairs, a.full + b2n (n == g), a.short + b2n (n != g), a.skipped,
      { a.ing with plan := a.ing.plan ++ planned, groups := no }⟩, n)

/-- Plans one multicast frame. -/
def PlanAcc.mcast (g round : Nat) (a : PlanAcc) (w : McastWait) : PlanAcc :=
  let r := a.group g round (w.info.outs.map fun o => pairNo o w.info.tc) w.cells
  if r.2 = 0 then a
  else
    let left := w.cells.drop r.2
    { r.1 with ing := { r.1.ing with
      mcast := if left = [] then r.1.ing.mcast.erase w
        else r.1.ing.mcast.map fun x => if x = w then { w with cells := left } else x } }

/-- Plans one spreading buffer and moves its class's round-robin place; a skipped one keeps its place (R88). -/
def PlanAcc.buffer (g round : Nat) (a : PlanAcc) (b : SpreadBuf) : PlanAcc :=
  let r := a.group g round [pairNo b.out b.tc] b.cells
  if r.2 = 0 then { a with skipped := a.skipped ++ [pairNo b.out b.tc] }
  else
    let left := b.cells.drop r.2
    let spread := if left = [] then r.1.ing.spread.erase b
      else r.1.ing.spread.map fun x => if x = b then { b with cells := left, expired := false, due := false } else x
    { r.1 with ing := { r.1.ing with spread := spread, rr := dropKey r.1.ing.rr b.tc ++ [(b.tc, b.out)] } }

/-- Buffers of a class: those that the last round skipped at its head, in the order in which they stood, the others in
round-robin order after the output served last (R88). Before an output has been served, output 23 counts as served last
(DESIGN CHOICE, log entry 127). -/
def Ingress.rrOrder (g : Ingress) (c : Nat) (bs : List SpreadBuf) : List SpreadBuf :=
  let last := (assoc g.rr c).getD 23
  let mine := bs.filter fun b => b.tc == c
  let headed (b : SpreadBuf) : Bool := g.skipped.contains (pairNo b.out b.tc)
  (g.skipped.flatMap fun k => mine.filter fun b => pairNo b.out b.tc == k) ++
    ((List.range 24).flatMap fun k => mine.filter fun b => !headed b && b.out == (last + 1 + k) % 24)

/-- Buffers become due, as full or by their flush timer, and stay so until they are given a group (R87). -/
def State.markDue (s : State) (g : Nat) (b : SpreadBuf) : SpreadBuf :=
  let low := s.gf (ptB b.out) (F.fabPort_OUT_GROUPS_COUNT.at (4 * b.tc)) < s.gf fabB F.fabGlobal_FLUSH_HOLD_GRP
  { b with due := b.due || (b.expired && low) || decide (g ≤ b.cells.length) }

/-- Plans the round of input i; `s0` is the state at the end of the previous round (R88). The flushed buffers of a class
take their round robin from the output served last before this round (DESIGN CHOICE, log entry 127). -/
def State.planInput (s0 : State) (s : State) (i : Nat) : State :=
  let g := s0.groupSize
  let positions := positionsOf s0.pattern
  let ing0 := s.ing i
  let reserved := (positions.filter fun m => ing0.pins.any fun x => x.1 == m).map fun m => (m + 24 - i % 24) % 24
  let phases := (List.range 24).filter fun ph =>
    positions.contains ((i + ph) % 24) && !reserved.contains ph
  let ing1 := { ing0 with spread := ing0.spread.map (s0.markDue g), plan := [], groups := 0 }
  let full := ing1.spread.filter fun b => decide (g ≤ b.cells.length)
  let flushed := ing1.spread.filter fun b => b.due && decide (b.cells.length < g)
  let classes := [7, 6, 5, 4, 3, 2, 1, 0]
  let a1 := classes.foldl (fun a c =>
    let a' := (ing1.mcast.filter fun w => w.info.tc == c).foldl (PlanAcc.mcast g s0.round) a
    (ing1.rrOrder c full).foldl (PlanAcc.buffer g s0.round) a') (⟨phases, [], 0, 0, [], ing1⟩ : PlanAcc)
  let a2 := classes.foldl (fun a c => (ing1.rrOrder c flushed).foldl (PlanAcc.buffer g s0.round) a) a1
  let s1 := s.setIng i { a2.ing with skipped := a2.skipped }
  let s2 := (s1.addWrap (ptB i) F.fabPort_GROUPS_FULL_COUNT a2.full).addWrap (ptB i) F.fabPort_GROUPS_FLUSH_COUNT a2.short
  (s2.perf 0x022 i a2.full).perf 0x023 i a2.short

/-- Whether an input has something to plan. -/
def Ingress.busy (g : Ingress) : Bool := g.spread != [] || g.mcast != []

/-- A slot begins: buffers returned in an earlier one stand at the tail of their free lists from now on (R95). -/
def State.slotBegins (s : State) (phase : Nat) : State :=
  let settle (t : Slice) : Slice := { t with returned := t.returned ++ t.just, just := [] }
  { s with fab := { s.fab with slices := s.fab.slices.map fun (x : Nat × Slice) => (x.1, settle x.2) } }.pf fabB F.fabGlobal_PHASE_PHASE phase

/-- The slot of a phase of the round in progress. -/
def State.slotAt (s : State) (phase : Nat) : State := if s.gf fabB F.fabGlobal_PHASE_PHASE = phase then s else s.slotBegins phase

/-- ROUND_START: phase 0 of a round; every input plans (R88). -/
def execRoundStart (s : State) : Answer :=
  let s1 := s.slotAt 0
  .next (((s.fab.inputs.filter fun x => x.2.busy).map (·.1)).foldl (s.planInput · ·) s1)

/-- FLUSH_TIMER_EXPIRY: the timer of buffer (o, c) of input i expires (R87). -/
def execFlushTimerExpiry (i o c : Nat) (s : State) : Answer :=
  let g := s.ing i
  .next (s.setIng i { g with spread := g.spread.map fun b =>
    if b.out = o ∧ b.tc = c then { b with expired := true } else b })

/-! ### Handing over at the output (R115, R126, R517) -/

/-- The frame of a flight that is complete. -/
def Flight.frame (f : Flight) : EgFrame :=
  let i := (f.cells.head?.map (·.info)).getD ⟨0, false, 0, 0, 0, 0, 0, 0, 0, 0, 0, false, 0, none, []⟩
  ⟨i, f.cells.flatMap (·.payload), f.cells.length, true, false⟩

/-- Removes a flight. -/
def State.dropFlight (s : State) (f : Flight) : State :=
  { s with fab := { s.fab with flights := s.fab.flights.erase f } }

/-- A flight with no cell left is handed over, or discarded and counted where it lost a cell (R517). A cut-through frame
whose only cell carries BAD is not handed over and counts as one that has not started (R126). -/
def State.finishFlight (s : State) (f : Flight) : State :=
  let s1 := s.dropFlight f
  let s2 := if f.lost && !f.gone then s1.inc (ptB f.out) F.fabPort_LOST_FRAMES_COUNT else s1
  if f.handed || f.gone then s2
  else if f.lost || f.bad then
    let s3 := s2.bufFree f.out f.cells.length
    if !f.lost && f.frame.info.cut then s3.egDrop f.out f.tc else s3
  else s2.handoff f.out f.frame

/-- Replaces a flight by a later state of it, and finishes it where no cell is left; a frame of which no cell has
survived waits for the purges that have still to discard a cell of it (R517). -/
def State.stepFlight (s : State) (f f' : Flight) : State :=
  let s1 := { s with fab := { s.fab with flights := s.fab.flights.map fun x => if x = f then f' else x } }
  if f'.left = 0 && (f'.purge == [] || f'.cells != [] || f'.handed || f'.gone) then s1.finishFlight f' else s1

/-- The flight of a cell at an output. -/
def State.flightOf (s : State) (o : Nat) (i : FrameInfo) : Option Flight :=
  s.fab.flights.find? fun f => f.src == i.src && f.tag == i.tag && f.out == o

/-- A cell reaches its place in its frame at output o. -/
def State.deliver (s : State) (o : Nat) (x : FabCell) : State :=
  match s.flightOf o x.info with
  | none => s
  | some f =>
    let bad := x.bad || f.lost || f.bad
    let next : Flight := { f with left := f.left - 1, bad := bad }
    if f.gone then (s.bufFree o 1).stepFlight f next
    else if f.handed then (s.cutFollow o x.info x.payload x.last bad).stepFlight f next
    else if x.info.cut && x.j == 0 && !bad && !x.last then
      (s.handoff o ⟨x.info, x.payload, 1, false, false⟩).stepFlight f { next with handed := true }
    else s.stepFlight f { next with cells := f.cells ++ [x] }

/-- A frame has lost a cell inside the fabric: it is marked at output o, and one whose head has been handed over there
is ended (R98, R106, R517). -/
def State.markLost (s : State) (o : Nat) (i : FrameInfo) : State :=
  match s.flightOf o i with
  | none => s
  | some f =>
    let s1 := if f.handed && !f.lost then
        let e := s.eg o
        if e.queue.any (fun q => q.info.src == i.src && q.info.tag == i.tag) then
          match e.queue.find? (fun q => q.info.src == i.src && q.info.tag == i.tag && !q.whole) with
          | some q => if o < 16 then (s.unqueue o q).egDrop o i.tc
              else s.setEg o { e with queue := e.queue.map fun r => if r = q then { q with bad := true, whole := true } else r }
          | none => s
        else
          match e.sending, e.writing with
          | some x, _ => if x.frame.info.src = i.src ∧ x.frame.info.tag = i.tag ∧ !x.frame.whole then
              (s.endSending o).inc (egBase o) F.hostEgress_CT_END_BAD else s
          | none, some y => if y.frame.info.src = i.src ∧ y.frame.info.tag = i.tag ∧ !y.frame.whole then
              s.setEg o { e with writing := some { y with frame := { y.frame with bad := true, whole := true } } } else s
          | none, none => s
      else s
    { s1 with fab := { s1.fab with flights := s1.fab.flights.map fun x => if x = f then { f with lost := true } else x } }

/-- A cell of a frame is lost for output o (R94, R98, R106); `slice`: its purge has still to discard the cell. -/
def State.loseCell (s : State) (o : Nat) (i : FrameInfo) (slice : Option Nat) : State :=
  let s1 := s.markLost o i
  match s1.flightOf o i with
  | none => s1
  | some f => s1.stepFlight f { f with left := f.left - 1, purge := (f.purge ++ slice.toList).eraseDups }

/-- Hands on, in index order, the cells of a group that have come (R97); those that were lost are passed over. A
complete group leaves the list. -/
def State.advanceGroup (s : State) (g : Group) : State :=
  let n := (g.cells.drop g.done).takeWhile (fun x => x != .waiting)
  let s1 := n.foldl (fun a x =>
    match x with
    | .got c => a.deliver g.out c
    | .lost _ => a
    | .waiting => a) s
  let done := g.done + n.length
  if done = g.cells.length then
    let s2 := { s1 with fab := { s1.fab with groups := s1.fab.groups.filter fun (x : Group) => !(x.no == g.no && x.out == g.out) } }
    let f := F.fabPort_OUT_GROUPS_COUNT.at (4 * g.tc)
    s2.pf (ptB g.out) f (s2.gf (ptB g.out) f - 1)
  else { s1 with fab := { s1.fab with groups := s1.fab.groups.map fun (x : Group) =>
      if x.no = g.no ∧ x.out = g.out then { x with done := done } else x } }

/-- Sets a cell of a group and hands on what has come. -/
def State.setGroupCell (s : State) (no o idx : Nat) (v : CellState) : State :=
  match s.fab.groups.find? (fun g => g.no == no && g.out == o) with
  | none => s
  | some g =>
    let g' : Group := { g with cells := g.cells.set idx v }
    let s1 := { s with fab := { s.fab with groups := s.fab.groups.map fun (x : Group) => if x.no = no ∧ x.out = o then g' else x } }
    s1.advanceGroup g'

/-- The current group of a class at an output (R96). -/
def State.currentGroup (s : State) (o c : Nat) : Option Nat :=
  (s.fab.groups.find? fun g => g.out == o && g.tc == c).map (·.no)

/-! ### The middle stage (R92 to R95) -/

/-- Takes a cell buffer and `n` entries from the free lists; none where the slice lacks them (R94). -/
def Slice.takeFree (t : Slice) (n : Nat) : Option (Nat × List Nat × Slice) :=
  let freeC := 32768 - t.fresh + t.returned.length
  let freeE := 65536 - t.freshE + t.returnedE.length
  if freeC = 0 ∨ freeE < n then none
  else
    let (b, t1) := if t.fresh < 32768 then (t.fresh, { t with fresh := t.fresh + 1 })
      else (t.returned.headD 0, { t with returned := t.returned.drop 1 })
    let k := min n (65536 - t1.freshE)
    let es := (List.range k).map (t1.freshE + ·) ++ t1.returnedE.take (n - k)
    some (b, es, { t1 with freshE := t1.freshE + k, returnedE := t1.returnedE.drop (n - k) })

/-- Adds to FREE_CELLS and FREE_ENTRIES of a slice. -/
def State.freeCounts (s : State) (n c e : Nat) : State :=
  (s.addWrap (slB n) F.fabSlice_FREE_CELLS_COUNT c).addWrap (slB n) F.fabSlice_FREE_ENTRIES_COUNT e

/-- Takes from FREE_CELLS and FREE_ENTRIES of a slice. -/
def State.freeLess (s : State) (n c e : Nat) : State :=
  (s.pf (slB n) F.fabSlice_FREE_CELLS_COUNT (s.gf (slB n) F.fabSlice_FREE_CELLS_COUNT - c)).pf
    (slB n) F.fabSlice_FREE_ENTRIES_COUNT (s.gf (slB n) F.fabSlice_FREE_ENTRIES_COUNT - e)

/-- Changes POS_OCC of position m; a count at or below THRESH, whichever of them changed, ends a hot run (R110). -/
def State.posOcc (s : State) (m add less : Nat) : State :=
  let f := F.fabSlice_POS_OCC_COUNT.at (4 * (m % 3))
  let n := s.gf (slB (m / 3)) f + add - less
  let s1 := s.pf (slB (m / 3)) f n
  if n ≤ s.gf fabB F.fabGlobal_HOT_CTL_THRESH then
    { s1 with fab := { s1.fab with hot := putBits s1.fab.hot m m 0 } }
  else s1

/-- Appends an entry to list (o, c) of a slice. -/
def Slice.append (t : Slice) (o c : Nat) (e : ListEntry) : Slice :=
  if t.lists.any (fun l => l.out == o && l.tc == c) then
    { t with lists := t.lists.map fun l =>
        if l.out = o ∧ l.tc = c then { l with entries := l.entries ++ [e] } else l }
  else { t with lists := t.lists ++ [⟨o, c, [e]⟩] }

/-- Sets BAD in the cells of a frame that still wait at its input (R94). -/
def State.markBad (s : State) (i : FrameInfo) : State :=
  let mark (x : FabCell) : FabCell := if x.info.src = i.src ∧ x.info.tag = i.tag then { x with bad := true } else x
  let g := s.ing i.src
  s.setIng i.src { g with
    spread := g.spread.map fun b => { b with cells := b.cells.map mark }
    mcast := g.mcast.map fun w => { w with cells := w.cells.map mark }
    pins := g.pins.map fun x => (x.1, mark x.2)
    plan := g.plan.map fun x => { x with cell := mark x.cell } }

/-- A cell leaves its input at a phase and reaches position m: it takes a buffer and entries, or is discarded for every
target (R92 to R94). `group` is the number of its group in the input's round, 0 for a pinned cell. -/
def State.arrive (s : State) (i m : Nat) (x : FabCell) (group : Nat) : State :=
  let n := m / 3
  let outs := x.info.outs
  let s1 := ((s.storeOcc i 0 1).incW (ptB i) F.fabPort_CELLS_IN_COUNT).perf 0x020 i 1
  match (s1.tun n).takeFree outs.length with
  | none =>
    let s2 := (s1.inc (slB n) F.fabSlice_DROP_NOBUF_COUNT).markBad x.info
    let s3 := outs.foldl (fun a o => a.occLess o x.info.tc 1) s2
    if group = 0 then outs.foldl (fun a o => a.loseCell o x.info none) s3
    else { s3 with fab := { s3.fab with aside := s3.fab.aside ++ [⟨i, group, n, m, x, none⟩] } }
  | some (b, es, t) =>
    let s2 := s1.freeLess n 1 outs.length
    let t1 := { t with bufs := t.bufs ++ [⟨b, m % 3, outs.length, x, group == 0, false⟩] }
    if group = 0 then
      let t2 := (outs.zip es).foldl (fun a oe => a.append oe.1 x.info.tc ⟨oe.2, b, 0⟩) t1
      (s2.setSlice n t2).posOcc m 1 0
    else
      let s3 := s2.setSlice n t1
      { s3 with fab := { s3.fab with aside := s3.fab.aside ++ [⟨i, group, n, m, x, some (b, outs.zip es)⟩] } }

/-- CELL_ARRIVAL: what input i sends in a phase: the cell planned for it, else the first waiting pinned cell of the
position it meets (R79, R92). -/
def State.cellArrival (s : State) (i phase : Nat) : State :=
  let m := (i + phase) % 24
  let s0 := s.slotAt (phase % 24)
  let g := s.ing i
  if bitOf s.pattern (m / 3) then
    match g.plan.find? (fun p => p.phase == phase) with
    | some p => (s0.setIng i { g with plan := g.plan.erase p }).arrive i m p.cell p.group
    | none =>
      match g.pins.find? (fun x => x.1 == m) with
      | some x => (s0.setIng i { g with pins := g.pins.erase x }).arrive i m { x.2 with rtag := s.round % 256 } 0
      | none => s0
  else s0

def execCellArrival (i phase : Nat) (s : State) : Answer := .next (s.cellArrival i phase)

/-- A group's cells in index order, from the cells that were set aside. -/
def groupCells (l : List Aside) : List CellState :=
  (List.range l.length).map fun k =>
    match l.find? (fun a => a.cell.idx == k) with
    | some a => if a.stored.isSome then .waiting else .lost a.cell
    | none => .waiting

/-- Appends one group to the lists of its pairs and enters it in their group lists (R93): its cells that share a slice
in ascending CELL_IDX (DESIGN CHOICE, log entry 128). Cells that were discarded on arrival are accounted for at once, so
that a group of which none is left is complete (R94, R96). -/
def State.appendGroup (s : State) (l : List Aside) : State :=
  match l.head? with
  | none => s
  | some a0 =>
    let c := a0.cell.info.tc
    let no := s.fab.nextGroup
    let sorted := (List.range l.length).flatMap fun k => l.filter fun a => a.cell.idx == k
    let s1 := { s with fab := { s.fab with nextGroup := no + 1 } }
    let s2 := sorted.foldl (fun st a =>
      match a.stored with
      | none => st
      | some (b, es) => st.setSlice a.slice (es.foldl (fun t oe => t.append oe.1 c ⟨oe.2, b, no⟩) (st.tun a.slice))) s1
    a0.cell.info.outs.foldl (fun st o =>
      let g : Group := ⟨no, o, c, a0.src, groupCells l, sorted.map (·.position), 0⟩
      let st1 := { st with fab := { st.fab with groups := st.fab.groups ++ [g] } }
      let st2 := st1.addWrap (ptB o) (F.fabPort_OUT_GROUPS_COUNT.at (4 * c)) 1
      ((l.filter (·.stored.isNone)).foldl (fun (u : State) a => u.loseCell o a.cell.info none) st2).advanceGroup g) s2

/-- The groups set aside, by ascending input and then in the order in which the input formed them. -/
def asideGroups (l : List Aside) : List (List Aside) :=
  (List.range 24).flatMap fun i =>
    let mine := l.filter fun a => a.src == i
    (mine.map (·.group)).eraseDups.map fun g => mine.filter fun a => a.group == g

/-- OUT_OCC of every pair, for the pairs above 0 (R102). -/
def State.occSnapshot (s : State) : List (Nat × Nat) :=
  s.outs.flatMap fun o => (List.range 8).filterMap fun c =>
    let n := s.outOcc o c
    if n = 0 then none else some (pairNo o c, n)

/-- ROUND_END: planned cells that have not been reported arrive, the groups are appended by ascending SRC_FP, OUT_OCC is
taken for the next round's admission, and the next round's slot 0 begins (R78, R93, R102). -/
def execRoundEnd (s : State) : Answer :=
  let late := s.fab.inputs.flatMap fun x => (x.2.plan.map fun p => (x.1, p.phase))
  let s1 := late.foldl (fun a ip => a.cellArrival ip.1 ip.2) s
  let groups := asideGroups s1.fab.aside
  let s2 := groups.foldl State.appendGroup { s1 with fab := { s1.fab with aside := [] } }
  let inputs := s2.fab.inputs.map (·.1)
  let s3 := inputs.foldl (fun a i => a.setIng i { a.ing i with admitted := [], groups := 0 }) s2
  let s4 := { s3 with fab := { s3.fab with occ := s3.occSnapshot } }
  .next ((s4.incW fabB F.fabGlobal_ROUND_ROUND).slotBegins 0)

/-! ### The output stage (R96 to R98, R101, R104) -/

/-- Releases one reference of a cell buffer; at 0 the buffer returns (R95, R101). -/
def State.releaseRef (s : State) (n : Nat) (b : CellBuf) : State :=
  let t := s.tun n
  if b.refs ≤ 1 then
    let s1 := (s.setSlice n { t with bufs := t.bufs.erase b, just := t.just ++ [b.no] }).freeCounts n 1 0
    if b.pinned then s1.posOcc (3 * n + b.pos) 0 1 else s1
  else s.setSlice n { t with bufs := t.bufs.map fun x => if x = b then { b with refs := b.refs - 1 } else x }

/-- A slice is escalated (R104). -/
def State.escalate (s : State) (n : Nat) (always : Bool) : State :=
  let s1 := (s.pf (slB n) hdrFault 1).pf (slB n) F.fabSlice_SLICE_STS_BY_FAULT 1
  let s2 := if always || s.on (slB n) F.fabSlice_SLICE_CTL_AUTO_SKIP then s1.pf (slB n) F.fabSlice_SLICE_CTL_SKIP 1 else s1
  s2.autoDegrade 1 0

/-- An uncorrectable cell word: counted, EV66, and escalation where it is the LIMITth within the window (R98, R104). -/
def State.uncorrectable (s : State) (n : Nat) : State :=
  let s1 := (s.inc (slB n) F.fabSlice_ECC_UNCORR_COUNT).raise 66 n
  let win := s.gf (slB n) F.fabSlice_ESC_CTL_WINDOW_MS * 200000
  let t := s1.tun n
  let errs := (t.errors.filter fun e => s1.cycles < e + win) ++ [s1.cycles]
  let s2 := s1.setSlice n { t with errors := errs }
  if s.gf (slB n) F.fabSlice_ESC_CTL_LIMIT ≤ errs.length then s2.escalate n false else s2

/-- Takes entry `e` of list (o, c) in slice n: the entry and its reference are released, the cell is counted as read,
and reaches its frame or is lost. `ecc`: 0 good, 1 corrected, 2 uncorrectable. A cell found uncorrectable marks its
frame at every target (R98). -/
def State.takeEntry (s : State) (n o c : Nat) (e : ListEntry) (b : CellBuf) (ecc : Nat) : State :=
  let t := s.tun n
  let t1 := { t with
    lists := t.lists.map fun l => if l.out = o ∧ l.tc = c then { l with entries := l.entries.erase e } else l
    returnedE := t.returnedE ++ [e.no] }
  let s1 := ((s.setSlice n t1).freeCounts n 0 1).occLess o c 1
  let lost := b.lost || ecc == 2
  let s2 := if ecc = 1 ∧ !b.lost then s1.inc (slB n) F.fabSlice_ECC_CORR_COUNT else s1
  let s3 := if ecc = 2 ∧ !b.lost then s2.uncorrectable n else s2
  let b' : CellBuf := { b with lost := lost }
  let t2 := s3.tun n
  let s4 := (s3.setSlice n { t2 with bufs := t2.bufs.map fun x => if x = b then b' else x }).releaseRef n b'
  let s5 := (s4.incW (ptB o) F.fabPort_CELLS_OUT_COUNT).perf 0x021 o 1
  let s5' := if ecc = 2 ∧ !b.lost then b.cell.info.outs.foldl (fun (a : State) x => a.markLost x b.cell.info) s5 else s5
  let s6 := if lost then s5' else s5'.bufAdd o 1
  if e.group = 0 then
    if lost then s6.loseCell o b.cell.info none else s6.deliver o b.cell
  else if lost then (s6.loseCell o b.cell.info none).setGroupCell e.group o b.cell.idx (.lost b.cell)
  else s6.setGroupCell e.group o b.cell.idx (.got b.cell)

/-- The entry that output o takes from position m: highest class first, among the first four entries of each list
(R97). -/
def State.eligible (s : State) (o m : Nat) : Option (Nat × ListEntry × CellBuf) :=
  let t := s.tun (m / 3)
  [7, 6, 5, 4, 3, 2, 1, 0].findSome? fun c =>
    match t.lists.find? (fun l => l.out == o && l.tc == c) with
    | none => none
    | some l => (l.entries.take 4).findSome? fun e =>
      match t.bufs.find? (fun b => b.no == e.buf) with
      | none => none
      | some b =>
        if b.pos == m % 3 && (e.group == 0 || s.currentGroup o c == some e.group) then some (c, e, b) else none

/-- OUTPUT_CELL_TAKE: output o at a phase (R79, R97). `ecc`: 0 good, 1 single-bit error, 2 uncorrectable word, 3 parity
error in a list entry or descriptor (R98, R104). -/
def execOutputCellTake (o phase ecc : Nat) (s : State) : Answer :=
  let m := (o + 24 - phase % 24) % 24
  let s0 := s.slotAt (phase % 24)
  if bitOf s.pattern (m / 3) && s.outRoom o then
    if ecc = 3 then .next (s0.escalate (m / 3) true)
    else
      match s.eligible o m with
      | none => .next s0
      | some (c, e, b) => .next (s0.takeEntry (m / 3) o c e b ecc)
  else .next s0

/-! ### Slice removal and re-admission (R104 to R107, R109) -/

/-- SLICE_STS.STATE of a slice. -/
def State.sliceState (s : State) (n : Nat) : Nat := s.gf (slB n) F.fabSlice_SLICE_STS_STATE

/-- ACTIVE shows the pattern and its group size. -/
def State.setPattern (s : State) (mask : Nat) : State :=
  let s1 := s.pf fabB F.fabGlobal_ACTIVE_SLICES mask
  s1.pf fabB F.fabGlobal_ACTIVE_GROUP_SIZE (3 * popCount 8 mask)

/-- EV70 for each half that holds a slice of `old` and none of `new` (R109). -/
def State.halfEvents (s : State) (oldA oldB newA newB : Nat) : State :=
  (s.raiseIf (oldA != 0 && newA == 0) 70 0).raiseIf (oldB != 0 && newB == 0) 70 1

/-- The slices of the FRER halves that are in the pattern. -/
def State.halves (s : State) : Nat × Nat :=
  (natAnd (s.gf fabB F.fabGlobal_FRER_HALF_HALF_A) s.pattern, natAnd (s.gf fabB F.fabGlobal_FRER_HALF_HALF_B) s.pattern)

/-- The waiting pinned cells of a position of slice n, which left the pattern: a frame none of whose cells has been sent
is placed again; the cells of any other are lost (R107). -/
def State.repin (s : State) (i n : Nat) : State :=
  let g := s.ing i
  let stuck := g.pins.filter fun x => x.1 / 3 == n
  let keep := g.pins.filter fun x => x.1 / 3 != n
  let tags := (stuck.map fun x => x.2.info.tag).eraseDups
  tags.foldl (fun a tag =>
    let mine := stuck.filter fun x => x.2.info.tag == tag
    match mine.head? with
    | none => a
    | some (_, x0) =>
      if x0.j = 0 then
        match a.pinPosition x0.info with
        | some m => a.setIng i { a.ing i with pins := (a.ing i).pins ++ mine.map fun x => (m, x.2) }
        | none => a.setIng i { a.ing i with
            held := (a.ing i).held ++ [⟨x0.info, mine.flatMap fun x => x.2.payload, mine.any fun x => x.2.bad, 0⟩] }
      else
        let a1 := a.storeOcc i 0 mine.length
        mine.foldl (fun st x => x.2.info.outs.foldl (fun u o => (u.occLess o x.2.info.tc 1).loseCell o x.2.info (some n)) st) a1)
    (s.setIng i { g with pins := keep })

/-- The entries of a slice, with their pairs and cells. -/
def Slice.allEntries (t : Slice) : List (Nat × Nat × ListEntry × CellBuf) :=
  t.lists.flatMap fun l => l.entries.filterMap fun e =>
    (t.bufs.find? (fun b => b.no == e.buf)).map fun b => (l.out, l.tc, e, b)

/-- A slice leaves the pattern: its cells are lost from here on and their frames are marked at every output that would
have delivered them, the waiting pinned frames move, and no position list that a pair keeps holds the slice any longer
(R105 to R107). -/
def State.leavePattern (s : State) (n : Nat) : State :=
  let h := s.halves
  let s0 : State := { s with fab := { s.fab with pairSlices := s.fab.pairSlices.map fun x => (x.1, putBits x.2 n n 0) } }
  let s1 := s0.setPattern (putBits s.pattern n n 0)
  let t := s1.tun n
  let s2 := s1.setSlice n { t with lost := t.bufs.length, bufs := t.bufs.map fun b => { b with lost := true } }
  let s2' := (t.bufs.filter fun b => !b.lost).foldl (fun (a : State) b =>
    b.cell.info.outs.foldl (fun (u : State) o => u.markLost o b.cell.info) a) s2
  let s3 := t.allEntries.foldl (fun a x =>
    let a1 := a.loseCell x.1 x.2.2.2.cell.info (some n)
    if x.2.2.1.group = 0 then a1
    else a1.setGroupCell x.2.2.1.group x.1 x.2.2.2.cell.idx (.lost x.2.2.2.cell)) s2'
  let s4 := (s3.fab.inputs.map (·.1)).foldl (fun a i => a.repin i n) s3
  let h' := s4.halves
  (s4.pf (slB n) F.fabSlice_SLICE_STS_STATE 1).halfEvents h.1 h.2 h'.1 h'.2

/-- Whether the fabric stands at a round boundary: nothing planned, nothing set aside. -/
def State.atBoundary (s : State) : Bool := s.fab.aside == [] && s.fab.inputs.all fun x => x.2.plan == []

/-- SLICE_LEAVE_PATTERN: at a round boundary, an ACTIVE slice with SKIP = 1 (Table 3-7). -/
def execSliceLeavePattern (n : Nat) (s : State) : Answer :=
  if s.alive .fabSlice n ∧ s.sliceState n = 0 ∧ s.on (slB n) F.fabSlice_SLICE_CTL_SKIP ∧ s.atBoundary then
    .next (s.leavePattern n)
  else .next s

/-- A number into an ascending list. -/
def insertNo (k : Nat) : List Nat → List Nat
  | [] => [k]
  | a :: l => if k ≤ a then k :: a :: l else a :: insertNo k l

/-- A slice whose entries have all been discarded, in ascending order of their numbers: entries and buffers return to
the tails of their free lists, a buffer with the last entry that refers to it (R95, R106). -/
def Slice.emptied (t : Slice) : Slice :=
  let es := t.lists.flatMap (·.entries)
  let sorted := (es.map (·.no)).foldr insertNo []
  let refs := sorted.filterMap fun k => (es.find? fun e => e.no == k).map (·.buf)
  let lasts := refs.reverse.eraseDups.reverse
  let others := (t.bufs.map (·.no)).filter fun b => !lasts.contains b
  { t with
    returned := t.returned ++ t.just ++ lasts ++ others
    just := []
    returnedE := t.returnedE ++ sorted
    bufs := []
    lists := []
    rebuilt := false
    lost := 0 }

/-- The purge has discarded every entry: the counts of their pairs fall and every buffer is free; the frames that it was
the last to discard a cell of are counted (R106, R517). -/
def State.purge (s : State) (n : Nat) : State :=
  let t := s.tun n
  let s1 := t.allEntries.foldl (fun a x => a.occLess x.1 x.2.1 1) s
  let s2 := s1.setSlice n t.emptied
  let s3 := (s2.pf (slB n) F.fabSlice_FREE_CELLS_COUNT 32768).pf (slB n) F.fabSlice_FREE_ENTRIES_COUNT 65536
  let s4 := [0, 1, 2].foldl (fun a k => a.pf (slB n) (F.fabSlice_POS_OCC_COUNT.at (4 * k)) 0) s3
  let s5 := { s4 with fab := { s4.fab with hot := putBits s4.fab.hot (3 * n + 2) (3 * n) 0 } }
  let s6 := (s5.pf (slB n) F.fabSlice_LOST_CELLS_COUNT t.lost).pf (slB n) F.fabSlice_SLICE_STS_STATE 2
  (s6.fab.flights.filter fun f => f.purge.contains n).foldl (fun (a : State) f =>
    a.stepFlight f { f with purge := f.purge.erase n }) s6

/-- The cells in which the purge's discards found an error, at most those stored: `corr` corrected, `uncorr`
uncorrectable (R98). -/
def State.purgeErrors (s : State) (n corr uncorr : Nat) : State :=
  let k := (s.tun n).bufs.length
  let s1 := s.addSat (slB n) F.fabSlice_ECC_CORR_COUNT (min corr k)
  (List.replicate (min uncorr k) ()).foldl (fun (a : State) _ => a.uncorrectable n) s1

/-- PURGE_COMPLETE: REMOVING ends in OUT, with EV64 (Table 3-7). -/
def execPurgeComplete (n corr uncorr : Nat) (s : State) : Answer :=
  if s.alive .fabSlice n ∧ s.sliceState n = 1 then .next (((s.purgeErrors n corr uncorr).purge n).raise 64 n) else .next s

/-- SLICE_REBUILD_START: a slice in OUT with SKIP and FAULT clear (Table 3-7). -/
def execSliceRebuildStart (n : Nat) (s : State) : Answer :=
  if s.alive .fabSlice n ∧ s.sliceState n = 2 ∧ !s.on (slB n) F.fabSlice_SLICE_CTL_SKIP ∧ !s.on (slB n) hdrFault then
    .next ((s.setSlice n Slice.new).pf (slB n) F.fabSlice_SLICE_STS_STATE 3)
  else .next s

/-- REBUILD_COMPLETE: memory good waits for the boundary; a memory error returns to OUT (Table 3-7). -/
def execRebuildComplete (n : Nat) (good : Bool) (s : State) : Answer :=
  if s.alive .fabSlice n ∧ s.sliceState n = 3 ∧ !(s.tun n).rebuilt then
    if good then .next (s.setSlice n { s.tun n with rebuilt := true })
    else
      let s1 := (s.pf (slB n) hdrFault 1).pf (slB n) F.fabSlice_SLICE_CTL_SKIP 1
      .next ((s1.pf (slB n) F.fabSlice_SLICE_STS_STATE 2).raise 64 n)
  else .next s

/-! ### Seeds, modes and position lists (R107, R110 to R112) -/

/-- PEND_CLASS and SEED_APPLIED follow the pairs. -/
def State.showSeeds (s : State) : State :=
  let open_ (c : Nat) (l : List Nat) : Bool := l.any fun k => k % 8 == c
  let notYet (c : Nat) : Bool :=
    open_ c (s.fab.pairSeed.map (·.1)) || open_ c (s.fab.pairMode.map (·.1)) || open_ c (s.fab.pairSlices.map (·.1))
  let mask := s.gf fabB F.fabGlobal_PIN_CLASS_MASK
  let s1 := s.pf fabB F.fabGlobal_RESEED_CTL_PEND_CLASS (maskOf ((List.range 8).filter notYet))
  (List.range 8).foldl (fun a c =>
    let changing := open_ c (s.fab.pairMode.map (·.1))
    let applied := if !bitOf mask c && !changing then s.grade.fMask
      else maskOf (s.outs.filter fun o =>
        s.pinnedPair o c && (assoc s.fab.pairSeed (pairNo o c)).isNone)
    a.pf fabB (F.fabGlobal_SEED_APPLIED_OUT.at (4 * c)) applied) s1

/-- Starts the hold of a pair that is not held. -/
def State.startHold (s : State) (o c : Nat) : State :=
  let others := s.fab.holds.filter fun h => !(h.out == o && h.tc == c)
  { s with fab := { s.fab with holds := others ++ [⟨o, c, false⟩] } }

/-- A class completes a seed change or a mode change: DONE and EV68 (R112). -/
def State.classDone (s : State) (c : Nat) : State :=
  (s.inc fabB F.fabGlobal_RESEED_CNT_DONE).raise 68 c

/-- A seed change to `seed`: every pinned pair not on it is held; other classes take it at once (R111, R112). -/
def State.seedChange (s : State) (seed : Nat) : State :=
  let mask := s.gf fabB F.fabGlobal_PIN_CLASS_MASK
  let pinned := (onesOf 8 mask).flatMap fun c => s.outs.map fun o => (o, c)
  let todo := pinned.filter fun (oc : Nat × Nat) => s.pairSeedOf oc.1 oc.2 != seed
  let seeds := todo.map fun (oc : Nat × Nat) => (pairNo oc.1 oc.2, s.pairSeedOf oc.1 oc.2)
  let keep := s.fab.pairSeed.filter fun x => !bitOf mask (x.1 % 8)
  let s1 := s.pf fabB F.fabGlobal_PIN_SEED_SEED seed
  let s2 := { s1 with fab := { s1.fab with
    pairSeed := keep ++ seeds
    seedPend := (s1.fab.seedPend ++ todo.map fun (oc : Nat × Nat) => pairNo oc.1 oc.2).eraseDups } }
  let s3 := (todo.filter fun (oc : Nat × Nat) => !(s.fab.holds.any fun h => h.out == oc.1 && h.tc == oc.2 && !h.waiting)).foldl
    (fun (a : State) (oc : Nat × Nat) => a.startHold oc.1 oc.2) s2
  let idle := (onesOf 8 mask).filter fun c => !(s3.fab.seedPend.any fun k => k % 8 == c)
  idle.foldl State.classDone s3.showSeeds

/-- A seed change with a drawn seed (R111). It waits while the random bit generator does not run (R377). -/
def State.seedDraw (s : State) : State :=
  if s.rngRuns then
    let r := ({ s with fab := { s.fab with seedWait := false } } : State).draw 32
    r.2.seedChange r.1.toNat
  else { s with fab := { s.fab with seedWait := true } }

/-- A seed change that waits for the random bit generator starts (R377). -/
def State.seedServe (s : State) : State := if s.fab.seedWait && s.rngRuns then s.seedDraw else s

/-- The part of a pair's in-flight count that is held at the inputs (R112 step 2). -/
def State.heldCells (s : State) (o c : Nat) : Nat :=
  s.fab.inputs.foldl (fun a x => x.2.held.foldl (fun b f =>
    if f.info.tc == c && bitOf f.info.targets o then b + max 1 (cellsOf f.bytes.length) else b) a) 0

/-- A class's changes that have come to their end are counted (R112). -/
def State.classEnds (s0 s : State) (c : Nat) : State :=
  let had (l : List Nat) : Bool := l.any fun k => k % 8 == c
  let ended (f : Fabric → List Nat) : Bool := had (f s0.fab) && !had (f s.fab)
  let s1 := s.showSeeds
  let s2 := if ended (·.seedPend) then s1.classDone c else s1
  if ended (fun f => f.pairMode.map (·.1)) then s2.classDone c else s2

/-- SEED_PAIR_MOVE: a held pair with no cell in flight takes the seed, mode and position list in force (R112 step 3). -/
def execSeedPairMove (o c : Nat) (s : State) : Answer :=
  if s.heldPair o c ∧ s.outOcc o c ≤ s.heldCells o c then
    let k := pairNo o c
    let s1 := { s with fab := { s.fab with
      holds := s.fab.holds.filter fun h => !(h.out == o && h.tc == c)
      pairSeed := dropKey s.fab.pairSeed k
      pairMode := dropKey s.fab.pairMode k
      pairSlices := dropKey s.fab.pairSlices k
      seedPend := s.fab.seedPend.filter (· != k) } }
    .next (State.classEnds s s1.releaseAll c)
  else .next s

/-- SEED_PAIR_ABANDON: a held pair that has not drained is released as it was (R112 step 4). A pair whose mode or
position list has still to change is held again later (R107). -/
def execSeedPairAbandon (o c : Nat) (s : State) : Answer :=
  if s.heldPair o c ∧ s.heldCells o c < s.outOcc o c then
    let k := pairNo o c
    let again := (assoc s.fab.pairMode k).isSome || (assoc s.fab.pairSlices k).isSome
    let others := s.fab.holds.filter fun h => !(h.out == o && h.tc == c)
    let s1 := { s with fab := { s.fab with
      holds := if again then others ++ [(⟨o, c, true⟩ : Hold)] else others
      seedPend := s.fab.seedPend.filter (· != k) } }
    let s2 := (s1.inc fabB F.fabGlobal_RESEED_CNT_ABANDON).raise 69 o
    .next (State.classEnds s s2.releaseAll c)
  else .next s

/-- SEED_HOLD_RETRY: HOLD_US after its abandonment the pair's hold starts again (R107, R112). -/
def execSeedHoldRetry (o c : Nat) (s : State) : Answer :=
  if s.fab.holds.any (fun h => h.out == o && h.tc == c && h.waiting) then .next (s.startHold o c) else .next s

/-- SLICE_JOIN_PATTERN: at a round boundary a rebuilt slice joins; every pinned pair keeps its list until it moves
(R105, R107). -/
def execSliceJoinPattern (n : Nat) (s : State) : Answer :=
  if s.alive .fabSlice n ∧ s.sliceState n = 3 ∧ (s.tun n).rebuilt ∧ s.atBoundary then
    let old := s.pattern
    let s1 := (s.setSlice n { s.tun n with rebuilt := false }).setPattern (putBits old n n 1)
    let s2 := s1.pf (slB n) F.fabSlice_SLICE_STS_STATE 4
    let pairs := (s2.outs.flatMap fun o => (List.range 8).map fun c => (o, c)).filter fun (oc : Nat × Nat) => s2.pinnedPair oc.1 oc.2
    let s3 := { s2 with fab := { s2.fab with
      pairSlices := s2.fab.pairSlices ++ (pairs.filter fun (oc : Nat × Nat) =>
        (assoc s2.fab.pairSlices (pairNo oc.1 oc.2)).isNone).map fun (oc : Nat × Nat) => (pairNo oc.1 oc.2, old) } }
    let s4 := (pairs.filter fun (oc : Nat × Nat) => !s3.heldPair oc.1 oc.2).foldl (fun (a : State) (oc : Nat × Nat) => a.startHold oc.1 oc.2) s3
    .next s4.showSeeds.releaseAll
  else .next s

/-- SLICE_READMIT_DONE: no pinned pair has still to move; the slice is ACTIVE, with EV65 (Table 3-7). -/
def execSliceReadmitDone (n : Nat) (s : State) : Answer :=
  if s.alive .fabSlice n ∧ s.sliceState n = 4 ∧ s.fab.pairSlices.all (fun x => bitOf x.2 n) then
    .next ((s.pf (slB n) F.fabSlice_SLICE_STS_STATE 0).raise 65 n)
  else .next s

/-- HOT_POSITION: position m has stood above THRESH for WINDOW_US; once in each run (R110). -/
def execHotPosition (m : Nat) (s : State) : Answer :=
  let count := s.gf (slB (m / 3)) (F.fabSlice_POS_OCC_COUNT.at (4 * (m % 3)))
  if m < 24 ∧ s.gf fabB F.fabGlobal_HOT_CTL_THRESH < count ∧ !bitOf s.fab.hot m then
    let s1 := (s.pf fabB F.fabGlobal_HOT_POS_VALID 1).pf fabB F.fabGlobal_HOT_POS_POS m
    let s2 := { s1 with fab := { s1.fab with hot := putBits s1.fab.hot m m 1 } }.raise 67 m
    .next (if s.on fabB F.fabGlobal_RESEED_CTL_AUTO then s2.seedDraw else s2)
  else .next s

/-- What a write of a FAB global register starts beside its fields (R111, R112, R516): the register's offset, the word
written, the state before the write. A class that a write of PIN_CLASS unpins while its seed change is pending drops
that change, which counts neither in DONE nor with EV68 (DESIGN CHOICE, log entry 135). Step 2 of R516 takes as the
written value the word as it was written, before step 1 has cleared the bits of absent slices (DESIGN CHOICE, log entry
135). -/
def State.fabTrigger (o : Nat) (w : Word) (old s : State) : State :=
  match o with
  | 0x050 => (s.pf fabB F.fabGlobal_PIN_SEED_SEED (old.gf fabB F.fabGlobal_PIN_SEED_SEED)).seedChange w.toNat
  | 0x054 => if bitOf w.toNat 1 then s.seedDraw else s
  | 0x058 => (List.range 24).foldl (fun (a : State) m => a.posOcc m 0 0) s
  | 0x04C =>
    let m0 := old.gf fabB F.fabGlobal_PIN_CLASS_MASK
    let m1 := s.gf fabB F.fabGlobal_PIN_CLASS_MASK
    let changed := onesOf 8 (Nat.xor m0 m1)
    let pairs := changed.flatMap fun c => s.outs.map fun x => (x, c)
    let todo := pairs.filter fun (oc : Nat × Nat) => old.pinnedPair oc.1 oc.2 != bitOf m1 oc.2
    let others := s.fab.pairMode.filter fun x => !changed.contains (x.1 % 8)
    let s1 := { s with fab := { s.fab with
      pairMode := others ++ todo.map fun (oc : Nat × Nat) => (pairNo oc.1 oc.2, old.pinnedPair oc.1 oc.2)
      seedPend := s.fab.seedPend.filter fun k => bitOf m1 (k % 8)
      pairSeed := s.fab.pairSeed.filter fun x => bitOf m1 (x.1 % 8) || old.pinnedPair (x.1 / 8) (x.1 % 8) } }
    ((todo.filter fun (oc : Nat × Nat) => !s1.heldPair oc.1 oc.2).foldl (fun (a : State) (oc : Nat × Nat) => a.startHold oc.1 oc.2) s1).showSeeds
  | 0x084 =>
    let present := 2 ^ s.grade.slices - 1
    let wa := bitsOf w.toNat 7 0
    let wb := bitsOf w.toNat 15 8
    let heldA := old.gf fabB F.fabGlobal_FRER_HALF_HALF_A
    let heldB := old.gf fabB F.fabGlobal_FRER_HALF_HALF_B
    let a1 := natAnd wa present
    let b1 := natAnd wb present
    let both := natAnd a1 b1
    let (a2, b2) := if both = 0 then (a1, b1)
      else if wb ≠ heldB then (a1, b1 - both)
      else if wa ≠ heldA then (a1 - both, b1)
      else (a1, b1 - both)
    let dA := 2 ^ (s.grade.slices / 2) - 1
    let (a3, b3) := if a2 = 0 ∨ b2 = 0 then (dA, present - dA) else (a2, b2)
    if old.on fabB hdrLock then s
    else
      let h := old.halves
      let s1 := ((s.pf fabB F.fabGlobal_FRER_HALF_HALF_A a3).pf fabB F.fabGlobal_FRER_HALF_HALF_B b3).noteClamp fabB 0x084
        (a3 != wa || b3 != wb)
      let h' := s1.halves
      s1.halfEvents h.1 h.2 h'.1 h'.2
  | _ => s

def execReseedReq (w : Word) (s : State) : Answer := .next (s.hostWrite (fabB + 0x054) w (State.fabTrigger 0x054 w s))

def execPinSeedWrite (w : Word) (s : State) : Answer := .next (s.hostWrite (fabB + 0x050) w (State.fabTrigger 0x050 w s))

def execPinClassWrite (w : Word) (s : State) : Answer := .next (s.hostWrite (fabB + 0x04C) w (State.fabTrigger 0x04C w s))

def execFrerHalfWrite (w : Word) (s : State) : Answer := .next (s.hostWrite (fabB + 0x084) w (State.fabTrigger 0x084 w s))

end Sys2Proof.Machine
end

