-- ==== Sys2Proof/Machine/Pipe.lean ====
section
/-! DEFINITION. The forwarding pipelines (Chapter 5): Grist's parse and edits, the lookup, the FDB with learning, ageing
and flushes, stream identification, filters, meters, FRER, banks and flips, and writes of the forwarding tables. -/

namespace Sys2Proof.Machine

/-- Base of the PIPE shared page. -/
def shB : Nat := pageBase .pipeShared 0

/-- Base of a pipe page: 0 Pipe A, 1 Pipe B. -/
def ppB (k : Nat) : Nat := pageBase .pipe k

/-- The pipeline that serves fabric port p (R15). -/
def pipeFor (p : Nat) : Nat := if p < 12 then 0 else 1

/-- A pipeline with nothing in it. -/
def Pipe.new : Pipe := ⟨[], 0, 0, none, 0, 23, [], none⟩

/-- Pipeline k. -/
def State.pipeSt (s : State) (k : Nat) : Pipe := look (fun _ => Pipe.new) s.fwd.pipes k

/-- Replaces pipeline k. -/
def State.setPipe (s : State) (k : Nat) (p : Pipe) : State :=
  { s with fwd := { s.fwd with pipes := put (fun _ => Pipe.new) s.fwd.pipes k p } }

/-- A frame waits for its lookup, behind the others of its port (R140). -/
def State.rxEnter (s : State) (f : RxFrame) : State :=
  { s with fwd := { s.fwd with waiting := s.fwd.waiting ++ [f] } }

/-- The frames of port p that hold a place for their lookup: 16 at most; those behind them wait in the receive buffer
without one (R140). -/
def State.placed (s : State) (p : Nat) : List RxFrame := (s.fwd.waiting.filter fun f => f.src == p).take 16

/-- Whether a pipeline's next lookup is port p's: round-robin over its ports that have a frame waiting, from the one
after the port served last (R140); before any, from F0 or F12 on (DESIGN CHOICE, log entry 130). -/
def State.inTurn (s : State) (p : Nat) : Bool :=
  let far (q : Nat) : Nat := (q + 23 - (s.pipeSt (pipeFor p)).served) % 24
  (List.range 24).all fun q => pipeFor q != pipeFor p || s.placed q == [] || far p ≤ far q

/-- Counts a drop reason of a pipe (Table 5-9). -/
def State.pipeDrop (s : State) (k r : Nat) : State := s.inc (ppB k) (F.pipe_DROP_COUNT.at (4 * r))

/-! ### Grist's parse (R142, Table 5-1) -/

/-- A recognised tag: TPID, PCP, DEI, VID. -/
structure Tag where
  tpid : Nat
  pcp : Nat
  dei : Bool
  vid : Nat
  deriving DecidableEq, Repr

/-- What Grist takes from a frame. -/
structure Parsed where
  da : Bytes
  sa : Bytes
  tag : Option Tag
  /-- offset of the EtherType after the tags -/
  afterTags : Nat
  rtag : Option Nat
  /-- the payload type -/
  ptype : Nat
  /-- source and destination address, DSCP, protocol -/
  ip : Option (Bytes × Bytes × Nat × Nat)
  ports : Option (Nat × Nat)
  deriving DecidableEq, Repr

/-- Parses a frame on a customer or provider port. A header lies inside the frame where it lies among its bytes from DA
to FCS, which is the frame's length by R17: the FCS counts as inside (DEDUCED, log entry 21). -/
def parseFrame (b : Bytes) (provider : Bool) (tpidAlt : Nat) : Parsed :=
  let lim := min 128 b.length
  let ty (o : Nat) : Nat := beAt b o 2
  let outer := if provider then ty 12 == 0x88A8 || ty 12 == tpidAlt else ty 12 == 0x8100
  let tagged := outer && 16 ≤ lim
  let tci := beAt b 14 2
  let tag : Option Tag := if tagged then some ⟨ty 12, tci / 0x2000, bitOf tci 12, tci % 0x1000⟩ else none
  let o1 := if tagged then 16 else 12
  let o2 := if tagged && provider && ty 16 == 0x8100 && 20 ≤ lim then 20 else o1
  let hasR := ty o2 == 0xF1C1 && o2 + 6 ≤ lim
  let rtag := if hasR then some (beAt b (o2 + 4) 2) else none
  let o3 := if hasR then o2 + 6 else o2
  let t3 := ty o3
  let l3 := o3 + 2
  let ihl := byteAt b l3 % 16
  let isV4 := t3 == 0x0800 && byteAt b l3 / 16 == 4 && 5 ≤ ihl && l3 + 4 * ihl ≤ lim
  let isV6 := t3 == 0x86DD && byteAt b l3 / 16 == 6 && l3 + 40 ≤ lim
  let proto := if isV4 then byteAt b (l3 + 9) else byteAt b (l3 + 6)
  let ip :=
    if isV4 then some (slice b (l3 + 12) 4, slice b (l3 + 16) 4, byteAt b (l3 + 1) / 4, proto)
    else if isV6 then some (slice b (l3 + 8) 16, slice b (l3 + 24) 16, beAt b l3 2 / 16 % 256 / 4, proto)
    else none
  let l4 := if isV4 then l3 + 4 * ihl else l3 + 40
  let whole := (isV4 && beAt b (l3 + 6) 2 % 0x2000 == 0) || isV6
  let fits := (proto == 17 && l4 + 8 ≤ lim) || (proto == 6 && l4 + 20 ≤ lim)
  let ports := if whole && fits then some (beAt b l4 2, beAt b (l4 + 2) 2) else none
  ⟨slice b 0 6, slice b 6 6, tag, o2, rtag, t3, ip, ports⟩

/-- The bytes under FLOW_KEY (R151). -/
def Parsed.flowBytes (p : Parsed) (handle : Option Nat) (vid : Nat) : Bytes :=
  match handle with
  | some h => beBytes 2 h
  | none =>
    match p.ip with
    | some (src, dst, _, proto) =>
      match p.ports with
      | some (sp, dp) => src ++ dst ++ beBytes 1 proto ++ beBytes 2 sp ++ beBytes 2 dp
      | none => src ++ dst ++ beBytes 1 proto
    | none => p.da ++ p.sa ++ beBytes 2 vid ++ beBytes 2 p.ptype

/-- FLOW_KEY of a frame that enters without a lookup (R152; VID 0, log entry 20). -/
def State.fixedKey (s : State) (b : Bytes) : Nat :=
  hashH s.fwd.flowSeed (slice b 0 12 ++ beBytes 2 0 ++ slice b 12 2)

/-! ### Ports and targets (R147, R148) -/

/-- In a table entry bits 17 and 19 are read as 16 and 18 (R148). -/
def normPorts (t : Nat) : Nat := maskOf ((onesOf 24 t).map fun p => if p = 17 ∨ p = 19 then p - 1 else p)

/-- A port as it stands in a target set (R148). -/
def normPort (p : Nat) : Nat := if p = 17 ∨ p = 19 then p - 1 else p

/-- A field of PORT_VLAN, PORT_CTL, PCP_MAP or PORT_BLK of port p. -/
def State.portF (s : State) (f : Fld) (p : Nat) : Nat := s.gf shB (f.at (0x10 * p))

/-- Whether either fabric port of an H port, or the port itself, has a flag set. -/
def State.portAny (s : State) (f : Fld) (p : Nat) : Bool :=
  if 16 ≤ p ∧ p < 20 then s.portF f (normPort p) != 0 || s.portF f (normPort p + 1) != 0 else s.portF f p != 0

/-- Whether a port is blocked; either half blocks an H port (R148). -/
def State.blocked (s : State) (p : Nat) : Bool := s.portAny F.pipeShared_PORT_BLK_BLOCK p

/-- The target ports that are neither blocked nor absent. -/
def State.openPorts (s : State) : Nat :=
  maskOf ((List.range 24).filter fun p => s.grade.fPort p && !s.blocked p)

/-! ### Tables in BAR2 (Tables 5-3 to 5-8, R518) -/

/-- Base of the FDB of a pipe. -/
def fdbB (k : Nat) : Nat := 0x04000000 + 0x100000 * k

/-- Table code of an entry (R174). -/
def tableCode (off : Nat) : Nat :=
  if off < 0x04100000 then 0
  else if off < 0x05000000 then 1
  else if off < 0x05010000 then 2
  else if off < 0x05011000 then 7
  else if off < 0x05180000 then 3
  else if off < 0x051A0000 then 4
  else if off < 0x05200000 then 5
  else 6

/-- A parity error found by a lookup of pipe k in an entry (R174). The state that a sequence recovery function loses is
TAKE_ANY 1, RECOV_SEQ 0, HISTORY 0 and its timer stopped, that of a generation entry the number 0 (DEDUCED, log entry
130). -/
def State.parityFound (s : State) (k off : Nat) : State :=
  let code := tableCode off
  let s1 := (s.inc (ppB k) F.pipe_PARITY_COUNT).raise 97 code
  if code = 0 ∨ code = 1 then
    { (s1.b2Write off (List.replicate 16 0)) with fwd := { s1.fwd with parity := s1.fwd.parity.erase off } }
  else if code = 5 then
    let idx := (off - 0x051A0000) / 16
    let m : Meter := ⟨s1.b2w (off + 8) * 2 ^ 20, s1.b2w (off + 12) * 2 ^ 20, s1.cycles * 4, false⟩
    { s1 with fwd := { s1.fwd with
      meters := put (fun _ => (⟨0, 0, 0, false⟩ : Meter)) s1.fwd.meters idx m, parity := s1.fwd.parity.erase off } }
  else if code = 6 then
    let s2 : State := { s1 with fwd := { s1.fwd with parity := s1.fwd.parity.erase off } }
    if off < 0x05204000 then
      let i := (off - 0x05200000) / 16
      let b := s2.b2Bytes off 16
      let s3 := s2.b2Write off (putBytes (putBytes (putBytes b 0 (leBytes 1 (putBits (byteAt b 0) 5 5 1))) 4 (leBytes 2 0)) 8 (leBytes 4 0))
      { s3 with fwd := { s3.fwd with srf := put (fun _ => 0) s3.fwd.srf i 0 } }
    else s2.b2wr off 0
  else s1

/-- Whether an entry has a parity error. -/
def State.badEntry (s : State) (off : Nat) : Bool := s.fwd.parity.contains off

/-- An FDB entry (Table 5-4). -/
structure FdbEntry where
  off : Nat
  mac : Bytes
  flags : Nat
  fid : Nat
  b8 : Nat
  b9 : Nat
  win : Nat
  tc : Nat
  b13 : Nat
  deriving DecidableEq, Repr

def FdbEntry.valid (e : FdbEntry) : Bool := bitOf e.flags 15
def FdbEntry.static (e : FdbEntry) : Bool := bitOf e.flags 14
def FdbEntry.pinned (e : FdbEntry) : Bool := bitOf e.flags 13
def FdbEntry.mcast (e : FdbEntry) : Bool := bitOf e.flags 12
def FdbEntry.hit (e : FdbEntry) : Bool := bitOf e.b8 7
def FdbEntry.stale (e : FdbEntry) : Bool := bitOf e.b8 6
def FdbEntry.port (e : FdbEntry) : Nat := normPort (e.b8 % 32)

/-- Reads an FDB entry. -/
def State.fdbAt (s : State) (off : Nat) : FdbEntry :=
  let b := s.b2Bytes off 16
  ⟨off, slice b 0 6, leAt b 6 2, leAt b 6 2 % 0x1000, byteAt b 8, byteAt b 9, leAt b 10 2, byteAt b 12, byteAt b 13⟩

/-- Writes back the fields that the device changes: flags, byte 8, byte 9, MOVE_WIN. Such a write leaves the mark of a
parity error that no lookup has found yet (R174; DESIGN CHOICE, log entry 140). -/
def State.fdbPut (s : State) (e : FdbEntry) : State :=
  s.b2Write e.off (e.mac ++ leBytes 2 e.flags ++ leBytes 1 e.b8 ++ leBytes 1 e.b9 ++ leBytes 2 e.win
    ++ leBytes 1 e.tc ++ leBytes 1 e.b13)

/-- A lookup hits a dynamic entry: HIT is set. The hit stands over what other agents do to the entry in the same cycle:
they stand behind the lookup in the queue, which has read the table as it stood before them (R160; log entry 130). -/
def State.fdbHit (s : State) (e : FdbEntry) : State :=
  let s1 := s.fdbPut { e with b8 := putBits e.b8 7 7 1 }
  { s1 with fwd := { s1.fwd with hits := (s1.fwd.hits.filter fun x => x.2 == s.cycles && x.1 != e.off) ++ [(e.off, s.cycles)] } }

/-- Whether a lookup has hit the entry at `off` in this cycle. -/
def State.hitNow (s : State) (off : Nat) : Bool := s.fwd.hits.contains (off, s.cycles)

/-- The hit of this cycle's lookup applies to a dynamic entry that another agent has written (R160). -/
def State.fdbAgain (s : State) (off : Nat) : State :=
  let e := s.fdbAt off
  if s.hitNow off && e.valid && !e.static then s.fdbPut { e with b8 := putBits e.b8 7 7 1 } else s

/-- Removes an entry. -/
def State.fdbClear (s : State) (off : Nat) : State := s.b2Write off (List.replicate 16 0)

/-- The offsets a key may stand at: its bucket's four ways and the 64 CAM entries (R154). -/
def State.fdbPlaces (s : State) (k fid : Nat) (mac : Bytes) : List Nat :=
  let bucket := hashH (s.pipeSt k).seed (beBytes 2 fid ++ mac) % 4096
  ((List.range 4).map fun w => fdbB k + 64 * bucket + 16 * w) ++ (List.range 64).map fun i => fdbB k + 0x40000 + 16 * i

/-- Clears the entries with a parity error among those a lookup reads (R174). -/
def State.fdbCheck (s : State) (k : Nat) (places : List Nat) : State :=
  (places.filter s.badEntry).foldl (fun a o => a.parityFound k o) s

/-- The first valid match (R154). -/
def State.fdbFind (s : State) (k fid : Nat) (mac : Bytes) : Option FdbEntry :=
  ((s.fdbPlaces k fid mac).map s.fdbAt).find? fun e => e.valid && e.fid == fid && e.mac == mac

/-- A VLAN entry (Table 5-5). -/
structure VlanEntry where
  members : Nat
  valid : Bool
  learn : Bool
  floodUu : Bool
  floodMc : Bool
  untag : Nat
  fid : Nat
  deriving DecidableEq, Repr

/-- Reads the VLAN entry of a VID. -/
def State.vlanAt (s : State) (vid : Nat) : VlanEntry :=
  let b := s.b2Bytes (0x05000000 + 16 * vid) 16
  let f := byteAt b 3
  ⟨normPorts (leAt b 0 3), bitOf f 7, bitOf f 6, bitOf f 5, bitOf f 4, leAt b 4 3, leAt b 8 2 % 0x1000⟩

/-- A stream filter entry (Table 5-7). -/
structure FilterEntry where
  b0 : Nat
  b1 : Nat
  meter : Nat
  maxSdu : Nat
  w6 : Nat
  targets : Nat
  member : Nat
  targetsB : Nat
  deriving DecidableEq, Repr

/-- Offset of the filter entry of a handle in a bank. -/
def filterOff (bank handle : Nat) : Nat := 0x05180000 + 0x10000 * bank + 16 * handle

/-- Reads a filter entry. -/
def State.filterAt (s : State) (bank handle : Nat) : FilterEntry :=
  let b := s.b2Bytes (filterOff bank handle) 16
  ⟨byteAt b 0, byteAt b 1, leAt b 2 2 % 0x1000, leAt b 4 2 % 0x4000, leAt b 6 2, normPorts (leAt b 8 3),
    byteAt b 11 % 4, normPorts (leAt b 12 3)⟩

/-- Adds 1 to a 32-bit counter word in BAR2, wrapping. -/
def State.b2inc (s : State) (off n : Nat) : State := s.b2wr off ((s.b2w off + n) % 2 ^ 32)

/-- Offset of stream counter word k of a handle. -/
def streamCnt (handle k : Nat) : Nat := 0x051C0000 + 32 * handle + 4 * k

/-- Offset of SRF counter word k of an index. -/
def srfCnt (i k : Nat) : Nat := 0x05204000 + 32 * i + 4 * k

/-! ### Stream identification (R163) -/

/-- The key bytes of a probe, mode byte first; `masked` applies BANK_IPMASK. -/
def identKey (p : Parsed) (vid mode mask : Nat) : Bytes :=
  let keep (i n : Nat) (b : Bytes) : Bytes := if bitOf mask i then b else List.replicate n 0
  let wide (b : Bytes) : Bytes := List.replicate (16 - b.length) 0 ++ b
  match mode with
  | 0 => 0 :: p.da ++ beBytes 2 vid
  | 1 => 1 :: p.sa ++ beBytes 2 vid
  | _ =>
    match p.ip with
    | none => []
    | some (src, dst, dscp, proto) =>
      let (sp, dp) := p.ports.getD (0, 0)
      2 :: (keep 0 6 p.da ++ keep 1 2 (beBytes 2 vid) ++ keep 2 16 (wide src) ++ keep 3 16 (wide dst)
        ++ keep 4 1 (beBytes 1 dscp) ++ keep 5 1 (beBytes 1 proto) ++ keep 6 2 (beBytes 2 sp) ++ keep 7 2 (beBytes 2 dp))

/-- The key bytes that an identification entry stands for. -/
def entryKey (b : Bytes) : Bytes :=
  let mode := byteAt b 0 / 16 % 8
  let vid := beBytes 2 (leAt b 10 2 % 0x1000)
  match mode with
  | 0 => 0 :: slice b 4 6 ++ vid
  | 1 => 1 :: slice b 4 6 ++ vid
  | 2 => 2 :: (slice b 4 6 ++ vid ++ slice b 16 16 ++ slice b 32 16 ++ beBytes 1 (byteAt b 1 % 64)
      ++ slice b 12 1 ++ beBytes 2 (leAt b 48 2) ++ beBytes 2 (leAt b 50 2))
  | m => [BitVec.ofNat 8 m]

/-- The offsets of a probe's bucket. -/
def State.identPlaces (s : State) (bank : Nat) (key : Bytes) : List Nat :=
  let bucket := hashH (s.gf shB (F.pipeShared_BANK_SEED_SEED.at (4 * bank))) key % 1024
  (List.range 4).map fun w => 0x05100000 + 0x40000 * bank + 256 * bucket + 64 * w

/-- The probes of a frame, in the order in which a match counts. -/
def State.identProbes (s : State) (p : Parsed) (vid bank : Nat) : List Bytes :=
  let mask := s.gf shB (F.pipeShared_BANK_IPMASK_MASK.at (4 * bank))
  (if p.ip.isSome then [identKey p vid 2 mask] else []) ++ [identKey p vid 0 0, identKey p vid 1 0]

/-- The stream handle of a frame: none where no entry matches. -/
def State.identify (s : State) (probes : List Bytes) (bank : Nat) : Option Nat :=
  probes.findSome? fun key =>
    (s.identPlaces bank key).findSome? fun off =>
      let b := s.b2Bytes off 64
      if bitOf (byteAt b 0) 7 && entryKey b == key then some (leAt b 2 2 % 0x1000) else none

/-! ### Meters and sequence recovery (R165, R167 to R169) -/

/-- Colours of a metered frame. -/
inductive Colour | green | yellow | red
  deriving DecidableEq, Repr

/-- The meter's update and colouring (R165). `prm` is its 16-byte parameter record. -/
def meterStep (m : Meter) (prm : Bytes) (now l : Nat) (dei : Bool) : Meter × Colour :=
  let u := 2 ^ 20
  let cir := min 10000000 (byteAt prm 0 * 65536 + leAt prm 1 2)
  let eir := min 10000000 (leAt prm 4 3)
  let flags := byteAt prm 3
  let cbs := leAt prm 8 4 * u
  let ebs := leAt prm 12 4 * u
  let dt := min (now - m.last) (2 ^ 30)
  let c1 := m.c + cir * dt * u / 6400000
  let spill := c1 - cbs
  let c2 := min c1 cbs
  let e2 := min ebs (m.e + eir * dt * u / 6400000 + (if bitOf flags 7 then spill else 0))
  let need := l * u
  let colour :=
    if m.red then Colour.red
    else if !bitOf flags 6 || !dei then
      if need ≤ c2 then .green else if need ≤ e2 then .yellow else .red
    else if need ≤ e2 then .yellow else .red
  let c3 := if colour = .green then c2 - need else c2
  let e3 := if colour = .yellow then e2 - need else e2
  (⟨c3, e3, now, m.red⟩, colour)

/-- State of flow meter i. -/
def State.meterAt (s : State) (i : Nat) : Meter := look (fun _ => (⟨0, 0, 0, false⟩ : Meter)) s.fwd.meters i

/-- Sets the state of flow meter i. -/
def State.setMeter (s : State) (i : Nat) (m : Meter) : State :=
  { s with fwd := { s.fwd with meters := put (fun _ => (⟨0, 0, 0, false⟩ : Meter)) s.fwd.meters i m } }

/-- Outcome of a check inside the lookup: go on, or drop under a reason. -/
inductive Check
  | pass (s : State)
  | drop (reason : Nat) (s : State)
  deriving DecidableEq

/-- Applies flow meter i to a frame of stream `handle` (R164 step 4, R165). Answers also whether the frame is yellow. -/
def State.applyMeter (s : State) (k handle i l : Nat) (dei : Bool) : Check × Bool :=
  let off := 0x051A0000 + 16 * i
  if s.badEntry off then (.drop 10 (s.parityFound k off), false)
  else
    let prm := s.b2Bytes off 16
    let flags := byteAt prm 3
    let (m, colour) := meterStep (s.meterAt i) prm (s.cycles * 4) l dei
    match colour with
    | .green => (.pass (s.setMeter i m), false)
    | .yellow =>
      if bitOf flags 5 then (.drop 7 ((s.setMeter i m).b2inc (streamCnt handle 3) 1), false)
      else (.pass ((s.setMeter i m).b2inc (streamCnt handle 4) 1), true)
    | .red =>
      let mark := bitOf flags 4
      let s1 := (s.setMeter i { m with red := m.red || mark }).b2inc (streamCnt handle 3) 1
      let s2 := if mark && !m.red then (s1.pf shB F.pipeShared_EVT_IDX_A_LAST_RED i).raise 103 0 else s1
      (.drop 7 s2, false)

/-- Sequence recovery function i on a frame with R-TAG `seq` (R167); a frame that passes restarts its timer (R168). -/
def State.recover (s : State) (i seq : Nat) : Check :=
  let off := 0x05200000 + 16 * i
  let b := s.b2Bytes off 16
  let b0 := byteAt b 0
  let rs := leAt b 4 2
  let hist := leAt b 8 4
  let n := b0 % 32 + 1
  let takeAny := bitOf b0 5
  let store (st : State) (rs' hist' : Nat) : State :=
    st.b2Write off (putBytes (putBytes (putBytes b 0 (leBytes 1 (putBits b0 5 5 0))) 4 (leBytes 2 rs')) 8 (leBytes 4 hist'))
  let ok (st : State) : Check := .pass
    { st.b2inc (srfCnt i 0) 1 with fwd := { st.fwd with srf := put (fun _ => 0) st.fwd.srf i (st.cycles + 1) } }
  let no (st : State) : Check := .drop 9 (st.b2inc (srfCnt i 1) 1)
  if bitOf b0 6 then
    if takeAny || seq != rs then ok (store s seq hist) else no s
  else if takeAny then ok (store s seq (2 ^ n - 1))
  else
    let d := toSigned 16 (seq + 65536 - rs)
    if (n : Int) ≤ d ∨ d ≤ -(n : Int) then
      let s1 := (s.b2inc (srfCnt i 3) 1).pf shB F.pipeShared_EVT_IDX_B_LAST_ROGUE i
      no (s1.raise 104 0)
    else if 0 < d then
      let k := d.toNat
      let zeros := k - popCount k (hist % 2 ^ n / 2 ^ (n - k))
      ok (store (s.b2inc (srfCnt i 4) zeros) seq ((hist * 2 ^ k + 1) % 2 ^ n))
    else
      let k := (-d).toNat
      if bitOf hist k then no s
      else ok (store (s.b2inc (srfCnt i 2) 1) rs (putBits hist k k 1))

/-- What the stream stage finds: the state, or a drop; yellow; the R-TAG edits. -/
structure StreamRes where
  check : Check
  yellow : Bool
  strip : Bool
  insert : Option Nat
  deriving DecidableEq

/-- The checks of a stream filter, its meter and FRER, in the order of R164, R167 and R169. -/
def State.streamStage (s : State) (k handle : Nat) (f : FilterEntry) (l : Nat) (dei : Bool) (rtag : Option Nat) : StreamRes :=
  let s1 := s.b2inc (streamCnt handle 0) 1
  let stop (c : Check) : StreamRes := ⟨c, false, false, none⟩
  if bitOf (s1.b2w (streamCnt handle 6)) 0 then stop (.drop 8 (s1.b2inc (streamCnt handle 5) 1))
  else if f.maxSdu ≠ 0 ∧ f.maxSdu < l then
    let s2 := s1.b2inc (streamCnt handle 2) 1
    if bitOf f.b0 4 then
      let s3 := (s2.b2wr (streamCnt handle 6) 1).pf shB F.pipeShared_EVT_IDX_A_LAST_BLOCK handle
      stop (.drop 6 (s3.raise 102 0))
    else stop (.drop 6 s2)
  else
    let (c, yellow) := if bitOf f.b0 5 then s1.applyMeter k handle f.meter l dei else (.pass s1, false)
    match c with
    | .drop r t => stop (.drop r t)
    | .pass t =>
      let t1 := t.b2inc (streamCnt handle 1) 1
      let idx := f.w6 % 1024
      let srfOff := 0x05200000 + 16 * idx
      let genOff := 0x05210000 + 4 * idx
      let srfOn := bitOf f.w6 15
      let c2 :=
        if srfOn && t1.badEntry srfOff then Check.drop 10 (t1.parityFound k srfOff)
        else if srfOn && bitOf (byteAt (t1.b2Bytes srfOff 1) 0) 7 then
          match rtag with
          | none => .pass (t1.b2inc (srfCnt idx 6) 1)
          | some seq => t1.recover idx seq
        else .pass t1
      match c2 with
      | .drop r u => stop (.drop r u)
      | .pass u =>
        let strip := srfOn && bitOf (byteAt (t1.b2Bytes srfOff 1) 0) 7 && rtag.isSome && bitOf f.w6 14
        if bitOf f.w6 13 then
          if u.badEntry genOff then stop (.drop 10 (u.parityFound k genOff))
          else
            let n := u.b2w genOff % 65536
            ⟨.pass (u.b2wr genOff ((n + 1) % 65536)), yellow, strip, some n⟩
        else ⟨.pass u, yellow, strip, none⟩

/-! ### Learning requests (R155, R156) -/

/-- A learn or move request enters the queue, or is discarded and counted (R156). -/
def State.learnRequest (s : State) (k : Nat) (r : LearnReq) : State :=
  let p := s.pipeSt k
  if p.learn.length < 64 then
    (s.setPipe k { p with learn := p.learn ++ [r] }).pf (ppB k) F.pipe_LEARN_STS_LEVEL (p.learn.length + 1)
  else s.incFirst (ppB k) F.pipe_LEARN_DROP_COUNT 99 k

/-- The SA lookup (R155). `queueIt` is false for a frame whose request must not be queued. -/
def State.learnLookup (s : State) (k fid port : Nat) (sa : Bytes) (queueIt : Bool) : State :=
  if bitOf (byteAt sa 0) 0 then s
  else
    let s1 := s.fdbCheck k (s.fdbPlaces k fid sa)
    let req : LearnReq := ⟨beNat sa, fid, normPort port⟩
    match s1.fdbFind k fid sa with
    | none => if queueIt then s1.learnRequest k req else s1
    | some e =>
      if e.port = normPort port then
        if e.static then s1 else s1.fdbHit e
      else if e.static || e.pinned then s1.inc (ppB k) F.pipe_PIN_HITS_COUNT
      else if queueIt then s1.learnRequest k req
      else s1

/-! ### The lookup (R143 to R152) -/

/-- The class of a PCP on port p. -/
def State.pcpClass (s : State) (p pcp : Nat) : Nat := bitsOf (s.portF F.pipeShared_PCP_MAP_MAP p) (3 * pcp + 2) (3 * pcp)

/-- A result as it is composed: the state after the lookup's side effects, and the frame with its result or the drop
reason. -/
structure LookupRes where
  s : State
  out : Option Looked
  reason : Nat
  deriving DecidableEq

/-- A lookup that drops. -/
def LookupRes.drop (s : State) (r : Nat) : LookupRes := ⟨s, none, r⟩

/-- STREAM_BANK.EPOCH. -/
def State.epoch (s : State) : Nat := s.gf shB F.pipeShared_STREAM_BANK_EPOCH

/-- The fixed result of a port in capture class (R185). -/
def State.captureRes (s : State) (f : RxFrame) (p : Parsed) (q tc : Nat) : LookupRes :=
  let h := s.gf (qB q) F.hostQueue_Q_CFG_HPORT
  ⟨s, some ⟨f, 2 ^ (16 + 2 * h), 0, false, tc, s.epoch, 0, 0, hashH s.fwd.flowSeed (p.flowBytes none 0), false, none,
    false, p.afterTags, p.tag.isSome⟩, 0⟩

/-- The lookup of a frame from port f.src (R147), with its side effects. The VID and ACCEPT are tested before PORT_BLK:
a frame that both refuse is dropped under reason 2 or 0 (DESIGN CHOICE where R143 and R147 give no order between them,
log entry 130). MAX_SDU and the meter take the received length with FCS as L, not the length after Grist's edits (R164;
DESIGN CHOICE, log entry 140). A frame that its FDB entry drops meets no parity check of the stream and group tables:
reason 4 goes before reason 10 (R174; DESIGN CHOICE, log entry 140). -/
def State.lookup (s : State) (f : RxFrame) : LookupRes :=
  let p := f.src
  let k := pipeFor p
  let q := parseFrame f.bytes (s.portF F.pipeShared_PORT_CTL_PORT_TYPE p != 0) (s.gf shB F.pipeShared_TPID_ALT_TPID)
  let kDa := beNat q.da
  let defPcp := s.portF F.pipeShared_PORT_VLAN_DEF_PCP p
  match f.capture with
  | some (cq, ctc) => s.captureRes f q cq ctc
  | none =>
  let vidTag := match q.tag with
    | some t => t.vid
    | none => 0
  let vid := if vidTag = 0 then s.portF F.pipeShared_PORT_VLAN_PVID p else vidTag
  if kDa / 16 = 0x0180C200000 then
    if bitOf (s.gf shB F.pipeShared_TRAP_MASK) (kDa % 16) then
      ⟨s, some ⟨f, 2 ^ 22, 0, false, s.gf shB F.pipeShared_TRAP_TC, s.epoch, 0, vid % 4096,
        hashH s.fwd.flowSeed (q.flowBytes none vid), false, none, false, q.afterTags, q.tag.isSome⟩, 0⟩
    else .drop s 3
  else
  let accept := s.portF F.pipeShared_PORT_VLAN_ACCEPT p
  if vidTag = 4095 then .drop s 2
  else if (accept = 1 ∧ vidTag = 0) ∨ (accept = 2 ∧ vidTag ≠ 0) then .drop s 0
  else if s.blocked p then .drop s 1
  else
  let vOff := 0x05000000 + 16 * vid
  if s.badEntry vOff then .drop (s.parityFound k vOff) 10
  else
  let v := s.vlanAt vid
  if !v.valid || (s.portF F.pipeShared_PORT_CTL_INGRESS_FILTER p != 0 && !bitOf v.members (normPort p)) then .drop s 2
  else
  let s1 := if s.portF F.pipeShared_PORT_CTL_LEARN p != 0 && v.learn
    then s.learnLookup k v.fid p q.sa (!f.bad) else s
  let s2 := s1.fdbCheck k (s1.fdbPlaces k v.fid q.da)
  let e := s2.fdbFind k v.fid q.da
  if (e.map fun x => bitOf x.b13 7).getD false then .drop s2 4
  else
  let bank := s2.gf shB F.pipeShared_STREAM_BANK_FG
  let sid := s2.portF F.pipeShared_PORT_CTL_SID_EN p != 0 && s2.run .pipeShared 0
  let probes := if sid then s2.identProbes q vid bank else []
  let badId := (probes.flatMap (s2.identPlaces bank)).eraseDups.filter s2.badEntry
  if badId ≠ [] then .drop (badId.foldl (fun a off => a.parityFound k off) s2) 10
  else
  let handle := if sid then s2.identify probes bank else none
  let badF := handle.any fun h => s2.badEntry (filterOff bank h)
  if badF then .drop (s2.parityFound k (filterOff bank (handle.getD 0))) 10
  else
  let pcp := match q.tag with
    | some t => t.pcp
    | none => defPcp
  let filt : Option (Nat × FilterEntry) := match handle with
    | none => none
    | some h =>
      let x := s2.filterAt bank h
      if bitOf x.b0 7 && (bitOf x.b0 6 || x.b0 % 8 == pcp) then some (h, x) else none
  let group := bitOf (byteAt q.da 0) 0
  let grpOff := 0x05010000 + 4 * ((e.map fun x => x.win % 1024).getD 0)
  let useGroup := group && e.isSome && (filt.all fun x => x.2.targets == 0)
  if useGroup && s2.badEntry grpOff then .drop (s2.parityFound k grpOff) 10
  else
  let fTargets := (filt.map fun x => x.2.targets).getD 0
  let flooded := fTargets == 0 && e.isNone &&
    (if group then kDa == 0xFFFFFFFFFFFF || v.floodMc else v.floodUu)
  let t0 :=
    if fTargets ≠ 0 then fTargets
    else match e with
      | some x => if group then normPorts (s2.b2w grpOff % 2 ^ 24) else 2 ^ x.port
      | none => if flooded then v.members else 0
  let s3 := if flooded then (s2.inc (ppB k) F.pipe_FLOODED_COUNT).perf 0x031 k 1 else s2
  let less (t : Nat) : Nat :=
    let t' := natAnd (natAnd t v.members) s3.openPorts
    let t'' := if s3.portF F.pipeShared_PORT_CTL_HAIRPIN p != 0 then t' else putBits t' (normPort p) (normPort p) 0
    if p = 23 then putBits t'' 23 23 0 else t''
  let t1 := less t0
  let split : Bool := (filt.map fun x => bitOf x.2.w6 12).getD false
  let tB : Nat := if split then less ((filt.map fun x => x.2.targetsB).getD 0) else 0
  let dei := (q.tag.map fun t => t.dei).getD false
  let res : StreamRes := match filt with
    | none => ⟨.pass s3, false, false, none⟩
    | some (h, x) => s3.streamStage k h x f.bytes.length dei q.rtag
  match res.check with
  | .drop r t => .drop t r
  | .pass s4 =>
  let mirror := s4.portF F.pipeShared_PORT_CTL_MIRROR_IN p != 0
    || (onesOf 24 t1).any (fun o => s4.portAny F.pipeShared_PORT_CTL_MIRROR_OUT o)
    || (filt.map fun x => bitOf x.2.b0 3).getD false
  let trap := (e.map fun x => bitOf x.b13 6).getD false
  let t2 := if trap || mirror then t1 ||| 2 ^ 22 else t1
  if t2 = 0 ∧ tB = 0 then .drop s4 5
  else
  let fTc := filt.bind fun x => if bitOf x.2.b1 7 then some (x.2.b1 / 16 % 8) else none
  let eTc := e.bind fun x => if bitOf x.tc 7 then some (x.tc % 8) else none
  let pTc := match q.tag with
    | some t => if s4.portF F.pipeShared_PORT_CTL_TRUST_PCP p != 0 then s4.pcpClass p t.pcp else s4.pcpClass p defPcp
    | none => s4.pcpClass p defPcp
  let tc := (((fTc.or eTc).or f.tc).getD pTc)
  let fHq : Nat := (filt.map fun x => x.2.b1 % 16).getD 0
  let hq := if fHq ≠ 0 then fHq else (e.map fun x => x.b9 % 16).getD 0
  let member : Nat := cond split 1 ((filt.map fun x => x.2.member).getD 0)
  let key := hashH s4.fwd.flowSeed (q.flowBytes (filt.map (·.1)) vid)
  ⟨s4, some ⟨f, t2, tB, split, tc, s4.epoch, member, hq * 4096 + vid, key, res.strip, res.insert, res.yellow, q.afterTags, q.tag.isSome⟩, 0⟩

/-- The frame with its result as it will enter the fabric, before the edits; for the cut-through test (R123). -/
def Looked.info (x : Looked) (targets member : Nat) : FrameInfo where
  src := x.frame.src
  fixed := false
  tag := 0
  targets := targets
  tc := x.tc
  epoch := x.epoch
  member := member
  ctx := x.ctx
  key := x.key
  stamp := x.frame.stamp
  len := 0
  cut := false
  flags := x.frame.flags
  queue := x.frame.capture.map (·.1)
  hdr := x.frame.hdr

/-- Drops a frame of port p under a reason: counted, its receive buffer freed. -/
def State.dropRx (s : State) (f : RxFrame) (r : Nat) : State :=
  (s.pipeDrop (pipeFor f.src) r).freeRx f.src f.held

/-- The frames of a pipe's ports that are under lookup are discarded, its learn queue emptied (R175). -/
def State.pipeSrst (s : State) (k : Nat) : State :=
  let mine := s.fwd.looked.filter fun x => pipeFor x.frame.src == k
  let s1 := { s with fwd := { s.fwd with looked := s.fwd.looked.filter fun x => pipeFor x.frame.src != k } }
  let s2 := mine.foldl (fun a x => a.dropRx x.frame 11) s1
  (s2.setPipe k { s2.pipeSt k with learn := [] }).pf (ppB k) F.pipe_LEARN_STS_LEVEL 0

/-- A lockstep mismatch: counted, EV96, and on repetition the reset, after QUIESCE, and then the hold of the pipe (R141,
R472). The reset's write carries QUIESCE 0, so that the pipe settles in RUN (log entry 19). -/
def State.mismatch (s : State) (k : Nat) : State :=
  let s1 := (((s.inc (ppB k) F.pipe_LOCKSTEP_COUNT).pf (ppB k) hdrFault 1).raise 96 k)
  let p := s1.pipeSt k
  let recent := (p.mismatches.filter fun c => s1.cycles < c + 200000000) ++ [s1.cycles]
  if recent.length < 3 then s1.setPipe k { p with mismatches := recent }
  else
    let again := match p.resetAt with
      | some c => decide (s1.cycles < c + 2000000000)
      | none => false
    if again then
      let s2 := (s1.setPipe k { p with mismatches := [], resetAt := none }).pf (ppB k) hdrEn 0
      let s3 := s2.pageCtl .pipe k false false
      (s3.inc (pageBase .guardGlobal 0) F.guardGlobal_PIPE_HOLDS_COUNT).autoDegrade 2 (2 ^ (4 + k))
    else
      let s2 := (s1.setPipe k { p with mismatches := [], resetAt := some s1.cycles }).pf (ppB k) hdrQuiesce 1
      let s3 := s2.pageCtl .pipe k (s2.on (ppB k) hdrEn) false
      ((s3.pipeSrst k).pf (ppB k) hdrQuiesce 0).pageCtl .pipe k true true

/-- FRAME_LOOKUP: the oldest frame of port p that waits for its lookup. `mismatch` says that the two copies of the
pipeline disagree (R141); `parity` names a table entry by its BAR2 offset that has taken a parity error (R174), 0 for
none. A lookup of another port than the next in turn does not take place (R140); a frame keeps its place while its page
is RESETTING (R175). A bad frame that no cut-through takes into the fabric is discarded without a count (R183). -/
def execFrameLookup (p : Nat) (mismatch : Bool) (parity : Nat) (s : State) : Answer :=
  match (s.placed p).head? with
  | none => .next s
  | some f =>
    let k := pipeFor p
    if s.pst .pipe k = .resetting ∨ (s.run .pipe k ∧ !s.inTurn p) then .next s else
    let s0 := { s with fwd := { s.fwd with
      waiting := s.fwd.waiting.erase f
      parity := if parity = 0 ∨ s.fwd.parity.contains parity then s.fwd.parity else s.fwd.parity ++ [parity] } }
    if f.bad && f.capture.isNone && (!s0.run .pipe k || mismatch && s.grade.lockstep) then .next (s0.freeRx p f.held)
    else if !s0.run .pipe k then .next (s0.dropRx f 11)
    else
      let s1 := ((s0.setPipe k { s0.pipeSt k with served := p }).incW (ppB k) F.pipe_LOOKUPS_COUNT).perf 0x030 k 1
      if mismatch && s.grade.lockstep then .next ((s1.dropRx f 10).mismatch k)
      else
        let r := s1.lookup f
        match r.out with
        | none => if f.bad && f.capture.isNone then .next (s0.freeRx p f.held) else .next (r.s.dropRx f r.reason)
        | some x =>
          let cut := s1.cutOk ⟨x.info x.targets x.member, f.bytes, f.bad, f.held⟩
          if f.bad && f.capture.isNone && !cut then .next (s0.freeRx p f.held)
          else .next { r.s with fwd := { r.s.fwd with looked := r.s.fwd.looked ++ [x] } }

/-! ### Grist's edits (R146) -/

/-- Applies the R-TAG and DEI edits to the bytes before the FCS; `after` is the offset after the tags. -/
def gristEdit (b : Bytes) (after : Nat) (tagged strip dei : Bool) (ins : Option Nat) : Bytes :=
  let b1 := if strip then b.take after ++ b.drop (after + 6) else b
  let b2 := match ins with
    | none => b1
    | some n => b1.take after ++ beBytes 2 0xF1C1 ++ beBytes 2 0 ++ beBytes 2 n ++ b1.drop after
  if dei && tagged then putBytes b2 14 (leBytes 1 (putBits (byteAt b2 14) 4 4 1)) else b2

/-- A frame with edited bytes and the FCS that follows from the carried one. -/
def refcs (old body : Bytes) : Bytes :=
  if body = withoutFcs old then old
  else if fcsGood old then body ++ ethFcs body
  else body ++ invBytes (ethFcs body)

/-- GRIST_EDIT: the oldest looked-up frame of port p is edited and goes toward the fabric, a split stream's as two
frames (R146, R150). -/
def execGristEdit (p : Nat) (s : State) : Answer :=
  match s.fwd.looked.find? (fun x => x.frame.src == p) with
  | none => .next s
  | some x =>
    let s0 := { s with fwd := { s.fwd with looked := s.fwd.looked.erase x } }
    let f := x.frame
    let body := gristEdit (withoutFcs f.bytes) x.after x.tagged x.strip x.dei x.insert
    if x.insert.isSome ∧ 9216 < body.length + 4 then .next (s0.dropRx f 9)
    else
      let bytes := refcs f.bytes body
      let a : List FabFrame := if x.targets = 0 then [] else [⟨x.info x.targets x.member, bytes, f.bad, 0⟩]
      let b : List FabFrame := if x.split ∧ x.targetsB ≠ 0 then [⟨x.info x.targetsB 2, bytes, f.bad, 0⟩] else []
      let fs := match (a ++ b).reverse with
        | [] => []
        | l :: r => ({ l with held := f.held } :: r).reverse
      .next { s0 with fab := { s0.fab with entering := s0.fab.entering ++ fs } }

/-! ### The FDB's engines (R156, R157, R159, R161) -/

/-- The millisecond counter that runs from CLK_SYS (R157). -/
def State.msCount (s : State) : Nat := s.cycles / 200000

/-- LAST_PIN names an entry. -/
def State.lastPin (s : State) (k off : Nat) : State :=
  let d := off - fdbB k
  let cam := decide (0x40000 ≤ d)
  let s1 := (s.pf (ppB k) F.pipe_LAST_PIN_VALID 1).pf (ppB k) F.pipe_LAST_PIN_CAM (b2n cam)
  s1.pf (ppB k) F.pipe_LAST_PIN_WHERE (if cam then (d - 0x40000) / 16 else d / 16)

/-- A station move (R157). -/
def State.stationMove (s : State) (k : Nat) (e : FdbEntry) (port : Nat) : State :=
  let now := s.msCount % 65536
  let expired := decide (s.gf (ppB k) F.pipe_MOVE_CTL_WIN_MS ≤ (now + 65536 - e.win) % 65536)
  let cnt := e.b9 / 16
  if !expired && s.gf (ppB k) F.pipe_MOVE_CTL_LIMIT < cnt + 1 then
    let s1 := s.fdbPut { e with flags := putBits e.flags 13 13 1 }
    ((s1.inc (ppB k) F.pipe_PINNED_COUNT).lastPin k e.off).raise 98 k
  else
    let cnt' := if expired then 1 else cnt + 1
    let e' : FdbEntry := { e with
      b8 := putBits (putBits (putBits e.b8 4 0 port) 7 7 1) 6 6 0
      b9 := putBits e.b9 7 4 cnt'
      win := if expired then now else e.win }
    (s.fdbPut e').inc (ppB k) F.pipe_MOVES_COUNT

/-- LEARN_COMMIT: the next learn or move request of a pipe (R156). A learn request whose address stands on another port
by then is applied as a counted station move, under the move limit (DESIGN CHOICE, log entry 140). -/
def execLearnCommit (k : Nat) (s : State) : Answer :=
  let p := s.pipeSt k
  match p.learn with
  | [] => .next s
  | r :: rest =>
    let mac := beBytes 6 r.mac
    let s1 := (s.setPipe k { p with learn := rest }).pf (ppB k) F.pipe_LEARN_STS_LEVEL rest.length
    match s1.fdbFind k r.fid mac with
    | some e =>
      if e.static || e.pinned || e.port == r.port then .next s1
      else .next ((s1.stationMove k e r.port).perf 0x032 k 1)
    | none =>
      match ((s1.fdbPlaces k r.fid mac).map s1.fdbAt).find? (fun e => !e.valid) with
      | none => .next ((s1.inc (ppB k) F.pipe_LEARN_FULL_COUNT).raise 100 k)
      | some e =>
        let s2 := (s1.fdbClear e.off).fdbPut ⟨e.off, mac, 0x8000 + r.fid, r.fid, 0x80 + r.port, 0, s1.msCount % 65536, 0, 0⟩
        .next ((s2.inc (ppB k) F.pipe_LEARNED_COUNT).perf 0x032 k 1)

/-- Offset of Sparge's entry number i. -/
def spargeOff (k i : Nat) : Nat := if i < 16384 then fdbB k + 16 * i else fdbB k + 0x40000 + 16 * (i - 16384)

/-- SPARGE_VISIT: Sparge visits its next entry in a pipe (R159). `hit`: a lookup hits that entry in the same CLK_FAB
cycle, as does one that stands before it in the cycle, so that HIT is left 1 and STALE 0 whatever they were (R160). -/
def execSpargeVisit (k : Nat) (hit : Bool) (s : State) : Answer :=
  if s.on (ppB k) F.pipe_AGE_CTL_AGE_EN then
    let p := s.pipeSt k
    let s1 := s.setPipe k { p with sparge := (p.sparge + 1) % 16448 }
    let e := s1.fdbAt (spargeOff k p.sparge)
    if !e.valid || e.static || e.pinned then .next s1
    else if hit || s.hitNow e.off then .next (s1.fdbPut { e with b8 := 128 + e.b8 % 64 })
    else if e.hit then .next (s1.fdbPut { e with b8 := e.b8 % 64 })
    else if e.stale then .next ((s1.fdbClear e.off).inc (ppB k) F.pipe_AGED_COUNT)
    else .next (s1.fdbPut { e with b8 := putBits e.b8 6 6 1 })
  else .next s

/-- The offsets of a pipe's FDB entries that hold anything. -/
def State.fdbUsed (s : State) (k : Nat) : List Nat :=
  ((s.bar2.map fun c => c.1 / 16 * 16).filter fun o => fdbB k ≤ o && o < fdbB k + 0x40400).eraseDups

/-- Removes an entry if it is dynamic, or static where asked, and matches a port and a FID (R161). -/
def State.fdbDrop (s : State) (o : Nat) (static byPort : Bool) (port : Nat) (byFid : Bool) (fid : Nat) : State :=
  let e := s.fdbAt o
  if e.valid && (static || !e.static) && (!byPort || (!e.mcast && e.port == normPort port)) && (!byFid || e.fid == fid)
  then s.fdbClear o else s

/-- Removes every entry that matches. -/
def State.fdbRemove (s : State) (k : Nat) (static byPort : Bool) (port : Nat) (byFid : Bool) (fid : Nat) : State :=
  (s.fdbUsed k).foldl (fun a o => a.fdbDrop o static byPort port byFid fid) s

/-- A flush visits the next `n` entries of pipe k, one by one, and removes those that match (R161). -/
def State.flushVisit (s : State) (k n : Nat) : State :=
  let p := s.pipeSt k
  match p.flush with
  | none => s
  | some (static, byPort, port, byFid, fid) =>
    let last := min 16448 (p.visited + n)
    let here (o : Nat) : Bool :=
      let i := if o < fdbB k + 0x40000 then (o - fdbB k) / 16 else 16384 + (o - fdbB k - 0x40000) / 16
      p.visited ≤ i && i < last
    let s1 := ((s.fdbUsed k).filter here).foldl (fun a o => a.fdbDrop o static byPort port byFid fid) s
    s1.setPipe k { s1.pipeSt k with visited := last }

/-- FDB_FLUSH.GO starts a flush with the fields as written; a GO while BUSY = 1 is ignored (R161). -/
def State.fdbFlushGo (s : State) (k : Nat) (w : Word) : State :=
  let b := ppB k
  if bitOf w.toNat 31 && !s.on b F.pipe_FDB_FLUSH_BUSY then
    let job := (s.on b F.pipe_FDB_FLUSH_STATIC, s.on b F.pipe_FDB_FLUSH_BY_PORT, s.gf b F.pipe_FDB_FLUSH_PORT,
      s.on b F.pipe_FDB_FLUSH_BY_FID, s.gf b F.pipe_FDB_FLUSH_FID)
    (s.setPipe k { s.pipeSt k with flush := some job, visited := 0 }).pf b F.pipe_FDB_FLUSH_BUSY 1
  else s

/-- What a write of a pipe page starts. -/
def State.pipeTrigger (k o : Nat) (w : Word) (s : State) : State := if o = 0x04C then s.fdbFlushGo k w else s

def execFdbFlush (k : Nat) (w : Word) (s : State) : Answer :=
  if k < 2 then .next (s.hostWrite (ppB k + 0x04C) w (State.pipeTrigger k 0x04C w)) else .next s

/-- FDB_FLUSH_COMPLETE: the entries that the ticks have left are visited, and every entry has been (R161). -/
def execFdbFlushComplete (k : Nat) (s : State) : Answer :=
  if (s.pipeSt k).flush.isSome then
    let s1 := s.flushVisit k 16448
    .next ((s1.setPipe k { s1.pipeSt k with flush := none }).pf (ppB k) F.pipe_FDB_FLUSH_BUSY 0)
  else .next s

/-- Whether the reset timer of function i has run RESET_MS since the last frame passed (R168). -/
def State.srfDue (s : State) (i : Nat) : Bool :=
  let b := s.b2Bytes (0x05200000 + 16 * i) 16
  let ms := byteAt b 2 * 256 + byteAt b 3
  let t := look (fun _ => 0) s.fwd.srf i
  bitOf (byteAt b 0) 7 && ms != 0 && t != 0 && t - 1 + 200000 * ms ≤ s.cycles

/-- SRF_RESET_TIMEOUT: the reset timer of function i expires; it stands until a frame passes again (R168). -/
def execSrfResetTimeout (i : Nat) (s0 : State) : Answer :=
  let off := 0x05200000 + 16 * i
  let b := s0.b2Bytes off 16
  if i < 1024 ∧ s0.srfDue i then
    let s : State := { s0 with fwd := { s0.fwd with srf := put (fun _ => 0) s0.fwd.srf i 0 } }
    let s1 := s.b2Write off (putBytes (putBytes b 0 (leBytes 1 (putBits (byteAt b 0) 5 5 1))) 8 (leBytes 4 0))
    let s2 := (s1.b2inc (srfCnt i 5) 1).pf shB F.pipeShared_EVT_IDX_B_LAST_RESET i
    .next (s2.raise 105 0)
  else .next s0

/-! ### Flips of the stream tables (R172, R173, R175) -/

/-- The flip itself. -/
def State.streamFlip (s : State) : State :=
  let e := (s.epoch + 1) % 8
  let s1 := (s.pf shB F.pipeShared_STREAM_BANK_FG (1 - s.gf shB F.pipeShared_STREAM_BANK_FG)).pf
    shB F.pipeShared_STREAM_BANK_EPOCH e
  let s2 := (s1.pf shB F.pipeShared_STREAM_BANK_DRAINING 1).pf shB F.pipeShared_STREAM_BANK_FLIP_PEND 0
  ({ s2 with fwd := { s2.fwd with flip := .none } }).raise 101 e

/-- Sets the pending request. -/
def State.streamPend (s : State) (r : FlipReq) : State :=
  ({ s with fwd := { s.fwd with flip := r } }).pf shB F.pipeShared_STREAM_BANK_FLIP_PEND (b2n (r != FlipReq.none))

/-- FLIP_AT. -/
def State.streamAt (s : State) : Nat := s.g64 shB F.pipeShared_FLIP_AT_LO_NS F.pipeShared_FLIP_AT_HI_NS

/-- Carries out a request that can be: the page in RUN, not DRAINING, and a timed one due. `waited` says that it had to
wait for DRAINING or for the page; a timed flip that runs after its time sets LATE (R172, R175, R352). A pending timed
flip follows FLIP_AT as it reads now, a write of it after the AT included (DESIGN CHOICE, log entry 140). -/
def State.streamProceed (s : State) (waited : Bool) : State :=
  if s.run .pipeShared 0 && !s.on shB F.pipeShared_STREAM_BANK_DRAINING then
    match s.fwd.flip with
    | .none => s
    | .now => s.streamFlip
    | .late => (s.pf shB F.pipeShared_STREAM_BANK_LATE 1).streamFlip
    | .at_ =>
      if s.streamAt ≤ s.now then
        (if waited && decide (s.streamAt < s.now) then s.pf shB F.pipeShared_STREAM_BANK_LATE 1 else s).streamFlip
      else s
  else s

/-- What a write of a PIPE shared register starts: CANCEL first, then AT, then NOW (R172). An AT for an instant that
has passed takes effect at the next tick and is marked late (R352). -/
def State.shTrigger (o : Nat) (w : Word) (s : State) : State :=
  if o = 0x044 then
    let n := w.toNat
    let s1 := if bitOf n 2 then s.streamPend FlipReq.none else s
    let s2 := if bitOf n 1 then s1.streamPend (if s1.streamAt < s1.now then FlipReq.late else FlipReq.at_) else s1
    if bitOf n 0 then (s2.streamPend FlipReq.now).streamProceed false else s2
  else s

def execStreamFlipNow (s : State) : Answer := .next (s.hostWrite (shB + 0x044) 1 (State.shTrigger 0x044 1))

def execStreamFlipAt (s : State) : Answer := .next (s.hostWrite (shB + 0x044) 2 (State.shTrigger 0x044 2))

def execStreamFlipCancel (s : State) : Answer := .next (s.hostWrite (shB + 0x044) 4 (State.shTrigger 0x044 4))

/-- STREAM_FLIP_DUE: TIME_NS has reached FLIP_AT (R172). -/
def execStreamFlipDue (s : State) : Answer := .next (if s.fwd.flip = .at_ ∨ s.fwd.flip = .late then s.streamProceed false else s)

/-- Whether every frame of another epoch has left (R173). -/
def State.streamDrained (s : State) : Bool :=
  let e := s.epoch
  s.fwd.looked.all (fun x => x.epoch == e) && s.fab.entering.all (fun f => f.info.fixed || f.info.epoch == e)
    && s.fab.flights.all (fun f => f.left == 0 || f.epoch == e)

/-- STREAM_DRAIN_END: the last frame of the previous epoch has left; a waiting flip proceeds (R172, R173). -/
def execStreamDrainEnd (s : State) : Answer :=
  if s.on shB F.pipeShared_STREAM_BANK_DRAINING && s.streamDrained then
    .next ((s.pf shB F.pipeShared_STREAM_BANK_DRAINING 0).streamProceed true)
  else .next s

/-! ### Writing the tables (R170, R171) -/

/-- Holds a word of an entry of a table, or answers the entry's words where it is the last (R170). Words held for
another entry of the table are discarded; `lost` counts that. -/
def State.stageWord (s : State) (table entry k v last : Nat) (lost : State → State) : State × Option (List (Nat × Nat)) :=
  let mine := s.fwd.staged.find? fun x => x.table == table
  let others := s.fwd.staged.filter fun x => x.table != table
  let (s1, words) := match mine with
    | none => (s, [])
    | some x => if x.entry = entry then (s, x.words) else (lost s, [])
  let words' := (words.filter fun x => x.1 != k) ++ [(k, v)]
  if k = last then ({ s1 with fwd := { s1.fwd with staged := others } }, some words')
  else ({ s1 with fwd := { s1.fwd with staged := others ++ [⟨table, entry, words'⟩] } }, none)

/-- Writes a committed entry's words. -/
def State.commitWords (s : State) (off : Nat) (words : List (Nat × Nat)) : State :=
  words.foldl (fun a x => a.b2wr (off + 4 * x.1) x.2) s

/-- A word of an entry of `size` bytes of the table at `base`; the two banks of a stream table, which lie one behind the
other, are one table (R171). -/
def State.tableWrite (s : State) (base size off v : Nat) (lost : State → State) (after : Nat → State → State) : State :=
  let entry := base + (off - base) / size * size
  let r := s.stageWord base entry ((off - entry) / 4) v (size / 4 - 1) lost
  match r.2 with
  | none => r.1
  | some ws => after entry (r.1.commitWords entry ws)

/-- A write of a word of the forwarding region (Table 5-3, R170, R171). A write to a read-only place or to a gap is
ignored (R44). -/
def State.fwdWrite (s : State) (off v : Nat) : State :=
  let lost (k : Nat) (t : State) : State := t.inc (ppB k) F.pipe_STAGE_LOST_COUNT
  let clean (e : Nat) (t : State) : State := { t with fwd := { t.fwd with parity := t.fwd.parity.erase e } }
  let bg (bank : Nat) : Bool :=
    s.gf shB F.pipeShared_STREAM_BANK_FG != bank && !s.on shB F.pipeShared_STREAM_BANK_DRAINING
  let reject := s.inc shB F.pipeShared_BANK_WR_REJ_COUNT
  let sb (bank base size : Nat) : State := if bg bank then s.tableWrite base size off v (lost 0) clean else reject
  let fdb (e : Nat) (t : State) : State := (clean e t).fdbAgain e
  if off < 0x04040400 then s.tableWrite 0x04000000 16 off v (lost 0) fdb
  else if 0x04100000 ≤ off ∧ off < 0x04140400 then s.tableWrite 0x04100000 16 off v (lost 1) fdb
  else if 0x05000000 ≤ off ∧ off < 0x05010000 then s.tableWrite 0x05000000 16 off v (lost 0) clean
  else if 0x05010000 ≤ off ∧ off < 0x05011000 then clean off (s.b2wr off v)
  else if 0x05100000 ≤ off ∧ off < 0x05140000 then sb 0 0x05100000 64
  else if 0x05140000 ≤ off ∧ off < 0x05180000 then sb 1 0x05100000 64
  else if 0x05180000 ≤ off ∧ off < 0x05190000 then sb 0 0x05180000 16
  else if 0x05190000 ≤ off ∧ off < 0x051A0000 then sb 1 0x05180000 16
  else if 0x051A0000 ≤ off ∧ off < 0x051B0000 then
    s.tableWrite 0x051A0000 16 off v (lost 0) fun e t =>
      let t' := clean e t
      t'.setMeter ((e - 0x051A0000) / 16) ⟨t'.b2w (e + 8) * 2 ^ 20, t'.b2w (e + 12) * 2 ^ 20, t'.cycles * 4, false⟩
  else if 0x051C0000 ≤ off ∧ off < 0x051E0000 then
    if off % 32 = 24 then s.b2wr off (v % 2) else if off % 32 = 28 then s else s.b2wr off v
  else if 0x05200000 ≤ off ∧ off < 0x05204000 then 
    s.tableWrite 0x05200000 16 off v (lost 0) fun e t =>
      let t' := clean e t
      { t' with fwd := { t'.fwd with srf := put (fun _ => 0) t'.fwd.srf ((e - 0x05200000) / 16) 0 } }
  else if 0x05204000 ≤ off ∧ off < 0x0520C000 then if off % 32 = 28 then s else s.b2wr off v
  else if 0x05210000 ≤ off ∧ off < 0x05211000 then clean off (s.b2wr off (v % 65536))
  else s

end Sys2Proof.Machine
end

