-- ==== Sys2Proof/Machine/Gptp.lean ====
section
/-! DEFINITION. The messages of the gPTP engine and what it does when one of its frames leaves (R347). Message formats
are those of IEEE 802.1AS-2020 (PRESUMED, log entry 63). -/

namespace Sys2Proof.Machine

/-- Bases of the TIME pages. -/
def tcB : Nat := pageBase .timeClock 0
def tgB : Nat := pageBase .timeGptp 0
def tpB : Nat := pageBase .timePulse 0
def tsB : Nat := pageBase .timeSched 0

/-- Replaces what TIME holds beside its registers. -/
def State.setTimed (s : State) (t : Timed) : State := { s with timed := t }

/-- Address, EtherType and FCS around a message of the engine on port n. -/
def ptpFrame (n : Nat) (msg : Bytes) : Bytes :=
  let b := beBytes 6 0x0180C200000E ++ beBytes 6 (Config.ptpMac n).toNat ++ beBytes 2 0x88F7 ++ msg
  let body := b ++ List.replicate (60 - b.length) 0
  body ++ ethFcs body

/-- The portIdentity of port n. -/
def portIdent (n : Nat) : Bytes := beBytes 8 Config.clockId.toNat ++ beBytes 2 (n + 1)

/-- A message: type, domain, flags, correction in 2⁻¹⁶ ns, number, control field, logMessageInterval, body. -/
def ptpMsg (n typ dom flags : Nat) (corr : Int) (seq control log : Nat) (body : Bytes) : Bytes :=
  leBytes 1 (0x10 + typ) ++ [0x12] ++ beBytes 2 (34 + body.length) ++ leBytes 1 dom ++ [0] ++ beBytes 2 flags
    ++ beBytes 8 (ofSigned 64 corr) ++ List.replicate 4 0 ++ portIdent n ++ beBytes 2 seq ++ leBytes 1 control
    ++ leBytes 1 log ++ body

/-- A timestamp: seconds and nanoseconds. -/
def ptpTime (ns : Nat) : Bytes := beBytes 6 (ns / 1000000000) ++ beBytes 4 (ns % 1000000000)

/-- The nanoseconds that a timestamp at place `o` gives. -/
def ptpNs (b : Bytes) (o : Nat) : Nat := beAt b o 6 * 1000000000 + beAt b (o + 6) 4

/-- logMessageInterval of an interval in milliseconds. -/
def logInterval (ms : Nat) : Nat :=
  match ms with
  | 125 => 0xFD
  | 250 => 0xFE
  | 500 => 0xFF
  | 1000 => 0
  | 2000 => 1
  | 4000 => 2
  | _ => 3

/-- A frame of the engine enters at F22 toward port n with the fixed result of R152 (R349). -/
def State.ptpEnter (s : State) (n : Nat) (msg : Bytes) : State :=
  let bytes := ptpFrame n msg
  let i : FrameInfo := ⟨22, true, 0, 2 ^ n, s.gf tgB F.timeGptp_GPTP_CTL_TC, 0, 0, 0, s.fixedKey bytes, s.stamp, 0, false, 0, none, []⟩
  { s with fab := { s.fab with entering := s.fab.entering ++ [⟨i, bytes, false, 0⟩] } }

/-- A port that has made no exchange. -/
def PdPort.new : PdPort := ⟨0, false, none, none, none, none⟩

/-- Port n's exchange. -/
def State.pdPort (s : State) (n : Nat) : PdPort := look (fun _ => PdPort.new) s.timed.pd n

/-- Replaces it. -/
def State.setPd (s : State) (n : Nat) (x : PdPort) : State :=
  s.setTimed { s.timed with pd := put (fun _ => PdPort.new) s.timed.pd n x }

/-- A field of instance d. -/
def State.ginst (s : State) (d : Nat) (f : Fld) : Nat := s.gf tgB (f.at (64 * d))

/-- The Follow_Up information TLV with its cumulativeScaledRateOffset. -/
def followTlv (rate : Int) : Bytes :=
  beBytes 2 3 ++ beBytes 2 28 ++ beBytes 3 0x0080C2 ++ beBytes 3 1 ++ beBytes 4 (ofSigned 32 rate) ++ List.replicate 18 0

/-- The Follow_Up of a Sync that has left and whose information is here (R347). -/
def State.followSend (s : State) (x : SyncOut) : State :=
  let dom := s.ginst x.inst F.timeGptp_INST_CTL_DOMAIN_NUM
  let log := logInterval (s.ginst x.inst F.timeGptp_SYNC_CTL_INTERVAL_MS)
  let send (origin : Nat) (corr rate : Int) : State :=
    s.ptpEnter x.port (ptpMsg x.port 8 dom 0x0008 corr x.seq 2 log (ptpTime origin ++ followTlv rate))
  match x.tx, x.info with
  | some tx, some f =>
    let stay : Int := 65536 * ((tx : Int) - f.stamp + f.delay)
    send f.origin (f.corr + stay + Int.tdiv (stay * f.rate) (2 ^ 41)) f.rate
  | some tx, none =>
    if x.gm then
      let off := toSigned 64 (s.ginst x.inst F.timeGptp_GM_OFFSET_HI_NS * 2 ^ 32 + s.ginst x.inst F.timeGptp_GM_OFFSET_LO_NS)
      send ((tx : Int) + off).toNat 0 0
    else s
  | none, _ => s

/-- Whether a Sync's Follow_Up can be sent. -/
def SyncOut.ready (x : SyncOut) : Bool := x.tx.isSome && (x.gm || x.info.isSome)

/-- Sends the Follow_Ups that can be sent. -/
def State.followAll (s : State) : State :=
  let go := s.timed.syncOut.filter (·.ready)
  let s1 := s.setTimed { s.timed with syncOut := s.timed.syncOut.filter fun x => !x.ready }
  go.foldl (fun (a : State) x => a.followSend x) s1

/-- A frame of the engine starts to leave on En: `b` its text from DA on, `stamp` the transmit stamp. -/
def State.ptpSent (s : State) (n : Nat) (b : Bytes) (stamp : Nat) : State :=
  let seq := beAt b 44 2
  match byteAt b 14 % 16 with
  | 0 =>
    let dom := byteAt b 18
    let mark (x : SyncOut) : SyncOut :=
      if x.port = n ∧ x.seq = seq ∧ s.ginst x.inst F.timeGptp_INST_CTL_DOMAIN_NUM = dom ∧ x.tx.isNone
      then { x with tx := some stamp } else x
    (s.setTimed { s.timed with syncOut := s.timed.syncOut.map mark }).followAll
  | 2 =>
    let p := s.pdPort n
    if p.busy ∧ p.seq = seq then s.setPd n { p with t1 := some stamp } else s
  | 3 => s.ptpEnter n (ptpMsg n 10 (byteAt b 18) 0x0008 0 seq 5 0x7F (ptpTime stamp ++ slice b 58 10))
  | _ => s

end Sys2Proof.Machine
end

