-- ==== Sys2Proof/Machine/Macsec.lean ====
section
/-! DEFINITION. MACsec at the E ports: protection of transmitted frames (R199, R201, R379 to R383, R391) and
verification of received ones (R200). Frame formats and the order of the checks are those of IEEE 802.1AE-2018
(PRESUMED, log entry 9). -/

namespace Sys2Proof.Machine

/-- Base of the MACsec page of En. -/
def msB (n : Nat) : Nat := pageBase .macsec n

/-- A frame is dropped for want of a key: counted, with EV402 at the first (R383). -/
def State.noKey (s : State) : State := (s.incFirst cgB F.ciphGlobal_NO_KEY_COUNT 402 0).perf 0x081 0 1

/-- A frame is dropped because the CIPH global page is not in RUN: NO_KEY counts it, the performance counter of R382 and
R383 does not (R391, Table 14-7). -/
def State.noCipher (s : State) : State := s.incFirst cgB F.ciphGlobal_NO_KEY_COUNT 402 0

/-- The key, and for an XPN suite the AUX value, that a slot gives a SecY of suite `suite`; none where R380 or R383 is
not met. -/
def State.secKey (s : State) (slot suite : Nat) : Option (Bytes × Bytes) :=
  if (s.grade = .tvx6480 ∧ !s.rngRuns) then none
  else
    match s.keyFor slot 0 with
    | none => none
    | some (typ, k) =>
      if typ ≠ suite % 2 then none
      else if suite < 2 then some (k, [])
      else (s.slot slot).aux.map fun a => (k, a.value)

/-- The IV of a frame (R380). -/
def secIv (suite : Nat) (aux sci : Bytes) (pn : Nat) : Bytes :=
  if suite < 2 then sci ++ beBytes 4 pn else xorB (slice aux 12 4 ++ beBytes 8 pn) (slice aux 0 12)

/-- The confidentiality offset in bytes. -/
def State.confOffset (s : State) (n : Nat) : Nat :=
  match s.gf (msB n) F.macsec_SECY_CTL_CONF_OFFSET with
  | 0 => 0
  | 1 => 30
  | _ => 50

/-! ### Transmit -/

/-- How a frame to be sent stands with MACsec. -/
inductive TxSec
  | clear (s : State)
  | drop (s : State)
  | prot (p : Prot) (s : State)
  deriving DecidableEq

/-- The transmit SA's next packet number; a 32-bit suite has the low word alone. -/
def State.nextPn (s : State) (n a suite : Nat) : Nat :=
  if suite < 2 then s.gf (msB n) (F.macsec_TX_NEXT_PN_LO_PN.at (16 * a))
  else s.g64 (msB n) (F.macsec_TX_NEXT_PN_LO_PN.at (16 * a)) (F.macsec_TX_NEXT_PN_HI_PN.at (16 * a))

/-- The SA has sent a frame with packet number `pn`: NEXT_PN advances, or the SA stops; the threshold's and the stop's
event (R381). -/
def State.pnSent (s : State) (n a pn suite : Nat) : State :=
  let last := if suite < 2 then 2 ^ 32 - 1 else 2 ^ 64 - 1
  let warn := if suite < 2 then s.gf cgB F.ciphGlobal_PN_WARN32_PN
    else s.g64 cgB F.ciphGlobal_PN_WARN64_LO_PN F.ciphGlobal_PN_WARN64_HI_PN
  let s1 := if pn = last then s.setPort n { s.port n with stopped := putBits (s.port n).stopped a a 1 }
    else if suite < 2 then s.pf (msB n) (F.macsec_TX_NEXT_PN_LO_PN.at (16 * a)) (pn + 1)
    else s.p64 (msB n) (F.macsec_TX_NEXT_PN_LO_PN.at (16 * a)) (F.macsec_TX_NEXT_PN_HI_PN.at (16 * a)) (pn + 1)
  let s2 := s1.raiseIf (pn == warn) (130 + 4 * n) a
  s2.raiseIf (pn == last) (130 + 4 * n) (0x80 + a)

/-- The SecTAG of a transmitted frame: TCI and AN, SL, PN, SCI. -/
def State.secTag (s : State) (n an pn data : Nat) : Bytes :=
  let f (x : Fld) : Nat := s.gf (msB n) x
  let conf := f F.macsec_SECY_CTL_CONF
  let sc := f F.macsec_SECY_CTL_INCLUDE_SCI
  let tci := 64 * f F.macsec_SECY_CTL_USE_ES + 32 * sc + 16 * f F.macsec_SECY_CTL_USE_SCB + 12 * conf + an
  beBytes 2 0x88E5 ++ beBytes 1 tci ++ beBytes 1 (if data < 48 then data else 0) ++ beBytes 4 (pn % 2 ^ 32)
    ++ (if sc = 1 then beBytes 4 (f F.macsec_TX_SCI_HI_SCI) ++ beBytes 4 (f F.macsec_TX_SCI_LO_SCI) else [])

/-- Decides how a frame is sent: `body` is its text after edits and padding, without FCS; `whole` says that it is
complete. The SA and its packet number are taken at the frame's start (R199, R379); the blocks of a frame that is not
complete are counted at its end. -/
def State.txSecure (s : State) (n : Nat) (body : Bytes) (whole : Bool) : TxSec :=
  let b := msB n
  let txEn := s.on b F.macsec_SECY_CTL_TX_EN
  if (txEn || s.on b F.macsec_SECY_CTL_RX_EN) && !s.run .ciphGlobal 0 then .drop s.noCipher
  else if !txEn || beAt body 12 2 == 0x888E then .clear s
  else if !s.on b F.macsec_SECY_CTL_PROTECT_FRAMES then .clear (s.incW b F.macsec_OUT_UNTAGGED_COUNT)
  else
    let a := s.gf b F.macsec_TX_CTL_ENC_AN
    let suite := s.gf b F.macsec_SECY_CTL_SUITE
    if !s.on b (F.macsec_TX_SA_IN_USE.at (16 * a)) || bitOf (s.port n).stopped a then
      .drop (s.incW b F.macsec_OUT_NO_SA_COUNT)
    else
      let pn := s.nextPn n a suite
      let conf := s.on b F.macsec_SECY_CTL_CONF
      let tag := s.secTag n a pn (if whole then body.length - 12 else 48)
      let probe : Prot := ⟨[], [], tag, none⟩
      if whole && !s.protFits probe (body.length + 4) then .drop (s.outTooLong n)
      else
        match s.secKey (s.gf b (F.macsec_TX_SA_KEY_SLOT.at (16 * a))) suite with
        | none => .drop s.noKey
        | some (k, aux) =>
          let sci := beBytes 4 (s.gf b F.macsec_TX_SCI_HI_SCI) ++ beBytes 4 (s.gf b F.macsec_TX_SCI_LO_SCI)
          let off := if conf then s.confOffset n else body.length - 12
          let s0 := s.pnSent n a pn suite
          let s1 := if whole then s0.countBlocks (s.pipelineOf n true) (body.length - 12 - off) else s0
          let s2 := s1.incW b (if conf then F.macsec_OUT_ENCRYPTED_COUNT else F.macsec_OUT_PROTECTED_COUNT)
          .prot ⟨k, secIv suite aux sci pn, tag, if conf then some off else none⟩ s2

/-! ### Receive -/

/-- What becomes of a received frame. -/
inductive RxSec
  | pass (bytes : Bytes) (s : State)
  | drop (s : State)
  deriving DecidableEq

/-- A SecTAG as received. -/
structure SecTag where
  es : Bool
  sc : Bool
  scb : Bool
  e : Bool
  c : Bool
  an : Nat
  sl : Nat
  pn : Nat
  sci : Bytes
  len : Nat
  deriving DecidableEq, Repr

/-- Reads the SecTAG of a frame whose EtherType is 0x88E5; without an SCI it is built from the source address: port 1
for an end station, 0 for a broadcast channel. -/
def readSecTag (b : Bytes) : SecTag :=
  let tci := byteAt b 14
  let sc := bitOf tci 5
  let scb := bitOf tci 4
  ⟨bitOf tci 6, sc, scb, bitOf tci 3, bitOf tci 2, tci % 4, byteAt b 15, beAt b 16 4,
    if sc then slice b 20 8 else slice b 6 6 ++ beBytes 2 (if scb then 0 else 1), if sc then 16 else 8⟩

/-- Whether a SecTAG is well formed: version 0, no SCI beside ES or SCB, no encryption without changed text, SL below
48 and fitting the frame, PN not 0 for a 32-bit suite. -/
def SecTag.ok (t : SecTag) (b : Bytes) (suite : Nat) : Bool :=
  let data := b.length - 4 - 12 - t.len - 16
  !bitOf (byteAt b 14) 7 && !(t.sc && (t.es || t.scb)) && !(t.e && !t.c) && t.sl < 48
    && (if t.sl = 0 then 48 ≤ data else t.sl ≤ data) && (2 ≤ suite || t.pn != 0) && 12 + t.len + 16 + 4 ≤ b.length

/-- The receive channel whose SCI matches (R200). -/
def State.rxChannel (s : State) (n : Nat) (sci : Bytes) : Option Nat :=
  (List.range 32).find? fun k =>
    s.on (msB n) (F.macsec_RX_SC_CTL_VALID.at (0x40 * k))
      && beBytes 4 (s.gf (msB n) (F.macsec_RX_SCI_HI_SCI.at (0x40 * k)))
          ++ beBytes 4 (s.gf (msB n) (F.macsec_RX_SCI_LO_SCI.at (0x40 * k))) == sci

/-- The packet number that 32 received bits stand for, beside the lowest acceptable one (XPN suites). -/
def recoverPn (suite low rx : Nat) : Nat :=
  if suite < 2 then rx
  else
    let hi := low / 2 ^ 32
    if low % 2 ^ 32 ≤ rx then hi * 2 ^ 32 + rx
    else if bitOf low 31 && !bitOf rx 31 then (hi + 1) * 2 ^ 32 + rx
    else hi * 2 ^ 32 + rx

/-- A received frame with SecTAG and ICV removed, decrypted where `off` says from where, with its new FCS; and whether
the ICV is right. -/
def unprotect (k iv : Bytes) (b : Bytes) (tagLen : Nat) (off : Option Nat) (sl : Nat) : Bytes × Bool :=
  let addr := b.take 12
  let tag := slice b 12 tagLen
  let rest := withoutFcs (b.drop (12 + tagLen))
  let text := if sl = 0 then rest.take (rest.length - 16) else rest.take sl
  let icv := slice rest text.length 16
  let o := off.getD text.length
  let clear := text.take o
  let plain := gcmCrypt k iv (text.drop o)
  let body := addr ++ clear ++ plain
  (body ++ ethFcs body, icv == gcmTag k iv (addr ++ tag ++ clear) (text.drop o))

/-- The packet-number counters and LOWEST_PN after validation; `late` is the outcome counter of a frame below
LOWEST_PN. -/
def State.rxAccepted (s : State) (n k a pn low : Nat) : State :=
  let d := 0x40 * k + 0xC * a
  let win := s.gf (msB n) F.macsec_REPLAY_WIN_WINDOW
  let s1 := s.incW (msB n) (if pn < low then F.macsec_IN_DELAYED_COUNT else F.macsec_IN_OK_COUNT)
  s1.p64 (msB n) (F.macsec_RX_LOWEST_PN_LO_PN.at d) (F.macsec_RX_LOWEST_PN_HI_PN.at d) (max low (pn + 1 - win))

/-- The validation of a tagged frame whose channel k and SA a are in use. -/
def State.rxValidate (s : State) (n k : Nat) (t : SecTag) (b : Bytes) : RxSec :=
  let m := msB n
  let d := 0x40 * k + 0xC * t.an
  let suite := s.gf m F.macsec_SECY_CTL_SUITE
  let low := s.g64 m (F.macsec_RX_LOWEST_PN_LO_PN.at d) (F.macsec_RX_LOWEST_PN_HI_PN.at d)
  let pn := recoverPn suite low t.pn
  let mode := s.gf m F.macsec_SECY_CTL_VALIDATE
  if s.gf cgB F.ciphGlobal_LEN_LIM_BYTES < b.length then .drop s.lenError
  else if s.on m F.macsec_SECY_CTL_REPLAY_PROTECT && decide (pn < low) then .drop (s.incW m F.macsec_IN_LATE_COUNT)
  else
    match s.secKey (s.gf m (F.macsec_RX_SA_KEY_SLOT.at d)) suite with
    | none => .drop s.noKey
    | some (key, aux) =>
      let off := if t.e then some (s.confOffset n) else none
      let r := unprotect key (secIv suite aux t.sci pn) b t.len off t.sl
      let s1 := s.countBlocks (s.pipelineOf n false) (r.1.length - 16 - off.getD (r.1.length - 16))
      if mode = 0 then .pass r.1 (s1.incW m F.macsec_IN_UNCHECKED_COUNT)
      else if r.2 then .pass r.1 (s1.rxAccepted n k t.an pn low)
      else if mode = 2 || t.c then .drop (s1.incW m F.macsec_IN_NOT_VALID_COUNT)
      else .pass r.1 (s1.incW m F.macsec_IN_INVALID_COUNT)

/-- A frame passed without validation: SecTAG and ICV removed. -/
def stripSec (b : Bytes) (t : SecTag) : Bytes :=
  let rest := withoutFcs (b.drop (12 + t.len))
  let body := b.take 12 ++ (if t.sl = 0 then rest.take (rest.length - 16) else rest.take t.sl)
  body ++ ethFcs body

/-- Verification of a GOOD frame on port n (R200, R382, R383, R391). -/
def State.rxVerify (s : State) (n : Nat) (b : Bytes) : RxSec :=
  let m := msB n
  let rxEn := s.on m F.macsec_SECY_CTL_RX_EN
  if (rxEn || s.on m F.macsec_SECY_CTL_TX_EN) && !s.run .ciphGlobal 0 then .drop s.noCipher
  else if !rxEn then .pass b s
  else
    let strict := s.gf m F.macsec_SECY_CTL_VALIDATE == 2
    let count (f : Fld) : State := s.incW m f
    if beAt b 12 2 ≠ 0x88E5 then
      if beAt b 12 2 = 0x888E then .pass b s
      else if strict then .drop (count F.macsec_IN_NO_TAG_COUNT)
      else .pass b (count F.macsec_IN_UNTAGGED_COUNT)
    else
      let t := readSecTag b
      if !t.ok b (s.gf m F.macsec_SECY_CTL_SUITE) then .drop (count F.macsec_IN_BAD_TAG_COUNT)
      else
        match s.rxChannel n t.sci with
        | none =>
          if strict || t.c then .drop (count F.macsec_IN_NO_SCI_COUNT)
          else .pass (stripSec b t) (count F.macsec_IN_UNKNOWN_SCI_COUNT)
        | some k =>
          if s.on m (F.macsec_RX_SA_IN_USE.at (0x40 * k + 0xC * t.an)) then s.rxValidate n k t b
          else if strict || t.c then .drop (count F.macsec_IN_NOT_USING_SA_COUNT)
          else .pass (stripSec b t) (count F.macsec_IN_UNUSED_SA_COUNT)

end Sys2Proof.Machine
end

