-- ==== Sys2Proof/Machine/Egress.lean ====
section
/-! DEFINITION. Transmission selection on the E ports (R117 to R121), the tag edits, MACsec and stamps of a transmitted
frame (R188 to R193, R197 to R199), cut-through's ends (R125, R126), and the egress pages' flushes (R136 to R138). -/

namespace Sys2Proof.Machine

/-! ### Gate lists (R119, R120) -/

/-- The entries of a gate list that run inside a cycle, as start, end and gate states; the last one holds to the
cycle's end. -/
def GateList.spans (l : GateList) : List (Nat × Nat × Nat) :=
  let go := (l.entries.take l.len).foldl (fun (a : Nat × List (Nat × Nat × Nat)) e =>
    (a.1 + e.2, a.2 ++ [(a.1, a.1 + e.2, e.1)])) ((0, []) : Nat × List (Nat × Nat × Nat))
  let inside := go.2.filter fun x => x.1 < l.cycle
  inside.zipIdx.map fun (x, k) => (x.1, if k + 1 = inside.length then l.cycle else x.2.1, x.2.2)

/-- Place of time t in the cycle of a list that runs from `base`. -/
def GateList.phase (l : GateList) (t : Nat) : Nat := ((t : Int) - (l.base : Int)).emod (l.cycle : Int) |>.toNat

/-- Gate states and entry in force at time t. -/
def GateList.stateAt (l : GateList) (t : Nat) : Nat × Nat :=
  match l.spans.zipIdx.find? (fun x => l.phase t < x.1.2.1) with
  | some (x, k) => (x.2.2, k)
  | none => (0xFF, 0)

/-- The first time from t on at which class c is closed; none where it is open in every entry. -/
def GateList.closeAfter (l : GateList) (c t : Nat) : Option Nat :=
  let p := l.phase t
  let shut := l.spans.filter fun x => !bitOf x.2.2 c
  let waits := shut.map fun x => if x.1 ≤ p ∧ p < x.2.1 then 0 else if p < x.1 then x.1 - p else l.cycle - p + x.1
  (waits.min?).map (t + ·)

/-- The start of the operational cycle in progress at time t. -/
def GateList.cycleStart (l : GateList) (t : Nat) : Nat := t - l.phase t

/-- The time from which the cycle before the pending change is extended, where it is (R120). -/
def Egress.extendFrom (e : Egress) : Option Nat :=
  match e.oper, e.pend with
  | some o, some q =>
    let s := o.cycleStart e.changeAt
    if e.changeAt - s < q.ext ∧ s < e.changeAt then some s else none
  | _, _ => none

/-- Gate states and entry of port p at TIME_NS t, with GATE_EN = 1. -/
def Egress.gatesAt (e : Egress) (t : Nat) : Nat × Nat :=
  match e.oper with
  | none => (0xFF, 0)
  | some o =>
    match e.extendFrom with
    | some s => if s ≤ t ∧ t < e.changeAt then o.stateAt (s - 1) else o.stateAt t
    | none => o.stateAt t

/-- The first time from t on at which the gate of class c is closed, by the states that will be in force (R117). -/
def Egress.closeTime (e : Egress) (c t : Nat) : Option Nat :=
  let first := match e.oper with
    | none => none
    | some o => o.closeAfter c t
  match e.pend with
  | none => first
  | some q =>
    let from_ := max t e.changeAt
    let after := { q with base := e.changeAt }.closeAfter c from_
    let limit := e.extendFrom.getD e.changeAt
    let stop (x : Option Nat) : Option Nat := x.filter fun v => v < limit
    match stop first with
    | some v => some v
    | none =>
      match e.extendFrom with
      | none => after
      | some s => if bitOf (e.gatesAt (max t s)).1 c ∨ e.changeAt ≤ t then after else some (max t s)

/-- GATES and ENTRY follow TIME_NS; the credits are settled first (R119). -/
def State.showGates (s : State) (p : Nat) : State :=
  let s0 := s.creditRun p s.ps
  let b := egBase p
  let g := (s0.eg p).gatesAt s0.now
  (s0.pf b F.hostEgress_GATE_STS_GATES (if s0.on b F.hostEgress_GATE_CTL_GATE_EN then g.1 else 0xFF)).pf
    b F.hostEgress_GATE_STS_ENTRY g.2

/-- The pending set becomes operational (R120). -/
def State.gateApply (s : State) (p : Nat) : State :=
  let e := s.eg p
  let b := egBase p
  match e.pend with
  | none => s
  | some q =>
    let l : GateList := { q with base := e.changeAt }
    let s1 := s.setEg p { e with oper := some l, pend := none }
    let s2 := (List.range 256).foldl (fun a k =>
      let x := l.entries.getD k (0, 0)
      a.pf b (F.hostEgress_OPER_LIST_ENTRY.at (4 * k)) (x.1 * 2 ^ 24 + x.2)) s1
    let s3 := (s2.pf b F.hostEgress_OPER_CYCLE_NS l.cycle).pf b F.hostEgress_GATE_STS_OPER 1
    ((s3.pf b F.hostEgress_GATE_STS_PEND 0).raise 459 p).showGates p

/-- GATE_ENTRY_CHANGE: the gate states of TIME_NS take effect on port p (R119). -/
def execGateEntryChange (p : Nat) (s : State) : Answer := .next (if p < 16 then s.showGates p else s)

/-- GATE_CONFIG_APPLY: the change time of port p has come (R120). -/
def execGateConfigApply (p : Nat) (s : State) : Answer :=
  if p < 16 ∧ (s.eg p).pend.isSome ∧ (s.eg p).changeAt ≤ s.now then .next (s.gateApply p) else .next s

/-- CONFIG_CHANGE: the administrative values become the pending set (R120). -/
def State.configChange (s : State) (p : Nat) : State :=
  let b := egBase p
  let f (x : Fld) : Nat := s.gf b x
  let entries := (List.range 256).map fun k =>
    (f (F.hostEgress_ADMIN_LIST_GATES.at (4 * k)), f (F.hostEgress_ADMIN_LIST_INTERVAL.at (4 * k)))
  let base := s.g64 b F.hostEgress_ADMIN_BASE_LO_NS F.hostEgress_ADMIN_BASE_HI_NS
  let cyc := f F.hostEgress_ADMIN_CYCLE_NS
  let at_ := if s.now ≤ base then base else base + (s.now - base + cyc - 1) / cyc * cyc
  (s.setEg p { s.eg p with
    pend := some ⟨entries, f F.hostEgress_GATE_CTL_ADMIN_LEN, base, cyc, f F.hostEgress_ADMIN_EXT_NS⟩, changeAt := at_ }).pf b F.hostEgress_GATE_STS_PEND 1

/-- The running lists after a step of TIME_NS (R121). -/
def State.gateStep (s : State) (p : Nat) : State :=
  let b := egBase p
  let s1 := if s.on b F.hostEgress_GATE_CTL_GATE_EN && s.on b F.hostEgress_GATE_STS_OPER
    then s.inc b F.hostEgress_GATE_CNT_STEP else s
  if (s1.eg p).pend.isSome ∧ (s1.eg p).changeAt ≤ s1.now then s1.gateApply p
  else if (s1.eg p).oper.isSome then s1.showGates p
  else s1

/-- What a write of an egress page register starts: CONFIG_CHANGE, the gates' enable, and settled credits where the
shaper's registers change (R118 to R120). -/
def State.egTrigger (p o : Nat) (w : Word) (old s : State) : State :=
  let s1 := if p < 16 then s.keepCredit p old else s
  if p < 16 ∧ o = 0x100 then
    (if bitOf w.toNat 1 then s1.configChange p else s1).showGates p
  else s1

def execConfigChange (p : Nat) (w : Word) (s : State) : Answer :=
  if p < 16 then .next (s.hostWrite (egBase p + 0x100) w (State.egTrigger p 0x100 w s)) else .next s

/-! ### The transmitted frame (R188 to R193, R197, R198) -/

/-- The first EtherType of a frame makes its tag an outer tag (R193). -/
def State.outerTag (s : State) (b : Bytes) : Bool :=
  let t := beAt b 12 2
  decide (16 ≤ b.length) && (t == 0x8100 || t == 0x88A8 || t == s.gf shB F.pipeShared_TPID_ALT_TPID)

/-- The tag edit of Table 6-3 for a frame at En. -/
def State.txEdit (s : State) (n : Nat) (f : EgFrame) : TxEdit :=
  let v := f.info.ctx % 4096
  if v = 0 then ⟨false, none, []⟩
  else
    let outer := s.outerTag f.bytes
    let b := pageBase .emac n
    if (s.port n).mode = 5 then ⟨false, none, []⟩ else
    if bitOf (s.vlanAt v).untag n then ⟨outer, none, []⟩
    else if outer && !s.on b F.emac_TAG_CTL_PUSH then ⟨false, some v, []⟩
    else
      let tpid := match s.gf b F.emac_TAG_CTL_TPID_SEL with
        | 0 => 0x8100
        | 1 => 0x88A8
        | _ => s.gf shB F.pipeShared_TPID_ALT_TPID
      let pcp := bitsOf (s.gf b F.emac_TX_PCP_MAP_MAP) (3 * f.info.tc + 2) (3 * f.info.tc)
      ⟨false, none, beBytes 2 tpid ++ beBytes 2 (pcp * 0x2000 + v)⟩

/-- The text of a frame as it will leave, without FCS and before protection, padded where it is whole. -/
def TxEdit.body (e : TxEdit) (f : EgFrame) : Bytes :=
  if f.whole then
    let b := e.apply (withoutFcs f.bytes)
    b ++ List.replicate (60 - b.length) 0
  else e.apply f.bytes

/-- EV129 + 4n follows the transmit stamp FIFO; TS_LEVEL.LEVEL too. -/
def State.setStamps (s : State) (n : Nat) (l : List StampRec) : State :=
  ((s.setPort n { s.port n with stamps := l }).pf (pageBase .emac n) F.emac_TS_LEVEL_LEVEL l.length).level
    (129 + 4 * n) (l != []) 0

/-- Where the EtherType after the tags of a frame stands, from offset o on. -/
def tagsEnd (alt : Nat) (b : Bytes) : Nat → Nat → Nat
  | 0, o => o
  | fuel + 1, o =>
    let t := beAt b o 2
    if t = 0x8100 ∨ t = 0x88A8 ∨ t = alt then tagsEnd alt b fuel (o + 4) else o

/-- The offset of the EtherType after a frame's tags, for stamps: VLAN tags of any kind, however many, then the R-TAG.
-/
def State.afterTags (s : State) (b : Bytes) : Nat :=
  let o := tagsEnd (s.gf shB F.pipeShared_TPID_ALT_TPID) b b.length 12
  if beAt b o 2 = 0xF1C1 then o + 6 else o

/-- The stamp record of a PTP event message (R198); none for any other frame. -/
def State.ptpRecord (s : State) (b : Bytes) (stamp : Nat) : Option StampRec :=
  let o := s.afterTags b
  if beAt b o 2 = 0x88F7 ∧ byteAt b (o + 2) % 16 ≤ 3 then
    some ⟨0x80000000 + byteAt b (o + 2) % 16 * 2 ^ 24 + byteAt b (o + 6) * 2 ^ 16 + beAt b (o + 32) 2, stamp % 2 ^ 32⟩
  else none

/-- A stamp record enters the FIFO of En, or is discarded and counted (R198). -/
def State.pushStamp (s : State) (n : Nat) (r : StampRec) : State :=
  let l := (s.port n).stamps
  if l.length < 16 then s.setStamps n (l ++ [r]) else s.inc (pageBase .emac n) F.emac_TS_LEVEL_LOST

/-- The frame in transmission on En has left: it is put out, counted and its cells are freed. -/
def State.finishSending (s : State) (n : Nat) : State :=
  let e := s.eg n
  match e.sending with
  | none => s
  | some x =>
    let b := pageBase .emac n
    let (wire, bad, pad) := x.wireWhole
    let s1 := (s.creditRun n (max s.ps e.busyTo))
    let s0 := (s1.setEg n { s1.eg n with sending := none }).bufFree n x.frame.cells
    if (s.port n).mode = 5 then s0.jlSend n 1 0 x.frame.bytes 16 else
    let s2 := s0.emit (.ethTx n wire x.stamp)
    let s3 := (s2.incW b F.emac_TX_GOOD_COUNT).perf 0x011 n 1
    let s4 := s3.p64 b F.emac_TX_OCTETS_LO_COUNT F.emac_TX_OCTETS_HI_COUNT
      ((s3.g64 b F.emac_TX_OCTETS_LO_COUNT F.emac_TX_OCTETS_HI_COUNT + wire.length) % 2 ^ 64)
    let s5 := if pad then s4.inc b F.emac_TX_PAD_COUNT else s4
    if bad then s5.inc b F.emac_TX_BAD_FCS_COUNT else s5

/-- The stamp of a frame on En whose transmission starts at time t (R197); a Jalden lane has no TX_LAT (R181). -/
def State.txStamp (s : State) (n t : Nat) : Nat :=
  s.stampAt (t - s.ps + 64 * 10 ^ 9 / s.rate n)
    + (if (s.port n).mode = 5 then 0 else s.gf (pageBase .emac n) F.emac_TS_LAT_TX_LAT)

/-! ### Selection (R117, R125, R187, R191, R192) -/

/-- The first frame of class queue c. -/
def Egress.headOf (e : Egress) (c : Nat) : Option EgFrame := e.queue.find? fun f => f.info.tc == c

/-- The length that the length check takes for a frame. -/
def State.checkLen (s : State) (n : Nat) (f : EgFrame) : Nat :=
  if f.info.cut then s.maxLen n
  else
    let body := (s.txEdit n f).body f
    let m := msB n
    let sec := (s.port n).mode != 5 && s.on m F.macsec_SECY_CTL_TX_EN && s.on m F.macsec_SECY_CTL_PROTECT_FRAMES && beAt body 12 2 != 0x888E
    body.length + 4 + (if sec then (if s.on m F.macsec_SECY_CTL_INCLUDE_SCI then 32 else 24) else 0)

/-- What R117 says of class c at time t: 2 selectable, 1 held back by the length check alone, 0 neither. -/
def State.classReady (s : State) (n t c : Nat) : Nat :=
  let e := s.eg n
  let b := egBase n
  match e.headOf c with
  | none => 0
  | some f =>
    let shaped := bitOf (s.gf b F.hostEgress_CBS_EN_MASK) c
    let idle := s.gf b (F.hostEgress_IDLE_SLOPE_KBPS.at (4 * c))
    let credit := !shaped || decide (s.rate n ≤ idle) || decide (0 ≤ e.credit.getD c 0)
    let lead := f.whole || decide (s.gf b F.hostEgress_EG_CTL_CT_LEAD ≤ f.cells)
    let lane := (s.port n).mode != 5 || !s.jlUp n || s.jlDataOk n f.bytes.length
    if bitOf (s.gf b F.hostEgress_GATE_STS_GATES) c && credit && lead && lane then
      let now := s.now + (t - s.ps) / 1000
      let fits := match e.closeTime c now with
        | none => true
        | some v => decide (s.wireTime n (s.checkLen n f) ≤ (v - now) * 1000)
      if s.on b F.hostEgress_EG_CTL_LEN_AWARE && s.on b F.hostEgress_GATE_CTL_GATE_EN && !fits then 1 else 2
    else 0

/-- Starts the selected frame at time t, or drops it; answers whether a frame has started. -/
def State.startFrame (s : State) (n t : Nat) (f : EgFrame) : State × Bool :=
  let b := pageBase .emac n
  let e := s.eg n
  let out := (s.setEg n { e with queue := e.queue.erase f }).eqLess n f.info.tc f.cells
  let gone := out.bufFree n f.cells
  let edit := s.txEdit n f
  let body := edit.body f
  let len := if f.whole then (edit.apply f.bytes).length else body.length
  if !s.on b F.emac_LINK_STS_LINK then (gone.egDrop n f.info.tc, false)
  else if s.txLimit n edit < len then (gone.inc b F.emac_TX_OVERSIZE_COUNT, false)
  else
    let go (st : State) (p : Option Prot) : State × Bool :=
      let stamp := st.txStamp n t
      let x : Sending := ⟨f, edit, p, stamp % 2 ^ 32, t⟩
      let bytes := if f.whole then x.wireWhole.1.length else st.maxLen n + 4
      let s1 := st.setEg n { st.eg n with sending := some x, busyTo := t + st.wireTime n bytes }
      let s2 := if st.on b F.emac_TS_CTL_STAMP_EN ∧ (st.port n).mode ≠ 5 then
          match st.ptpRecord body (stamp % 2 ^ 32) with
          | some r => s1.pushStamp n r
          | none => s1
        else s1
      (if f.info.fixed ∧ f.info.src = 22 ∧ s2.run .timeGptp 0 then s2.ptpSent n body stamp else s2, true)
    if (s.port n).mode = 5 then go out none else
    match out.txSecure n body f.whole with
    | .clear st => go st none
    | .prot q st => go st (some q)
    | .drop st => (st.bufFree n f.cells, false)

/-- One selection attempt and the frames it drops: each selected frame that is dropped makes place for another, and the
selection that follows is an attempt of its own for HOLD (DESIGN CHOICE, log entry 129). -/
def State.attempt (s : State) (n t : Nat) : Nat → State
  | 0 => s
  | fuel + 1 =>
    let ready := ([7, 6, 5, 4, 3, 2, 1, 0] : List Nat).map fun c => (c, s.classReady n t c)
    let sel := ready.find? fun x => x.2 == 2
    let held := (ready.takeWhile fun x => x.2 != 2).any fun x => x.2 == 1
    let s1 := if held then s.inc (egBase n) F.hostEgress_GATE_CNT_HOLD else s
    match sel with
    | none => s1
    | some (c, _) =>
      match (s1.eg n).headOf c with
      | none => s1
      | some f =>
        let r := s1.startFrame n t f
        if r.2 then r.1 else r.1.attempt n t fuel

/-- Whether the scheduler of En may select (R138, R187, R195). -/
def State.mayTransmit (s : State) (n : Nat) : Bool :=
  s.run .emac n && s.alive .hostEgress n && !(s.eg n).waking
    && (s.pst .hostEgress n == .run || s.pst .hostEgress n == .quiescing)

/-- The frame in transmission on output p is ended as R126 gives, and counted as its step 3 does for R136 and R387. -/
def State.cutShort (s : State) (p : Nat) : State :=
  match (s.eg p).sending with
  | none => s
  | some x =>
    let s1 := s.endSending p
    if x.frame.info.cut then s1.inc (egBase p) F.hostEgress_CT_END_BAD else s1.egDrop p x.frame.info.tc

/-- An uncorrectable word in the egress buffer of output p hits a frame (R136): one that has started is ended, one that
waits is dropped; `f` is the waiting frame. -/
def State.eccUncorr (s : State) (p : Nat) (f : Option EgFrame) : State :=
  let s1 := (s.inc (pageBase .hostGlobal 0) F.hostGlobal_ECC_UNCORR_COUNT).raise 457 p
  match f with
  | some g => (s1.unqueue p g).egDrop p g.info.tc
  | none => s1.cutShort p

/-- E_TX_SELECT: a frame boundary of En. `ecc`: 0 none, 1 a corrected word of the egress buffer, 2 an uncorrectable
word in the frame that would be selected next, 3 one in the frame in transmission (R136). -/
def execETxSelect (n ecc : Nat) (s : State) : Answer :=
  if 16 ≤ n ∨ !s.alive .hostEgress n then .next s
  else
    let s0 := if ecc = 1 then s.inc (pageBase .hostGlobal 0) F.hostGlobal_ECC_CORR_COUNT
      else if ecc = 3 then s.eccUncorr n none
      else s
    let e := s0.eg n
    let whole := match e.sending with
      | some x => x.frame.whole
      | none => true
    if !whole then .next s0
    else
      let t := if e.sending.isSome then max s0.ps e.busyTo else s0.ps
      let s1 := (s0.finishSending n).creditRun n t
      if s1.mayTransmit n then
        let s2 := if ecc = 2 then
            match ([7, 6, 5, 4, 3, 2, 1, 0] : List Nat).find? (fun c => s1.classReady n t c == 2) with
            | some c => s1.eccUncorr n ((s1.eg n).headOf c)
            | none => s1
          else s1
        .next (s2.attempt n t ((s2.eg n).queue.length + 1))
      else .next s1

/-- CT_UNDERRUN: En needs a byte of a cut-through frame that has not arrived (R126). -/
def execCtUnderrun (n : Nat) (s : State) : Answer :=
  match (s.eg n).sending with
  | none => .next s
  | some x =>
    if n < 16 ∧ !x.frame.whole then .next ((s.endSending n).inc (egBase n) F.hostEgress_CT_END_UNDERRUN) else .next s

/-! ### Flushes (R137, R138) -/

/-- EGRESS_QUIESCE_TIMEOUT: queued frames left after 100 ms of QUIESCING are dropped (R138). -/
def execEgressQuiesceTimeout (p : Nat) (s : State) : Answer :=
  if s.alive .hostEgress p && s.pst .hostEgress p == .quiescing then .next (s.flushOutput p) else .next s

/-- Whether an agent of the page still works: it is alive, in RUN or QUIESCING. -/
def State.works (s : State) (k : PageKind) (i : Nat) : Bool :=
  s.alive k i && (s.pst k i == .run || s.pst k i == .quiescing)

/-- The next frame of an output without a shaper, by strict priority of its classes (R122). -/
def Egress.firstHead (e : Egress) : Option EgFrame :=
  ([7, 6, 5, 4, 3, 2, 1, 0] : List Nat).findSome? e.headOf

/-- The next whole frame of output p (20 to 23) leaves the fabric, by strict priority of its classes (R122); none where
there is none or a memory error takes it. `ecc`: 0 no memory error, 1 a corrected word, 2 an uncorrectable one (R136).
-/
def State.takeOutput (s : State) (p ecc : Nat) : State × Option EgFrame :=
  match (s.eg p).firstHead.filter (·.whole) with
  | none => (s, none)
  | some f =>
    if !s.works .hostEgress p then (s, none)
    else if ecc = 2 then (s.eccUncorr p (some f), none)
    else
      let s1 := if ecc = 1 then s.inc (pageBase .hostGlobal 0) F.hostGlobal_ECC_CORR_COUNT else s
      (s1.unqueue p f, some f)

/-- Whether a cell of flight f lies in the buffer of its output: its frame's cells, or cells of a group held out of
order. -/
def State.inBuffer (s : State) (f : Flight) : Bool :=
  f.handed || f.cells != [] || s.fab.groups.any fun g => g.out == f.out && (g.cells.drop g.done).any fun x =>
    match x with
    | .got c => c.info.src == f.src && c.info.tag == f.tag
    | _ => false

/-- The cells that groups of output p hold out of order are discarded with their frames (R138). -/
def State.dropHeld (s : State) (p : Nat) : State :=
  let got (x : CellState) : Option FabCell := match x with
    | .got c => some c
    | _ => none
  let mine := s.fab.groups.filter fun g => g.out == p
  let held := mine.flatMap fun g => (g.cells.drop g.done).filterMap got
  let pass (x : CellState) : CellState := match x with
    | .got c => .lost c
    | y => y
  let s1 : State := { s with fab := { s.fab with groups := s.fab.groups.map fun (g : Group) =>
    if g.out = p then { g with cells := g.cells.take g.done ++ (g.cells.drop g.done).map pass } else g } }
  held.foldl (fun (a : State) c =>
    match a.flightOf p c.info with
    | none => a.bufFree p 1
    | some f => (a.bufFree p 1).stepFlight f { f with left := f.left - 1 }) s1

/-- What an SRST of the egress page of output p discards: the frames that have a cell in the buffer (R138). A frame
admitted for p of which no cell has come goes on. A frame being written into a host queue is ended there beforehand. -/
def State.egressSrst (s : State) (p : Nat) : State :=
  let s1 := s.flushOutput p
  let s2 := match (s1.eg p).sending with
    | some x => if p < 16 then (s1.endSending p).egDrop p x.frame.info.tc else s1
    | none => s1
  let mine := s2.fab.flights.filter fun f => f.out == p && !f.gone && s2.inBuffer f
  let s3 := mine.foldl (fun a f =>
    let a1 := (a.bufFree p f.cells.length)
    if f.handed then a1 else a1.egDrop p f.tc) s2
  let end_ (f : Flight) : Flight := if mine.any (· == f) then { f with gone := true, cells := [] } else f
  let s4 : State := { s3 with fab := { s3.fab with flights := s3.fab.flights.map end_ } }
  let s5 := s4.dropHeld p
  let s6 := s5.setEg p { s5.eg p with credit := List.replicate 8 0, creditAt := s5.ps }
  (List.range 8).foldl (fun a c => if p < 16 then a.pf (egBase p) (F.hostEgress_CREDIT_BITS.at (4 * c)) 0 else a) s6

end Sys2Proof.Machine
end

