-- ==== Sys2Proof/Machine/HostQueue.lean ====
section
/-! DEFINITION. The host DMA queues Q0 to Q63 (R127 to R135) and the flushes of pointer errors (R137). Host memory
lies outside: what the device reads from it comes with the command, what it writes is put out. -/

namespace Sys2Proof.Machine

/-- Base of the HOST global page. -/
def hgB : Nat := pageBase .hostGlobal 0

/-- EV461 is the live state of "an H port link is down"; its detail byte is the lowest port that is down (R139; log
entry 99). -/
def State.hostLinks (s : State) : State :=
  let h0 := !s.on hgB F.hostGlobal_LINK_H0_UP
  s.level 461 (h0 || (s.grade.hPorts == 2 && !s.on hgB F.hostGlobal_LINK_H1_UP)) (b2n (!h0))

/-- A queue with nothing latched. -/
def HostQueue.new : HostQueue := ⟨0, 0, 0, 0⟩

/-- Host queue Qn. -/
def State.hq (s : State) (n : Nat) : HostQueue := look (fun _ => HostQueue.new) s.hostQ n

/-- Replaces host queue Qn. -/
def State.setHq (s : State) (n : Nat) (q : HostQueue) : State :=
  { s with hostQ := put (fun _ => HostQueue.new) s.hostQ n q }

/-- A field of queue Qn. -/
def State.qf (s : State) (n : Nat) (f : Fld) : Nat := s.gf (qB n) f

/-- Latched Q_CFG fields. -/
def HostQueue.tx (q : HostQueue) : Bool := bitOf q.cfg 0
def HostQueue.fifo (q : HostQueue) : Bool := bitOf q.cfg 1
def HostQueue.hport (q : HostQueue) : Nat := bitsOf q.cfg 2 2
def HostQueue.fpSel (q : HostQueue) : Nat := bitsOf q.cfg 3 3
def HostQueue.keepBad (q : HostQueue) : Bool := bitOf q.cfg 4
def HostQueue.vector (q : HostQueue) : Nat := bitsOf q.cfg 13 8
def HostQueue.size (q : HostQueue) : Nat := 2 ^ bitsOf q.cfg 20 16

/-- Whether queue Qn takes new frames: RUN = 1, not stopped, its page in RUN. A frame for a queue that is stopped, or
whose page is QUIESCING or HELD, is dropped into MISROUTE as with RUN = 0 (DESIGN CHOICE: R133 names no other count, log
entry 30). -/
def State.queueRuns (s : State) (n : Nat) : Bool :=
  s.on (qB n) F.hostQueue_Q_CTL_RUN && !s.on (qB n) F.hostQueue_STS_STOPPED && s.run .hostQueue (n / 16)

/-- Whether queue Qn still serves what it has begun: as `queueRuns`, also in QUIESCING (R138). -/
def State.queueServes (s : State) (n : Nat) : Bool :=
  s.on (qB n) F.hostQueue_Q_CTL_RUN && !s.on (qB n) F.hostQueue_STS_STOPPED && s.works .hostQueue (n / 16)

/-- Whether some output is writing a frame into queue Qn. -/
def State.queueBusy (s : State) (n : Nat) : Bool :=
  ([16, 17, 18, 19] : List Nat).any fun p => (s.eg p).writing.any fun x => x.queue == n

/-! ### Starting and stopping (R128, R135) -/

/-- A queue stops under a reason. -/
def State.stopQueue (s : State) (n reason : Nat) : State :=
  (s.pf (qB n) F.hostQueue_STS_STOPPED 1).pf (qB n) F.hostQueue_STS_REASON reason

/-- What a write of a queue register starts: `o` is the register's offset from the queue's first. A start forgets the
frames that were published and not yet signalled, whose message is then never sent (R134 is silent; DESIGN CHOICE, log
entry 140). -/
def State.queueTrigger (n o : Nat) (w : Word) (old s : State) : State :=
  if o = 4 then
    let was := old.on (qB n) F.hostQueue_Q_CTL_RUN
    let is := bitOf w.toNat 0
    let s1 := if bitOf w.toNat 1 && !was then
        (s.pf (qB n) F.hostQueue_HEAD_INDEX 0).pf (qB n) F.hostQueue_TAIL_INDEX 0 else s
    if !was && is then
      let cfg := (s1.rd (qB n + 0x100)).toNat
      let base := s1.g64 (qB n) F.hostQueue_BASE_LO_ADDR F.hostQueue_BASE_HI_ADDR
      let s2 := s1.setHq n ⟨cfg, base, s1.qf n F.hostQueue_BUF_LEN_LEN, 0⟩
      ((s2.pf (qB n) F.hostQueue_HEAD_INDEX 0).pf (qB n) F.hostQueue_STS_STOPPED 0).pf (qB n) F.hostQueue_STS_REASON 0
    else if was && !is then s1.stopQueue n 1
    else s1
  else s

/-- A host write to a register of queue Qn. -/
def State.queueWrite (s : State) (n o : Nat) (w : Word) : State :=
  if n < 64 then s.hostWrite (qB n + 0x100 + o) w (State.queueTrigger n o w s) else s

def execQueueRunStart (n : Nat) (s : State) : Answer := .next (s.queueWrite n 4 1)

def execQueueRunStop (n : Nat) (s : State) : Answer := .next (s.queueWrite n 4 0)

def execQueueFlush (n : Nat) (s : State) : Answer := .next (s.queueWrite n 4 2)

def execQueueTailWrite (n : Nat) (w : Word) (s : State) : Answer := .next (s.queueWrite n 0x10 w)

/-- A DMA read of queue Qn that fails: the requests it has made count (R436), how many is open (log entry 29); the queue
stops (R135). -/
def State.dmaFail (s : State) (n reason : Nat) : State :=
  let q := s.hq n
  let at_ := q.base + 16 * s.qf n F.hostQueue_HEAD_INDEX
  if n < 64 ∧ s.queueServes n then
    ((s.perf 0x091 q.hport (1 + Config.extraReads at_ 16)).stopQueue n reason).raise 456 n
  else s

/-- DMA_COMPLETION_TIMEOUT: a DMA read of the queue times out (R135). -/
def execDmaCompletionTimeout (n : Nat) (s : State) : Answer := .next (s.dmaFail n 2)

/-- DMA_COMPLETION_ERROR: a DMA read of the queue completes unsuccessfully (R135). -/
def execDmaCompletionError (n : Nat) (s : State) : Answer := .next (s.dmaFail n 3)

/-- POINTER_FLUSH: a detected pointer error of host queue n, or of class queue `tc` of output n; `single` says that
one bit is wrong, which CODE corrects (R137). -/
def execPointerFlush (queue : Bool) (n tc : Nat) (single : Bool) (s : State) : Answer :=
  if single && !s.on hgB F.hostGlobal_PROT_MODE then .next (s.inc hgB F.hostGlobal_PTR_ERR_CORR)
  else
    let s1 := s.inc hgB F.hostGlobal_PTR_ERR_FLUSH
    if queue then .next (((s1.stopQueue (n % 64) 4).raise 456 (n % 64)).raise 458 (n % 64))
    else .next ((s1.flushClass (n % 24) (tc % 8)).raise 458 (0x40 + n % 24))

/-! ### Publication and messages (R130, R134) -/

/-- The queue's message, where it is due; `force` at the expiry of TIME_US. -/
def State.queueSignal (s : State) (n : Nat) (force : Bool) : State :=
  let q := s.hq n
  if q.unsignalled ≠ 0 ∧ (force ∨ s.qf n F.hostQueue_IRQ_FRAMES ≤ q.unsignalled ∨ s.qf n F.hostQueue_IRQ_TIME_US = 0) then
    (s.setHq n { q with unsignalled := 0 }).message q.hport q.vector
  else s

/-- HEAD moves on and is written back (R130). -/
def State.setHead (s : State) (n head : Nat) : State :=
  let s1 := s.pf (qB n) F.hostQueue_HEAD_INDEX head
  let wb := s1.g64 (qB n) F.hostQueue_WB_LO_ADDR F.hostQueue_WB_HI_ADDR
  if wb = 0 then s1 else s1.emit (.hostWrite (s1.hq n).hport wb (leBytes 4 head))

/-- A frame has been published in queue Qn. -/
def State.published (s : State) (n head : Nat) : State :=
  let s1 := ((s.setHead n head).incW (qB n) F.hostQueue_FRAMES_COUNT).perf 0x090 n 1
  (s1.setHq n { s1.hq n with unsignalled := (s1.hq n).unsignalled + 1 }).queueSignal n false

/-- QUEUE_IRQ_TIME_EXPIRY: TIME_US has passed since the oldest unsignalled frame (R134). -/
def execQueueIrqTimeExpiry (n : Nat) (s : State) : Answer := .next (s.queueSignal n true)

/-- Counts a drop for want of a buffer. -/
def State.noBuf (s : State) (n : Nat) : State := s.inc (qB n) F.hostQueue_DROPS_NOBUF

/-- The flags of Table 4-1 byte 14 for a delivered frame. -/
def rxFlags (i : FrameInfo) (bad trunc : Bool) : Nat :=
  natAnd i.flags 0x2E ||| (b2n bad + 16 * b2n i.cut + 32 * b2n trunc)

/-- The bytes of `data` from offset `start` on go to the posted buffers. Each buffer that begins takes the read of its
descriptor (R129, R436). -/
def State.ringData (s : State) (n start : Nat) (data posted : Bytes) : State :=
  let q := s.hq n
  let bufs (k : Nat) : Nat := (k + q.bufLen - 1) / q.bufLen
  let s1 := s.perf 0x091 q.hport (bufs data.length - bufs start)
  (List.range (bufs data.length)).foldl (fun a j =>
    let lo := max start (j * q.bufLen)
    let piece := slice data lo ((j + 1) * q.bufLen - lo)
    if piece = [] then a else a.emit (.hostWrite q.hport (leAt posted (16 * j) 8 + (lo - j * q.bufLen)) piece)) s1

/-- Descriptors that the host has made available in queue Qn (R129). -/
def State.ringFree (s : State) (n : Nat) : Nat :=
  let q := s.hq n
  (s.qf n F.hostQueue_TAIL_INDEX + q.size - s.qf n F.hostQueue_HEAD_INDEX % q.size) % q.size

/-- Ends a frame in RING format (R129, R130): what is left of its data, then its completions, then HEAD. `posted` holds
the descriptors from HEAD on as host memory has them; `start`: bytes already written. FRAME_LEN of a truncated frame is
the bytes written, and a cut-through frame that finds no descriptor at all counts in NOBUF (DESIGN CHOICE, log entry
129). -/
def State.ringPublish (s : State) (n : Nat) (i : FrameInfo) (data : Bytes) (bad : Bool) (posted : Bytes) (start : Nat) :
    State :=
  let q := s.hq n
  let head := s.qf n F.hostQueue_HEAD_INDEX
  let free := s.ringFree n
  let need := (data.length + q.bufLen - 1) / q.bufLen
  if free < need ∧ (!i.cut ∨ free = 0) then s.noBuf n
  else
    let k := min need free
    let cutOff := decide (free < need)
    let sent := data.take (k * q.bufLen)
    let desc (j : Nat) : Nat := q.base + 16 * ((head + j) % q.size)
    let s1 := s.ringData n start sent posted
    let completion (j : Nat) : Bytes :=
      leBytes 4 i.stamp ++ leBytes 4 0 ++ leBytes 2 (slice sent (j * q.bufLen) q.bufLen).length ++ leBytes 2 sent.length
        ++ leBytes 1 (i.tc * 32 + i.src) ++ leBytes 1 i.epoch
        ++ leBytes 1 (rxFlags i (bad || (cutOff && j + 1 == k)) (cutOff && j + 1 == k))
        ++ leBytes 1 (0x80 + 0x40 * b2n (j == 0) + 0x20 * b2n (j + 1 == k))
    let s2 := ((List.range (k - 1)).map (· + 1)).foldl (fun a j => a.emit (.hostWrite q.hport (desc j) (completion j))) s1
    (s2.emit (.hostWrite q.hport (desc 0) (completion 0))).published n ((head + k) % q.size)

/-- Where a record of `len` frame bytes would lie in the FIFO of queue Qn: its size, the pad before it, its offset; none
where it does not fit. The pad record's bytes count against the free space (DESIGN CHOICE, log entry 129). -/
def State.fifoPlace (s : State) (n len : Nat) : Option (Nat × Nat × Nat) :=
  let q := s.hq n
  let head := s.qf n F.hostQueue_HEAD_INDEX
  let used := (head + q.size - s.qf n F.hostQueue_TAIL_INDEX % q.size) % q.size
  let size := 16 + (len + 15) / 16 * 16
  let pad := if q.size < head + size then q.size - head else 0
  if q.size < 16 + used + pad + size then none else some (size, pad, if pad = 0 then head else 0)

/-- The pad record, where there is one. -/
def State.fifoPad (s : State) (n pad : Nat) : State :=
  let q := s.hq n
  if pad = 0 then s
  else s.emit (.hostWrite q.hport (q.base + s.qf n F.hostQueue_HEAD_INDEX) (leBytes 4 0 ++ leBytes 2 0xFFFF ++ List.replicate 10 0))

/-- Ends a frame in FIFO format (R131): the record beyond HEAD is committed, or rewound where the frame is bad. `start`
bytes of it are already written where its place is `place`. A record without room counts in NOBUF whether good or bad
(DESIGN CHOICE, log entry 129). -/
def State.fifoPublish (s : State) (n : Nat) (i : FrameInfo) (data : Bytes) (bad : Bool) (start place : Nat) : State :=
  let q := s.hq n
  match s.fifoPlace n data.length with
  | none => s.noBuf n
  | some (size, pad, at_) =>
    if bad && !q.keepBad then s.inc (qB n) F.hostQueue_DROPS_REWIND
    else
      let done := if place = at_ then start else 0
      let header := leBytes 4 i.stamp ++ leBytes 2 data.length ++ leBytes 1 (i.tc * 32 + i.src)
        ++ leBytes 1 (rxFlags i bad false) ++ leBytes 8 0
      let tail := data ++ List.replicate (size - 16 - data.length) 0
      let s1 := if done = 0 then (s.fifoPad n pad).emit (.hostWrite q.hport (q.base + at_) (header ++ tail))
        else (s.emit (.hostWrite q.hport (q.base + at_ + 16 + done) (tail.drop done))).emit
          (.hostWrite q.hport (q.base + at_) header)
      s1.published n ((at_ + size) % q.size)

/-! ### F16 to F19 (R122, R125, R130, R131, R133, R136, R138) -/

/-- The frame being written at output p leaves the buffer. -/
def State.rxGone (s : State) (p : Nat) (x : RxWrite) : State :=
  (s.setEg p { s.eg p with writing := none }).bufFree p x.frame.cells

/-- The next frame of output p starts into its host queue, or is dropped where that queue cannot take it; it waits while
another output writes into the same queue. -/
def State.rxBegin (s : State) (p : Nat) : State :=
  match (s.eg p).firstHead with
  | none => s
  | some f =>
    let n := s.rxQueueOf p f.info
    let q := s.hq n
    if q.tx || q.hport != (p - 16) / 2 || !s.queueRuns n || !s.run .hostGlobal 0 then
      (s.unqueue p f).inc hgB F.hostGlobal_MISROUTE_COUNT
    else if s.queueBusy n then s
    else
      let e := s.eg p
      (s.setEg p { e with queue := e.queue.erase f, writing := some ⟨f, n, 0, 0⟩ }).eqLess p f.info.tc f.cells

/-- What of a frame may be written so far: the FCS is never delivered (R132). -/
def EgFrame.known (f : EgFrame) : Bytes := withoutFcs f.bytes

/-- Writes what is there of the frame in writing at output p; ends it where it is whole, or has no more room. -/
def State.rxGo (s : State) (p : Nat) (posted : Bytes) : State :=
  match (s.eg p).writing with
  | none => s
  | some x =>
    let n := x.queue
    let q := s.hq n
    let i := x.frame.info
    let data := x.frame.known
    if !s.queueServes n then (s.rxGone p x).inc hgB F.hostGlobal_MISROUTE_COUNT
    else if q.fifo then
      if x.frame.whole then (s.rxGone p x).fifoPublish n i data x.frame.bad x.written x.place
      else
        match s.fifoPlace n data.length with
        | none => (s.rxGone p x).noBuf n
        | some (_, pad, at_) =>
          let done := if x.place = at_ then x.written else 0
          let s1 := if done = 0 then s.fifoPad n pad else s
          let s2 := if done < data.length then s1.emit (.hostWrite q.hport (q.base + at_ + 16 + done) (data.drop done)) else s1
          s2.setEg p { s2.eg p with writing := some { x with written := data.length, place := at_ } }
    else if x.frame.whole ∨ s.ringFree n * q.bufLen < data.length then
      (s.rxGone p x).ringPublish n i data x.frame.bad posted x.written
    else
      let s1 := s.ringData n x.written data posted
      s1.setEg p { s1.eg p with writing := some { x with written := data.length } }

/-- The frame in writing at output p has turned out bad: no more of it is written (R126, R136). -/
def State.rxSpoil (s : State) (p : Nat) : State :=
  let e := s.eg p
  match e.writing with
  | none => s
  | some x => s.setEg p { e with writing := some { x with frame := { x.frame with bad := true, whole := true } } }

/-- A frame being written at output p is ended as a bad frame with what has been written of it (R138). -/
def State.rxEnd (s : State) (p : Nat) : State :=
  let e := s.eg p
  match e.writing with
  | none => s
  | some x =>
    ((s.setEg p { e with writing := some { x with frame := { x.frame with
      bytes := x.frame.bytes.take (x.written + 4), whole := true, bad := true } } }).rxGo p [])

/-- SRST of the egress page of output p (R138). -/
def State.outputSrst (s : State) (p : Nat) : State := (s.rxEnd p).egressSrst p

/-- SRST of queue page i: frames being written into its queues are discarded (R49, log entry 28). -/
def State.queueSrst (s : State) (i : Nat) : State :=
  ([16, 17, 18, 19] : List Nat).foldl (fun (a : State) p =>
    match (a.eg p).writing with
    | some x => if x.queue / 16 = i then a.rxGone p x else a
    | none => a) s

/-- A frame that leaves the fabric at F23 enters again there (R16; log entry 60). -/
def State.recirculate (s : State) (ecc : Nat) : State :=
  let r := s.takeOutput 23 ecc
  match r.2 with
  | none => r.1
  | some f => r.1.rxEnter ⟨23, r.1.stamp, f.bytes, [], f.bad, 0, none, 0, none⟩

/-- HOST_RX_PUBLISH: output p, F16 to F19, writes on at the frame it has begun, or begins its next, TC7 first: a frame
forwarded by cut-through begins with its first cell and is published once it is whole (R122, R125, R130, R131, R133).
`posted`: the descriptors from the queue's HEAD on. `ecc`: 0 none, 1 a corrected word, 2 an uncorrectable word of the
frame that waits next, 3 of the frame that has begun (R136). At F23, whose frames no other row takes, the frame that
recirculates, with the memory error. -/
def execHostRxPublish (p ecc : Nat) (posted : Bytes) (s : State) : Answer :=
  if p = 23 then .next (s.recirculate ecc)
  else if p < 16 ∨ 20 ≤ p ∨ !s.works .hostEgress p then .next s
  else
    let s0 := if ecc = 1 then s.inc hgB F.hostGlobal_ECC_CORR_COUNT else s
    if ecc = 2 then
      match (s.eg p).firstHead with
      | some f => .next (s.eccUncorr p (some f))
      | none => .next s
    else
      let s1 := if (s0.eg p).writing.isNone then s0.rxBegin p else s0
      let s2 := if ecc = 3 ∧ (s1.eg p).writing.isSome then
        ((s1.rxSpoil p).inc hgB F.hostGlobal_ECC_UNCORR_COUNT).raise 457 p else s1
      .next (s2.rxGo p posted)

/-! ### Transmit queues (R129, R131, R132) -/

/-- Read requests for `len` bytes at `addr`: none crosses a 4 KiB boundary, and how many more there are is open (R127;
log entry 29). -/
def readRequests (addr len : Nat) : Nat :=
  if len = 0 then 0 else (addr + len - 1) / 4096 - addr / 4096 + 1 + Config.extraReads addr len

/-- A host frame of queue Qn enters: without FCS, padded to 60 bytes, FCS appended (R132). An uncorrectable word of the
DMA data stage drops it, counted as R136 gives at the fabric port it would have entered at (`ecc` as in HOST_RX_PUBLISH,
1 or 2; DESIGN CHOICE, log entry 129). Answers whether it was dropped. -/
def State.hostFrame (s0 : State) (n ecc : Nat) (data : Bytes) (tc dest : Nat) : State × Bool :=
  let s := if ecc = 1 then s0.inc hgB F.hostGlobal_ECC_CORR_COUNT else s0
  let q := s.hq n
  let src := 16 + 2 * q.hport + q.fpSel
  let body := data ++ List.replicate (60 - data.length) 0
  let bytes := body ++ ethFcs body
  if ecc = 2 then (((s.inc hgB F.hostGlobal_ECC_UNCORR_COUNT).raise 457 src).egDrop src tc, true)
  else if 9212 < data.length then (s.noBuf n, true)
  else if dest = 0 then (s.rxEnter ⟨src, s.stamp, bytes, [], false, 0, some tc, 0, none⟩, false)
  else if 24 < dest ∨ !s.grade.fPort (dest - 1) then (s.noBuf n, true)
  else
    let i : FrameInfo := ⟨src, true, 0, 2 ^ (dest - 1), tc, 0, 0, 0, s.fixedKey bytes, s.stamp, 0, false, 0, none, []⟩
    ({ s with fab := { s.fab with entering := s.fab.entering ++ [⟨i, bytes, false, 0⟩] } }, false)

/-- The descriptors of a frame: those up to the first with LAST, none where it is not among them. -/
def frameDescs : List (Bytes × Bytes) → Option (List (Bytes × Bytes))
  | [] => none
  | d :: l => if bitOf (byteAt d.1 15) 5 then some [d] else (frameDescs l).map (d :: ·)

/-- Takes one frame from a TX ring. -/
def State.ringFetch (s : State) (n ecc : Nat) (parts : List (Bytes × Bytes)) : State :=
  let q := s.hq n
  let head := s.qf n F.hostQueue_HEAD_INDEX
  match frameDescs (parts.take (s.ringFree n)) with
  | none => s
  | some ds =>
    let data := ds.flatMap fun d => d.2.take (leAt d.1 8 2)
    let first := (ds.head?.map (·.1)).getD []
    let reads := ds.foldl (fun a d => a + 1 + readRequests (leAt d.1 0 8) (leAt d.1 8 2)) 0
    let r := (s.perf 0x091 q.hport reads).hostFrame n ecc data (byteAt first 10 / 32) (byteAt first 11)
    let s2 := ds.zipIdx.foldl (fun (a : State) (x : (Bytes × Bytes) × Nat) =>
      let done := putBytes (putBytes x.1.1 14 (leBytes 1 (b2n r.2))) 15 (leBytes 1 (0x80 ||| byteAt x.1.1 15))
      a.emit (.hostWrite q.hport (q.base + 16 * ((head + x.2) % q.size)) done)) r.1
    s2.setHead n ((head + ds.length) % q.size)

/-- Takes one record from a TX FIFO; `header` is the record's header, `data` its frame bytes. -/
def State.fifoFetch (s : State) (n ecc : Nat) (header data : Bytes) : State :=
  let q := s.hq n
  let head := s.qf n F.hostQueue_HEAD_INDEX
  if head = s.qf n F.hostQueue_TAIL_INDEX then s
  else
    let len := leAt header 4 2
    let s1 := s.perf 0x091 q.hport (1 + (if len = 0xFFFF then 0 else readRequests (q.base + head + 16) len))
    if len = 0xFFFF then s1.setHead n 0
    else
      let r := s1.hostFrame n ecc (data.take len) (byteAt header 6 / 32) (byteAt header 7)
      r.1.setHead n ((head + 16 + (len + 15) / 16 * 16) % q.size)

/-- HOST_TX_FETCH: the device reads the next frame of TX queue Qn. `parts`: for a ring the descriptors from HEAD on,
each with the bytes of its buffer; for a FIFO the record's header and bytes. `ecc`: 1 a corrected, 2 an uncorrectable
word of the data stage (R136). -/
def execHostTxFetch (n ecc : Nat) (parts : List (Bytes × Bytes)) (s : State) : Answer :=
  let q := s.hq n
  if n < 64 ∧ q.tx ∧ s.queueRuns n ∧ s.alive .hostEgress (16 + 2 * q.hport) then
    if q.fifo then
      match parts.head? with
      | some (h, d) => .next (s.fifoFetch n ecc h d)
      | none => .next s
    else .next (s.ringFetch n ecc parts)
  else .next s

end Sys2Proof.Machine
end

