-- ==== Sys2Proof/Machine/Ports.lean ====
section
/-! DEFINITION. The E ports (Chapter 6): lanes and links, reception, the transmit stamp FIFO, low-power idle. -/

namespace Sys2Proof.Machine

/-- Base of the MAC page of En. -/
def emB (n : Nat) : Nat := pageBase .emac n

/-! ### Lanes and links (R177 to R180) -/

/-- The speed codes that Table 6-1 lists for a mode. -/
def modeSpeeds (mode : Nat) : List Nat :=
  match mode with
  | 1 => [0, 1, 2]
  | 2 => [3]
  | 3 => [0, 1, 2, 3, 4, 5]
  | 4 => [5]
  | _ => []

/-- EV(128 + 4n): LINK = 0 while the lane's mode is 1 to 4 (Table 6-7). -/
def State.linkLevel (s : State) (n : Nat) : State :=
  let m := (s.port n).mode
  s.level (128 + 4 * n) (decide (1 ≤ m ∧ m ≤ 4) && !s.on (emB n) F.emac_LINK_STS_LINK) 0

/-- The frame in transmission on En is cut off; it counts where `count` says so. -/
def State.cutTx (s : State) (n : Nat) (count : Bool) : State :=
  let e := s.eg n
  match e.sending with
  | none => s
  | some x =>
    if x.frame.whole ∧ e.busyTo ≤ s.ps then s.finishSending n
    else
      let known := if x.frame.whole then x.wireWhole.1 else x.wireSoFar
      let s1 := (if x.frame.whole then s else s.countSending n x).creditRun n s.ps
      let s2 := (s1.setEg n { s1.eg n with sending := none, busyTo := s.ps }).bufFree n x.frame.cells
      let s3 := if (s.port n).mode = 5 then s2 else s2.emit (.ethTx n (known.take (s.sentBytes n x s.ps)) x.stamp)
      if count then s3.inc (emB n) F.emac_TX_ABORT_COUNT else s3

/-- The link of En is lost: the frame in transmission is cut off and counted in TX_ABORT (R192). -/
def State.abortTx (s : State) (n : Nat) : State := s.cutTx n true

/-- Whether the lane takes its speed from the in-band control word (R179). -/
def State.laneAn (s : State) (n : Nat) : Bool :=
  s.on (emB n) F.emac_LANE_CFG_AN_EN && ((s.port n).mode == 1 || (s.port n).mode == 3)

/-- Whether LINK of a lane in mode 1 to 4 is 1 (R180): synchronisation or block lock; a control word with a listed speed
where auto-negotiation is enabled; no local fault on 10GBASE-R. -/
def State.linkHolds (s : State) (n : Nat) : Bool :=
  let p := s.port n
  s.on (emB n) F.emac_LINK_STS_BLOCK_LOCK && (!s.laneAn n || p.word.any (modeSpeeds p.mode).contains)
    && !(p.mode == 4 && p.fault)

/-- Whether mode and speed support EEE (Table 6-1). -/
def eeeSupported (mode speed : Nat) : Bool :=
  (mode == 1 && speed == 2) || mode == 2 || (mode == 3 && 2 ≤ speed) || mode == 4

/-- Whether En can receive low-power idle: it holds synchronisation, and its mode and speed support EEE (Table 6-1). -/
def State.lpiLane (s : State) (n : Nat) : Bool :=
  s.on (emB n) F.emac_LINK_STS_BLOCK_LOCK && eeeSupported (s.port n).mode (s.gf (emB n) F.emac_LINK_STS_SPEED)

/-- RX_LPI falls where no low-power idle can be received any more (R196; DEDUCED, log entry 138). -/
def State.lpiSeen (s : State) (n : Nat) : State := if s.lpiLane n then s else s.pf (emB n) F.emac_LINK_STS_RX_LPI 0

/-- LINK, AN_DONE and SPEED of a lane in mode 1 to 4 follow R179 and R180; a link that falls cuts off the frame in
transmission (R192), and SPEED keeps its last value then. -/
def State.linkFollow (s : State) (n : Nat) : State :=
  let p := s.port n
  if p.mode < 1 ∨ 4 < p.mode then s
  else
    let b := emB n
    let up := s.linkHolds n
    let s0 := if s.on b F.emac_LINK_STS_LINK && !up then s.abortTx n else s.creditRun n s.ps
    let s1 := s0.pf b F.emac_LINK_STS_AN_DONE (b2n (s.laneAn n && s.on b F.emac_LINK_STS_BLOCK_LOCK && p.word.isSome))
    let speed := if s.laneAn n then p.word.getD 0 else nearestOf (modeSpeeds p.mode) (s.gf b F.emac_LANE_CFG_FORCE_SPEED)
    let s2 := if up then s1.pf b F.emac_LINK_STS_SPEED speed else s1
    ((s2.pf b F.emac_LINK_STS_LINK (b2n up)).lpiSeen n).linkLevel n

/-- MODE, TX_INV and RX_INV take effect; a lane that changes its mode loses its lock and with it its link (R178, R180).
-/
def State.latchLane (s : State) (n : Nat) : State :=
  let f (x : Fld) : Nat := s.gf (emB n) x
  let mode := f F.emac_LANE_CFG_MODE
  let inv := 2 * f F.emac_LANE_CFG_RX_INV + f F.emac_LANE_CFG_TX_INV
  let s1 := if mode = (s.port n).mode then s.setPort n { s.port n with inv := inv }
    else
      let a := if s.on (emB n) F.emac_LINK_STS_LINK then s.abortTx n else s
      (((a.setPort n { a.port n with mode := mode, inv := inv, word := none, fault := false }).pf (emB n)
        F.emac_LINK_STS_BLOCK_LOCK 0).pf (emB n) F.emac_LINK_STS_AN_DONE 0).pf (emB n) F.emac_LINK_STS_LINK 0
  (s1.lpiSeen n).linkLevel n

/-- LINK_DOWN: En loses its link, or a lane whose link is down loses its lock. `lock`: block lock is still held, so that
the control word reports no link any more, or local fault is received; where neither can lower LINK, the lock is what
has been lost (R180, R192). -/
def execLinkDown (n : Nat) (lock : Bool) (s : State) : Answer :=
  let p := s.port n
  if s.alive .emac n ∧ n < 16 ∧ 1 ≤ p.mode ∧ p.mode ≤ 4 ∧ (s.on (emB n) F.emac_LINK_STS_LINK ∨ s.on (emB n) F.emac_LINK_STS_BLOCK_LOCK) then
    let held := lock && s.on (emB n) F.emac_LINK_STS_BLOCK_LOCK && (p.mode == 4 || s.laneAn n)
    let s1 := s.setPort n { p with word := none, fault := held && p.mode == 4 }
    .next ((s1.pf (emB n) F.emac_LINK_STS_BLOCK_LOCK (b2n held)).linkFollow n)
  else .next s

/-- LINK_UP: synchronisation or block lock is gained on En, and no local fault is received. `code`: the speed code in
the in-band control word that reports link up, used where auto-negotiation is enabled in SGMII and USXGMII and ignored
elsewhere; a code that the mode does not list gives no speed, and a link that was up falls (R179, R180). -/
def execLinkUp (n code : Nat) (s : State) : Answer :=
  let p := s.port n
  if s.alive .emac n ∧ n < 16 ∧ 1 ≤ p.mode ∧ p.mode ≤ 4 then
    let s1 := s.setPort n { p with word := if s.laneAn n then some code else none, fault := false }
    .next ((s1.pf (emB n) F.emac_LINK_STS_BLOCK_LOCK 1).linkFollow n)
  else .next s

/-! ### Reception (R182 to R187, R197) -/

/-- Receive classes (Table 6-2); the number is that of EV(131 + 4n)'s detail byte, 0 for GOOD. -/
def rxClass (b : Bytes) (codeErr : Bool) (maxLen : Nat) : Nat :=
  if codeErr then 4 else if b.length < 64 then 1 else if maxLen < b.length then 2 else if fcsGood b then 0 else 3

/-- A received frame of a class but GOOD is counted, with EV(131 + 4n) at the first (R182, Table 6-7). -/
def State.rxError (s : State) (n cls : Nat) : State :=
  let b := emB n
  let all := [F.emac_RX_RUNT_COUNT, F.emac_RX_OVERSIZE_COUNT, F.emac_RX_FCS_ERR_COUNT, F.emac_RX_CODE_ERR_COUNT]
  let first := all.all fun f => s.gf b f == 0
  ((s.inc b (all.getD (cls - 1) F.emac_RX_RUNT_COUNT)).perf 0x012 n 1).raiseIf first (131 + 4 * n) cls

/-- A GOOD frame is counted. -/
def State.rxGood (s : State) (n len : Nat) : State :=
  let b := emB n
  let s1 := (s.incW b F.emac_RX_GOOD_COUNT).perf 0x010 n 1
  s1.p64 b F.emac_RX_OCTETS_LO_COUNT F.emac_RX_OCTETS_HI_COUNT
    ((s1.g64 b F.emac_RX_OCTETS_LO_COUNT F.emac_RX_OCTETS_HI_COUNT + len) % 2 ^ 64)

/-- The flags of a captured frame of a class (R185, Table 4-1 byte 14). -/
def captureFlags (cls len : Nat) : Nat :=
  (if cls = 3 ∨ cls = 4 then 2 else 0) + (if cls = 1 then 4 else 0) + (if cls = 2 then 8 else 0)
    + (if 9216 < len then 32 else 0)

/-- A frame takes its bytes in the receive buffer of En and its place before the lookup. -/
def State.rxPlace (s : State) (n : Nat) (f : RxFrame) : State :=
  (s.setPort n { s.port n with rxBytes := (s.port n).rxBytes + f.held }).rxEnter f

/-- The receive stamp of a frame whose first bit after the delimiter crossed `ago` ns before now (R197). -/
def State.rxStamp (s : State) (lat ago : Nat) : Nat := (s.stampAt 0 + 2 ^ 64 - lat - ago) % 2 ^ 32

/-- Whether some frame of En could be forwarded by cut-through: a pinned class, no secure channel (R123, conditions 1
and 3). Where none can, every frame is received whole and checked before its lookup. -/
def State.mayCut (s : State) (n : Nat) : Bool :=
  s.gf fabB F.fabGlobal_PIN_CLASS_MASK != 0 && !(List.range 32).any fun k =>
    s.on (pageBase .macsec n) (F.macsec_RX_SC_CTL_VALID.at (0x40 * k))

/-- ETH_RX_FRAME: a frame ends on En. `bytes`: destination address to FCS; `codeErr`: the PCS signalled an error or
the link was lost; `ago`: ns since the stamp point. A frame that has ended stands for its reception as a whole: a
cut-through frame enters the fabric with its ending known (log entry 13). -/
def execEthRxFrame (n : Nat) (bytes : Bytes) (codeErr : Bool) (ago : Nat) (s : State) : Answer :=
  let b := emB n
  if 16 ≤ n ∨ !s.run .emac n ∨ !s.on b F.emac_LINK_STS_LINK ∨ (s.port n).mode = 5 then .next s
  else
    let maxLen := s.maxLen n
    if 65536 < (s.port n).rxBytes + maxLen then .next (s.inc b F.emac_RX_BUF_DROP_COUNT)
    else
      let cls := rxClass bytes codeErr maxLen
      let stamp := s.rxStamp (s.gf b F.emac_TS_LAT_RX_LAT) ago
      let s1 := if cls = 0 then s.rxGood n bytes.length else s.rxError n cls
      let capture := if s.on b F.emac_RX_CTL_CAPTURE then
          some (s.gf b F.emac_RX_CTL_CAP_Q, s.gf b F.emac_RX_CTL_CAP_TC) else none
      if cls = 0 then
        match s1.rxVerify n bytes with
        | .drop s2 => .next s2
        | .pass good s2 => .next (s2.rxPlace n ⟨n, stamp, good, [], false, 0, none, bytes.length, capture⟩)
      else if capture.isSome then
        if s.on b F.emac_RX_CTL_KEEP_BAD ∧ 4 < bytes.length then
          let kept := bytes.take 9216
          .next (s1.rxPlace n ⟨n, stamp, kept, [], false, captureFlags cls bytes.length, none, kept.length, capture⟩)
        else .next s1
      else if !s.mayCut n then .next s1
      else
        let head := bytes.take maxLen
        .next (s1.rxPlace n ⟨n, stamp, head, [], true, 0, none, head.length, none⟩)

/-- SRST of a MAC page discards the frames of En that have not begun to pass into the fabric, and empties the stamp FIFO
(R187). The frame in transmission, which is work in flight, is cut off without a count (DESIGN CHOICE: R48 discards it,
R187 names no count, log entry 131). A bad frame whose discard within the receive buffer the model has put off to its
lookup (R183) is not counted. -/
def State.emacSrst (s0 : State) (n : Nat) : State :=
  let s := s0.cutTx n false
  let waiting := s.fwd.waiting.filter fun f => f.src == n
  let looked := s.fwd.looked.filter fun x => x.frame.src == n
  let s1 := { s with fwd := { s.fwd with
    waiting := s.fwd.waiting.filter fun f => f.src != n, looked := s.fwd.looked.filter fun x => x.frame.src != n } }
  let held := (waiting.map (·.held) ++ looked.map (·.frame.held)).foldl (· + ·) 0
  ((s1.freeRx n held).addSat (emB n) F.emac_RX_BUF_DROP_COUNT
    ((waiting.filter fun f => !f.bad).length + looked.length)).setStamps n []

/-! ### Pops (R58 to R60, R198) -/

/-- A BAR0 read of one or two words that begins at a pop register: the popped value and, in the second word, its shadow
after the pop. Where the page cannot be reached nothing is popped and 0 is read (R4, R51); with PD3 off no read reaches
the device (log entry 100). -/
def State.popRead (s : State) (k : PageKind) (i off ndw : Nat) (pop : State → Nat × State) : State :=
  if s.alive k i then
    let r := pop s
    r.2.emit (.readData (if ndw = 2 then [r.1, (r.2.rd (off + 4)).toNat] else [r.1]))
  else if s.domOn 3 then s.emit (.readData (List.replicate (if ndw = 2 then 2 else 1) 0))
  else s

/-- The pop of TS_POP of En (R198). -/
def State.popStamp (n : Nat) (s : State) : Nat × State :=
  match (s.port n).stamps with
  | [] => (0, s)
  | r :: rest =>
    (r.word, ((s.setStamps n rest).pf (emB n) F.emac_TS_POP_LAST_LAST r.word).pf (emB n) F.emac_TS_STAMP_STAMP r.stamp)

/-- The segment's stamp FIFO and its level (R205). -/
def State.setSegStamps (s : State) (n : Nat) (seg : Segment) (l : List StampRec) : State :=
  { s with segs := put (fun _ => Segment.new) s.segs n { seg with stamps := l } }.pf (pageBase .t1s n)
    ⟨0x064, 4, 0⟩ l.length

/-- The pop of TS_POP of segment Sn (R205). -/
def State.popSegStamp (n : Nat) (s : State) : Nat × State :=
  let seg := look (fun _ => Segment.new) s.segs n
  match seg.stamps with
  | [] => (0, s)
  | r :: rest =>
    (r.word, ((s.setSegStamps n seg rest).pf (pageBase .t1s n) F.t1s_TS_POP_LAST_LAST r.word).pf
      (pageBase .t1s n) F.t1s_TS_STAMP_STAMP r.stamp)

/-- TS_POP: a read of TS_POP of En, or of segment Sn. -/
def execTsPop (seg : Bool) (n ndw : Nat) (s : State) : Answer :=
  if seg then .next (s.popRead .t1s n (pageBase .t1s n + 0x58) ndw (State.popSegStamp n))
  else .next (s.popRead .emac n (emB n + 0x60) ndw (State.popStamp n))

/-- What a write of a MAC page register starts: TS_CTL.FLUSH, settled credits where MAX_LEN changes (R118, R198), and
LINK and SPEED that follow a new AN_EN or FORCE_SPEED (R179, R180; log entry 115). A change of AN_EN ends the
negotiation. -/
def State.emacTrigger (n o : Nat) (w : Word) (old s : State) : State :=
  if o = 0x05C ∧ bitOf w.toNat 1 then s.setStamps n []
  else if o = 0x048 then s.keepCredit n old
  else if o = 0x040 then
    let s1 := s.keepCredit n old
    let same := s.gf (emB n) F.emac_LANE_CFG_AN_EN == old.gf (emB n) F.emac_LANE_CFG_AN_EN
    (if same then s1 else s1.setPort n { s1.port n with word := none }).linkFollow n
  else s

/-- A write of a new NEXT_PN lets a stopped transmit SA send again (R381). -/
def State.macsecTrigger (n o : Nat) (s : State) : State :=
  if 0x064 ≤ o ∧ o < 0x0A0 ∧ (o % 16 = 4 ∨ o % 16 = 8) then
    s.setPort n { s.port n with stopped := putBits (s.port n).stopped ((o - 0x060) / 16) ((o - 0x060) / 16) 0 }
  else s

/-- TS_FLUSH: the host writes TS_CTL. -/
def execTsFlush (n : Nat) (w : Word) (s : State) : Answer :=
  if n < 16 then .next (s.hostWrite (emB n + 0x05C) w (State.emacTrigger n 0x05C w s)) else .next s

/-! ### Low-power idle (R194, R195) -/

/-- Low-power idle of the transmitter of En ends because its page leaves RUN: it sends idle (R187). -/
def State.lpiStop (s : State) (n : Nat) : State :=
  (s.setEg n { s.eg n with lpi := false }).pf (emB n) F.emac_LINK_STS_TX_LPI 0

/-- The partner's low-power idle is shown in RX_LPI and has no other effect (R196). Its end is always shown. -/
def State.rxLpi (s : State) (n : Nat) (on_ : Bool) : State :=
  if n < 16 ∧ s.alive .emac n ∧ (!on_ ∨ s.lpiLane n) then s.pf (emB n) F.emac_LINK_STS_RX_LPI (b2n on_) else s

/-- LPI_ENTRY: the conditions of R194 have held for IDLE_US on En in RUN; or the partner enters low-power idle (R196).
R194 gives the conditions of the entry alone: GATE_EN or LPI_EN written while TX_LPI is 1 leaves it standing until a
frame is handed over (DESIGN CHOICE, log entry 138). -/
def execLpiEntry (n : Nat) (partner : Bool) (s : State) : Answer :=
  if partner then .next (s.rxLpi n true)
  else
  let b := emB n
  let s0 := match (s.eg n).sending with
    | some x => if x.frame.whole ∧ (s.eg n).busyTo ≤ s.ps then s.finishSending n else s
    | none => s
  let e := s0.eg n
  if n < 16 ∧ s0.run .emac n ∧ s0.on b F.emac_EEE_CTL_LPI_EN ∧ eeeSupported (s0.port n).mode (s0.gf b F.emac_LINK_STS_SPEED)
      ∧ !s0.on (egBase n) F.hostEgress_GATE_CTL_GATE_EN ∧ e.queue = [] ∧ e.sending.isNone ∧ !e.lpi ∧ !e.waking then
    let s1 := (s0.setEg n { e with lpi := true }).pf b F.emac_LINK_STS_TX_LPI 1
    .next (s1.inc b F.emac_LPI_ENTRIES_COUNT)
  else .next s0

/-- LPI_WAKE_END: TW_TX_NS has passed since low-power idle ended; or the partner has left its own (R196). -/
def execLpiWakeEnd (n : Nat) (partner : Bool) (s : State) : Answer :=
  if partner then .next (s.rxLpi n false)
  else if n < 16 then .next (s.setEg n { s.eg n with waking := false }) else .next s

end Sys2Proof.Machine
end

