-- ==== Sys2Proof/Machine/Can.lean ====
section
/-! DEFINITION. The CAN channels (Chapter 7): message objects, reception, transmission, error counters and channel
states, and transceivers. -/

namespace Sys2Proof.Machine

/-- Base of the page of Cn. -/
def caB (n : Nat) : Nat := pageBase .can n

/-- Base of the CAN global page. -/
def cnB : Nat := pageBase .canGlobal 0

/-- A CAN channel with nothing in it. -/
def CanCh.new : CanCh := ⟨0, 0, none, false⟩

/-- CAN channel Cn. -/
def State.canCh (s : State) (n : Nat) : CanCh := look (fun _ => CanCh.new) s.can n

/-- Replaces CAN channel Cn. -/
def State.setCan (s : State) (n : Nat) (c : CanCh) : State := { s with can := put (fun _ => CanCh.new) s.can n c }

/-! ### Frames (R212) -/

/-- Data bytes of an FD DLC (Table 7-2). -/
def fdLength (dlc : Nat) : Nat := [0, 1, 2, 3, 4, 5, 6, 7, 8, 12, 16, 20, 24, 32, 48, 64].getD dlc 64

/-- Control bits of W4 (Table 7-4). -/
def w4Dlc (w : Nat) : Nat := bitsOf w 10 0
def w4Fdf (w : Nat) : Bool := bitOf w 11
def w4Xlf (w : Nat) : Bool := bitOf w 12
def w4Rtr (w : Nat) : Bool := bitOf w 15

/-- Format of a W4: 0 Classical, 1 FD, 2 XL; the number is that of its ACCEPT bit. -/
def w4Format (w : Nat) : Nat := if w4Xlf w then 2 else if w4Fdf w then 1 else 0

/-- Whether a W4 is that of a remote frame. -/
def w4Remote (w : Nat) : Bool := w4Format w == 0 && w4Rtr w

/-- Data length of a W4 (R212). -/
def w4Length (w : Nat) : Nat :=
  match w4Format w with
  | 2 => w4Dlc w + 1
  | 1 => fdLength (w4Dlc w % 16)
  | _ => if w4Rtr w then 0 else min 8 (w4Dlc w % 16)

/-- A frame as the device stores it: the fields of other formats 0, as many data bytes as its length. -/
def canNorm (f : CanFrame) : CanFrame :=
  let xl := w4Xlf f.w4
  let n := w4Length f.w4
  { ide := f.ide && !xl
    id := if f.ide && !xl then f.id % 2 ^ 29 else f.id % 2 ^ 11
    w4 := if xl then f.w4 % 2 ^ 32 else f.w4 % 2 ^ 16
    af := if xl then f.af % 2 ^ 32 else 0
    sec := f.sec && xl
    data := (f.data ++ List.replicate (n - f.data.length) 0).take n }

/-- The arbitration field as a number: the smaller one wins (R221). -/
def canKey (f : CanFrame) : Nat :=
  let rtr := b2n (w4Remote f.w4)
  if f.ide then ((bitsOf f.id 28 18 * 2 + 1) * 2 + 1) * 2 ^ 19 + (bitsOf f.id 17 0 * 2 + rtr)
  else ((bitsOf f.id 10 0 * 2 + rtr) * 2) * 2 ^ 19

/-! ### Message objects (R214 to R216) -/

/-- BAR2 offset of word i of object k's header. -/
def objW (k i : Nat) : Nat := 0x07000000 + 32 * k + 4 * i

/-- Word i of object k's header. -/
def State.objRd (s : State) (k i : Nat) : Nat := s.b2w (objW k i)

/-- Writes word i of object k's header. -/
def State.objWr (s : State) (k i v : Nat) : State := s.b2wr (objW k i) v

/-- Bits [hi:lo] of W7 of object k take `v`. -/
def State.objW7 (s : State) (k hi lo v : Nat) : State := s.objWr k 7 (putBits (s.objRd k 7) hi lo v)

/-- Bytes of object k's data area; none where the area runs past the pool. -/
def State.objArea (s : State) (k : Nat) : Option Nat :=
  let w := s.objRd k 3
  if bitsOf w 17 0 + bitsOf w 22 18 + 1 ≤ 258048 then some (64 * (bitsOf w 22 18 + 1)) else none

/-- BAR2 offset of object k's data area. -/
def State.objData (s : State) (k : Nat) : Nat := 0x07040000 + 64 * bitsOf (s.objRd k 3) 17 0

/-- The channel that object k belongs to (R214). -/
def State.objOwner (s : State) (k : Nat) : Option Nat :=
  (List.range s.grade.canChannels).find? fun n =>
    let first := s.gf cnB (F.canGlobal_OBJ_MAP_FIRST.at (4 * n))
    first ≤ k && k < first + s.gf cnB (F.canGlobal_OBJ_MAP_COUNT.at (4 * n))

/-- The objects of Cn, ascending. -/
def State.objsOf (s : State) (n : Nat) : List Nat :=
  let first := s.gf cnB (F.canGlobal_OBJ_MAP_FIRST.at (4 * n))
  ((List.range (s.gf cnB (F.canGlobal_OBJ_MAP_COUNT.at (4 * n)))).map (· + first)).filter fun k => s.objOwner k == some n

/-- VALID and DIR of object k: in use and a transmit object. -/
def State.objTx (s : State) (k : Nat) : Bool := bitsOf (s.objRd k 0) 31 30 == 3

/-- VALID = 1 and DIR = 0: in use and a receive object. -/
def State.objRx (s : State) (k : Nat) : Bool := bitsOf (s.objRd k 0) 31 30 == 2

/-- TX_REQ, ONE_SHOT and BRIDGE of object k. -/
def State.objReq (s : State) (k : Nat) : Bool := bitOf (s.objRd k 7) 29
def State.objOneShot (s : State) (k : Nat) : Bool := bitOf (s.objRd k 0) 29
def State.objBridge (s : State) (k : Nat) : Bool := bitOf (s.objRd k 0) 28

/-- The frame that object k holds. -/
def State.objFrame (s : State) (k : Nat) : CanFrame :=
  let w4 := s.objRd k 4
  canNorm ⟨bitOf (s.objRd k 0) 27, s.objRd k 1, w4, s.objRd k 5, bitOf (s.objRd k 7) 27,
    s.b2Bytes (s.objData k) (w4Length w4)⟩

/-- The pending transmit objects of Cn. -/
def State.canPending (s : State) (n : Nat) : List Nat := (s.objsOf n).filter fun k => s.objTx k && s.objReq k

/-! ### Bit times (R208, R209, Table 7-1) -/

/-- One channel-clock cycle in picoseconds. -/
def State.canClock (s : State) (n : Nat) : Nat := if s.on (caB n) F.can_CTL_CLK80 then 12500 else 6250

/-- Quanta of a nominal bit. -/
def State.canQuanta (s : State) (n : Nat) : Nat := s.gf (caB n) F.can_NBT_NTSEG1 + s.gf (caB n) F.can_NBT_NTSEG2 + 3

/-- A nominal bit in picoseconds. -/
def State.canBit (s : State) (n : Nat) : Nat :=
  s.canQuanta n * (s.gf (caB n) F.can_NBT_NBRP + 1) * s.canClock n

/-- Whether a data phase, whose timing word stands at the given fields, meets its limits: the shortest bit in ns. -/
def State.canPhaseOk (s : State) (n : Nat) (brp t1 t2 : Fld) (ns : Nat) : Bool :=
  let q := s.gf (caB n) t1 + s.gf (caB n) t2 + 3
  5 ≤ q && ns * 1000 ≤ q * (s.gf (caB n) brp + 1) * s.canClock n

/-- Picoseconds from the start of a nominal bit to its sample point. -/
def State.canSample (s : State) (n : Nat) : Nat :=
  (s.gf (caB n) F.can_NBT_NTSEG1 + 2) * (s.gf (caB n) F.can_NBT_NBRP + 1) * s.canClock n

/-- The check of R209. -/
def State.canRateOk (s : State) (n : Nat) : Bool :=
  let b := caB n
  let xlNs := if s.on b F.can_CTL_TMS then (if n < 16 then 100 else 50) else 125
  8 ≤ s.canQuanta n && 1000000 ≤ s.canBit n
    && (!s.on b F.can_CTL_FD_EN || s.canPhaseOk n F.can_DBT_BRP F.can_DBT_TSEG1 F.can_DBT_TSEG2 125)
    && (!s.on b F.can_CTL_XL_EN || s.canPhaseOk n F.can_XBT_BRP F.can_XBT_TSEG1 F.can_XBT_TSEG2 xlNs)

/-- Whether a format is enabled on Cn. -/
def State.canFormatOn (s : State) (n format : Nat) : Bool :=
  match format with
  | 2 => s.on (caB n) F.can_CTL_XL_EN
  | 1 => s.on (caB n) F.can_CTL_FD_EN
  | _ => true

/-! ### Channel states (R225 to R228, Table 7-5) -/

/-- STS.STATE of Cn. -/
def State.canState (s : State) (n : Nat) : Nat := s.gf (caB n) F.can_STS_STATE

/-- TRCV_STS.STATE of Cn. -/
def State.canTrcv (s : State) (n : Nat) : Nat := s.gf (caB n) F.can_TRCV_STS_STATE

/-- A change of STATE; every one but to OFF is an event. -/
def State.setCanState (s : State) (n st : Nat) : State :=
  if s.canState n = st then s
  else (s.pf (caB n) F.can_STS_STATE st).raiseIf (st != 0) (224 + 2 * n) st

/-- The attention event. -/
def State.canAttention (s : State) (n detail : Nat) : State := s.raise (225 + 2 * n) detail

/-- The frame of Cn leaves the wire. -/
def State.canOffWire (s : State) (n : Nat) : State :=
  (s.pf (caB n) F.can_CUR_TX_VALID 0).pf (caB n) F.can_STS_TX_ACTIVE 0

/-- The object of Cn on the wire. -/
def State.canOnWire (s : State) (n : Nat) : Option Nat :=
  if s.on (caB n) F.can_CUR_TX_VALID then some (s.gf (caB n) F.can_CUR_TX_OBJECT) else none

/-- A transmit object of Cn completes: TX_REQ and ABORT are cleared, TX_RESULT is set (R222 to R224, R227). -/
def State.canComplete (s : State) (n k result : Nat) : State :=
  let s1 := ((s.objW7 k 29 28 0).objW7 k 23 20 result)
  let s2 := if s1.canOnWire n = some k then s1.canOffWire n else s1
  s2.raiseIf (s2.objOneShot k && result != 1) (225 + 2 * n) 2

/-- Entry to BUS_OFF (R227) and, where recovery starts by itself, to RECOVERING (R228). -/
def State.canBusOff (s : State) (n : Nat) : State :=
  let s1 := ((s.setCanState n 4).inc (caB n) F.can_BUS_OFF_COUNT).canOffWire n
  let s2 := ((s1.canPending n).filter s1.objOneShot).foldl (fun t k => t.canComplete n k 2) s1
  if s2.on (caB n) F.can_CTL_AUTO_RECOVER then s2.setCanState n 5 else s2

/-- The state that the error counters give (Table 7-5). -/
def State.canLimits (s : State) (n : Nat) : State :=
  let tec := s.gf (caB n) F.can_ERR_CNT_TEC
  let rec_ := s.gf (caB n) F.can_ERR_CNT_REC
  if s.canState n = 2 ∨ s.canState n = 3 then
    if 255 < tec then s.canBusOff n else s.setCanState n (if 127 < tec ∨ 127 < rec_ then 3 else 2)
  else s

/-- Both error counters become 0. -/
def State.canZero (s : State) (n : Nat) : State := (s.pf (caB n) F.can_ERR_CNT_TEC 0).pf (caB n) F.can_ERR_CNT_REC 0

/-- Bus integration starts: the check of R209 decides whether the channel goes on (R209, Table 7-5). -/
def State.canIntegrate (s : State) (n : Nat) : State :=
  let s1 := s.setCanState n 1
  if s1.canRateOk n then s1 else s1.setCanState n 6

/-- The page of Cn enters RUN. -/
def State.canRun (s : State) (n : Nat) : State := (s.canZero n).canIntegrate n

/-- The page of Cn leaves RUN. -/
def State.canLeave (s : State) (n : Nat) : State := s.setCanState n 0

/-- The frame on the wire is cut off: an object whose abort waits for its end completes with ABORTED (R224). -/
def State.canCutOff (s : State) (n : Nat) : State :=
  match s.canOnWire n with
  | none => s
  | some k => if bitOf (s.objRd k 7) 28 then s.canComplete n k 5 else s.canOffWire n

/-- SRST of Cn ends the frame on the wire and zeroes the error counters (R241). -/
def State.canSrst (s : State) (n : Nat) : State :=
  let s1 := if (s.canOnWire n).isSome then (s.canCutOff n).inc (caB n) F.can_TX_ABORT_COUNT else s
  s1.canZero n

/-- Whether Cn takes part in bus traffic: integrated, its transceiver Normal or Listen-only, not suspended. -/
def State.canReceives (s : State) (n : Nat) : Bool :=
  n < 24 && s.run .can n && (s.canState n == 2 || s.canState n == 3) && s.canTrcv n ≤ 1 && !(s.canCh n).susp
    && (16 ≤ n || s.lineOn 1)

/-- An error counter changes, but not in Listen-only (Table 7-6). -/
def State.canCounter (s : State) (n : Nat) (f : Fld) (v : Nat) : State :=
  if s.canTrcv n = 1 then s else s.pf (caB n) f (min f.top v)

/-! ### Transmission (R221 to R224) -/

/-- A bad configuration: more data than the object's area holds, or an extended identifier with XL (R222). -/
def State.canBad (s : State) (k : Nat) : Bool :=
  let w4 := s.objRd k 4
  match s.objArea k with
  | none => false
  | some area => area < w4Length w4 || (bitOf (s.objRd k 0) 27 && w4Xlf w4)

/-- Whether a pending object can be sent on Cn. -/
def State.canSendable (s : State) (n k : Nat) : Bool :=
  (s.objArea k).isSome && !s.canBad k && s.canFormatOn n (w4Format (s.objRd k 4))

/-- The pending object that enters arbitration (R221). -/
def State.canWinner (s : State) (n : Nat) : Option Nat :=
  ((s.canPending n).filter (s.canSendable n)).foldl (fun best k =>
    match best with
    | none => some k
    | some b => if canKey (s.objFrame k) < canKey (s.objFrame b) then some k else best) none

/-- Whether Cn may start a frame: Normal, with no change of the transceiver pending, past suspend transmission. -/
def State.canMayStart (s : State) (n : Nat) : Bool :=
  s.canReceives n && s.canTrcv n == 0 && (s.canCh n).trcv.isNone && (s.canOnWire n).isNone
    && (s.canCh n).holdTo ≤ s.ps && (16 ≤ n || bitOf (s.rd (pageBase .pwrMain 0 + 0x058)).toNat 1)

/-- A start of frame: the winning object goes on the wire (R221); its stamp is that of the sample point of the
start-of-frame bit (Table 7-4). -/
def State.canStart (s : State) (n : Nat) : State :=
  if s.canMayStart n then
    match s.canWinner n with
    | none => s
    | some k =>
      let s1 := ((s.pf (caB n) F.can_CUR_TX_OBJECT k).pf (caB n) F.can_CUR_TX_VALID 1).pf (caB n) F.can_STS_TX_ACTIVE 1
      s1.setCan n { s1.canCh n with sof := s1.stampAt (s1.canSample n) % 2 ^ 64 }
  else s

/-- What is checked as soon as an object of a channel is pending: an unusable area is counted, a bad configuration and a
one-shot object in BUS_OFF or RECOVERING complete at once (R215, R222, R227). -/
def State.canRequested (s : State) (k : Nat) : State :=
  match s.objOwner k with
  | none => s
  | some n =>
    if (s.objArea k).isNone then s.inc cnB F.canGlobal_OBJ_ERR_COUNT
    else if s.canBad k then s.canComplete n k 6
    else if s.objOneShot k ∧ (s.canState n = 4 ∨ s.canState n = 5) then s.canComplete n k 2
    else s

/-- A write of OBJ_MAP: requests of objects that come to a channel by it are checked as those made on one. -/
def State.canMapped (old s : State) (n : Nat) : State :=
  ((s.canPending n).filter fun k => (old.objOwner k).isNone).foldl (fun (a : State) k => a.canRequested k) s

/-- What a write of a CAN global register starts. -/
def State.canGlobalTrigger (o : Nat) (old s : State) : State :=
  if 0x040 ≤ o ∧ o < 0x0A0 then State.canMapped old s ((o - 0x040) / 4) else s

/-- The bits of word i of an object header to which Table 7-4 gives a field; the others read 0 (R8). -/
def objWordMask (i : Nat) : Nat :=
  match i with
  | 0 => 0xFF000000
  | 1 => 0x1FFFFFFF
  | 2 => 0x1FFFFFFF
  | 3 => 0x7FFFFF
  | _ => 0xFFFFFFFF

/-- A request of object k: TX_REQ ← 1, TX_RESULT ← 0 (R216). -/
def State.canRequest (s : State) (k : Nat) : State := ((s.objW7 k 29 29 1).objW7 k 23 20 0).canRequested k

/-- An abort of object k (R224). -/
def State.canAbort (s : State) (k : Nat) : State :=
  if s.objReq k then
    match s.objOwner k with
    | none => (s.objW7 k 29 28 0).objW7 k 23 20 5
    | some n => if s.canOnWire n = some k then s.objW7 k 28 28 1 else s.canComplete n k 5
  else s

/-- A write of W7 of object k (R216). -/
def State.w7Write (s : State) (k : Nat) (w : Word) : State :=
  let v := w.toNat
  let s1 := if bitOf v 31 then s.objW7 k 31 31 0 else s
  let s2 := if bitOf v 30 then s1.objW7 k 30 30 0 else s1
  let s3 := s2.objW7 k 27 27 (bitsOf v 27 27)
  let s4 := if bitOf v 29 ∧ s3.objTx k ∧ !s3.objReq k then s3.canRequest k else s3
  if bitOf v 28 then s4.canAbort k else s4

/-- OBJECT_W7_WRITE: the host writes W7 of object k. -/
def execObjectW7Write (k : Nat) (w : Word) (s : State) : Answer :=
  if k < 8192 then .next (s.w7Write k w) else .next s

/-- The object on the wire; where none has started, the one that would (log entry 34). -/
def State.canSending (s : State) (n : Nat) : State × Option Nat :=
  let s1 := s.canStart n
  (s1, s1.canOnWire n)

/-- Ends a frame that failed: an aborted object completes with ABORTED, a one-shot one with `result`, any other stays
pending (R222 to R224). -/
def State.canFailed (s : State) (n k result : Nat) : State :=
  if bitOf (s.objRd k 7) 28 then s.canComplete n k 5
  else if s.objOneShot k then s.canComplete n k result
  else s.canOffWire n

/-- After a frame that it has sent, with or without an error, an error-passive channel suspends transmission for 8 bits
(R226). -/
def State.canSuspend (s : State) (n : Nat) : State :=
  if s.canState n = 3 then s.setCan n { s.canCh n with holdTo := s.ps + 8 * s.canBit n } else s

/-- The delay measured in the frame of format `format` that Cn sends, in quanta, where it compensates (R210). -/
def State.canDelay (s : State) (n format : Nat) (tdcv : Option Nat) : State :=
  let on := (format == 1 && s.on (caB n) F.can_TDC_DTDC_EN) || (format == 2 && s.on (caB n) F.can_TDC_XTDC_EN)
  match tdcv with
  | some v => if on then s.pf (caB n) F.can_STS_TDCV v else s
  | none => s

/-- Another node's frame is on the wire: a start of frame that the channel made at a tick did not take place. Its object
is off the wire and is chosen anew at the next bus idle, an aborted one completes (R221, R224, R226; log entry 124). -/
def State.canForeign (s : State) (n : Nat) : State := s.canCutOff n

/-- An error in a frame that Cn sends (`tx`) or receives; `extra` selects the counter step of ISO 11898-1 (log entry
32): 0 the normal one, 1 that of a receiver with a dominant bit after its flag, 2 none. -/
def State.canErr (s : State) (n lec : Nat) (tx : Bool) (extra : Nat) : State :=
  let b := caB n
  let s1 := ((s.pf b F.can_STS_LEC lec).inc b F.can_ERR_DETECT_COUNT).perf 0x042 n 1
  let s2 :=
    if extra = 2 then s1
    else if tx then s1.canCounter n F.can_ERR_CNT_TEC (s1.gf b F.can_ERR_CNT_TEC + 8)
    else s1.canCounter n F.can_ERR_CNT_REC (s1.gf b F.can_ERR_CNT_REC + (if extra = 1 then 8 else 1))
  if tx then
    match s2.canOnWire n with
    | none => s2.canLimits n
    | some k =>
      let tooMany := decide (255 < s2.gf b F.can_ERR_CNT_TEC)
      let s3 := s2.canFailed n k (if tooMany then 2 else 4)
      (s3.canLimits n).canSuspend n
  else s2.canLimits n

/-- CAN_ERROR: an error is detected on Cn. `lec`: the code of STS.LEC; `tx`: in a frame that Cn sends; `tdcv`: the delay
measured in it, none where the error comes before the edge that is measured (R210). -/
def execCanError (n lec : Nat) (tx : Bool) (extra : Nat) (tdcv : Option Nat) (s : State) : Answer :=
  if tx then
    if n < 24 ∧ s.alive .can n then
      let r := s.canSending n
      match r.2 with
      | none => .next r.1
      | some k => .next ((r.1.canDelay n (w4Format (r.1.objRd k 4)) tdcv).canErr n lec true extra)
    else .next s
  else if s.canReceives n then .next ((s.canForeign n).canErr n lec false extra)
  else .next s

/-- Whether the integrated transmitter of Cn holds recessive: TXD_TMO, THERMAL, or VCAN not GOOD (R231, R495). -/
def State.canMute (s : State) (n : Nat) : Bool :=
  s.on (caB n) F.can_TRCV_STS_TXD_TMO || s.on (caB n) F.can_TRCV_STS_THERMAL
    || (n < 16 && !bitOf (s.rd (pageBase .pwrMain 0 + 0x058)).toNat 1)

/-- The bit error that a transceiver fault, or VCAN not GOOD, makes of a frame, as its LEC (R231, R495). -/
def State.canFault (s : State) (n : Nat) : Option Nat :=
  if s.on (caB n) F.can_TRCV_STS_BUS_DOM then some 4
  else if s.canMute n then some 5
  else none

/-- CAN_TX_COMPLETE: the frame on the wire ends without error (R222). `tdcv`: the delay measured, in quanta (R210);
`ecc`: 1 a corrected, 2 an uncorrectable word of its object (R243); `ago`: ns since the sample point of its
start-of-frame bit, which W6 takes (R222, R339). -/
def execCanTxComplete (n tdcv ecc ago : Nat) (s : State) : Answer :=
  if n < 24 ∧ s.alive .can n then
    let b := caB n
    let r := s.canSending n
    match r.2 with
    | none => .next r.1
    | some k =>
      let began := r.1.setCan n { r.1.canCh n with sof := r.1.stampAgo ago }
      let t := began.canDelay n (w4Format (began.objRd k 4)) (some tdcv)
      let s0 := if ecc = 1 then t.inc cnB F.canGlobal_ECC_CORR_COUNT else t
      if ecc = 2 then .next ((s0.canComplete n k 4).inc cnB F.canGlobal_ECC_UNCORR_COUNT)
      else
        match s0.canFault n with
        | some lec => .next (s0.canErr n lec true 0)
        | none =>
          let f := s0.objFrame k
          let format := w4Format f.w4
          let esi := format == 1 && s0.canState n == 3
          let s2 := (s0.objWr k 6 ((s0.canCh n).sof % 2 ^ 32)).canComplete n k 1
          let s3 := ((s2.incW b F.can_TX_OK_COUNT).perf 0x041 n 1).emit
            (.canTx n k (if esi then { f with w4 := putBits f.w4 14 14 1 } else f))
          let s4 := (s3.canCounter n F.can_ERR_CNT_TEC (s3.gf b F.can_ERR_CNT_TEC - 1)).pf b F.can_STS_LEC 0
          .next ((s4.canSuspend n).canLimits n)
  else .next s

/-- CAN_ARB_LOST: the frame on the wire loses arbitration (R221, R223, R224). -/
def execCanArbLost (n : Nat) (s : State) : Answer :=
  if n < 24 ∧ s.alive .can n then
    let r := s.canSending n
    match r.2 with
    | none => .next r.1
    | some k => .next ((r.1.inc (caB n) F.can_ARB_LOST_COUNT).canFailed n k 3)
  else .next s

/-! ### Reception (R217 to R220) -/

/-- The first receive object of Cn that a frame matches, and how many unusable ones were passed over (R215, R217). -/
def State.canMatch (s : State) (n : Nat) (f : CanFrame) : Option Nat × Nat :=
  let hit (k : Nat) : Bool :=
    let w0 := s.objRd k 0
    let mask := bitsOf (s.objRd k 2) 28 0
    s.objRx k && bitOf w0 27 == f.ide && bitOf w0 (24 + w4Format f.w4)
      && natAnd f.id mask == natAnd (bitsOf (s.objRd k 1) 28 0) mask
  let hits := (s.objsOf n).filter hit
  let bad := hits.takeWhile fun k => (s.objArea k).isNone
  (hits[bad.length]?, bad.length)

/-- A stored frame is handed to the bus bridge (R220, R236, R245); outside RUN the
bridge looks up nothing (R276). -/
def State.bridgeIn (s : State) (m : BusMsg) (time : Nat) : State :=
  if s.run .brgGlobal 0 then { s with brg := { s.brg with waiting := s.brg.waiting ++ [⟨m, time⟩] } } else s

/-- Stores a frame in receive object k of Cn (R218 to R220). -/
def State.canStore (s : State) (n k : Nat) (f : CanFrame) (time : Nat) : State :=
  let b := caB n
  if (s.objArea k).getD 0 < f.data.length then s.incFirst b F.can_RX_TOO_LONG_COUNT (225 + 2 * n) 5
  else
    let s1 := (((s.b2Write (s.objData k) f.data).objWr k 1 f.id).objWr k 4 f.w4).objWr k 5 f.af
    let s2 := s1.objWr k 6 (time % 2 ^ 32)
    let unread := bitOf (s2.objRd k 7) 31
    let s3 := (s2.objW7 k 27 27 (b2n f.sec)).objW7 k 31 31 1
    let s4 := if unread then (s3.objW7 k 30 30 1).incFirst b F.can_RX_LOST_COUNT (225 + 2 * n) 1 else s3
    if s4.objBridge k then s4.bridgeIn (.can n f) time else s4

/-- A frame received without error lowers REC (log entry 32). -/
def State.canRecDown (s : State) (n : Nat) : State :=
  let r := s.gf (caB n) F.can_ERR_CNT_REC
  if s.canTrcv n = 1 ∨ r = 0 then s
  else if r ≤ 127 then s.pf (caB n) F.can_ERR_CNT_REC (r - 1)
  else
    let v := s.fresh 4
    v.2.pf (caB n) F.can_ERR_CNT_REC (119 + v.1.toNat % 9)

/-- The channel's part of the reception of a frame without error: counts, and the matching receive object (R218 to
R220). A frame of its own that the channel has put on the wire meanwhile has not started: it waits for the next bus idle
(R226; log entry 124). -/
def State.canStoreRx (s : State) (n : Nat) (f : CanFrame) (ago ecc : Nat) : State :=
  let b := caB n
  let time := s.stampAgo ago
  let s0 := (((s.canForeign n).canRecDown n).canLimits n).pf b F.can_STS_LEC 0
  if ecc = 2 then s0.inc cnB F.canGlobal_ECC_UNCORR_COUNT
  else
    let s1 := if ecc = 1 then s0.inc cnB F.canGlobal_ECC_CORR_COUNT else s0
    let s2 := (s1.incW b F.can_RX_OK_COUNT).perf 0x040 n 1
    let m := s2.canMatch n f
    let s3 := s2.addSat cnB F.canGlobal_OBJ_ERR_COUNT m.2
    match m.1 with
    | none => s3.inc b F.can_RX_NO_OBJ_COUNT
    | some k => s3.canStore n k f time

/-- CAN_PROTOCOL_EXCEPTION: the reserved bit after FDF or XLF of a received frame is recessive (R213). -/
def execCanProtocolException (n : Nat) (s : State) : Answer :=
  if s.canReceives n then
    let s1 := s.canForeign n
    if s1.on (caB n) F.can_CTL_PEX_EN then
      .next (((s1.inc (caB n) F.can_ERR_DETECT_COUNT).perf 0x042 n 1 |>.canAttention n 4).canIntegrate n)
    else .next (s1.canErr n 2 false 0)
  else .next s

/-- CAN_INTEGRATED: 11 consecutive recessive bits have been seen. -/
def execCanIntegrated (n : Nat) (s : State) : Answer :=
  if n < 24 ∧ s.run .can n ∧ s.canState n = 1 then .next ((s.setCanState n 2).canLimits n) else .next s

/-- CAN_RECOVERY_COMPLETE: the 128th sequence of 11 recessive bits since recovery started. -/
def execCanRecoveryComplete (n : Nat) (s : State) : Answer :=
  if n < 24 ∧ s.run .can n ∧ s.canState n = 5 then .next ((s.canZero n).setCanState n 2) else .next s

/-! ### Transceivers and the register writes (R228 to R231) -/

/-- The transition to the requested transceiver state is complete; a change out of Normal waits for the frame on the
wire (R230). -/
def State.trcvReached (s : State) (n : Nat) : State :=
  match (s.canCh n).trcv with
  | none => s
  | some t =>
    if s.canTrcv n = 0 ∧ (s.canOnWire n).isSome then s
    else
      let from_ := s.canTrcv n
      let s0 := if t = 2 ∧ n < 16 then s.pf (pageBase .pwrWake 0) (F.pwrWake_CANW_STS_FEC.at (32 * n)) 0 else s
      let s1 := (s0.setCan n { s.canCh n with trcv := none }).pf (caB n) F.can_TRCV_STS_STATE t
      if 2 ≤ from_ ∧ t ≤ 1 ∧ 1 ≤ s1.canState n ∧ s1.canState n ≤ 3 then s1.canIntegrate n else s1

/-- TRCV_STATE_REACHED. -/
def execTrcvStateReached (n : Nat) (s : State) : Answer :=
  if n < 24 ∧ s.alive .can n then .next (s.trcvReached n) else .next s

/-- What a write of a register of Cn starts: RECOVER, and the transceiver request. -/
def State.canTrigger (n o : Nat) (w : Word) (s : State) : State :=
  if o = 0x040 then
    if s.canState n = 4 ∧ (bitOf w.toNat 7 ∨ s.on (caB n) F.can_CTL_AUTO_RECOVER) then s.setCanState n 5 else s
  else if o = 0x060 then
    let t := s.gf (caB n) F.can_TRCV_CTL_STATE
    s.setCan n { s.canCh n with trcv := if t = s.canTrcv n then none else some t }
  else s

/-- CAN_RECOVER: the host writes CTL. -/
def execCanRecover (n : Nat) (w : Word) (s : State) : Answer :=
  if n < 24 then .next (s.hostWrite (caB n + 0x040) w (State.canTrigger n 0x040 w)) else .next s

/-- TRCV_STATE_REQUEST: the host writes TRCV_CTL. -/
def execTrcvStateRequest (n : Nat) (w : Word) (s : State) : Answer :=
  if n < 24 then .next (s.hostWrite (caB n + 0x060) w (State.canTrigger n 0x060 w)) else .next s

/-- A fault of an integrated transceiver appears (R231). -/
def State.canFaultSet (s : State) (n : Nat) (f : Fld) : State :=
  if n < 16 ∧ s.alive .can n ∧ !s.on (caB n) f then
    ((s.pf (caB n) f 1).inc (caB n) F.can_TRCV_FAULT_COUNT).canAttention n 3
  else s

/-- TXD_TMO: the transceiver of Cn has been driven dominant for more than 1 ms. -/
def execTxdTmo (n : Nat) (s : State) : Answer := .next (s.canFaultSet n F.can_TRCV_STS_TXD_TMO)

/-- BUS_DOM: the transceiver of Cn finds the bus dominant for more than 1 ms while not driving. -/
def execBusDom (n : Nat) (s : State) : Answer := .next (s.canFaultSet n F.can_TRCV_STS_BUS_DOM)

/-- THERMAL: the transceiver of Cn passes its thermal limit. -/
def execThermal (n : Nat) (s : State) : Answer := .next (s.canFaultSet n F.can_TRCV_STS_THERMAL)

/-- TRANSCEIVER_FAULT_CLEAR: a fault clears; `bit`: its bit of TRCV_STS. -/
def execTransceiverFaultClear (n bit : Nat) (s : State) : Answer :=
  if n < 16 ∧ bit < 3 ∧ s.alive .can n then .next (s.pf (caB n) ⟨0x064, bit, bit⟩ 0) else .next s

end Sys2Proof.Machine
end

