-- ==== Sys2Proof/Machine/Lin.lean ====
section
/-! DEFINITION. The LIN channels (Chapter 7): schedules, headers, responses and the frame table. -/

namespace Sys2Proof.Machine

/-- Base of the page of Ln. -/
def liB (n : Nat) : Nat := pageBase .lin n

/-- A LIN channel with nothing in it. -/
def LinCh.new : LinCh := ⟨0, none, none, none, none, none, []⟩

/-- LIN channel Ln. -/
def State.linCh (s : State) (n : Nat) : LinCh := look (fun _ => LinCh.new) s.lin n

/-- Replaces LIN channel Ln. -/
def State.setLin (s : State) (n : Nat) (c : LinCh) : State := { s with lin := put (fun _ => LinCh.new) s.lin n c }

/-- A field of entry `id` of the frame table of Ln. -/
def State.ft (s : State) (n id : Nat) (f : Fld) : Nat := s.gf (liB n) (f.at (16 * id))

/-- Sets a field of entry `id` of the frame table of Ln. -/
def State.setFt (s : State) (n id : Nat) (f : Fld) (v : Nat) : State := s.pf (liB n) (f.at (16 * id)) v

/-- Whether Ln takes part in bus traffic. -/
def State.linRuns (s : State) (n : Nat) : Bool :=
  n < 8 && s.run .lin n && !s.on (liB n) F.lin_LIN_TRCV_STATE && s.lineOn 2

/-- Whether entry `id` is in use with the given direction (R234). -/
def State.ftIs (s : State) (n id dir : Nat) : Bool :=
  s.ft n id F.lin_FT_CTL_VALID == 1 && s.ft n id F.lin_FT_CTL_DIR == dir

/-- LIN_STS.STATE of Ln. -/
def State.linState (s : State) (n v : Nat) : State := s.pf (liB n) F.lin_LIN_STS_STATE v

/-! ### Responses (R234 to R236) -/

/-- The sum of bytes with the carry added back, inverted: the checksum of ISO 17987-3 (log entry 36). -/
def linSum (b : Bytes) : Byte :=
  let add (a : Nat) (x : Byte) : Nat :=
    let t := a + x.toNat
    if 255 < t then t - 255 else t
  BitVec.ofNat 8 (255 - b.foldl add 0)

/-- The checksum of a response with data `d` for identifier `id` (R234). -/
def State.linChecksum (s : State) (n id : Nat) (d : Bytes) : Byte :=
  if s.ft n id F.lin_FT_CTL_ENHANCED = 1 ∧ id ≤ 59 then linSum (BitVec.ofNat 8 (pidOf id) :: d) else linSum d

/-- The error counters of a LIN channel in the order of the detail bytes 1 to 7 (Table 7-10). -/
def linErrors : List Fld :=
  [F.lin_NO_RESPONSE_COUNT, F.lin_INCOMPLETE_COUNT, F.lin_CHECKSUM_ERR_COUNT, F.lin_PARITY_ERR_COUNT,
   F.lin_BIT_ERR_COUNT, F.lin_FRAMING_ERR_COUNT, F.lin_SYNC_ERR_COUNT]

/-- Counts a LIN error; the first since CNT_CLR raises EV(208 + 2n). -/
def State.linError (s : State) (n code : Nat) : State :=
  let first := linErrors.all fun f => s.gf (liB n) f == 0
  (s.inc (liB n) (linErrors.getD (code - 1) F.lin_SYNC_ERR_COUNT)).raiseIf first (208 + 2 * n) code

/-- The data words of an entry as bytes. -/
def State.ftData (s : State) (n id : Nat) : Bytes :=
  leBytes 4 (s.ft n id F.lin_FT_DATA_LO_DATA) ++ leBytes 4 (s.ft n id F.lin_FT_DATA_HI_DATA)

/-- Ln drives bytes after the sync byte; below 4.0 V of VSUP its transmitter holds recessive (R395). -/
def State.linDrive (s : State) (n : Nat) (b : Bytes) : State := if s.power.linLow then s else s.emit (.linTx n b)

/-- A header with identifier `id`, whose break fell at `time`, is on the bus for `hdr` further bit times of `bit`
picoseconds; its response is sent, received or ignored after it (R234). -/
def State.linHeader (s : State) (n id time : Nat) (coll : Option Nat) (hdr bit : Nat) (bad : Bool) : State :=
  let s1 := s.pf (liB n) F.lin_LIN_STS_LAST_ID id
  let open_ := if s.ftIs n id 2 then some ⟨id, time, coll⟩ else none
  (s1.linState n 2).setLin n { s1.linCh n with
    frame := open_, tx := some ⟨id, bit, s.ps + hdr * bit, s.ftIs n id 1, bad, none⟩ }

/-- Whether a frame is running on Ln. -/
def LinCh.busy (c : LinCh) : Bool := c.frame.isSome || c.tx.isSome

/-! ### Schedules (R238, R239) -/

/-- Table t becomes active from its entry 0. -/
def State.linTable (s : State) (n t : Nat) : State :=
  (s.pf (liB n) F.lin_SCHED_CTL_ACTIVE t).setLin n { s.linCh n with pos := 0 }

/-- The table changes that wait for the end of the slot: a collision's, then SWITCH's (log entry 36). -/
def State.linSwitches (s : State) (n : Nat) : State :=
  let s1 := match (s.linCh n).coll with
    | some t => (s.linTable n t)
    | none => s
  let s2 := s1.setLin n { s1.linCh n with coll := none }
  match (s2.linCh n).switch with
  | some t =>
    let s3 := s2.linTable n t
    (s3.setLin n { s3.linCh n with switch := none }).raise (209 + 2 * n) t
  | none => s2

/-- SCHED_LEN of the active table. -/
def State.linLen (s : State) (n : Nat) : Nat :=
  let w := s.gf (liB n) F.lin_SCHED_LEN
  let t := s.gf (liB n) F.lin_SCHED_CTL_ACTIVE
  bitsOf w (8 * t + 7) (8 * t)

/-- The next slot begins (R238). `err`: 1 a bit error in the header, 2 in the response. -/
def State.linSlot (s : State) (n err : Nat) : State :=
  let s1 := s.linSwitches n
  let b := liB n
  let t := s1.gf b F.lin_SCHED_CTL_ACTIVE
  let len := s1.linLen n
  if len = 0 then s1
  else
    let k := (s1.linCh n).pos % len
    let e (f : Fld) : Nat := s1.gf b (f.at (0x80 * t + 4 * k))
    let id := e F.lin_SCHED_ID
    let typ := e F.lin_SCHED_TYPE
    let s2 := s1.setLin n { s1.linCh n with pos := (k + 1) % len, due := none }
    if typ = 2 ∧ (!s2.ftIs n id 1 ∨ s2.ft n id F.lin_FT_CTL_UPDATED = 0) then s2
    else
      let pid := [BitVec.ofNat 8 (pidOf id)]
      if err = 1 ∨ s2.power.linLow then
        (((s2.pf b F.lin_LIN_STS_LAST_ID id).linDrive n []).linState n 1).linError n 5
      else
        (s2.linDrive n pid).linHeader n id s2.now (if typ = 1 then some (e F.lin_SCHED_COLL_TABLE) else none)
          (s2.gf b F.lin_LIN_CFG_BREAK_BITS + 21) (10 ^ 12 / s2.gf b F.lin_LIN_CFG_BAUD) (err == 2)

/-- LIN_SLOT_START: a slot of the commander Ln begins; `err`: 1 a bit error in its header, 2 in its response. A frame
that is still running delays the header (R238). -/
def execLinSlotStart (n err : Nat) (s : State) : Answer :=
  if s.linRuns n ∧ !s.on (liB n) F.lin_LIN_CFG_ROLE ∧ s.on (liB n) F.lin_SCHED_CTL_RUN then
    if (s.linCh n).busy then
      if (s.linCh n).due.isSome then .next s
      else .next ((s.setLin n { s.linCh n with due := some err }).inc (liB n) F.lin_SLOT_OVERRUN_COUNT)
    else .next (s.linSlot n err)
  else .next s

/-- The frame in progress ends; a slot that waited for it begins. -/
def State.linEnd (s : State) (n : Nat) : State :=
  let s0 := s.setLin n { s.linCh n with frame := none, tx := none }
  let s1 := if s0.run .lin n then s0.linState n 1 else s0
  match (s1.linCh n).due with
  | none => s1
  | some err =>
    let s2 := s1.setLin n { s1.linCh n with due := none }
    if s2.on (liB n) F.lin_SCHED_CTL_RUN ∧ s2.linRuns n then s2.linSlot n err else s2

/-- The header of `t` has ended: the first data byte of this channel's response starts, with the data words as they
stand (R237), a response is awaited, or the frame is over. A bit that reads back wrong ends the frame. -/
def State.linBegin (s : State) (n : Nat) (t : LinTx) : State :=
  let live (v : Nat) (a : State) : State := if a.run .lin n then a.linState n v else a
  if t.respond then
    if t.bad ∨ s.power.linLow ∨ !s.lineOn 2 then (s.linError n 5).linEnd n
    else
      let d := (s.ftData n t.id).take (s.ft n t.id F.lin_FT_CTL_LEN)
      let b := d ++ [s.linChecksum n t.id d]
      live 3 ((s.setLin n { s.linCh n with tx := some { t with sent := some (b, t.start + 10 * b.length * t.bit) } }).setFt n t.id
        F.lin_FT_CTL_UPDATED 0)
  else if (s.linCh n).frame.isSome then live 3 (s.setLin n { s.linCh n with tx := none })
  else s.linEnd n

/-- What Ln sends goes on by the clock: a header ends, a response is complete. -/
def State.linTick (s : State) (n : Nat) : State :=
  match (s.linCh n).tx with
  | none => s
  | some t =>
    match t.sent with
    | none => if s.ps < t.start then s else s.linBegin n t
    | some (b, e) =>
      if s.ps < e then s
      else if s.power.linLow ∨ !s.lineOn 2 then (s.linError n 5).linEnd n
      else (((s.linDrive n b).incW (liB n) F.lin_TX_OK_COUNT).perf 0x048 n 1).linEnd n

/-- LIN_HEADER_RX: the responder Ln has taken a break, a sync field at `rate` bit/s and a protected identifier; `ago`:
ns since the break's falling edge; `bad`: a bit error in the response (R232 to R235). A response that was still being
sent met the break as a bit error. Where the rate is measured, the response is sent at it. -/
def execLinHeaderRx (n rate pid ago : Nat) (bad : Bool) (s : State) : Answer :=
  let b := liB n
  if s.linRuns n ∧ s.on b F.lin_LIN_CFG_ROLE then
    let cut := if (s.linCh n).tx.isSome then s.linError n 5 else s
    let s0 := (cut.setLin n { cut.linCh n with frame := none, tx := none }).linState n 1
    let baud := s0.gf b F.lin_LIN_CFG_BAUD
    if s0.on b F.lin_LIN_CFG_AUTOBAUD ∧ (rate * 100 < baud * 86 ∨ baud * 114 < rate * 100) then .next (s0.linError n 7)
    else if pid % 256 ≠ pidOf (pid % 64) then .next (s0.linError n 4)
    else
      let bit := 10 ^ 12 / (if s0.on b F.lin_LIN_CFG_AUTOBAUD then rate else baud)
      .next ((s0.linHeader n (pid % 64) ((s0.now + 2 ^ 64 - ago) % 2 ^ 64) none 0 bit bad).linTick n)
  else .next s

/-- A response is stored (R236). -/
def State.linStore (s : State) (n id time : Nat) (d : Bytes) : State :=
  let unread := s.ft n id F.lin_FT_CTL_NEW_DATA == 1
  let s1 := (s.setFt n id F.lin_FT_STAMP_STAMP (time % 2 ^ 32)).setFt n id F.lin_FT_DATA_LO_DATA (leAt d 0 4)
  let s2 := (s1.setFt n id F.lin_FT_DATA_HI_DATA (leAt d 4 4)).setFt n id F.lin_FT_CTL_NEW_DATA 1
  let s3 := if unread then (s2.setFt n id F.lin_FT_CTL_LOST 1).inc (liB n) F.lin_RX_LOST_COUNT else s2
  if s3.ft n id F.lin_FT_CTL_BRIDGE = 1 then s3.bridgeIn (.lin n id d) time else s3

/-- A collision of an event-triggered frame (R238). -/
def State.linCollision (s : State) (n : Nat) (o : LinOpen) : State :=
  match o.coll with
  | none => s
  | some t => (s.setLin n { s.linCh n with coll := some t }).raise (209 + 2 * n) (0x80 + t)

/-- A responder goes to Sleep (R414). -/
def State.linSleep (s : State) (n : Nat) : State :=
  let s1 := (s.pf (liB n) F.lin_LIN_TRCV_STATE 1).linState n 4
  (s1.setLin n { s1.linCh n with frame := none, tx := none, due := none }).raise 274 (0x80 + n)

/-- LIN_RESPONSE_RX: a subscribed response ends in time; `bytes`: data and checksum; `framing`: a byte had a dominant
stop bit (R235, R236, R238). -/
def execLinResponseRx (n : Nat) (bytes : Bytes) (framing : Bool) (s : State) : Answer :=
  if n < 8 ∧ s.alive .lin n ∧ s.lineOn 2 then
    match (s.linCh n).frame with
    | none => .next s
    | some o =>
      let len := s.ft n o.id F.lin_FT_CTL_LEN
      let d := bytes.take len
      if framing then .next (((s.linError n 6).linCollision n o).linEnd n)
      else if bytes.length ≤ len then .next s
      else if (bytes.drop len).head? = some (s.linChecksum n o.id d) then
        let s1 := (s.incW (liB n) F.lin_RX_OK_COUNT).perf 0x048 n 1
        let s2 := (s1.linStore n o.id o.time d).linEnd n
        let gts := s2.gf (pageBase .pwrWake 0) (F.pwrWake_LINW_CTL_GTS_EN.at (4 * n)) = 1
        .next (if gts ∧ o.id = 0x3C ∧ s2.on (liB n) F.lin_LIN_CFG_ROLE ∧ d.head? = some 0 then s2.linSleep n else s2)
      else .next (((s.linError n 3).linCollision n o).linEnd n)
  else .next s

/-- LIN_RESPONSE_TIMEOUT: the frame's maximum time expires after `got` bytes (R235). -/
def execLinResponseTimeout (n got : Nat) (s : State) : Answer :=
  if n < 8 ∧ s.alive .lin n ∧ (s.linCh n).frame.isSome then .next ((s.linError n (if got = 0 then 1 else 2)).linEnd n)
  else .next s

/-! ### Register writes (R237, R239, R240) -/

/-- FT_DATA_LO of a publish entry is staged: the register keeps what it held. -/
def State.linStage (s : State) (n id held value : Nat) : State :=
  let c := s.linCh n
  (s.setFt n id F.lin_FT_DATA_LO_DATA held).setLin n { c with staged := put (fun _ => 2 ^ 32) c.staged id value }

/-- FT_DATA_HI of a publish entry commits what was staged and sets UPDATED. -/
def State.linCommit (s : State) (n id : Nat) : State :=
  let c := s.linCh n
  let v := look (fun _ => 2 ^ 32) c.staged id
  let s1 := if v < 2 ^ 32 then s.setFt n id F.lin_FT_DATA_LO_DATA v else s
  (s1.setLin n { c with staged := put (fun _ => 2 ^ 32) c.staged id (2 ^ 32) }).setFt n id F.lin_FT_CTL_UPDATED 1

/-- Both data words of a publish entry, as the bridge writes them (R255). -/
def State.linPut (s : State) (n id lo hi : Nat) : State :=
  ((s.linStage n id (s.ft n id F.lin_FT_DATA_LO_DATA) lo).setFt n id F.lin_FT_DATA_HI_DATA hi).linCommit n id

/-- What a write of a register of Ln starts. -/
def State.linTrigger (n o : Nat) (w : Word) (old s : State) : State :=
  if o = 0x044 then
    if bitOf w.toNat 8 then
      let t := s.gf (liB n) F.lin_SCHED_CTL_NEXT
      let s1 := s.setLin n { s.linCh n with switch := some t }
      if s1.on (liB n) F.lin_SCHED_CTL_RUN then s1 else s1.linSwitches n
    else s
  else if o = 0x050 then
    let s1 := if bitOf w.toNat 1 ∧ s.run .lin n ∧ s.lineOn 2 ∧ !s.power.linLow then s.emit (.linWake n) else s
    if !s1.run .lin n then s1
    else if s1.on (liB n) F.lin_LIN_TRCV_STATE then
      (s1.linState n 4).setLin n { s1.linCh n with frame := none, tx := none, due := none }
    else if s1.gf (liB n) F.lin_LIN_STS_STATE = 4 then s1.linState n 1
    else s1
  else if 0x400 ≤ o ∧ o < 0x800 then
    let id := (o - 0x400) / 16
    if s.ft n id F.lin_FT_CTL_DIR = 1 ∧ o % 16 = 8 then
      s.linStage n id (old.ft n id F.lin_FT_DATA_LO_DATA) w.toNat
    else if s.ft n id F.lin_FT_CTL_DIR = 1 ∧ o % 16 = 12 then s.linCommit n id
    else s
  else s

/-- A host write of a register of Ln. -/
def State.linWrite (s : State) (n o : Nat) (w : Word) : State :=
  if n < 8 then s.hostWrite (liB n + o) w (State.linTrigger n o w s) else s

/-- LIN_DATA_STAGE: the host writes FT_DATA_LO of entry `id`. -/
def execLinDataStage (n id : Nat) (w : Word) (s : State) : Answer :=
  .next (if id < 64 then s.linWrite n (0x408 + 16 * id) w else s)

/-- LIN_DATA_COMMIT: the host writes FT_DATA_HI of entry `id`. -/
def execLinDataCommit (n id : Nat) (w : Word) (s : State) : Answer :=
  .next (if id < 64 then s.linWrite n (0x40C + 16 * id) w else s)

/-- SCHED_SWITCH: the host writes SCHED_CTL. -/
def execSchedSwitch (n : Nat) (w : Word) (s : State) : Answer := .next (s.linWrite n 0x044 w)

/-- WAKE_TX: the host writes LIN_TRCV. -/
def execWakeTx (n : Nat) (w : Word) (s : State) : Answer := .next (s.linWrite n 0x050 w)

/-- The page of Ln enters RUN. -/
def State.linRun (s : State) (n : Nat) : State :=
  s.linState n (if s.on (liB n) F.lin_LIN_TRCV_STATE then 4 else 1)

/-- The page of Ln leaves RUN. -/
def State.linLeave (s : State) (n : Nat) : State := s.linState n 0

/-- SRST of Ln ends the frame on the wire and returns the schedule to entry 0 of ACTIVE (R242). -/
def State.linSrst (s : State) (n : Nat) : State :=
  s.setLin n { s.linCh n with pos := 0, frame := none, tx := none, due := none, coll := none, switch := none }

end Sys2Proof.Machine
end

