-- ==== Sys2Proof/Machine/Bridge.lean ====
section
/-! DEFINITION. The bus bridge (Chapter 8): route lookup, banks and flips, copies to buses, transmit tunnels and frames
for the Kettle clusters. -/

namespace Sys2Proof.Machine

/-- Bases of the BRG global and tunnel pages. -/
def bgB : Nat := pageBase .brgGlobal 0
def btB : Nat := pageBase .brgTunnel 0

/-- Six address bytes from a HI and a LO field (R520). -/
def State.macOf (s : State) (base : Nat) (hi lo : Fld) : Bytes := beBytes 2 (s.gf base hi) ++ beBytes 4 (s.gf base lo)

/-- BRG.SRC_MAC. -/
def State.srcMac (s : State) : Bytes := s.macOf bgB F.brgGlobal_SRC_MAC_HI_MAC F.brgGlobal_SRC_MAC_LO_MAC

/-! ### Banks and flips (R250 to R252) -/

/-- Sets the pending request. -/
def State.rtPend (s : State) (r : FlipReq) : State :=
  ({ s with brg := { s.brg with flip := r } }).pf bgB F.brgGlobal_RT_BANK_FLIP_PEND (b2n (r != FlipReq.none))

/-- FLIP_AT. -/
def State.rtAt (s : State) : Nat := s.g64 bgB F.brgGlobal_FLIP_AT_LO_NS F.brgGlobal_FLIP_AT_HI_NS

/-- The flip itself; a timed one keeps its boundary while it drains (R251). -/
def State.rtFlip (s : State) (timed : Bool) : State :=
  let fg := 1 - s.gf bgB F.brgGlobal_RT_BANK_FG
  let s1 := ((s.pf bgB F.brgGlobal_RT_BANK_FG fg).pf bgB F.brgGlobal_RT_BANK_DRAINING 1).rtPend FlipReq.none
  ({ s1 with brg := { s1.brg with bound := if timed then some (s1.rtAt % 2 ^ 32) else none } }).raise 288 fg

/-- Carries out a request that can be. `waited` says that it had to wait for DRAINING; a timed flip that runs after
its time sets LATE (R251, R352). -/
def State.rtProceed (s : State) (waited : Bool) : State :=
  if s.on bgB F.brgGlobal_RT_BANK_DRAINING then s
  else
    match s.brg.flip with
    | .none => s
    | .now => s.rtFlip false
    | .late => (s.pf bgB F.brgGlobal_RT_BANK_LATE 1).rtFlip true
    | .at_ =>
      if s.rtAt ≤ s.now then
        (if waited && decide (s.rtAt < s.now) then s.pf bgB F.brgGlobal_RT_BANK_LATE 1 else s).rtFlip true
      else s

/-- What a write of a BRG global register starts: RT_FLIP, and EXT_SEED that its bank refuses (R250, R251). -/
def State.bgTrigger (o : Nat) (w : Word) (old s : State) : State :=
  if o = 0x044 then
    let n := w.toNat
    let s1 := if bitOf n 2 then s.rtPend FlipReq.none else s
    let s2 := if bitOf n 1 then s1.rtPend (if s1.rtAt < s1.now then FlipReq.late else FlipReq.at_) else s1
    if bitOf n 0 then (s2.rtPend FlipReq.now).rtProceed false else s2
  else if o = 0x050 ∨ o = 0x054 then
    if s.on bgB F.brgGlobal_RT_BANK_DRAINING ∨ s.gf bgB F.brgGlobal_RT_BANK_FG = (o - 0x050) / 4 then
      (s.wr (bgB + o) (old.rd (bgB + o))).inc bgB F.brgGlobal_BANK_WR_REJ_COUNT
    else s
  else s

/-- RT_FLIP_NOW, RT_FLIP_AT, RT_FLIP_CANCEL: the host writes RT_FLIP. -/
def execRtFlipNow (s : State) : Answer := .next (s.hostWrite (bgB + 0x044) 1 (State.bgTrigger 0x044 1 s))

def execRtFlipAt (s : State) : Answer := .next (s.hostWrite (bgB + 0x044) 2 (State.bgTrigger 0x044 2 s))

def execRtFlipCancel (s : State) : Answer := .next (s.hostWrite (bgB + 0x044) 4 (State.bgTrigger 0x044 4 s))

/-- RT_FLIP_DUE: TIME_NS has reached FLIP_AT. -/
def execRtFlipDue (s : State) : Answer :=
  .next (if s.brg.flip = .at_ ∨ s.brg.flip = .late then s.rtProceed false else s)

/-- RT_DRAIN_END: the draining period ends; a waiting flip proceeds (R251, R252). -/
def execRtDrainEnd (s : State) : Answer :=
  if s.on bgB F.brgGlobal_RT_BANK_DRAINING then
    .next (({ s with brg := { s.brg with bound := none } }.pf bgB F.brgGlobal_RT_BANK_DRAINING 0).rtProceed true)
  else .next s

/-- A write of a word of the routing region (Table 8-3, R249, R250); gaps ignore it. The two banks of a table are one
table for the words that are held. -/
def State.routeWrite (s : State) (off v : Nat) : State :=
  let lost (t : State) : State := t.inc bgB F.brgGlobal_STAGE_LOST_COUNT
  let bank (b base size : Nat) : State :=
    if s.on bgB F.brgGlobal_RT_BANK_DRAINING ∨ s.gf bgB F.brgGlobal_RT_BANK_FG = b then
      s.inc bgB F.brgGlobal_BANK_WR_REJ_COUNT
    else s.tableWrite base size off v lost (fun _ t => t)
  if off < 0x060C0000 then bank 0 0x06000000 16
  else if 0x06100000 ≤ off ∧ off < 0x061C0000 then bank 1 0x06000000 16
  else if 0x06200000 ≤ off ∧ off < 0x06280000 then bank 0 0x06200000 32
  else if 0x06280000 ≤ off ∧ off < 0x06300000 then bank 1 0x06200000 32
  else if 0x06300000 ≤ off ∧ off < 0x06302000 then bank 0 0x06300000 16
  else if 0x06302000 ≤ off ∧ off < 0x06304000 then bank 1 0x06300000 16
  else s

/-! ### Entries (R246 to R248) -/

/-- The bank that a frame with a receive stamp is routed under (R251). -/
def State.rtBank (s : State) (stamp : Nat) : Nat :=
  let fg := s.gf bgB F.brgGlobal_RT_BANK_FG
  match s.brg.bound with
  | some b => if toSigned 32 (stamp + 2 ^ 32 - b) < 0 then 1 - fg else fg
  | none => fg

/-- BAR2 offset of the entry of a frame in a bank (R246, R247). -/
def State.routeOff (s : State) (m : BusMsg) (bank : Nat) : Option Nat :=
  match m with
  | .can n f =>
    if f.ide then
      let key := BitVec.ofNat 8 n :: beBytes 4 f.id
      let b := 0x06200000 + 0x80000 * bank +
        128 * (hashH (s.gf bgB (F.brgGlobal_EXT_SEED_SEED.at (4 * bank))) key % 4096)
      ([0, 1, 2, 3].map fun w => b + 32 * w).find? fun e =>
        bitOf (s.b2w e) 31 && bitsOf (s.b2w (e + 16)) 28 0 == f.id && bitsOf (s.b2w (e + 20)) 4 0 == n
    else some (0x06000000 + 0x100000 * bank + 16 * (2048 * n + f.id % 2048))
  | .lin n id _ => some (0x06300000 + 0x2000 * bank + 16 * (64 * n + id))

/-- A routing entry (Table 8-2). -/
structure Route where
  kettle : Option Nat
  can : Nat
  lin : Nat
  tunnel : Option Nat
  linId : Nat
  xlate : Bool
  fmt : Nat
  ide : Bool
  id : Nat
  pad : Byte
  sdt : Nat
  vcid : Nat
  deriving DecidableEq, Repr

/-- Reads the entry at a BAR2 offset; none where VALID = 0. -/
def State.routeAt (s : State) (e : Nat) : Option Route :=
  let b := s.b2Bytes e 16
  let w := leAt b 0 4
  if bitOf w 31 then
    some { kettle := if bitOf w 30 then some (bitsOf w 29 28) else none
           can := bitsOf w 23 0
           lin := byteAt b 5
           tunnel := if bitOf (byteAt b 4) 7 then some (byteAt b 4 % 64) else none
           linId := byteAt b 6 % 64
           xlate := bitOf (byteAt b 7) 7
           fmt := bitsOf (byteAt b 7) 6 4
           ide := bitOf (leAt b 8 4) 29
           id := bitsOf (leAt b 8 4) 28 0
           pad := BitVec.ofNat 8 (byteAt b 12)
           sdt := byteAt b 13
           vcid := byteAt b 14 }
  else none

/-! ### Copies (R253 to R256) -/

/-- A dropped copy (R256). -/
def State.chDrop (s : State) (k : Nat) : State :=
  let first := (List.range 32).all fun j => s.gf bgB (F.brgGlobal_CH_DROP_COUNT.at (4 * j)) == 0
  (s.inc bgB (F.brgGlobal_CH_DROP_COUNT.at (4 * k))).raiseIf first 289 k

/-- The smallest FD length that holds `n` bytes, with its DLC; none above 64 (Table 7-2). -/
def fdDlcFor (n : Nat) : Option Nat := (List.range 16).find? fun d => n ≤ fdLength d

/-- A CAN frame of a format: 0 Classical, 1 FD, 2 XL. -/
def makeFrame (ide : Bool) (id format dlc : Nat) (brs rtr : Bool) (sdt vcid af : Nat) (sec : Bool) (d : Bytes) :
    CanFrame :=
  canNorm ⟨ide, id, dlc + 2048 * b2n (format == 1) + 4096 * b2n (format == 2) + 8192 * b2n brs + 32768 * b2n rtr
    + 65536 * sdt + 16777216 * vcid, af, sec, d⟩

/-- The copy of a CAN frame in an output format (Table 8-4); none where it is dropped. -/
def copyCan (f : CanFrame) (ide : Bool) (id fmt : Nat) (pad : Byte) (sdt vcid : Nat) : Option CanFrame :=
  let src := w4Format f.w4
  let remote := w4Remote f.w4
  let n := f.data.length
  let out := match fmt with
    | 1 => 0
    | 2 => 1
    | 3 => 1
    | 4 => 2
    | _ => src
  let brs := if fmt = 2 then false else if fmt = 3 then true else bitOf f.w4 13
  match out with
  | 0 =>
    if src = 0 then some (makeFrame ide id 0 (w4Dlc f.w4 % 16) false remote 0 0 0 false f.data)
    else if 8 < n then none
    else some (makeFrame ide id 0 n false false 0 0 0 false f.data)
  | 1 =>
    if remote then none
    else
      (fdDlcFor n).map fun dlc =>
        makeFrame ide id 1 dlc brs false 0 0 0 false (f.data ++ List.replicate (fdLength dlc - n) pad)
  | _ =>
    if remote ∨ ide then none
    else
      let d := if n = 0 then [pad] else f.data
      let x := src == 2
      some (makeFrame false id 2 (d.length - 1) false false (if x then bitsOf f.w4 23 16 else sdt)
        (if x then bitsOf f.w4 31 24 else vcid) (if x then f.af else 0) (x && f.sec) d)

/-- The copies waiting for Cm. -/
def State.copies (s : State) (m : Nat) : List CanFrame := look (fun _ => []) s.brg.queues m

/-- Replaces the copies waiting for Cm. -/
def State.setCopies (s : State) (m : Nat) (l : List CanFrame) : State :=
  { s with brg := { s.brg with queues := put (fun _ => []) s.brg.queues m l } }

/-- The pool of Cm (R254). -/
def State.poolOf (s : State) (m : Nat) : List Nat :=
  let first := s.gf bgB (F.brgGlobal_TX_POOL_FIRST.at (4 * m))
  ((List.range (s.gf bgB (F.brgGlobal_TX_POOL_COUNT.at (4 * m)))).map (· + first)).filter fun k =>
    k < 8192 && s.objOwner k == some m && s.objTx k && s.objBridge k

/-- The pool object that takes a copy (R254). -/
def State.poolFor (s : State) (m : Nat) (c : CanFrame) : Option Nat :=
  let pool := s.poolOf m
  let same (k : Nat) : Bool := s.objReq k && (s.objFrame k).id == c.id && (s.objFrame k).ide == c.ide
  if pool.any same then none
  else pool.find? fun k => !s.objReq k && decide (c.data.length ≤ (s.objArea k).getD 0)

/-- The first waiting copy that can be placed, with its object; `seen` are the identifiers of copies before it. -/
def State.placeable (s : State) (m : Nat) : List (Bool × Nat) → List CanFrame → Option (CanFrame × Nat)
  | _, [] => none
  | seen, c :: l =>
    if seen.contains (c.ide, c.id) then s.placeable m seen l
    else
      match s.poolFor m c with
      | some k => some (c, k)
      | none => s.placeable m ((c.ide, c.id) :: seen) l

/-- Writes the first waiting copy of Cm that can be placed into its pool object, and requests it (R254). -/
def State.placeCopy (s : State) (m : Nat) : Option State :=
  (s.placeable m [] (s.copies m)).map fun x =>
    let (c, k) := x
    let s1 := (s.setCopies m ((s.copies m).erase c)).b2Write (s.objData k) c.data
    let s2 := ((s1.objWr k 0 (putBits (s1.objRd k 0) 27 27 (b2n c.ide))).objWr k 1 c.id).objWr k 4 c.w4
    ((s2.objWr k 5 c.af).objW7 k 27 27 (b2n c.sec)).canRequest k

/-- BRIDGE_COPY_PLACE: a waiting copy of Cm is written into a pool object and requested (R254); none is begun outside
RUN (R276). -/
def execBridgeCopyPlace (m : Nat) (s : State) : Answer :=
  .next (if m < 24 ∧ s.run .brgGlobal 0 then (s.placeCopy m).getD s else s)

/-- Places what waits for Cm and can be placed. -/
def State.placeAll (s : State) (m : Nat) : Nat → State
  | 0 => s
  | fuel + 1 =>
    match s.placeCopy m with
    | none => s
    | some s1 => s1.placeAll m fuel

/-- A copy for Cm is placed, or joins its bridge queue, or is dropped where 32 copies wait that cannot be placed (R253,
R254, R256). Copies that can be placed are so by BRIDGE_COPY_PLACE, and here where the queue would be full. -/
def State.copyTo (s : State) (m : Nat) (f : Option CanFrame) : State :=
  match f with
  | none => s.chDrop m
  | some c =>
    if s.grade.canChannels ≤ m ∨ !s.canFormatOn m (w4Format c.w4) then s.chDrop m
    else if (s.copies m).length < 32 then s.setCopies m (s.copies m ++ [c])
    else
      let t := (s.setCopies m (s.copies m ++ [c])).placeAll m 33
      if (t.copies m).length ≤ 32 then t else s.chDrop m

/-- A copy for Lm (R255). -/
def State.copyLin (s : State) (m id : Nat) (d : Bytes) (pad : Byte) : State :=
  if s.alive .lin m ∧ s.ftIs m id 1 then
    let b := (d ++ List.replicate (8 - d.length) pad).take 8
    s.linPut m id (leAt b 0 4) (leAt b 4 4)
  else s.chDrop (24 + m)

/-! ### ACF messages (R259, R261, Tables 8-6 to 8-8) -/

/-- A message from its type, the flags of its third byte, its fourth byte, the rest of its header and its payload. -/
def acfMsg (typ flags b3 : Nat) (rest payload : Bytes) : Bytes :=
  let n := 4 + rest.length + payload.length
  let quads := (n + 3) / 4
  let pad := 4 * quads - n
  leBytes 1 (typ * 2 + quads / 256) ++ leBytes 1 quads ++ leBytes 1 (pad * 64 + flags) ++ leBytes 1 b3
    ++ rest ++ payload ++ List.replicate pad 0

/-- The message of a Classical or FD frame. -/
def acfCan (brief : Bool) (bus time : Nat) (f : CanFrame) : Bytes :=
  let flags := 16 * b2n (w4Remote f.w4) + 8 * b2n f.ide + 4 * b2n (bitOf f.w4 13) + 2 * b2n (w4Fdf f.w4)
    + b2n (bitOf f.w4 14)
  if brief then acfMsg 2 flags bus (beBytes 4 f.id) f.data
  else acfMsg 1 (32 + flags) bus (beBytes 8 time ++ beBytes 4 f.id) f.data

/-- The message of a LIN response. -/
def acfLin (bus time id : Nat) (d : Bytes) : Bytes := acfMsg 3 (32 + bus) id (beBytes 8 time) d

/-- An ACF-XL message with `d` of the frame's data at `off`; `frag`: 0 whole, 2 a fragment, 3 the last one. -/
def acfXl (bus time : Nat) (f : CanFrame) (frag off : Nat) (d : Bytes) : Bytes :=
  let flags := 32 + 16 * b2n f.sec + 8 * (frag / 2) + 4 * (frag % 2)
  acfMsg 0x7A flags bus (beBytes 8 time ++ beBytes 2 f.id ++ beBytes 1 (bitsOf f.w4 23 16)
    ++ beBytes 1 (bitsOf f.w4 31 24) ++ beBytes 4 f.af ++ beBytes 2 (w4Dlc f.w4) ++ beBytes 2 off) d

/-- The data of an XL frame cut into pieces of `size` bytes, with their offsets. -/
def cutData (size : Nat) : Nat → Nat → Bytes → List (Nat × Bytes)
  | 0, _, _ => []
  | fuel + 1, off, d =>
    if d.length ≤ size then [(off, d)] else (off, d.take size) :: cutData size fuel (off + size) (d.drop size)

/-- The messages of an XL frame: one, or its fragments (R261). -/
def acfXlAll (bus time : Nat) (f : CanFrame) (room : Nat) : List Bytes :=
  let size := min 2020 room / 4 * 4
  if f.data.length ≤ size ∨ size = 0 then [acfXl bus time f 0 0 f.data]
  else
    (cutData size 2048 0 f.data).map fun x =>
      acfXl bus time f (if x.1 + x.2.length = f.data.length then 3 else 2) x.1 x.2

/-- An NTSCF frame from DA to FCS (R259). -/
def ntscfFrame (da sa : Bytes) (tag : Option Nat) (seq : Nat) (stream acf : Bytes) : Bytes :=
  let tagB := match tag with
    | none => []
    | some t => beBytes 2 0x8100 ++ beBytes 2 t
  let head := leBytes 1 0x82 ++ leBytes 1 (0x80 + acf.length / 256) ++ leBytes 1 acf.length ++ leBytes 1 seq ++ stream
  let b := da ++ sa ++ tagB ++ beBytes 2 0x22F0 ++ head ++ acf
  let body := b ++ List.replicate (60 - b.length) 0
  body ++ ethFcs body

/-- A bus-frame header (Table 8-5). -/
def busHdr (kind src kcluster stamp : Nat) : Bytes :=
  leBytes 1 (kind * 32 + src) ++ leBytes 1 kcluster ++ [0, 0] ++ beBytes 4 stamp

/-! ### The queue toward F20 (R260) -/

/-- Bytes of a frame of ACF messages on the wire. -/
def tunBytes (tagged : Bool) (msgs : List Bytes) : Nat :=
  max 64 (30 + 4 * b2n tagged + msgs.flatten.length)

/-- Whether transmit tunnel t adds a tag. -/
def State.tunTag (s : State) (t : Nat) : Bool := s.on btB (F.brgTunnel_TUN_TX_TAG_EN.at (32 * t))

/-- Bytes of transmit tunnel t's frames not yet sent. -/
def State.tunHeld (s : State) (t : Nat) (x : Tunnel) : Nat :=
  (x.ready ++ x.opened.toList).foldl (fun a o => a + tunBytes (s.tunTag t) o.msgs) 0

/-- Bytes in the bridge's queue toward F20 (log entry 40). -/
def State.f20Bytes (s : State) : Nat :=
  let rx (f : RxFrame) : Nat := if f.src = 20 then 8 + f.bytes.length else 0
  let a := s.fwd.waiting.foldl (fun n f => n + rx f) 0
  let b := s.fwd.looked.foldl (fun n x => n + rx x.frame) 0
  let c := s.fab.entering.foldl (fun n f => n + if f.info.src = 20 then 8 + f.bytes.length else 0) 0
  s.brg.tunnels.foldl (fun n x => n + s.tunHeld x.1 x.2) (a + b + c)

/-- A frame enters at F20 behind its bus-frame header. -/
def State.f20Enter (s : State) (hdr bytes : Bytes) : State :=
  s.rxEnter ⟨20, beAt hdr 4 4, bytes, hdr, false, 0, none, 0, none⟩

/-! ### Transmit tunnels (R259 to R261) -/

/-- Transmit tunnel t. -/
def State.txTun (s : State) (t : Nat) : Tunnel := look (fun _ => ⟨[], none⟩) s.brg.tunnels t

/-- Replaces transmit tunnel t. -/
def State.setTxTun (s : State) (t : Nat) (x : Tunnel) : State :=
  { s with brg := { s.brg with tunnels := put (fun _ => ⟨[], none⟩) s.brg.tunnels t x } }

/-- A field of TUN_TX[t]. -/
def State.tunF (s : State) (t : Nat) (f : Fld) : Nat := s.gf btB (f.at (32 * t))

/-- The open frame of tunnel t is full. -/
def State.tunClose (s : State) (t : Nat) : State :=
  let x := s.txTun t
  s.setTxTun t ⟨x.ready ++ x.opened.toList, none⟩

/-- Whether a message fits the open frame of tunnel t beside those it holds (R260). -/
def State.tunFits (s : State) (t : Nat) (o : TunOpen) (m : Bytes) : Bool :=
  let l := o.msgs ++ [m]
  tunBytes (s.tunTag t) l ≤ s.tunF t F.brgTunnel_TUN_TX_4_MAX_FRAME && l.flatten.length ≤ 2044

/-- A message joins the open frame of tunnel t, which closes where it then is full (R260). -/
def State.tunAdd (s : State) (t src time : Nat) (m : Bytes) : State :=
  let s1 := match (s.txTun t).opened with
    | some o => if s.tunFits t o m then s else s.tunClose t
    | none => s
  let x := s1.txTun t
  let o : TunOpen := match x.opened with
    | some o => { o with msgs := o.msgs ++ [m] }
    | none => ⟨[m], src, time⟩
  let s2 := s1.setTxTun t { x with opened := some o }
  if s2.tunF t F.brgTunnel_TUN_TX_8_MAX_MSGS ≤ o.msgs.length ∨ s2.tunF t F.brgTunnel_TUN_TX_4_HOLD_US = 0 then s2.tunClose t
  else s2

/-- A frame goes into tunnel t, or is dropped because the queue toward F20 is full (R260, R261). -/
def State.tunCopy (s : State) (t : Nat) (m : BusMsg) (time : Nat) : State :=
  if !s.run .brgTunnel 0 ∨ s.tunF t F.brgTunnel_TUN_TX_VALID = 0 then s
  else
    let tagged := s.tunTag t
    let v := if tagged then 58 else 54
    let (src, msgs) := match m with
      | .lin n id d => (n, [acfLin n time id d])
      | .can n f =>
        if w4Xlf f.w4 then (n, acfXlAll n time f (s.tunF t F.brgTunnel_TUN_TX_4_MAX_FRAME - v))
        else (n, [acfCan (s.tunF t F.brgTunnel_TUN_TX_BRIEF == 1) n time f])
    let need := msgs.foldl (fun a x => a + tunBytes tagged [x]) 0
    if 65536 < s.f20Bytes + need then
      s.incFirst btB (F.brgTunnel_TX_DROP_COUNT.at (8 * t)) 290 t
    else if msgs.length = 1 then msgs.foldl (fun a x => a.tunAdd t src time x) s
    else
      let s1 := s.tunClose t
      let x := s1.txTun t
      s1.setTxTun t { x with ready := x.ready ++ msgs.map fun b => ⟨[b], src, time⟩ }

/-- Sends a frame of tunnel t toward F20 (R257, R259). -/
def State.tunSend (s : State) (t : Nat) (o : TunOpen) : State :=
  let seq := s.tunF t F.brgTunnel_TUN_TX_8_SEQ
  let da := s.macOf (btB + 32 * t) F.brgTunnel_TUN_TX_DA_HI_DA_HI F.brgTunnel_TUN_TX_DA_LO_DA_LO
  let tag := if s.tunTag t then
      some (s.tunF t F.brgTunnel_TUN_TX_PCP * 0x2000 + s.tunF t F.brgTunnel_TUN_TX_VID) else none
  let stream := beBytes 4 (s.tunF t F.brgTunnel_TUN_TX_STREAM_ID_HI_STREAM_ID_HI)
    ++ beBytes 4 (s.tunF t F.brgTunnel_TUN_TX_STREAM_ID_LO_STREAM_ID_LO)
  let s1 := s.f20Enter (busHdr 1 o.src 0 (o.time % 2 ^ 32)) (ntscfFrame da s.srcMac tag seq stream o.msgs.flatten)
  let s2 := s1.pf btB (F.brgTunnel_TUN_TX_8_SEQ.at (32 * t)) (seq + 1)
  (s2.incW btB (F.brgTunnel_TX_FRAMES_COUNT.at (8 * t))).perf 0x051 0 1

/-- TUNNEL_FRAME_SEND: the oldest full frame of tunnel t is sent. -/
def execTunnelFrameSend (t : Nat) (s : State) : Answer :=
  match (s.txTun t).ready with
  | [] => .next s
  | o :: rest =>
    if s.run .brgTunnel 0 then .next ((s.setTxTun t { s.txTun t with ready := rest }).tunSend t o) else .next s

/-- TUNNEL_HOLD_EXPIRY: HOLD_US has passed since the open frame's first message; it is sent, after those before it. -/
def execTunnelHoldExpiry (t : Nat) (s : State) : Answer :=
  if s.run .brgTunnel 0 ∧ (s.txTun t).opened.isSome then
    let s1 := s.tunClose t
    .next ((s1.txTun t).ready.foldl (fun a o => a.tunSend t o) (s1.setTxTun t ⟨[], none⟩))
  else .next s

/-- A frame for Kettle cluster `k` (R263). -/
def State.ktlCopy (s : State) (k : Nat) (m : BusMsg) (time : Nat) : State :=
  let da := (s.macOf bgB F.brgGlobal_KTL_MAC_HI_MAC F.brgGlobal_KTL_MAC_LO_MAC).take 5 ++ leBytes 1 k
  let (src, msgs) := match m with
    | .lin n id d => (n, [acfLin n time id d])
    | .can n f => (n, if w4Xlf f.w4 then acfXlAll n time f (2104 - 54) else [acfCan false n time f])
  let need := msgs.foldl (fun a x => a + 8 + tunBytes false [x]) 0
  if 65536 < s.f20Bytes + need then s.inc bgB F.brgGlobal_KTL_DROP_COUNT
  else msgs.foldl (fun a x => a.f20Enter (busHdr 2 src k (time % 2 ^ 32))
    (ntscfFrame da s.srcMac none 0 (List.replicate 8 0) x)) s

/-! ### Route lookup (R245, R246) -/

/-- Makes the copies that an entry asks for. -/
def State.routeBy (s : State) (r : Route) (m : BusMsg) (time : Nat) : State :=
  let s1 := s.incW bgB F.brgGlobal_BRIDGED_COUNT
  let (canSrc, linSrc, d) := match m with
    | .can n f => (n, 8, f.data)
    | .lin n _ d => (24, n, d)
  let copy := match m with
    | .can _ f => copyCan f (if r.xlate then r.ide else f.ide) (if r.xlate then r.id else f.id) r.fmt r.pad r.sdt r.vcid
    | .lin _ _ d => copyCan (makeFrame r.ide r.id 0 d.length false false 0 0 0 false d) r.ide r.id r.fmt r.pad r.sdt r.vcid
  let s2 := ((onesOf 24 r.can).filter (· != canSrc)).foldl (fun a c => a.copyTo c copy) s1
  let s3 := ((onesOf 8 r.lin).filter (· != linSrc)).foldl (fun a l => a.copyLin l r.linId d r.pad) s2
  let s4 := match r.tunnel with
    | some t => s3.tunCopy t m time
    | none => s3
  match r.kettle with
  | some k => s4.ktlCopy k m time
  | none => s4

/-- ROUTE_LOOKUP: the oldest stored frame is looked up (R245, R246). -/
def execRouteLookup (s : State) : Answer :=
  match s.brg.waiting with
  | [] => .next s
  | x :: rest =>
    if s.run .brgGlobal 0 then
      let s1 := ({ s with brg := { s.brg with waiting := rest } }).perf 0x050 0 1
      match (s1.routeOff x.msg (s1.rtBank (x.time % 2 ^ 32))).bind s1.routeAt with
      | none => .next (s1.inc bgB F.brgGlobal_NO_ROUTE_COUNT)
      | some r => .next (s1.routeBy r x.msg x.time)
    else .next s

/-! ### Receiving tunnels (R262, R264, R265) -/

/-- A field of receive tunnel r's registers. -/
def State.rtunF (s : State) (r : Nat) (f : Fld) : Nat := s.gf btB (f.at (16 * r))

/-- Counts ERR, or FRAG_ERR, of receive tunnel r (Table 8-16). -/
def State.rtunErr (s : State) (r : Nat) (frag : Bool) : State :=
  let e := F.brgTunnel_ERR_COUNT.at (16 * r)
  let g := F.brgTunnel_FRAG_ERR_COUNT.at (16 * r)
  let first := s.gf btB e == 0 && s.gf btB g == 0
  (s.inc btB (if frag then g else e)).raiseIf first 291 (128 * b2n frag + r)

/-- The context of receive tunnel r. -/
def State.setCtx (s : State) (r : Nat) (c : Option TunCtx) : State :=
  let others := s.brg.ctx.filter fun x => x.1 != r
  { s with brg := { s.brg with ctx := match c with
    | none => others
    | some v => others ++ [(r, v)] } }

/-- TUNNEL_FRAG_TIMEOUT: a context has been incomplete for 1 ms (R262). -/
def execTunnelFragTimeout (r : Nat) (s : State) : Answer :=
  if s.brg.ctx.any fun x => x.1 == r then .next ((s.setCtx r none).rtunErr r true) else .next s

/-- A CAN frame from a tunnel goes to Cb with OUT_FMT 0. -/
def State.tunToCan (s : State) (b : Nat) (f : CanFrame) : State := s.copyTo b (copyCan f f.ide f.id 0 0 0 0)

/-- An ACF-XL message: `d` its data (R262, R265). -/
def State.takeXl (s : State) (r seq : Nat) (m d : Bytes) : State :=
  let b2 := byteAt m 2
  let bus := byteAt m 3 % 32
  let time := beAt m 4 8
  let prio := beAt m 12 2 % 2048
  let off := beAt m 22 2 % 2048
  let f : CanFrame := makeFrame false prio 2 (d.length - 1) false false (byteAt m 14) (byteAt m 15) (beAt m 16 4) (bitOf b2 4) d
  if !bitOf b2 3 then (if d = [] then s.rtunErr r false else s.tunToCan bus f)
  else if off = 0 then
    if bitOf b2 2 then (s.setCtx r none).tunToCan bus f
    else s.setCtx r (some ⟨(seq + 1) % 256, bus, prio, time, f⟩)
  else
    match s.brg.ctx.find? (fun x => x.1 == r) with
    | none => s.rtunErr r true
    | some (_, c) =>
      let all := c.frame.data ++ d
      if c.seq = seq ∧ c.bus = bus ∧ c.prio = prio ∧ c.time = time ∧ off = c.frame.data.length ∧ all.length ≤ 2048 then
        let g := { c.frame with w4 := putBits c.frame.w4 10 0 (all.length - 1), data := all }
        if bitOf b2 2 then (s.setCtx r none).tunToCan bus g
        else s.setCtx r (some { c with seq := (seq + 1) % 256, frame := g })
      else (s.setCtx r none).rtunErr r true

/-- One message of an unwrapped frame (R265). -/
def State.takeMsg (s : State) (r seq : Nat) (m : Bytes) : State :=
  let typ := byteAt m 0 / 2
  let b2 := byteAt m 2
  let bus := byteAt m 3 % 32
  let head := match typ with
    | 1 => 16
    | 2 => 8
    | 3 => 12
    | _ => 24
  let d := (m.drop head).take (m.length - head - b2 / 64)
  if typ = 1 ∨ typ = 2 then
    let fdf := bitOf b2 1
    let id := beAt m (head - 4) 4 % 2 ^ 29
    let dlc := (List.range 16).find? fun k => (if fdf then fdLength k else if k ≤ 8 then k else 64) == d.length
    if bus ≤ 23 ∧ bitOf (s.rtunF r F.brgTunnel_TUN_RX_CHAN_MASK) bus then
      match dlc with
      | none => s.rtunErr r false
      | some k =>
        if !fdf ∧ 8 < d.length then s.rtunErr r false
        else s.tunToCan bus (makeFrame (bitOf b2 3) id (b2n fdf) k (bitOf b2 2) (bitOf b2 4 && !fdf) 0 0 0 false d)
    else s.rtunErr r false
  else if typ = 3 then
    if b2 % 32 ≤ 7 ∧ bitOf (s.rtunF r F.brgTunnel_TUN_RX_4_LIN_MASK) (b2 % 32) then s.copyLin (b2 % 32) (byteAt m 3 % 64) d 0
    else s.rtunErr r false
  else if typ = 0x7A then
    if bus ≤ 23 ∧ bitOf (s.rtunF r F.brgTunnel_TUN_RX_CHAN_MASK) bus then s.takeXl r seq m d else s.rtunErr r false
  else s.rtunErr r false

/-- The messages of an unwrapped frame, in order. -/
def State.takeMsgs (s : State) (r seq : Nat) : Nat → Bytes → State
  | 0, _ => s
  | fuel + 1, b =>
    if b = [] then s
    else
      let n := (byteAt b 0 % 2 * 256 + byteAt b 1) * 4
      let head := match byteAt b 0 / 2 with
        | 1 => 16
        | 2 => 8
        | 3 => 12
        | 0x7A => 24
        | _ => 4
      if b.length < n ∨ n < head then s.rtunErr r false
      else (s.takeMsg r seq (b.take n)).takeMsgs r seq fuel (b.drop n)

/-- The receive tunnel that a stream_id matches (R258, R264). -/
def State.rtunFor (s : State) (stream : Bytes) : Option Nat :=
  (List.range 32).find? fun r =>
    s.rtunF r F.brgTunnel_TUN_RX_VALID == 1 &&
      beBytes 4 (s.rtunF r F.brgTunnel_TUN_RX_STREAM_ID_HI_STREAM_ID_HI)
        ++ beBytes 4 (s.rtunF r F.brgTunnel_TUN_RX_STREAM_ID_LO_STREAM_ID_LO) == stream

/-- Unwraps a frame whose NTSCF header begins at the head of `b`, for receive tunnel r (R264, R265). -/
def State.unwrap (s : State) (r : Nat) (b : Bytes) : State :=
  let seq := byteAt b 3
  let len := byteAt b 1 % 8 * 256 + byteAt b 2
  let s1 := s.incW btB (F.brgTunnel_FRAMES_COUNT.at (16 * r))
  let s2 :=
    if s1.rtunF r F.brgTunnel_TUN_RX_SEQ_CHK = 1 ∧ seq ≠ s1.rtunF r F.brgTunnel_TUN_RX_4_EXP_SEQ then
      s1.inc btB (F.brgTunnel_SEQ_GAP_COUNT.at (16 * r))
    else s1
  let s3 := s2.pf btB (F.brgTunnel_TUN_RX_4_EXP_SEQ.at (16 * r)) (seq + 1)
  s3.takeMsgs r seq 2048 (slice b 12 len)

/-- SRST of the BRG global page discards the stored frames and the copies that wait (R49, R276). -/
def State.bridgeSrst (s : State) : State := { s with brg := { s.brg with waiting := [], queues := [] } }

/-- SRST of the tunnel page discards the frames that wait to be sent and the reassembly contexts (R49, R276). -/
def State.tunnelSrst (s : State) : State := { s with brg := { s.brg with tunnels := [], ctx := [] } }

/-- The tunnel page leaves RUN: the reassembly contexts are discarded (R276). -/
def State.tunnelLeave (s : State) : State := { s with brg := { s.brg with ctx := [] } }

end Sys2Proof.Machine
end

