-- ==== Sys2Proof/Machine/SigCache.lean ====
section
/-! DEFINITION. The Signal Cache (Chapter 9): the records of a bank, bit fields and transforms, signal and PDU state,
the timeout FIFO, and the forwarding of a value to its sinks (R280 to R283, R291, R292, R295, R322). -/

namespace Sys2Proof.Machine

/-- Bases of the SIG global page, the SIG node page, the cluster pages, the CRC pages and the DDR page. -/
def sgB : Nat := pageBase .sigGlobal 0
def ndB : Nat := pageBase .sigNode 0
def ktB (c : Nat) : Nat := pageBase .ktl c
def crB (k : Nat) : Nat := pageBase .crc k
def ddB : Nat := pageBase .ddr 0

/-! ### Bit fields (R281) -/

/-- The positions of a big-endian field, most significant bit first. -/
def beWalk : Nat → Nat → List Nat
  | 0, _ => []
  | n + 1, p => p :: beWalk n (if p % 8 = 0 then p + 15 else p - 1)

/-- The bit positions of a field of `n` bits at `start`, least significant bit first. -/
def fieldPos (be : Bool) (start n : Nat) : List Nat :=
  if be then (beWalk n start).reverse else (List.range n).map (start + ·)

/-- The value of a field; bytes past the end read 0. -/
def fieldGet (b : Bytes) (be : Bool) (start n : Nat) : Nat :=
  (fieldPos be start n).foldr (fun p a => 2 * a + b2n (bitOf (byteAt b (p / 8)) (p % 8))) 0

/-- Writes the bits of `v` into a list of positions; positions past the end are not written. -/
def putPositions (b : Bytes) : List Nat → Nat → Bytes
  | [], _ => b
  | p :: l, v =>
    putPositions (b.set (p / 8) (BitVec.ofNat 8 (putBits (byteAt b (p / 8)) (p % 8) (p % 8) v))) l (v / 2)

/-- Writes a field. -/
def fieldPut (b : Bytes) (be : Bool) (start n v : Nat) : Bytes := putPositions b (fieldPos be start n) v

/-- The low `n` bits of a value, extended to 64 bits. -/
def extend (n : Nat) (signed : Bool) (v : Nat) : Nat := if signed then ofSigned 64 (toSigned n v) else v % 2 ^ n

/-! ### Banks and their records (Tables 9-2 to 9-7) -/

/-- BAR2 offset of bank b. -/
def bankB (b : Nat) : Nat := 0x08000000 + 0x800000 * b

/-- What the device takes from a bank header (R295). -/
structure BankInfo where
  sigs : Nat
  pdus : Nat
  xforms : Nat
  seed : Nat
  deriving DecidableEq, Repr

/-- The counts and the seed of bank b; a count outside its limits is taken as the nearest limit (R295). -/
def State.bank (s : State) (b : Nat) : BankInfo :=
  let h := s.b2Bytes (bankB b + 0x3FF000) 24
  ⟨max 1 (min 131072 (leAt h 12 4)), max 1 (min 32768 (leAt h 16 2)), max 1 (min 256 (leAt h 18 2)), leAt h 20 4⟩

/-- A signal record (Table 9-3). -/
structure SigRec where
  valid : Bool
  sink : Bool
  be : Bool
  signed : Bool
  len : Nat
  start : Nat
  xform : Nat
  pdu : Nat
  next : Nat
  tmoAct : Nat
  tmoMs : Nat
  subst : Nat
  deriving DecidableEq, Repr

/-- Reads a signal record from its 16 bytes. -/
def sigRecOf (b : Bytes) : SigRec :=
  let w0 := leAt b 0 4
  let w1 := leAt b 4 4
  let w2 := leAt b 8 4
  { valid := bitOf w0 31, sink := bitOf w0 30, be := bitOf w0 29, signed := bitOf w0 28
    len := bitsOf w0 27 22 + 1, start := bitsOf w0 21 8, xform := bitsOf w0 7 0
    pdu := bitsOf w1 31 17, next := bitsOf w1 16 0
    tmoAct := bitsOf w2 31 30, tmoMs := min 2000 (bitsOf w2 15 0), subst := leAt b 12 4 }

/-- Signal record i of bank b, the index within the section. -/
def State.sigRec (s : State) (b i : Nat) : SigRec := sigRecOf (s.b2Bytes (bankB b + 16 * i) 16)

/-- SUBST or the initial value, extended to 64 bits (R281). -/
def SigRec.init (r : SigRec) : Nat := extend (min 32 r.len) r.signed r.subst

/-- A PDU record (Table 9-5). -/
structure PduRec where
  valid : Bool
  tx : Bool
  fmt : Nat
  chan : Nat
  origin : Nat
  fdf : Bool
  brs : Bool
  mode : Nat
  len : Nat
  id : Nat
  first : Nat
  count : Nat
  cluster : Nat
  period : Nat
  gapUs : Nat
  e2e : Bool
  unit : Nat
  maxDelta : Nat
  cntBits : Nat
  crcPos : Nat
  cntPos : Nat
  fill : Byte
  stream : Nat
  recipe : Nat
  nodeEn : Bool
  nodeTag : Nat
  sdt : Nat
  vcid : Nat
  deriving DecidableEq, Repr

/-- Reads a PDU record from its 32 bytes. -/
def pduRecOf (b : Bytes) : PduRec :=
  let w0 := leAt b 0 4
  let w8 := leAt b 8 4
  { valid := bitOf w0 31, tx := bitOf w0 30, fmt := bitsOf w0 29 28, chan := bitsOf w0 27 23
    origin := bitsOf w0 22 20, fdf := bitOf w0 19, brs := bitOf w0 18, mode := bitsOf w0 17 16
    len := bitsOf w0 10 0 + 1, id := bitsOf (leAt b 4 4) 28 0
    first := bitsOf w8 16 0, count := bitsOf w8 28 17, cluster := bitsOf w8 30 29
    period := min 2000 (leAt b 12 2), gapUs := leAt b 14 2
    e2e := bitOf (byteAt b 16) 7, unit := byteAt b 16 % 16
    maxDelta := byteAt b 17 / 16, cntBits := byteAt b 17 % 16
    crcPos := leAt b 18 2 % 2048, cntPos := leAt b 20 2 % 16384
    fill := BitVec.ofNat 8 (byteAt b 22), stream := byteAt b 23 % 16, recipe := leAt b 24 2 % 16384
    nodeEn := bitOf (leAt b 26 2) 15, nodeTag := leAt b 26 2 % 4096, sdt := byteAt b 28, vcid := byteAt b 29 }

/-- BAR2 offset of PDU record j of bank b. -/
def pduOff (b j : Nat) : Nat := bankB b + 0x200000 + 32 * j

/-- PDU record j of bank b, the index within the section. -/
def State.pduRec (s : State) (b j : Nat) : PduRec := pduRecOf (s.b2Bytes (pduOff b j) 32)

/-- An index within the signal section, the PDU section, the transform table of bank b (R295). -/
def State.sigIx (s : State) (b i : Nat) : Nat := i % (s.bank b).sigs
def State.pduIx (s : State) (b j : Nat) : Nat := j % (s.bank b).pdus
def State.xfIx (s : State) (b x : Nat) : Nat := x % (s.bank b).xforms

/-- The PDU map way that a key matches (R283): the PDU it names, within its section. -/
def State.pduFind (s : State) (b origin chan fmt id : Nat) : Option Nat :=
  let key0 := (origin * 32 + chan % 32) % 256
  let h := hashH (s.bank b).seed (leBytes 1 key0 ++ leBytes 1 fmt ++ beBytes 4 id)
  let bucket := bankB b + 0x300000 + 32 * (h % 8192)
  (([0, 8, 16, 24] : List Nat).map fun o => s.b2Bytes (bucket + o) 8).findSome? fun w =>
    if bitOf (leAt w 0 4) 31 ∧ bitsOf (leAt w 0 4) 28 0 = id ∧ byteAt w 4 = key0 ∧ byteAt w 5 % 4 = fmt then
      some (s.pduIx b (leAt w 6 2 % 32768))
    else none

/-! ### Transforms (R282) -/

/-- A signal value under transform entry x of bank b, before the final truncation; entry 0 is never read and copies. -/
def State.transform (s : State) (b x : Nat) (v : Int) : Int :=
  let x' := s.xfIx b x
  if x' = 0 then v
  else
    let e := s.b2Bytes (bankB b + 0x340000 + 32 * x') 32
    let t := (v * toSigned 32 (leAt e 0 4)) / (2 ^ min 63 (byteAt e 4) : Nat) + toSigned 64 (leAt e 8 8)
    if bitOf (byteAt e 5) 0 then max (toSigned 64 (leAt e 16 8)) (min (toSigned 64 (leAt e 24 8)) t) else t

/-! ### Signal state and PDU state (Table 9-6) -/

/-- BAR2 offset of signal state i of bank b. -/
def sigSt (b i : Nat) : Nat := bankB b + 0x400000 + 16 * i

/-- BAR2 offset of PDU state j of bank b. -/
def pduSt (b j : Nat) : Nat := bankB b + 0x600000 + 16 * j

/-- VALUE of signal i. -/
def State.sigVal (s : State) (b i : Nat) : Nat := leNat (s.b2Bytes (sigSt b i) 8)

/-- VALUE of signal i as a number: signed where the signal is. -/
def State.sigNum (s : State) (b i : Nat) : Int :=
  if (s.sigRec b i).signed then toSigned 64 (s.sigVal b i) else (s.sigVal b i : Nat)

/-- RECEIVED, TIMED_OUT and SUBST_USED of signal i. -/
def State.sigFlags (s : State) (b i : Nat) : Nat := (s.b2 (sigSt b i + 12)).toNat

/-- What an unlisted LAST_RX reads as. -/
def Sig.lastRxBase (g : Sig) (k : Nat) : Nat := if k < 131072 then g.base0 else g.base1

/-- LAST_RX of signal i. -/
def State.lastRx (s : State) (b i : Nat) : Nat := look s.sig.lastRxBase s.sig.lastRx (131072 * b + i)

/-- Sets LAST_RX of signal i. -/
def State.setLastRx (s : State) (b i v : Nat) : State :=
  { s with sig := { s.sig with lastRx := put s.sig.lastRxBase s.sig.lastRx (131072 * b + i) v } }

/-- Sets LAST_RX of every signal state of bank b. -/
def State.allLastRx (s : State) (b v : Nat) : State :=
  let rest := s.sig.lastRx.filter fun x => decide (x.1 < 131072) != (b == 0)
  { s with sig := if b = 0 then { s.sig with lastRx := rest, base0 := v } else { s.sig with lastRx := rest, base1 := v } }

/-- CHANGED of PDU j. -/
def State.pduChanged (s : State) (b j : Nat) : Bool := bitOf (s.b2 (pduSt b j + 9)).toNat 0

/-- Sets CHANGED of PDU j. -/
def State.setChanged (s : State) (b j : Nat) (v : Bool) : State :=
  s.b2Write (pduSt b j + 9) (leBytes 1 (putBits (s.b2 (pduSt b j + 9)).toNat 0 0 (b2n v)))

/-- Sets LAST_CNT, and SEEN where `seen`. -/
def State.setCount (s : State) (b j v : Nat) (seen : Bool) : State :=
  let fl := (s.b2 (pduSt b j + 9)).toNat
  s.b2Write (pduSt b j + 8) (leBytes 1 v ++ leBytes 1 (if seen then putBits fl 1 1 1 else fl))

/-- LAST_STAMP ← stamp, and COUNT one more (R285, R324). -/
def State.pduStamp (s : State) (b j stamp : Nat) : State :=
  (s.b2wr (pduSt b j) (stamp % 2 ^ 32)).b2wr (pduSt b j + 12) ((s.b2w (pduSt b j + 12) + 1) % 2 ^ 32)

/-- The words of the Signal Cache as BAR2 reads them: LAST_RX stands beside the stored bytes. -/
def State.cacheWord (s : State) (a : Nat) : Nat :=
  let b := (a - 0x08000000) / 0x800000
  let o := (a - 0x08000000) % 0x800000
  if 0x400000 ≤ o ∧ o < 0x600000 ∧ o % 16 = 8 then s.lastRx b ((o - 0x400000) / 16)
  else s.b2w a

/-! ### The timeout FIFO (R292) -/

/-- The FIFO and its level. -/
def State.setTmo (s : State) (l : List StampRec) : State :=
  (({ s with sig := { s.sig with tmo := l } }).pf sgB F.sigGlobal_TMO_LEVEL_LEVEL l.length).level 323 (l != []) 0

/-- A timeout or recovery record. -/
def State.tmoPush (s : State) (recover : Bool) (i : Nat) : State :=
  if s.sig.tmo.length < 256 then
    s.setTmo (s.sig.tmo ++ [⟨0x80000000 + 0x40000000 * b2n recover + i, s.stamp⟩])
  else s.inc sgB F.sigGlobal_TMO_LEVEL_LOST

/-- The pop of TMO_POP. -/
def State.popTmo (s : State) : Nat × State :=
  match s.sig.tmo with
  | [] => (0, s)
  | r :: rest =>
    (r.word, ((s.setTmo rest).pf sgB F.sigGlobal_TMO_POP_LAST_LAST r.word).pf sgB F.sigGlobal_TMO_STAMP_STAMP r.stamp)

/-! ### Updates (R291, R322) -/

/-- A sink receives a value: CHANGED of its PDU is set where it differs from the value held (R322). -/
def State.sinkSet (s : State) (b i w : Nat) : State :=
  let r := s.sigRec b i
  let v := extend r.len r.signed w
  if v = s.sigVal b i then s
  else (s.b2Write (sigSt b i) (leBytes 8 v)).setChanged b (s.pduIx b r.pdu) true

/-- A source is updated from a PDU (R322 step 2, R291). -/
def State.sourceSet (s : State) (b i v stamp : Nat) : State :=
  let fl := s.sigFlags b i
  let up := (leNat (s.b2Bytes (sigSt b i + 14) 2) + 1) % 65536
  let s1 := ((s.b2Write (sigSt b i) (leBytes 8 v)).setLastRx b i (stamp % 2 ^ 32)).b2Write (sigSt b i + 14) (leBytes 2 up)
  if bitOf fl 1 then
    ((s1.b2Write (sigSt b i + 12) (leBytes 1 (putBits (putBits fl 2 1 0) 0 0 1))).inc sgB
      F.sigGlobal_RECOVERIES_COUNT).tmoPush true i
  else s1.b2Write (sigSt b i + 12) (leBytes 1 (putBits fl 0 0 1))

/-- Writes the sinks of a chain from record index `i` on, at most `fuel` of them; answers how many there were and
whether the chain ended (R280, R322 step 3). -/
def State.chain (s : State) (b : Nat) (v : Int) : Nat → Nat → Nat → State × Nat × Bool
  | 0, i, n => (s, n, i == 0x1FFFF)
  | fuel + 1, i, n =>
    if i = 0x1FFFF then (s, n, true)
    else
      let k := s.sigIx b i
      let r := s.sigRec b k
      let w := if r.xform = 0 then v else s.transform b r.xform v
      (s.sinkSet b k (ofSigned r.len w)).chain b v fuel r.next (n + 1)

/-- The foreground bank and its epoch. -/
def State.fg (s : State) : Nat := s.gf sgB F.sigGlobal_BANK_STS_FG
def State.sigEpoch (s : State) : Nat := s.gf sgB F.sigGlobal_BANK_STS_EPOCH

/-- The TIME_NS that a receive stamp, its bits [31:0], stands for: the one nearest to now. -/
def State.stampTime (s : State) (stamp : Nat) : Int := s.now + toSigned 32 (stamp + 2 ^ 32 - s.stamp)

/-- Bank and epoch that a receive stamp belongs to (R21, R297); none where its epoch has drained. Near the flip instant
this is the signed 32-bit difference that R297 names; later no stamp is taken for an earlier one. -/
def State.epochOf (s : State) (stamp : Nat) : Option (Nat × Nat) :=
  match s.sig.instant with
  | none => some (s.fg, s.sigEpoch)
  | some t =>
    if s.stampTime stamp < (t : Int) then
      if s.on sgB F.sigGlobal_BANK_STS_DRAINING then some (1 - s.fg, (s.sigEpoch + 7) % 8) else none
    else some (s.fg, s.sigEpoch)

end Sys2Proof.Machine
end

