-- ==== Sys2Proof/Machine/Jalden.lean ====
section
/-! DEFINITION. Jalden Link (Chapter 8): lanes, discovery, the replay of frames, remote access as far as its requests
and completions travel, and the twin pair's peer. -/

namespace Sys2Proof.Machine

/-! ### What lane states mean for the node directory (R303, R304) -/

/-- The entries of the node directory. -/
def State.nodeList (s : State) : List (Nat × NodeEntry) := s.sig.nodes.filterMap fun x => x.2.map fun e => (x.1, e)

/-- The hold of a child whose lane has left UP begins (R303). -/
def State.holdChild (s : State) (owner : Nat) : State :=
  { s with sig := { s.sig with holds := (s.sig.holds.erase owner) ++ [owner] } }

/-- Every local entry is to be sent to the twin, after the departures that it has not heard of: a twin lane is UP (R275,
R304). -/
def State.shareNodes (s : State) : State :=
  let mine := (s.nodeList.map (·.2)).filter fun e => !e.remote && !e.twin
  let gone := s.sig.twinChanges.filter fun x => !x.2
  { s with sig := { s.sig with twinChanges := gone ++ mine.map fun e => (e, true) } }

/-- PEER_LOST has become 1: the hold of the TWIN entries begins (R304). -/
def State.holdTwin (s : State) : State :=
  { s with sig := { s.sig with twinHold := (s.nodeList.map (·.2)).filter (·.twin) } }

/-! ### Lane states (R270, Table 8-11) -/

/-- The twin lanes that are UP. -/
def State.twinLanes (s : State) : List Nat := (List.range 16).filter fun n => s.jlRole n == 2 && s.jlUp n

/-- PEER_UP follows the twin lanes; PEER_LOST and EV296 (R274, R275). -/
def State.peerUp (s : State) : State := s.pf jlB F.brgJalden_TWIN_STS_PEER_UP (b2n (s.twinLanes != []))

def State.peerLost (s : State) (v : Bool) : State := (s.pf jlB F.brgJalden_TWIN_STS_PEER_LOST (b2n v)).level 296 v 0

/-- A lane changes state; LINK of a Jalden lane is 1 while it is UP (log entry 43). -/
def State.setLane (s : State) (n st : Nat) : State :=
  if s.jlState n = st then s
  else
    let s1 := (s.pf jlB (F.brgJalden_JL_STS_STATE.at (4 * n)) st).raise 294 (n * 16 + st)
    let s2 := (s1.creditRun n s1.ps).pf (emB n) F.emac_LINK_STS_LINK (b2n (st == 2))
    (if st = 2 then s2.pf (emB n) F.emac_LINK_STS_SPEED 5 else s2).peerUp

/-- A completion goes back to lane `origin`; 16 stands for this unit. -/
def State.raccReply (s : State) (origin status rdata : Nat) (read : Bool) : State :=
  if origin = 16 then (if s.on jlB F.brgJalden_RACC_STS_BUSY then s.raccDone status rdata read else s)
  else if s.jlUp origin then s.jlSend origin 3 2 (leBytes 1 status ++ beBytes 4 rdata) 16
  else s

/-- Lane n leaves UP for a lost block lock or for 4 resends: the requests outstanding on it complete with STATUS 5, its
unacknowledged frames are lost (R270, Table 8-11). Requests that had not been sent end in the same way. -/
def State.laneLost (s : State) (n : Nat) : State :=
  let l := s.jl n
  let waiting := (l.wait.filter fun f => f.cls == 1 || (f.cls == 0 && f.typ == 2 && f.origin == 16)).map (·.origin)
  let s1 := (s.addSat jlB (F.brgJalden_REPLAY_LOST_COUNT.at (16 * n)) l.replay.length).setJl n JlLane.new
  (l.outst ++ waiting).foldl (fun a o => a.raccReply o 5 0 false) s1

/-- Lane n goes to DOWN or FAILED. Where it leaves UP, the hold of its child's nodes begins (R303); `lost`: what stands
on it is lost, as the row of Table 8-11 says, and otherwise it ends without more. -/
def State.laneTo (s : State) (n st : Nat) (lost : Bool) : State :=
  let up := s.jlUp n
  let s1 := s.setLane n st
  let s2 := if up && s.jlRole n = 1 then s1.holdChild (s.gf jlB (F.brgJalden_JL_STS_PEER_ID.at (4 * n))) else s1
  if up && lost then s2.laneLost n else s2.setJl n JlLane.new

/-- Lane n fails for a reason; 8 is that of 4 resends. -/
def State.laneFail (s : State) (n reason : Nat) : State :=
  (s.laneTo n 3 (reason == 8)).pf jlB (F.brgJalden_JL_STS_REASON.at (4 * n)) reason

/-- Whether lane n belongs to Jalden Link and may leave DOWN. -/
def State.laneOn (s : State) (n : Nat) : Bool :=
  n < 16 && (s.port n).mode == 5 && s.run .emac n && s.run .brgJalden 0

/-- JL_BLOCK_LOCK: lane n gains block lock. -/
def execJlBlockLock (n : Nat) (s : State) : Answer :=
  if n < 16 ∧ s.alive .emac n ∧ (s.port n).mode = 5 then
    let s1 := s.pf (emB n) F.emac_LINK_STS_BLOCK_LOCK 1
    if s1.laneOn n ∧ s1.jlState n = 0 then .next ((s1.setJl n JlLane.new).setLane n 1) else .next s1
  else .next s

/-- JL_BLOCK_LOCK_LOST: lane n loses block lock; FAILED is left only by RETRY. -/
def execJlBlockLockLost (n : Nat) (s : State) : Answer :=
  if n < 16 ∧ s.alive .emac n ∧ (s.port n).mode = 5 then
    let s1 := s.pf (emB n) F.emac_LINK_STS_BLOCK_LOCK 0
    if s1.jlState n = 1 ∨ s1.jlState n = 2 then .next (s1.laneTo n 0 true) else .next s1
  else .next s

/-- A lane that is DOWN and holds block lock goes to DISCOVER. -/
def State.laneRetry (s : State) (n : Nat) : State :=
  if s.laneOn n ∧ s.jlState n = 0 ∧ s.on (emB n) F.emac_LINK_STS_BLOCK_LOCK then (s.setJl n JlLane.new).setLane n 1 else s

/-- The page of a lane's MAC, or the Jalden page, leaves RUN. -/
def State.laneHeld (s : State) (n : Nat) : State := if s.jlState n = 0 then s else s.laneTo n 0 false

/-! ### Discovery (R271, Tables 8-11 and 8-12) -/

/-- The unit path, four levels. -/
def State.unitPath (s : State) : List Nat :=
  [s.gf jlB F.brgJalden_PATH01_L0, s.gf jlB F.brgJalden_PATH01_L1, s.gf jlB F.brgJalden_PATH23_L2,
   s.gf jlB F.brgJalden_PATH23_L3]

/-- DEPTH and ID of the unit. -/
def State.unitDepth (s : State) : Nat := s.gf jlB F.brgJalden_UNIT_DEPTH
def State.unitId (s : State) : Nat := s.gf jlB F.brgJalden_UNIT_ID

/-- The profile in force (GUARD.PROFILE.ACTIVE). -/
def State.profile (s : State) : Nat := s.gf (pageBase .guardGlobal 0) F.guardGlobal_PROFILE_ACTIVE

/-- The DISCOVER payload (R271), path levels beyond DEPTH 0; the stepping byte is the low byte of PAGE_VER. -/
def State.discover (s : State) (n : Nat) (accept : Bool) : Bytes :=
  let b := beBytes 2 (s.gf jlB F.brgJalden_UNIT_DOMAIN) ++ beBytes 2 s.unitId ++
    (([s.unitDepth, s.jlRole n, s.profile, s.grade.code, 0xB0, b2n accept] : List Nat).flatMap (leBytes 1))
    ++ ((s.unitPath.take (s.unitDepth + 1) ++ List.replicate 4 0).take 4).flatMap (beBytes 2)
  b ++ List.replicate (32 - b.length) 0

/-- Both ends send ACCEPT = 1: the lane is UP. A twin lane ends PEER_LOST and shares everything again (R275, R474). -/
def State.laneUp (s : State) (n : Nat) : State :=
  let l := s.jl n
  if s.jlState n = 1 ∧ l.sent ∧ l.peer then
    let s1 := (s.setJl n { l with seq := 0, exp := 0, retP := 0, retNP := 0 }).setLane n 2
    if s1.jlRole n = 2 then ({ s1.shareNodes with jal := { s1.jal with shared := [] } }).peerLost false else s1
  else s

/-- DISCOVER_SEND: lane n sends DISCOVER. Its header grants the whole receive buffer while the lane is in DISCOVER, and
returns the credits due once it is UP (R266). -/
def execDiscoverSend (n : Nat) (s : State) : Answer :=
  if s.laneOn n ∧ (s.jlState n = 1 ∨ s.jlState n = 2) then
    let l := s.jl n
    let accept := l.mine || s.jlState n == 2
    if s.jlState n = 2 then .next (s.jlEmit n 4 3 0 (s.discover n accept))
    else
      let s1 := s.emit (s.jalden n 4 3 0 ((l.exp + 65535) % 65536) 2048 16 (s.discover n accept))
      let s2 := (s1.incW jlB (F.brgJalden_TX_FRAMES_COUNT.at (16 * n))).setJl n { l with sent := l.sent || accept }
      .next (s2.laneUp n)
  else .next s

/-- The first discovery check that a peer's payload fails (Table 8-12, R464); 0 where it passes. -/
def State.discoverCheck (s : State) (n : Nat) (p : Bytes) : Nat :=
  let role := s.jlRole n
  let pRole := byteAt p 5
  let pDepth := byteAt p 4
  let pProfile := byteAt p 6
  let path := s.unitPath
  let pPath := ([0, 1, 2, 3] : List Nat).map fun i => beAt p (10 + 2 * i) 2
  let d := s.unitDepth
  let extends_ (parent child : List Nat) (cd cid : Nat) : Bool := child.take cd == parent.take cd && child.getD cd 0 == cid
  if beAt p 0 2 ≠ s.gf jlB F.brgJalden_UNIT_DOMAIN then 1
  else if !((role == 0 && pRole == 1) || (role == 1 && pRole == 0) || (role == 2 && pRole == 2)) then 2
  else if (role = 0 ∧ pDepth + 1 ≠ d) ∨ (role = 1 ∧ d + 1 ≠ pDepth) then 3
  else if 3 < pDepth ∨ 3 < d then 4
  else if (role = 0 ∧ !extends_ pPath path d s.unitId) ∨ (role = 1 ∧ !extends_ path pPath pDepth (beAt p 2 2))
      ∨ (role = 2 ∧ beAt p 2 2 ≠ s.unitId) then 5
  else if role = 2 ∧ (byteAt p 7 ≠ s.grade.code ∨ byteAt p 8 ≠ 0xB0) then 6
  else if role = 2 ∧ !((s.profile == 3 && pProfile == 4) || (s.profile == 4 && pProfile == 3)) then 7
  else 0

/-- The frames of lane n that an ACK covers leave its replay buffer: those up to and including SEQ `ack` (R269). -/
def State.jlAck (s : State) (n ack : Nat) : State :=
  let l := s.jl n
  let covered (f : JlFrame) : Bool := (ack + 65536 - f.seq) % 65536 < 32768
  let rest := l.replay.filter fun f => !covered f
  s.setJl n { l with replay := rest, stalls := if rest.length < l.replay.length then 0 else l.stalls }

/-- What a header on a lane that is UP carries beside its frame: an ACK and returned credits (R266, R269, Table 8-10).
-/
def State.jlHeader (s : State) (n ack creditP creditNp : Nat) : State :=
  let s1 := s.jlAck n ack
  let l := s1.jl n
  (s1.setJl n { l with credP := l.credP + creditP, credNP := l.credNP + creditNp }).jlDrain n

/-- DISCOVER_RX: a DISCOVER payload arrives on lane n with ACK and credits in its header. In DISCOVER the lane has sent
nothing that an ACK could cover. -/
def execDiscoverRx (n ack creditP creditNp : Nat) (payload : Bytes) (s : State) : Answer :=
  if s.laneOn n ∧ (s.jlState n = 1 ∨ s.jlState n = 2) then
    let s0 := s.incW jlB (F.brgJalden_RX_FRAMES_COUNT.at (16 * n))
    match s0.discoverCheck n payload with
    | 0 =>
      let s1 := s0.pf jlB (F.brgJalden_JL_STS_PEER_ID.at (4 * n)) (beAt payload 2 2)
      let l := s1.jl n
      if s1.jlState n = 2 then .next (s1.jlHeader n ack creditP creditNp)
      else
        .next ((s1.setJl n { l with
          mine := true, peer := l.peer || byteAt payload 9 != 0, credP := creditP, credNP := creditNp }).laneUp n)
    | r => .next ((s0.laneFail n r).raise 295 (n * 16 + r))
  else .next s

/-! ### Frames (R268, R269) -/

/-- The replay buffer's frames are sent again; the fourth time without ACK progress fails the lane (R269, R270). -/
def State.jlResend (s : State) (n : Nat) : State :=
  let l := s.jl n
  if l.replay = [] then s
  else
    let s1 := s.setJl n { l with stalls := l.stalls + 1 }
    let s2 := l.replay.foldl (fun a f => (a.jlEmit n f.typ f.cls f.seq f.payload).inc jlB
      (F.brgJalden_RESENDS_COUNT.at (16 * n))) s1
    if 4 ≤ l.stalls + 1 then s2.laneFail n 8 else s2

/-- A NAK: ACK is the last SEQ received in order. -/
def State.jlNak (s : State) (n : Nat) : State := s.jlEmit n 8 3 0 []

/-- JALDEN_FRAME_RX: a frame arrives on lane n; what the contents of requests, completions and records do are commands
of their own (log entry 44). -/
def execJaldenFrameRx (n typ cls seq ack creditP creditNp : Nat) (payload : Bytes) (crc : Bool) (s : State) : Answer :=
  if s.laneOn n ∧ s.jlUp n then
    if !crc then .next (s.jlNak n)
    else
      let s2 := s.jlHeader n ack creditP creditNp
      if cls = 3 then
        let s3 := s2.incW jlB (F.brgJalden_RX_FRAMES_COUNT.at (16 * n))
        .next (if typ = 8 then s3.jlResend n else s3)
      else if seq ≠ (s2.jl n).exp then .next (s2.jlNak n)
      else
        let s3 := (s2.setJl n { s2.jl n with exp := (seq + 1) % 65536 }).incW jlB (F.brgJalden_RX_FRAMES_COUNT.at (16 * n))
        if typ = 1 then
          let f : RxFrame := ⟨n, s3.rxStamp 0 0, payload, [], false, 0, none, payload.length, none⟩
          .next (s3.rxPlace n f)
        else
          let m := s3.jl n
          .next (s3.setJl n (if cls = 0 then { m with retP := m.retP + creditsOf payload.length }
            else if cls = 1 then { m with retNP := m.retNP + 1 } else m))
  else .next s

/-- JALDEN_REPLAY_TIMEOUT: no ACK has advanced for 10 µs. -/
def execJaldenReplayTimeout (n : Nat) (s : State) : Answer :=
  if s.laneOn n ∧ s.jlUp n then .next (s.jlResend n) else .next s

/-- JALDEN_IDLE_ACK: a lane with nothing else to send sends IDLE_ACK. -/
def execJaldenIdleAck (n : Nat) (s : State) : Answer :=
  if s.laneOn n ∧ s.jlUp n then .next (s.jlEmit n 7 3 0 []) else .next s

/-! ### Remote access (R266, R267, R273) -/

/-- How a request goes on. -/
inductive RaccHop
  | here
  | lane (n : Nat)
  | nowhere
  deriving DecidableEq, Repr

/-- The first lane that is UP with a role and, where given, a peer. -/
def State.laneFor (s : State) (role : Nat) (peer : Option Nat) : Option Nat :=
  (List.range 16).find? fun n => s.jlUp n && s.jlRole n == role &&
    (match peer with
     | none => true
     | some p => s.gf jlB (F.brgJalden_JL_STS_PEER_ID.at (4 * n)) == p)

/-- Where a unit sends a request on (R273); to a twin that is lost there is no way (R474). -/
def State.raccHop (s : State) (r : RaccReq) : RaccHop :=
  let toLane (o : Option Nat) : RaccHop := match o with
    | some n => .lane n
    | none => .nowhere
  let d := s.unitDepth
  let same := r.path.take (d + 1) == s.unitPath.take (d + 1)
  if same ∧ r.depth = d then
    if (s.profile = 3 ∧ r.twin = 1) ∨ (s.profile = 4 ∧ r.twin = 0) then
      (if s.on jlB F.brgJalden_TWIN_STS_PEER_LOST then .nowhere else toLane (s.laneFor 2 none))
    else .here
  else if same ∧ d < r.depth then toLane (s.laneFor 1 (some (r.path.getD (d + 1) 0)))
  else toLane (s.laneFor 0 none)

/-- The payload of a request (log entry 44). -/
def RaccReq.bytes (r : RaccReq) : Bytes :=
  r.path.flatMap (beBytes 2) ++ leBytes 1 r.depth ++ leBytes 1 r.twin ++ leBytes 1 r.op ++ [0] ++ beBytes 4 r.addr
    ++ beBytes 4 r.wdata

/-- Sends a request on lane n. -/
def State.raccSend (s : State) (n : Nat) (r : RaccReq) (origin : Nat) : State :=
  s.jlSend n 2 (if r.op = 1 then 0 else 1) r.bytes origin

/-- RACC_CMD.GO (R273). -/
def State.raccGo (s : State) (w : Word) : State :=
  if bitOf w.toNat 31 ∧ !s.on jlB F.brgJalden_RACC_STS_BUSY then
    let r : RaccReq :=
      { path := [s.gf jlB F.brgJalden_RACC_DST01_L0, s.gf jlB F.brgJalden_RACC_DST01_L1,
          s.gf jlB F.brgJalden_RACC_DST23_L2, s.gf jlB F.brgJalden_RACC_DST23_L3]
        depth := s.gf jlB F.brgJalden_RACC_CMD_DEPTH
        twin := s.gf jlB F.brgJalden_RACC_CMD_TWIN_SEL
        op := s.gf jlB F.brgJalden_RACC_CMD_OP
        addr := s.gf jlB F.brgJalden_RACC_ADDR_ADDR
        wdata := s.gf jlB F.brgJalden_RACC_WDATA_DATA }
    let s1 : State := { s.pf jlB F.brgJalden_RACC_STS_BUSY 1 with jal := { s.jal with op := r.op } }
    match s1.raccHop r with
    | .here => { s1 with jal := { s1.jal with own := some r } }
    | .lane n =>
      s1.raccSend n r 16
    | .nowhere => s1.raccDone 3 0 false
  else s

/-- RACC_COMPLETION_RX: a completion arrives on lane n for the request of `from_` (a lane; 16: this unit's own in
progress; 17: one of its own that has timed out, as 16 also stands for where none is in progress on the lane); it ends
the request, travels on, or is late (R267). -/
def execRaccCompletionRx (n from_ status rdata : Nat) (s : State) : Answer :=
  let origin := if from_ = 16 ∧ !(s.jl n).outst.contains 16 then 17 else from_
  if s.laneOn n ∧ s.jlUp n ∧ (s.jl n).outst.contains origin then
    let s1 := (s.setJl n { s.jl n with outst := (s.jl n).outst.erase origin }).jlDrain n
    if origin = 17 ∨ (origin = 16 ∧ !s1.on jlB F.brgJalden_RACC_STS_BUSY) then
      .next ((s1.inc jlB F.brgJalden_LATE_CPL_COUNT).raise 293 0)
    else .next (s1.raccReply origin status rdata (s1.jal.op == 0))
  else .next s

/-- The request in progress stays outstanding on its lane as one that has timed out: its completion will be late (R267).
-/
def State.raccStale (s : State) : State :=
  let stale (o : Nat) : Nat := if o = 16 then 17 else o
  (List.range 16).foldl (fun (a : State) n =>
    let l := a.jl n
    a.setJl n { l with
      outst := l.outst.map stale
      wait := l.wait.map fun f => if f.typ = 2 then { f with origin := stale f.origin } else f }) s

/-- RACC_TIMEOUT: CPL_TMO.US has passed without a completion (R267). A posted write waits for none: it ends once it has
been sent (R273). -/
def execRaccTimeout (s : State) : Answer :=
  if s.on jlB F.brgJalden_RACC_STS_BUSY ∧ s.jal.own.isNone ∧ s.jal.op ≠ 1 then .next (s.raccStale.raccDone 4 0 false) else .next s

/-- SRST of the Jalden page completes outstanding remote access with STATUS 5 (R276). -/
def State.jaldenSrst (s : State) : State :=
  let s1 := { s with jal := { s.jal with own := none } }
  if s1.on jlB F.brgJalden_RACC_STS_BUSY then s1.raccStale.raccDone 5 0 false else s1

/-- What a write of a Jalden page register starts. -/
def State.jaldenTrigger (o : Nat) (w : Word) (s : State) : State :=
  if o = 0x068 then s.raccGo w
  else if 0x080 ≤ o ∧ o < 0x0C0 then
    let n := (o - 0x080) / 4
    if bitOf w.toNat 4 ∧ s.jlState n = 3 then (s.laneTo n 0 false).laneRetry n else s.peerUp
  else s

/-- RACC_GO, JL_RETRY: the host writes RACC_CMD, or JL_LANE of lane n. -/
def execRaccGo (w : Word) (s : State) : Answer := .next (s.hostWrite (jlB + 0x068) w (State.jaldenTrigger 0x068 w))

def execJlRetry (n : Nat) (w : Word) (s : State) : Answer :=
  if n < 16 then .next (s.hostWrite (jlB + 0x080 + 4 * n) w (State.jaldenTrigger (0x080 + 4 * n) w)) else .next s

/-! ### The twin's peer (R275, R474) -/

/-- TWIN_PEER_TIMEOUT: no valid Jalden frame on any twin lane for PEER_TMO_US, whatever state the lanes' pages are in
(R275); the survivor's steps (R474). -/
def execTwinPeerTimeout (s : State) : Answer :=
  let lanes := (List.range 16).filter fun n => s.jlRole n == 2 && s.alive .brgJalden 0
  if lanes = [] ∨ s.on jlB F.brgJalden_TWIN_STS_PEER_LOST then .next s
  else
    let s1 := s.peerLost true
    let flush (a : State) (n : Nat) : State := (a.fdbRemove 0 false true n false 0).fdbRemove 1 false true n false 0
    .next (((lanes.foldl flush s1).autoDegrade 5 0).holdTwin)

end Sys2Proof.Machine
end

