-- ==== Sys2Proof/Machine/Nodes.lean ====
section
/-! DEFINITION. The node directory (R299 to R304): entries and their changes, the node FIFO, summaries to the parent
and from children, and the holds of R303 and R304. -/

namespace Sys2Proof.Machine

/-! ### Entries (R299 to R301) -/

/-- Whether two entries have one identity: OWNER, KIND, CHAN, KEY (R299). -/
def NodeEntry.same (a b : NodeEntry) : Bool :=
  a.owner == b.owner && a.kind == b.kind && a.chan == b.chan && a.key == b.key

/-- An entry as Table 9-9 lays it out; `valid` 0 announces a departure in a record (R302). -/
def NodeEntry.bytes (e : NodeEntry) (valid : Bool) : Bytes :=
  leBytes 4 (2 ^ 31 * b2n valid + 2 ^ 30 * b2n e.remote + 2 ^ 28 * e.kind + 2 ^ 23 * (e.chan % 32)
      + 2 ^ 22 * b2n e.twin + e.owner % 1024) ++ (e.key ++ List.replicate 6 0).take 6 ++ leBytes 2 e.nodeId ++ leBytes 4 e.seen

/-- The bytes of directory entry i as BAR2 reads them. -/
def State.nodeBytes (s : State) (i : Nat) : Bytes :=
  match look (fun _ => none) s.sig.nodes i with
  | some e => e.bytes true
  | none => List.replicate 16 0

/-- The node FIFO and its level (R300). -/
def State.setNodeFifo (s : State) (l : List Nat) : State :=
  (({ s with sig := { s.sig with nodeFifo := l } }).pf ndB F.sigNode_NODE_LEVEL_LEVEL l.length).level 326 (l != []) 0

/-- A record of the node FIFO. -/
def State.nodeRecord (s : State) (depart : Bool) (i : Nat) : State :=
  if s.sig.nodeFifo.length < 64 then s.setNodeFifo (s.sig.nodeFifo ++ [0x80000000 + 0x40000000 * b2n depart + i])
  else s.inc ndB F.sigNode_NODE_LEVEL_LOST

/-- Whether some lane toward the parent is UP. -/
def State.hasParent (s : State) : Bool := (List.range 16).any fun n => s.jlUp n && s.jlRole n == 0

/-- TWIN_CTL.SHARE_FDB, SHARE_SRF and SHARE_NODES (R274). -/
def shareFdb : Fld := ⟨0x04C, 0, 0⟩
def shareSrf : Fld := ⟨0x04C, 1, 1⟩
def shareNodesFld : Fld := ⟨0x04C, 2, 2⟩

/-- A change waits to be sent to the parent, and to the twin where the entry is local: also while no twin lane is UP,
until the peer is lost, which lets its entries of this unit go by themselves (R302, R304). -/
def State.nodeChange (s : State) (e : NodeEntry) (present : Bool) : State :=
  let s1 := if s.on ndB F.sigNode_SUM_CTL_SEND_EN ∧ s.hasParent then
      { s with sig := { s.sig with changes := s.sig.changes ++ [(e, present)] } } else s
  if !e.remote ∧ !e.twin ∧ s1.on jlB shareNodesFld ∧ !s1.on jlB F.brgJalden_TWIN_STS_PEER_LOST then
    { s1 with sig := { s1.sig with twinChanges := s1.sig.twinChanges ++ [(e, present)] } }
  else s1

/-- Writes entry i, and NODE_STS.COUNT. -/
def State.setNode (s : State) (i : Nat) (e : Option NodeEntry) : State :=
  let s1 := { s with sig := { s.sig with nodes := put (fun _ => none) s.sig.nodes i e } }
  s1.pf ndB F.sigNode_NODE_STS_COUNT s1.sig.nodes.length

/-- The entry of an identity. -/
def State.nodeFind (s : State) (e : NodeEntry) : Option (Nat × NodeEntry) := s.nodeList.find? fun x => x.2.same e

/-- The lowest free entry, in a list with rising numbers. -/
def freeNode : Nat → List (Nat × Option NodeEntry) → Nat
  | n, [] => n
  | n, (a, _) :: l => if a = n then freeNode (n + 1) l else n

/-- A node attaches or is seen again (R300, R301). -/
def State.nodeSeen (s : State) (e0 : NodeEntry) : State :=
  if s.run .sigNode 0 then
    let e := { e0 with seen := s.msCount % 2 ^ 32 }
    match s.nodeFind e with
    | some (i, x) => s.setNode i (some { e with twin := x.twin && e.twin })
    | none =>
      let i := freeNode 0 s.sig.nodes
      if i < 4096 then
        (((s.setNode i (some e)).incW ndB F.sigNode_ATTACHES_COUNT).nodeRecord false i).nodeChange e true
      else s.incFirst ndB F.sigNode_DIR_FULL_COUNT 327 0
  else s

/-- Entry i is removed (R300). -/
def State.nodeGone (s : State) (i : Nat) (e : NodeEntry) : State :=
  (((s.setNode i none).incW ndB F.sigNode_DEPARTS_COUNT).nodeRecord true i).nodeChange e false

/-- Removes the entries that `p` selects. -/
def State.nodesGone (s : State) (p : NodeEntry → Bool) : State :=
  (s.nodeList.filter fun x => p x.2).foldl (fun a x => a.nodeGone x.1 x.2) s

/-- A node departs. -/
def State.nodeLeft (s : State) (e : NodeEntry) : State := if s.run .sigNode 0 then s.nodesGone (·.same e) else s

/-- A local node of the unit. -/
def State.localNode (s : State) (kind chan : Nat) (key : Bytes) (id : Nat) : NodeEntry :=
  ⟨false, kind, chan, false, s.unitId, key, id, 0⟩

/-- The entry of a local CAN or LIN node (R300). -/
def State.pduNode (s : State) (p : PduRec) : NodeEntry :=
  s.localNode (if p.fmt = 2 then 1 else 0) p.chan (leBytes 2 p.nodeTag ++ [0, 0, 0, 0]) p.nodeTag

/-- NODE_DEPART_TIMEOUT: a local CAN or LIN entry has not been refreshed for DEPART_MS. -/
def execNodeDepartTimeout (i : Nat) (s : State) : Answer :=
  match look (fun _ => none) s.sig.nodes i with
  | some e => .next (if s.run .sigNode 0 ∧ !e.remote ∧ !e.twin ∧ e.kind < 2 then s.nodeGone i e else s)
  | none => .next s

/-- The pop of NODE_POP. -/
def State.popNode (s : State) : Nat × State :=
  match s.sig.nodeFifo with
  | [] => (0, s)
  | r :: rest => (r, (s.setNodeFifo rest).pf ndB F.sigNode_NODE_POP_LAST_LAST r)

/-- NODE_POP: a read of NODE_POP, of one word or of two. -/
def execNodePop (ndw : Nat) (s : State) : Answer := .next (s.popRead .sigNode 0 (ndB + 0x04C) ndw State.popNode)

/-! ### Summaries (R302, R303) -/

/-- Cuts a list into pieces of at most `k`. -/
def cutList {α : Type} (k : Nat) : Nat → List α → List (List α)
  | 0, l => [l]
  | fuel + 1, l => if l.length ≤ k then [l] else l.take k :: cutList k fuel (l.drop k)

/-- Numbers the elements of a list. -/
def numbered {α : Type} : Nat → List α → List (Nat × α)
  | _, [] => []
  | n, a :: l => (n, a) :: numbered (n + 1) l

/-- The NODE_SUMMARY frames of records, 575 to a frame; a snapshot marks its first and its last frame. -/
def summaryFrames (snapshot : Bool) (recs : List Bytes) : List Bytes :=
  let parts := cutList 575 8 recs
  (numbered 1 parts).map fun x =>
    let start := snapshot && x.1 == 1
    let last := snapshot && x.1 == parts.length
    leBytes 2 x.2.length ++ leBytes 1 (b2n start + 2 * b2n last) ++ [0] ++ x.2.flatten

/-- NODE_SUMMARY_SEND, under this unit's own ID (R32, R272): a snapshot, or the changes since the last summary, on each
lane toward the parent that is UP. -/
def execNodeSummarySend (snapshot : Bool) (s : State) : Answer :=
  if s.run .sigNode 0 ∧ s.on ndB F.sigNode_SUM_CTL_SEND_EN then
    let mine (e : NodeEntry) : NodeEntry := { e with owner := s.unitId }
    let recs := if snapshot then s.nodeList.map fun x => (mine x.2).bytes true
      else s.sig.changes.map fun x => (mine x.1).bytes x.2
    let frames := if snapshot ∨ recs ≠ [] then summaryFrames snapshot recs else []
    let s1 := if snapshot then s else { s with sig := { s.sig with changes := [] } }
    let lanes := (List.range 16).filter fun n => s.jlUp n && s.jlRole n == 0
    .next (lanes.foldl (fun (a : State) n => frames.foldl (fun (b : State) f => b.jlSend n 6 0 f 16) a) s1)
  else .next s

/-- What the snapshot of a child that runs on a lane has named so far; the two devices of a twin child send one each
(R272). `key` is 1024·lane + unit ID. -/
def State.namedOf (s : State) (key : Nat) : Option (List NodeEntry) :=
  (s.sig.named.find? fun x => x.1 == key).map (·.2)

/-- Replaces it. -/
def State.setNamed (s : State) (key : Nat) (l : Option (List NodeEntry)) : State :=
  let others := s.sig.named.filter fun x => x.1 != key
  { s with sig := { s.sig with named := match l with
    | none => others
    | some v => others ++ [(key, v)] } }

/-- The entry that a record of a child names. -/
def childNode (owner : Nat) (r : Bytes) : NodeEntry :=
  ⟨true, bitsOf (leAt r 0 4) 29 28, bitsOf (leAt r 0 4) 27 23, false, owner, slice r 4 6, leAt r 10 2, 0⟩

/-- Takes one record of a child (R303). -/
def State.takeNode (s : State) (key : Nat) (r : Bytes) : State :=
  let e := childNode (key % 1024) r
  let s1 := s.incW ndB F.sigNode_SUM_RX_COUNT
  if bitOf (leAt r 0 4) 31 then
    let s2 := s1.nodeSeen e
    match s2.namedOf key with
    | some l => s2.setNamed key (some (l ++ [e]))
    | none => s2
  else s1.nodeLeft e

/-- The records of a summary. -/
def summaryRecs : Nat → Bytes → List Bytes
  | 0, _ => []
  | n + 1, b => if b.length < 16 then [] else b.take 16 :: summaryRecs n (b.drop 16)

/-- NODE_SUMMARY_RX: a summary from unit `src` arrives on a lane to a child. -/
def execNodeSummaryRx (lane src : Nat) (payload : Bytes) (s : State) : Answer :=
  if s.jlUp lane ∧ s.jlRole lane = 1 ∧ s.run .sigNode 0 then
    let owner := src % 1024
    let key := 1024 * lane + owner
    let fl := byteAt payload 2
    let s1 := if bitOf fl 0 then s.setNamed key (some []) else s
    let s2 := (summaryRecs (leAt payload 0 2) (payload.drop 4)).foldl (fun (a : State) r => a.takeNode key r) s1
    if bitOf fl 1 then
      match s2.namedOf key with
      | some l =>
        let s3 := s2.nodesGone fun e => e.remote && e.owner == owner && !l.any (·.same e)
        .next ({ s3.setNamed key none with sig := { (s3.setNamed key none).sig with holds := s3.sig.holds.erase owner } })
      | none => .next s2
    else .next s2
  else .next s

/-- CHILD_HOLD_EXPIRY: CHILD_HOLD_MS after the lane to child `owner` left UP no snapshot has completed (R303). -/
def execChildHoldExpiry (owner : Nat) (s : State) : Answer :=
  if s.sig.holds.contains owner ∧ s.run .sigNode 0 then
    let s1 := { s with sig := { s.sig with holds := s.sig.holds.erase owner } }
    .next (s1.nodesGone fun e => e.remote && e.owner == owner)
  else .next s

/-- TWIN_NODE_HOLD_EXPIRY: CHILD_HOLD_MS after PEER_LOST the TWIN entries that have not come again go (R304). -/
def execTwinNodeHoldExpiry (s : State) : Answer :=
  if s.run .sigNode 0 then
    let old := s.sig.twinHold
    let s1 := { s with sig := { s.sig with twinHold := [] } }
    .next (s1.nodesGone fun e => e.twin && old.any (·.same e))
  else .next s

/-- A node record from the twin (R304). -/
def State.twinNode (s : State) (e0 : NodeEntry) (present : Bool) : State :=
  let e := { e0 with remote := false, twin := true, owner := s.unitId }
  if present then
    let s1 := { s with sig := { s.sig with twinHold := s.sig.twinHold.filter fun x => !x.same e } }
    s1.nodeSeen e
  else if s.run .sigNode 0 then s.nodesGone fun x => x.twin && x.same e
  else s

end Sys2Proof.Machine
end

