-- ==== Sys2Proof/Machine/Kettle.lean ====
section
/-! DEFINITION. The Kettle clusters but for their instructions (Chapter 10): job queues, the dispatcher with its
reassembly, the start and the end of jobs, and faults (R309 to R315, R330 to R332). -/

namespace Sys2Proof.Machine

/-! ### Clusters and cores -/

/-- A core that has run nothing. -/
def KCore.new : KCore := ⟨List.replicate 16 0, 0, none, 0, 0, 0, false, false, false, [], none, 0⟩

/-- Core Kk. -/
def State.kc (s : State) (k : Nat) : KCore := look (fun _ => KCore.new) s.cores k

/-- Replaces core Kk. -/
def State.setKc (s : State) (k : Nat) (x : KCore) : State :=
  { s with cores := put (fun _ => KCore.new) s.cores k x }

/-- Cluster c. -/
def State.cl (s : State) (c : Nat) : Cluster := look (fun _ => (⟨[], [], []⟩ : Cluster)) s.clusters c

/-- Replaces cluster c, with the level of its queue. -/
def State.setCl (s : State) (c : Nat) (x : Cluster) : State :=
  let s1 := { s with clusters := put (fun _ => (⟨[], [], []⟩ : Cluster)) s.clusters c x }
  let s2 := s1.pf (ktB c) F.ktl_QUEUE_LEVEL x.queue.length
  s2.pf (ktB c) F.ktl_QUEUE_PEAK (max (s2.gf (ktB c) F.ktl_QUEUE_PEAK) x.queue.length)

/-- Jobs dropped by cluster c. -/
def State.jobDrop (s : State) (c n : Nat) : State :=
  if n = 0 ∨ !s.alive .ktl c then s
  else
    let first := s.gf (ktB c) F.ktl_JOB_DROP_COUNT == 0
    (s.addSat (ktB c) F.ktl_JOB_DROP_COUNT n).raiseIf first (353 + 8 * c) 0

/-- A receive job joins the queue of cluster c, or is dropped (R312). -/
def State.rxJob (s : State) (c : Nat) (j : Job) : State :=
  let q := (s.cl c).queue
  if 64 ≤ q.length ∨ 48 ≤ (q.filter fun x => x.kind == 0).length then s.jobDrop c 1
  else s.setCl c { s.cl c with queue := q ++ [j] }

/-- A timeout or transmit job is offered to cluster c; answers whether the queue took it (R312, R332). -/
def State.offer (s : State) (c : Nat) (j : Job) : State × Bool :=
  if s.run .ktl c then
    let q := (s.cl c).queue
    if 64 ≤ q.length then (s.incFirst (ktB c) F.ktl_JOB_DEFER_COUNT (354 + 8 * c) 0, false)
    else (s.setCl c { s.cl c with queue := q ++ [j] }, true)
  else (s, false)

/-- A timeout or transmit job: what it does not carry is 0 (R315). -/
def Job.plain (kind pdu bank epoch stamp sig : Nat) : Job :=
  { kind := kind, pdu := pdu, bank := bank, epoch := epoch, origin := 0, chan := 0, stamp := stamp, sig := sig
    ident := 0, flags := 0, sdt := 0, vcid := 0, af := 0, data := [] }

/-- Whether an old-epoch job remains in any cluster (R297). -/
def State.epochBusy (s : State) (epoch : Nat) : Bool :=
  s.clusters.any (fun x => x.2.queue.any fun j => j.epoch == epoch) ||
    s.cores.any fun x => (x.2.job.map fun j => j.epoch == epoch).getD false

/-! ### The dispatcher (R283 to R286, R310, R311) -/

/-- The frame is counted in BAD_FRAME or NO_ORIGIN; EV(358 + 8c) at the first of either since CNT_CLR. -/
def State.badFrame (s : State) (c : Nat) (noOrigin : Bool) : State :=
  if s.alive .ktl c then
    let b := ktB c
    let first := s.gf b F.ktl_BAD_FRAME_COUNT == 0 && s.gf b F.ktl_NO_ORIGIN_COUNT == 0
    (s.inc b (if noOrigin then F.ktl_NO_ORIGIN_COUNT else F.ktl_BAD_FRAME_COUNT)).raiseIf first (358 + 8 * c)
      (if noOrigin then 2 else 1)
  else s

/-- FRAG_ERR of cluster c. -/
def State.fragErr (s : State) (c : Nat) : State := s.incFirst (ktB c) F.ktl_FRAG_ERR_COUNT (356 + 8 * c) 0

/-- What tells the XL frame of a context from others. -/
def KtlCtx.frameId (x : KtlCtx) : Nat × Nat × Nat × Nat := (x.origin, x.ctx.bus, x.ctx.prio, x.ctx.time)

/-- An XL frame is discarded or rejected; it counts once, whatever of it still comes (R311; log entry 54: the last 64
are remembered). -/
def State.fragLost (s : State) (c : Nat) (f : Nat × Nat × Nat × Nat) : State :=
  let k := s.cl c
  if k.rejected.contains f then s
  else (s.setCl c { k with rejected := (f :: k.rejected).take 64 }).fragErr c

/-- The ORIGIN of a stream_id (R310). -/
def State.originOf (s : State) (stream : Bytes) : Option Nat :=
  if stream = List.replicate 8 0 then some 0
  else ([1, 2, 3, 4, 5, 6, 7] : List Nat).find? fun k =>
    beBytes 4 (s.gf sgB (F.sigGlobal_ORIGIN_SID_HI_SID.at (8 * (k - 1)))) ++
      beBytes 4 (s.gf sgB (F.sigGlobal_ORIGIN_SID_LO_SID.at (8 * (k - 1)))) == stream

/-- The rate check of a receive PDU (R285). -/
def State.rateCheck (s : State) (b j stamp : Nat) (p : PduRec) : State :=
  let last := s.b2w (pduSt b j)
  let seen := s.b2w (pduSt b j + 12) != 0
  let early := p.gapUs != 0 && seen && decide ((stamp + 2 ^ 32 - last) % 2 ^ 32 < p.gapUs * 1000)
  let s1 := s.pduStamp b j stamp
  if early then s1.incFirst sgB F.sigGlobal_RX_EARLY_COUNT 325 0 else s1

/-- A PDU that the dispatcher of cluster c has taken: lookup and rate check under the bank of its epoch, then its job
(R284, R310). `j` carries what the message gave. -/
def State.takePdu (s : State) (c fmt : Nat) (j : Job) : State :=
  if !s.run .sigGlobal 0 then s
  else
    match s.epochOf j.stamp with
    | none => s.inc sgB F.sigGlobal_EPOCH_DROP_COUNT
    | some (b, ep) =>
      match s.pduFind b j.origin j.chan fmt (bitsOf j.ident 28 0) with
      | none => s.inc sgB F.sigGlobal_NO_PDU_COUNT
      | some k =>
        let p := s.pduRec b k
        let s1 := s.rateCheck b k j.stamp p
        let s2 := if j.data.length < p.len then s1.inc sgB F.sigGlobal_SHORT_PDU_COUNT else s1
        let s3 := if p.nodeEn ∧ j.origin = 0 then s2.nodeSeen (s2.pduNode p) else s2
        let job := { j with kind := 0, pdu := k, bank := b, epoch := ep, data := j.data.take p.len }
        if p.cluster = c then s3.rxJob c job
        else if s3.run .ktl p.cluster then
          (s3.incW (ktB p.cluster) F.ktl_REDIRECT_COUNT).rxJob p.cluster job
        else s3.jobDrop c 1

/-- The contexts of cluster c. -/
def State.setCtxs (s : State) (c : Nat) (l : List KtlCtx) : State := s.setCl c { s.cl c with ctxs := l }

/-- An ACF-XL message (R262, R311): `j` with the whole message's data, `seq` of its frame. A frame from the bridge
carries no sequence (R263, log entry 54). -/
def State.takeXlPdu (s : State) (c seq : Nat) (m : Bytes) (j : Job) : State :=
  let b2 := byteAt m 2
  let time := beAt m 4 8
  let prio := beAt m 12 2 % 2048
  let off := beAt m 22 2 % 2048
  let job (d : Bytes) : Job := { j with
    ident := prio, sdt := byteAt m 14, vcid := byteAt m 15, af := beAt m 16 4
    flags := 4 + 32 * b2n (bitOf b2 4), data := d }
  let mine (x : KtlCtx) : Bool := x.origin == j.origin && x.ctx.bus == j.chan
  let l := (s.cl c).ctxs
  let frame : CanFrame := ⟨false, prio, 4096, 0, false, j.data⟩
  let fresh : KtlCtx := ⟨j.origin, j.stamp, (seq + 1) % 256, j.chan, prio, time, frame⟩
  let id := fresh.frameId
  if !bitOf b2 3 then s.takePdu c 3 (job j.data)
  else if off = 0 then
    let s0 := (s.setCl c { s.cl c with rejected := (s.cl c).rejected.erase id }).setCtxs c (l.filter fun x => !mine x)
    let s1 := ((l.filter mine).map (·.frameId)).foldl (fun (a : State) f => a.fragLost c f) s0
    if bitOf b2 2 then s1.takePdu c 3 (job j.data)
    else
      let l1 := (s1.cl c).ctxs
      if 8 ≤ l1.length then
        (((l1.take 1).map (·.frameId)).foldl (fun (a : State) f => a.fragLost c f) s1).setCtxs c (l1.drop 1 ++ [fresh])
      else s1.setCtxs c (l1 ++ [fresh])
  else
    match l.find? mine with
    | none => s.fragLost c id
    | some x =>
      let all := x.ctx.frame.data ++ j.data
      let others := l.filter fun y => !mine y
      if (j.origin = 0 ∨ x.ctx.seq = seq) ∧ x.ctx.prio = prio ∧ x.ctx.time = time ∧ off = x.ctx.frame.data.length ∧ all.length ≤ 2048 then
        if bitOf b2 2 then (s.setCtxs c others).takePdu c 3 { job all with stamp := x.stamp }
        else
          let x' : KtlCtx := { x with ctx := { x.ctx with seq := (seq + 1) % 256, frame := { x.ctx.frame with data := all } } }
          s.setCtxs c (l.map fun y => if mine y then x' else y)
      else ((s.setCtxs c others).fragLost c x.frameId).fragLost c id

/-- One ACF message (R310 step 2): `stamp` is the RX_STAMP of its frame. -/
def State.takeAcf (s : State) (c seq origin stamp : Nat) (m : Bytes) : State :=
  let typ := byteAt m 0 / 2
  let b2 := byteAt m 2
  let head := match typ with
    | 1 => 16
    | 2 => 8
    | 3 => 12
    | _ => 24
  let d := ((m.drop head).take (m.length - head - b2 / 64)).take 2048
  let at_ := if origin ≠ 0 ∧ typ ≠ 2 ∧ bitOf b2 5 then beAt m 4 8 % 2 ^ 32 else stamp
  let j : Job := { Job.plain 0 0 0 0 at_ 0 with origin := origin, chan := byteAt m 3 % 32, data := d }
  if typ = 1 ∨ typ = 2 then
    let eff := bitOf b2 3
    let id := beAt m (head - 4) 4 % 2 ^ 29
    let fl := b2n (bitOf b2 1) + 2 * b2n (bitOf b2 2) + 8 * b2n (bitOf b2 4) + 16 * b2n (bitOf b2 0)
    s.takePdu c (b2n eff) { j with ident := id + 2 ^ 31 * b2n eff, flags := fl }
  else if typ = 3 then s.takePdu c 2 { j with chan := b2 % 32, ident := byteAt m 3 % 64 }
  else if typ = 0x7A then s.takeXlPdu c seq m j
  else s

/-- The messages of a frame within its limit; a malformed one ends the taking and counts the frame (R310). -/
def State.takeAcfs (s : State) (c seq origin stamp : Nat) : Nat → Bytes → State
  | 0, _ => s
  | fuel + 1, b =>
    if b = [] then s
    else
      let n := (byteAt b 0 % 2 * 256 + byteAt b 1) * 4
      let head := match byteAt b 0 / 2 with
        | 1 => 16
        | 2 => 8
        | 3 => 12
        | 0x7A => 24
        | _ => 4
      if b.length < n ∨ n < head then s.badFrame 0 false
      else (s.takeAcf c seq origin stamp (b.take n)).takeAcfs c seq origin stamp fuel (b.drop n)

/-- A frame that has left the fabric at F21 (R310). -/
def State.dispatch (s : State) (info : FrameInfo) (frame : Bytes) : State :=
  let b := withoutFcs frame
  let o := tagsEnd (s.gf shB F.pipeShared_TPID_ALT_TPID) b 4 12
  let c := byteAt b 5
  let mac := s.macOf bgB F.brgGlobal_KTL_MAC_HI_MAC F.brgGlobal_KTL_MAC_LO_MAC
  if b.take 5 ≠ mac.take 5 ∨ 3 < c ∨ beAt b o 2 ≠ 0x22F0 ∨ byteAt b (o + 2) ≠ 0x82 ∨ !s.grade.hasPage .ktl c
      ∨ b.length < o + 14 then s.badFrame 0 false
  else if !s.run .ktl c then s.jobDrop c 1
  else
    let h := b.drop (o + 2)
    match s.originOf (slice h 4 8) with
    | none => s.badFrame c true
    | some origin =>
      let stamp := if origin = 0 ∧ 8 ≤ info.hdr.length then beAt info.hdr 4 4 else info.stamp
      let len := byteAt h 1 % 8 * 256 + byteAt h 2
      s.takeAcfs c (byteAt h 3) origin stamp 512 ((h.drop 12).take len)

/-- KTL_DISPATCH_FRAME: the next frame of output 21 leaves the fabric and is dispatched. -/
def execKtlDispatchFrame (ecc : Nat) (s : State) : Answer :=
  let r := s.takeOutput 21 ecc
  match r.2 with
  | none => .next r.1
  | some f => .next (r.1.dispatch f.info f.bytes)

/-- KTL_FRAG_TIMEOUT: the context of cluster c for ORIGIN and bus has been incomplete for 1 ms (R311). -/
def execKtlFragTimeout (c origin bus : Nat) (s : State) : Answer :=
  let mine (x : KtlCtx) : Bool := x.origin == origin && x.ctx.bus == bus
  if c < 4 ∧ (s.cl c).ctxs.any mine then
    .next ((((s.cl c).ctxs.filter mine).map (·.frameId)).foldl (fun (a : State) f => a.fragLost c f)
      (s.setCtxs c ((s.cl c).ctxs.filter fun x => !mine x)))
  else .next s

/-! ### Jobs (R309, R313) -/

/-- The job that the dispatcher of cluster c starts next (R313). -/
def State.nextJob (s : State) (c : Nat) : Option Job :=
  let busy := (List.range 8).filterMap fun j => ((s.kc (8 * c + j)).job).map (·.pdu)
  (s.cl c).queue.find? fun j => !busy.contains j.pdu

/-- The core that takes it. -/
def State.idleCore (s : State) (c : Nat) : Option Nat :=
  (List.range 8).find? fun j =>
    let x := s.kc (8 * c + j)
    x.job.isNone && !x.halted && bitOf (s.gf (ktB c) F.ktl_CORE_EN_MASK) j

/-- The registers at job start (Table 10-3). -/
def Job.regs (j : Job) : List (BitVec 64) :=
  ([0, j.kind, j.pdu, if j.kind = 0 then j.data.length else 0, j.stamp, j.sig, j.epoch] : List Nat).map (BitVec.ofNat 64)
    ++ List.replicate 9 0

/-- The CLK_KTL cycle that a CLK_SYS cycle begins with: two to each (R23). -/
def State.ktlNow (s : State) : Nat := 2 * s.cycles

/-- JOB_START: the dispatcher of cluster c starts a job (R313); its core's first fetch comes 4 cycles later. -/
def execJobStart (c : Nat) (s : State) : Answer :=
  if c < 4 ∧ s.run .ktl c then
    match s.nextJob c, s.idleCore c with
    | some j, some n =>
      let b := ktB c
      let entry := (s.pduRec j.bank j.pdu).recipe + j.kind
      let x := s.kc (8 * c + n)
      let s1 := s.setCl c { s.cl c with queue := (s.cl c).queue.erase j }
      let s2 := s1.setKc (8 * c + n) { x with
        regs := j.regs, pc := entry % 16384, job := some j, pdu := j.pdu, start := s.now, cycles := 4
        counted := false, assembled := false, began := s.ktlNow }
      let cnt := if j.kind = 0 then F.ktl_JOBS_RX_COUNT else if j.kind = 1 then F.ktl_JOBS_TMO_COUNT else F.ktl_JOBS_TX_COUNT
      let s3 := (s2.incW b cnt).incW b (F.ktl_JOBS_COUNT.at (0x20 * n))
      .next ((s3.addWrap b (F.ktl_BUSY_CYC_COUNT.at (0x20 * n)) 4).perf 0x060 c 1)
    | _, _ => .next s
  else .next s

/-! ### Faults and halts (R330, R331) -/

/-- EV(357 + 8c) follows the halted cores. -/
def State.haltLevel (s : State) (c : Nat) : State :=
  s.level (357 + 8 * c) ((List.range 8).any fun j => (s.kc (8 * c + j)).halted) 0

/-! ### Uncorrectable words of the Kettle memories (R330) -/

/-- A word of a Kettle memory turns out uncorrectable; it stays so until it is written whole (R330). -/
def State.ktlSpoil (s : State) (off : Nat) : State :=
  if s.ktlBad.contains off then s else { s with ktlBad := s.ktlBad ++ [off] }

/-- The protected words that `n` bytes from `a` on cover whole are good again (R330). -/
def State.ktlMend (s : State) (a n : Nat) : State :=
  { s with ktlBad := s.ktlBad.filter fun x => x < a || a + n < x + 4 }

/-! ### Check-value units: who is served (R328, R336) -/

/-- The configuration of unit u. -/
def State.crcCfg (s : State) (u : Nat) : CrcCfg :=
  let b := crB u
  let w := s.gf b F.crc_CFG_WIDTH
  { width := w
    poly := s.g64 b F.crc_POLY_LO_POLY F.crc_POLY_HI_POLY % 2 ^ w
    init := s.g64 b F.crc_INIT_LO_INIT F.crc_INIT_HI_INIT % 2 ^ w
    refin := s.on b F.crc_CFG_REFIN
    refout := s.on b F.crc_CFG_REFOUT
    inv := s.on b F.crc_CFG_INV
    fieldBe := s.on b F.crc_CFG_FIELD_BE
    idPrefix := s.on b F.crc_CFG_ID_PREFIX
    feed := 2 ^ s.gf b F.crc_CFG_FEED }

/-- A unit that nothing uses. -/
def CrcUnit.idle : CrcUnit := ⟨none, []⟩

/-- Unit u. -/
def State.crcUnit (s : State) (u : Nat) : CrcUnit := look (fun _ => CrcUnit.idle) s.units u

/-- Replaces unit u. -/
def State.setCrc (s : State) (u : Nat) (x : CrcUnit) : State :=
  { s with units := put (fun _ => CrcUnit.idle) s.units u x }

/-- The CLK_KTL cycle that core Kk has reached: that of its job's start and the cycles that the job has run. -/
def State.coreNow (s : State) (k : Nat) : Nat := (s.kc k).began + (s.kc k).cycles

/-- Core Kk asks for busy unit u: it waits behind the requests made in earlier cycles and behind those of lower cores in
the same one (R328). -/
def State.unitAsk (s : State) (u k : Nat) : State :=
  let q := s.crcUnit u
  if q.waiting.any (fun x => x.1 == k) then s
  else
    let t := s.coreNow k
    let before (x : Nat × Nat) : Bool := x.2 < t || (x.2 == t && x.1 < k)
    s.setCrc u { q with waiting := q.waiting.takeWhile before ++ [(k, t)] ++ q.waiting.dropWhile before }

/-- The instruction that unit u served has left it: the core that has waited longest starts, under the configuration of
now. -/
def State.unitNext (s : State) (u : Nat) : State :=
  match (s.crcUnit u).waiting with
  | [] => s.setCrc u .idle
  | x :: rest => s.setCrc u ⟨some ⟨x.1, true, s.ktlNow - x.2, s.crcCfg u⟩, rest⟩

/-- Whether unit u serves core Kk. -/
def State.unitServes (s : State) (u k : Nat) : Bool := (s.crcUnit u).serving.any fun x => x.core == k

/-- Core Kk leaves the units. -/
def State.unitLeave (s : State) (k : Nat) : State :=
  s.units.foldl (fun (a : State) x =>
    if a.unitServes x.1 k then a.unitNext x.1
    else a.setCrc x.1 { a.crcUnit x.1 with waiting := (a.crcUnit x.1).waiting.filter fun y => y.1 != k }) s

/-- The job of core Kk ends. -/
def State.jobEnd (s : State) (k : Nat) : State := (s.setKc k { s.kc k with job := none, mid := none }).unitLeave k

/-- The job of core Kk ends at a fault; its PC is that of the faulting instruction. -/
def State.coreFault (s : State) (k code info : Nat) : State :=
  let c := k / 8
  let j := k % 8
  let b := ktB c
  let x := s.kc k
  let s1 := ((s.pf b (F.ktl_FAULT_VALID.at (0x20 * j)) 1).pf b (F.ktl_FAULT_CODE.at (0x20 * j)) code).pf b
    (F.ktl_FAULT_PC.at (0x20 * j)) x.pc
  let s2 := (s1.pf b (F.ktl_FAULT_INFO_INFO.at (0x20 * j)) info).inc b F.ktl_FAULTS_COUNT
  let s3 := s2.raise (352 + 8 * c) (code * 16 + j)
  let s4 := if code = 6 then (s3.inc b F.ktl_IMEM_UNCORR_COUNT).raise (355 + 8 * c) 0
    else if code = 7 then (s3.inc b F.ktl_DMEM_UNCORR_COUNT).raise (355 + 8 * c) 1 else s3
  let s5 := s4.jobEnd k
  if s5.on b F.ktl_CTL_HALT_ON_FAULT then (s5.setKc k { s5.kc k with halted := true }).haltLevel c else s5

/-- Cycles of the job of core Kk pass. -/
def State.coreCycles (s : State) (k n : Nat) : State :=
  (s.setKc k { s.kc k with cycles := (s.kc k).cycles + n }).addWrap (ktB (k / 8))
    (F.ktl_BUSY_CYC_COUNT.at (0x20 * (k % 8))) n

/-- JOB_LIMIT of the cluster of core Kk. -/
def State.jobLimit (s : State) (k : Nat) : Nat := s.gf (ktB (k / 8)) F.ktl_JOB_LIMIT_CYCLES

/-- Whether core Kk runs a job in a cluster that works. -/
def State.coreRuns (s : State) (k : Nat) : Bool := k < 32 && s.works .ktl (k / 8) && (s.kc k).job.isSome

/-- JOB_BUDGET_EXPIRY: the job of core Kk has run JOB_LIMIT cycles at an instruction boundary (R330); an instruction
that waits has not reached one. -/
def execJobBudgetExpiry (k : Nat) (s : State) : Answer :=
  if s.coreRuns k ∧ (s.kc k).mid = none ∧ s.jobLimit k ≤ (s.kc k).cycles then .next (s.coreFault k 5 (s.kc k).pc) else .next s

/-- What a write of a KTL page register starts: RESUME of a core. -/
def State.ktlTrigger (c o : Nat) (w : Word) (s : State) : State :=
  if 0x10C ≤ o ∧ o < 0x200 ∧ (o - 0x10C) % 0x20 = 0 ∧ bitOf w.toNat 0 then
    let k := 8 * c + (o - 0x10C) / 0x20
    if (s.kc k).halted then (s.setKc k { s.kc k with halted := false }).haltLevel c else s
  else s

/-- CORE_RESUME: the host writes CORE_CTL of core Kk. -/
def execCoreResume (k : Nat) (w : Word) (s : State) : Answer :=
  if k < 32 then
    let o := 0x10C + 0x20 * (k % 8)
    .next (s.hostWrite (ktB (k / 8) + o) w (State.ktlTrigger (k / 8) o w))
  else .next s

/-! ### Page states (R332) -/

/-- Discards the queue of cluster c, counting its jobs. -/
def State.discardQueue (s : State) (c : Nat) : State :=
  (s.setCl c { s.cl c with queue := [] }).jobDrop c (s.cl c).queue.length

/-- Whether a frame with this ingress port and bus-frame header is one of cluster c: its SRC is the core number. -/
def clusterHdr (c src : Nat) (hdr : Bytes) : Bool := src == 21 && byteAt hdr 0 % 32 / 8 == c

/-- The frames of cluster c whose passing to the ingress adapter of F21 has not begun. -/
def ofCluster (c : Nat) (f : RxFrame) : Bool := clusterHdr c f.src f.hdr

/-- SRST of cluster page c. -/
def State.ktlSrst (s : State) (c : Nat) : State :=
  let running := ((List.range 8).filter fun j => (s.kc (8 * c + j)).job.isSome).length
  let s1 := (List.range 8).foldl (fun (a : State) j =>
    (a.setKc (8 * c + j) { a.kc (8 * c + j) with job := none, halted := false, mid := none }).unitLeave (8 * c + j)) s
  let s2 := ((s1.jobDrop c running).discardQueue c).setCtxs c []
  let fwd' : Fwd := { s2.fwd with
    waiting := s2.fwd.waiting.filter fun f => !ofCluster c f
    looked := s2.fwd.looked.filter fun x => !ofCluster c x.frame }
  let fab' : Fabric := { s2.fab with
    entering := s2.fab.entering.filter fun f => !clusterHdr c f.info.src f.info.hdr }
  let s3 : State := { s2 with fwd := fwd', fab := fab' }
  s3.haltLevel c

/-- STS of unit u (Table 10-15). -/
def State.unitSts (s : State) (u : Nat) : Nat := 256 * (s.crcUnit u).waiting.length + b2n (s.crcUnit u).serving.isSome

/-! ### What the registers of a core show -/

/-- CORE_STS[j] of cluster c (Table 10-13). -/
def State.coreSts (s : State) (k : Nat) : Nat :=
  let x := s.kc k
  2 ^ 31 * b2n x.job.isSome + 2 ^ 30 * b2n x.halted + x.pc * 65536 + x.pdu % 32768

/-- X_LO or X_HI of register i of core Kk: 0 unless the core is halted. -/
def State.coreX (s : State) (k i : Nat) (hi : Bool) : Nat :=
  let x := s.kc k
  if x.halted then
    let v := ((x.regs.getD i 0).toNat)
    if hi then v / 2 ^ 32 else v % 2 ^ 32
  else 0

/-- A register of cluster page c at offset `o`, where it shows a core. -/
def State.ktlShown (s : State) (c o : Nat) : Option Nat :=
  if 0x100 ≤ o ∧ o < 0x200 ∧ o % 0x20 = 0 then some (s.coreSts (8 * c + (o - 0x100) / 0x20))
  else if 0x800 ≤ o ∧ o < 0xC00 then
    some (s.coreX (8 * c + (o - 0x800) / 0x80) ((o - 0x800) % 0x80 / 8) (o % 8 == 4))
  else none

end Sys2Proof.Machine
end

