-- ==== Sys2Proof/Machine/Signal.lean ====
section
/-! DEFINITION. The signal gateway around the clusters (Chapter 9): the deadline scanner, the transmit scheduler, builds,
flips and draining, writes of the Signal Cache, and the LPDDR4X controller (R278, R288, R290, R293 to R297, R305 to
R307). -/

namespace Sys2Proof.Machine

/-! ### LPDDR4X (R305, R306) -/

/-- Bytes of LPDDR4X that can be addressed: seven eighths with ECC_EN = 1 (R306). -/
def State.ddrSize (s : State) : Nat :=
  let n := 2 ^ 29 * 2 ^ min 3 (s.gf ddB F.ddr_DDR_CFG_DENSITY)
  if s.on ddB F.ddr_DDR_CFG_ECC_EN then n / 8 * 7 else n

/-- Single-bit errors corrected (R306). -/
def State.ddrCorr (s : State) (n : Nat) : State :=
  if s.on ddB F.ddr_DDR_CFG_ECC_EN then s.addSat ddB F.ddr_ECC_CORR_COUNT n else s

/-- A line turns out uncorrectable; it stays so until it is written whole. -/
def State.ddrSpoil (s : State) (line : Nat) : State :=
  if s.ddrBad.contains line then s else { s with ddrBad := s.ddrBad ++ [line] }

/-- A read finds a line uncorrectable (R306). -/
def State.ddrHit (s : State) (line : Nat) : State :=
  ((s.inc ddB F.ddr_ECC_UNCORR_COUNT).pf ddB F.ddr_ECC_ADDR_LINE line).raise 462 0

/-- EV463 is 1 while the DDR page is in RUN with READY = 0. -/
def State.ddrLevel (s : State) : State := s.level 463 (s.run .ddr 0 && !s.on ddB F.ddr_DDR_STS_READY) 0

/-- DDR_TRAINING_DONE: the training that the entry to RUN began ends (R305). -/
def execDdrTrainingDone (ok : Bool) (s : State) : Answer :=
  if s.run .ddr 0 ∧ !s.on ddB F.ddr_DDR_STS_READY then
    let b := b2n ok
    .next ((((s.pf ddB F.ddr_DDR_STS_TRAINED b).pf ddB F.ddr_DDR_STS_READY b).pf ddB F.ddr_DDR_STS_TRAIN_FAIL (1 - b)).ddrLevel)
  else .next s

/-- Leaving RUN clears READY; entering RUN trains again (R307). -/
def State.ddrLeave (s : State) : State := (s.pf ddB F.ddr_DDR_STS_READY 0).ddrLevel

def State.ddrEnter (s : State) : State :=
  (((s.pf ddB F.ddr_DDR_STS_READY 0).pf ddB F.ddr_DDR_STS_TRAINED 0).pf ddB F.ddr_DDR_STS_TRAIN_FAIL 0).ddrLevel

/-- Memory offset that a place of the aperture shows (R305). -/
def State.apertureAt (s : State) (off : Nat) : Nat := s.gf ddB F.ddr_WIN_BASE_WINDOW * 2 ^ 29 + off

/-- What a read through the aperture finds in its first line: `ecc` 1 a single-bit error, 2 one that cannot be corrected
(R306). -/
def State.apertureEcc (s : State) (off ecc : Nat) : State :=
  if off < 0x20000000 ∨ 0x40000000 ≤ off ∨ !s.on ddB F.ddr_DDR_STS_READY then s
  else
    let a := s.apertureAt (off - 0x20000000)
    if s.ddrSize ≤ a then s else if ecc = 1 then s.ddrCorr 1 else if ecc = 2 then s.ddrSpoil (a / 64) else s

/-- A word read through the aperture (R305, R306); `again`: the same request has read an earlier word of its line, so
that the line has been counted. -/
def State.apertureRead (s : State) (off : Nat) (again : Bool) : Nat × State :=
  let a := s.apertureAt off
  if !s.on ddB F.ddr_DDR_STS_READY ∨ s.ddrSize ≤ a then (0, s)
  else if s.on ddB F.ddr_DDR_CFG_ECC_EN ∧ s.ddrBad.contains (a / 64) then
    (0xFFFFFFFF, if again then s else s.ddrHit (a / 64))
  else (leNat (s.ddrBytes a 4), s)

/-- A write request's bytes through the aperture within one line, `whole` where it covers the line (R305, R306). -/
def State.apertureWrite (s : State) (off : Nat) (bytes : Bytes) (whole : Bool) : State :=
  let a := s.apertureAt off
  if !s.on ddB F.ddr_DDR_STS_READY ∨ s.ddrSize ≤ a then s
  else if whole then
    ({ s with ddrBad := s.ddrBad.filter (· != a / 64) }).ddrWrite a bytes
  else if s.on ddB F.ddr_DDR_CFG_ECC_EN ∧ s.ddrBad.contains (a / 64) then s.ddrHit (a / 64)
  else s.ddrWrite a bytes

/-! ### Writes of the Signal Cache (R293) -/

/-- A write of a word of the Signal Cache region. -/
def State.sigWrite (s : State) (off v : Nat) : State :=
  if 0x09000000 ≤ off then s
  else
    let b := (off - 0x08000000) / 0x800000
    let o := (off - 0x08000000) % 0x800000
    let base := bankB 0
    let section_ : Option (Nat × Nat) :=
      if o < 0x200000 then some (base, 16)
      else if o < 0x300000 then some (base + 0x200000, 32)
      else if o < 0x340000 then some (base + 0x300000, 8)
      else if o < 0x342000 then some (base + 0x340000, 32)
      else if 0x3FF000 ≤ o ∧ o < 0x3FF040 then some (base + 0x3FF000, 64)
      else none
    match section_ with
    | none => s
    | some (start, size) =>
      if s.fg = b ∨ s.on sgB F.sigGlobal_BANK_STS_DRAINING ∨ s.on sgB F.sigGlobal_BUILD_STS_BUSY then
        s.inc sgB F.sigGlobal_BANK_WR_REJ_COUNT
      else
        (s.pf sgB F.sigGlobal_BANK_STS_BG_READY 0).tableWrite start size off v
          (fun t => t.inc sgB F.sigGlobal_STAGE_LOST_COUNT) (fun _ t => t)

/-! ### Builds (R278, R279, R294, R295) -/

/-- Clears `k` bytes of the BAR2 memories from `a` on. -/
def State.b2Clear (s : State) (a k : Nat) : State :=
  { s with bar2 := s.bar2.filter fun c => c.1 < a || a + k ≤ c.1 }

/-- Steps 4 and 5 of R294 on bank b. -/
def State.initBank (s : State) (b : Nat) : State :=
  let s0 : State := { s with sig := { s.sig with sentAt := s.sig.sentAt.filter fun x => x.1 / 32768 != b } }
  let s1 := ((s0.b2Clear (bankB b + 0x400000) 0x200000).b2Clear (bankB b + 0x600000) 0x80000).allLastRx b 0
  (List.range (s1.bank b).sigs).foldl (fun (a : State) i =>
    a.b2Write (sigSt b i) (leBytes 8 (a.sigRec b i).init)) s1

/-- Step 6 of R294. -/
def State.buildEnd (s : State) (batch result : Nat) : State :=
  let s1 := (s.pf sgB F.sigGlobal_BUILD_STS_BUSY 0).pf sgB F.sigGlobal_BUILD_STS_RESULT result
  let s2 := (s1.pf sgB F.sigGlobal_BANK_STS_BG_BATCH batch).pf sgB F.sigGlobal_BANK_STS_BG_READY (b2n (result == 0))
  ({ s2 with sig := { s2.sig with build := none } }.addSat sgB F.sigGlobal_BUILD_FAIL_COUNT (b2n (result != 0))).raise 322 result

/-- Byte offset of the database in LPDDR4X (R278). -/
def State.dbBase (s : State) : Nat := s.gf sgB F.sigGlobal_DB_BASE_MIB * 2 ^ 20

/-- A Batch directory entry (Table 9-1): OFFSET, LENGTH, VARIANT. -/
def State.dirEntry (s : State) (b : Nat) : Nat × Nat × Nat :=
  let e := s.ddrBytes (s.dbBase + 16 * b) 12
  (leAt e 0 4, leAt e 4 4, leAt e 8 4)

/-- The uncorrectable lines among `n` bytes of memory from `x` on. -/
def State.badLines (s : State) (x n : Nat) : List Nat :=
  s.ddrBad.filter fun l => s.on ddB F.ddr_DDR_CFG_ECC_EN && x / 64 ≤ l && l * 64 < x + n

/-- The Batch that a build takes; none where no entry has the variant. The search ends too at an entry in an
uncorrectable line, which ends the build (R306). -/
def State.buildBatch (s : State) (j : BuildJob) : Option Nat :=
  if j.byVariant then
    (List.range 256).find? fun b => s.badLines (s.dbBase + 16 * b) 16 != [] ||
      ((s.dirEntry b).2.1 != 0 && (s.dirEntry b).2.2 == s.gf sgB F.sigGlobal_VARIANT_CODE)
  else some j.batch

/-- The sections of an image: offset, bytes, place in the bank. -/
def imageSections (h : Bytes) : List (Nat × Nat × Nat) :=
  [(leAt h 24 4, 16 * leAt h 12 4, 0), (leAt h 28 4, 32 * leAt h 16 2, 0x200000), (leAt h 32 4, 0x40000, 0x300000),
   (leAt h 36 4, 32 * leAt h 18 2, 0x340000)]

/-- Whether a count exceeds its limit or a section lies outside the image (RESULT 3). -/
def sectionsBad (h : Bytes) (len : Nat) : Bool :=
  leAt h 12 4 == 0 || 131072 < leAt h 12 4 || leAt h 16 2 == 0 || 32768 < leAt h 16 2 || leAt h 18 2 == 0
    || 256 < leAt h 18 2 || (imageSections h).any fun x => x.1 % 64 != 0 || x.1 < 64 || len < x.1 + x.2.1

/-- Whether a valid signal record names what lies outside its section (RESULT 6). -/
def sigRecBad (sigs pdus xforms : Nat) (r : SigRec) : Bool :=
  r.valid && (pdus ≤ r.pdu || (r.next != 0x1FFFF && sigs ≤ r.next) || (r.sink && xforms ≤ r.xform))

/-- Whether a record or map way of the image of `h` at memory offset `a` names what lies outside its section. -/
def State.indexBad (s : State) (a : Nat) (h : Bytes) : Bool :=
  let sigs := leAt h 12 4
  let pdus := leAt h 16 2
  (List.range sigs).any (fun i =>
      sigRecBad sigs pdus (leAt h 18 2) (sigRecOf (s.ddrBytes (a + leAt h 24 4 + 16 * i) 16)))
    || (List.range pdus).any (fun j =>
      let p := pduRecOf (s.ddrBytes (a + leAt h 28 4 + 32 * j) 32)
      p.valid && sigs < p.first + p.count)
    || (List.range 32768).any fun w =>
      let e := s.ddrBytes (a + leAt h 32 4 + 8 * w) 8
      bitOf (leAt e 0 4) 31 && pdus ≤ leAt e 6 2 % 32768

/-- Whether a valid PDU record names a cluster that the grade lacks (RESULT 7). -/
def State.clusterBad (s : State) (a : Nat) (h : Bytes) : Bool :=
  (List.range (leAt h 16 2)).any fun j =>
    let p := pduRecOf (s.ddrBytes (a + leAt h 28 4 + 32 * j) 32)
    p.valid && !s.grade.hasPage .ktl p.cluster

/-- RESULT of a build of Batch b, with the lines that its reads find uncorrectable (Table 9-8; the order is log entry
47). -/
def State.buildCheck (s : State) (o : Option Nat) : Nat × List Nat :=
  if !s.on ddB F.ddr_DDR_STS_READY then (5, [])
  else
    match o with
    | none => (1, [])
    | some b =>
      let (off, len, var) := s.dirEntry b
      let a := s.dbBase + off
      let dir := (s.badLines (s.dbBase + 16 * b) 16).take 1
      if dir ≠ [] then (5, dir)
      else if len = 0 then (1, [])
      else if off % 64 ≠ 0 ∨ off < 4096 ∨ s.ddrSize < a + len then (3, [])
      else
        let img := (s.badLines a (max 64 len)).take 1
        if img ≠ [] then (5, img)
        else
          let h := s.ddrBytes a 64
          if leAt h 0 4 ≠ 0x48435442 ∨ leAt h 4 2 ≠ 1 ∨ leAt h 6 2 ≠ b ∨ leAt h 8 4 ≠ var ∨ leAt h 40 4 ≠ len then (2, [])
          else if sectionsBad h len then (3, [])
          else if hashH 0xFFFFFFFF (h.take 60 ++ [0, 0, 0, 0] ++ s.ddrBytes (a + 64) (len - 64)) ≠ leAt h 60 4 then (4, [])
          else if s.indexBad a h then (6, [])
          else if s.clusterBad a h then (7, [])
          else (0, [])

/-- Step 3 of R294: the sections and the header go into bank b, and what lies beyond the counts is cleared. -/
def State.copyImage (s : State) (b a : Nat) : State :=
  let h := s.ddrBytes a 64
  let s1 := (s.b2Clear (bankB b) 0x400000).b2Write (bankB b + 0x3FF000) h
  (imageSections h).foldl (fun (t : State) x => t.b2Write (bankB b + x.2.2) (t.ddrBytes (a + x.1) x.2.1)) s1

/-- What BUILD_CTL starts (R294, R295; log entry 47): GO, and HOST_READY. -/
def State.buildTrigger (w : Word) (s : State) : State :=
  if s.on sgB F.sigGlobal_BUILD_STS_BUSY ∨ s.on sgB F.sigGlobal_BANK_STS_DRAINING then s
  else if bitOf w.toNat 31 then
    let s1 := ((s.pf sgB F.sigGlobal_BUILD_STS_BUSY 1).pf sgB F.sigGlobal_BANK_STS_BG_READY 0).pf sgB
      F.sigGlobal_BUILD_STS_PROGRESS 0
    { s1 with sig := { s1.sig with
      build := some ⟨s.gf sgB F.sigGlobal_BUILD_CTL_BATCH, s.on sgB F.sigGlobal_BUILD_CTL_BY_VARIANT⟩ } }
  else if bitOf w.toNat 30 then (s.initBank (1 - s.fg)).buildEnd (s.gf sgB F.sigGlobal_BUILD_CTL_BATCH) 0
  else s

/-! ### Flips (R296, R297, R307) -/

/-- Sets the pending request. -/
def State.sigPend (s : State) (r : FlipReq) : State :=
  ({ s with sig := { s.sig with flip := r } }).pf sgB F.sigGlobal_BANK_STS_FLIP_PEND (b2n (r != FlipReq.none))

/-- FLIP_AT. -/
def State.sigAt (s : State) : Nat := s.g64 sgB F.sigGlobal_FLIP_AT_LO_NS F.sigGlobal_FLIP_AT_HI_NS

/-- The flip at an instant, or its refusal. -/
def State.sigFlip (s : State) (instant : Nat) (late : Bool) : State :=
  let s0 := s.sigPend FlipReq.none
  if s0.on sgB F.sigGlobal_BANK_STS_BG_READY then
    let fg := 1 - s0.fg
    let ep := (s0.sigEpoch + 1) % 8
    let fgb := s0.gf sgB F.sigGlobal_BANK_STS_FG_BATCH
    let s1 := ((s0.pf sgB F.sigGlobal_BANK_STS_FG fg).pf sgB F.sigGlobal_BANK_STS_EPOCH ep).pf sgB
      F.sigGlobal_BANK_STS_FG_BATCH (s0.gf sgB F.sigGlobal_BANK_STS_BG_BATCH)
    let s2 := ((s1.pf sgB F.sigGlobal_BANK_STS_BG_BATCH fgb).pf sgB F.sigGlobal_BANK_STS_BG_READY 0).pf sgB
      F.sigGlobal_BANK_STS_DRAINING 1
    let s3 := if late then s2.pf sgB F.sigGlobal_BANK_STS_LATE 1 else s2
    let s4 := s3.allLastRx fg (instant % 2 ^ 32)
    ({ s4 with sig := { s4.sig with instant := some instant, deferred := [], next := [], owed := [] } }).raise 320 ep
  else (s0.pf sgB F.sigGlobal_BANK_STS_REFUSED 1).raise 321 (s0.gf sgB F.sigGlobal_BANK_STS_BG_BATCH)

/-- Carries out a request that can be. `waited`: 0 it has not waited, 1 it has waited for DRAINING, 2 for the page to
enter RUN, 3 a step of TIME_NS has passed it (R296, R307). -/
def State.sigProceed (s : State) (waited : Nat) : State :=
  if s.run .sigGlobal 0 && !s.on sgB F.sigGlobal_BANK_STS_DRAINING then
    match s.sig.flip with
    | .none => s
    | .now => s.sigFlip s.now (waited == 1)
    | .late => s.sigFlip s.now true
    | .at_ =>
      if s.sigAt ≤ s.now then
        if waited = 0 then s.sigFlip s.sigAt false
        else s.sigFlip s.now (waited == 1 || (waited == 2 && decide (s.sigAt < s.now)))
      else s
  else s

/-- What a write of a SIG global register starts. -/
def State.sigTrigger (o : Nat) (w : Word) (s : State) : State :=
  if o = 0x044 then
    let n := w.toNat
    let s1 := if bitOf n 2 then s.sigPend FlipReq.none else s
    let s2 := if bitOf n 1 then s1.sigPend (if s1.sigAt < s1.now then FlipReq.late else FlipReq.at_) else s1
    if bitOf n 0 then (s2.sigPend FlipReq.now).sigProceed 0 else s2
  else if o = 0x050 then s.buildTrigger w
  else s

/-- The build that a Cellarer BATCH action started has ended: with RESULT 0 the action writes FLIP.NOW, otherwise it
fails (Table 16-6, R482). -/
def State.batchActionEnd (s : State) (batch result : Nat) : State :=
  match s.guard.batch with
  | none => s
  | some (a, before) =>
    let s1 := { s with guard := { s.guard with batch := none } }
    if result = 0 then
      let s2 := s1.writeBy .cellarer (sgB + 0x044) 1 (State.sigTrigger 0x044 1)
      s2.actionRecord a.rule 6 false a.target batch before (some (sgB + 0x050))
    else s1.actionRecord a.rule 6 true a.target batch before none

/-- BUILD_DONE: the build ends. `bad`: a line of memory that has turned out uncorrectable; `corr`: single-bit errors
that its reads corrected (log entry 48). -/
def execBuildDone (bad : Option Nat) (corr : Nat) (s : State) : Answer :=
  match s.sig.build with
  | none => .next s
  | some j =>
    let s1 := (bad.toList.foldl State.ddrSpoil s).ddrCorr corr
    let o := s1.buildBatch j
    let r := s1.buildCheck o
    let s2 := r.2.foldl (fun (a : State) l => a.ddrHit l) s1
    if r.1 = 0 then
      let b := 1 - s2.fg
      let s3 := s2.copyImage b (s2.dbBase + (s2.dirEntry (o.getD 0)).1)
      let s4 := (s3.pf sgB F.sigGlobal_BUILD_STS_PROGRESS (s3.bank b).sigs).initBank b
      .next ((s4.buildEnd (o.getD 0) 0).batchActionEnd (o.getD 0) 0)
    else .next ((s2.buildEnd (o.getD j.batch) r.1).batchActionEnd (o.getD j.batch) r.1)

/-- SIG_FLIP_NOW, SIG_FLIP_AT, SIG_FLIP_CANCEL: the host writes SIG.FLIP. -/
def execSigFlipNow (s : State) : Answer := .next (s.hostWrite (sgB + 0x044) 1 (State.sigTrigger 0x044 1))

def execSigFlipAt (s : State) : Answer := .next (s.hostWrite (sgB + 0x044) 2 (State.sigTrigger 0x044 2))

def execSigFlipCancel (s : State) : Answer := .next (s.hostWrite (sgB + 0x044) 4 (State.sigTrigger 0x044 4))

/-- BUILD_GO, HOST_READY: the host writes BUILD_CTL with the bit of the command set. -/
def execBuildGo (batch : Nat) (byVariant : Bool) (s : State) : Answer :=
  let w : Word := BitVec.ofNat 32 (2 ^ 31 + 2 ^ 8 * b2n byVariant + batch % 256)
  .next (s.hostWrite (sgB + 0x050) w (State.sigTrigger 0x050 w))

def execHostReady (batch : Nat) (s : State) : Answer :=
  let w : Word := BitVec.ofNat 32 (2 ^ 30 + batch % 256)
  .next (s.hostWrite (sgB + 0x050) w (State.sigTrigger 0x050 w))

/-- SIG_FLIP_DUE: TIME_NS has reached FLIP_AT. -/
def execSigFlipDue (s : State) : Answer :=
  .next (if s.sig.flip = .at_ ∨ s.sig.flip = .late then s.sigProceed 0 else s)

/-- SIG_DRAIN_END: DRAIN_MS has passed since the flip instant and no old-epoch work remains (R297). -/
def execSigDrainEnd (s : State) : Answer :=
  let t := s.sig.instant.getD 0
  let ms := s.gf sgB F.sigGlobal_TMO_CTL_DRAIN_MS
  if s.on sgB F.sigGlobal_BANK_STS_DRAINING ∧ t + ms * 1000000 ≤ s.now ∧ !s.epochBusy ((s.sigEpoch + 7) % 8) then
    .next ((s.pf sgB F.sigGlobal_BANK_STS_DRAINING 0).sigProceed 1)
  else .next s

/-! ### The deadline scanner (R290 to R292) -/

/-- The timeout job of source i of the foreground bank is offered; one refused stays deferred (R312). -/
def State.offerTimeout (s : State) (i : Nat) : State :=
  let b := s.fg
  let k := s.pduIx b (s.sigRec b i).pdu
  let r := s.offer (s.pduRec b k).cluster (Job.plain 1 k b s.sigEpoch s.stamp i)
  let rest := s.sig.deferred.erase i
  { r.1 with sig := { r.1.sig with deferred := if r.2 then rest else rest ++ [i] } }

/-- DEADLINE_VISIT: the scanner visits signal state i of the foreground bank. -/
def execDeadlineVisit (i : Nat) (s0 : State) : Answer :=
  let b := s0.fg
  let r := s0.sigRec b i
  if !s0.run .sigGlobal 0 ∨ !s0.on sgB F.sigGlobal_TMO_CTL_SCAN_EN ∨ (s0.bank b).sigs ≤ i then .next s0
  else
    let s := if s0.sig.deferred.contains i then s0.offerTimeout i else s0
    let limit := r.tmoMs * 1000000 + s.gf sgB F.sigGlobal_TMO_CTL_GRACE_US * 1000
    let age := (s.stamp + 2 ^ 32 - s.lastRx b i) % 2 ^ 32
    let fl := s.sigFlags b i
    if r.valid ∧ !r.sink ∧ r.tmoMs ≠ 0 ∧ !bitOf fl 1 ∧ limit ≤ age then
      let subst := r.tmoAct == 1
      let s1 := s.b2Write (sigSt b i + 12) (leBytes 1 (if subst then putBits fl 2 1 3 else putBits fl 1 1 1))
      let s2 := if subst then s1.b2Write (sigSt b i) (leBytes 8 r.init) else s1
      let s3 := ((s2.inc sgB F.sigGlobal_TIMEOUTS_COUNT).tmoPush false i).perf 0x071 0 1
      let again : State := { s3 with sig := { s3.sig with deferred := s3.sig.deferred ++ [i] } }
      .next ((if s3.sig.deferred.contains i then again else s3).offerTimeout i)
    else .next s

/-- TMO_POP: a read of TMO_POP, of one word or of two. -/
def execTmoPop (ndw : Nat) (s : State) : Answer := .next (s.popRead .sigGlobal 0 (sgB + 0x064) ndw State.popTmo)

/-! ### The transmit scheduler (R288) -/

/-- Whether a transmit job of PDU j is queued. -/
def State.txQueued (s : State) (j : Nat) : Bool :=
  s.clusters.any fun x => x.2.queue.any fun q => q.kind == 2 && q.pdu == j && q.bank == s.fg

/-- Whether a transmit job of PDU j has started and has not yet run PASM. -/
def State.txStarted (s : State) (j : Nat) : Bool :=
  s.cores.any fun x => !x.2.assembled &&
    (x.2.job.map fun q => q.kind == 2 && q.pdu == j && q.bank == s.fg).getD false

/-- The next cyclic instant of PDU j (R288). -/
def State.nextCyclic (s : State) (j period : Nat) : Nat :=
  look (fun _ => s.sig.instant.getD 0 + period * 1000000) s.sig.next j

/-- The first instant of a cycle after `now`, from instant `t` on. -/
def afterNow (t period now : Nat) : Nat := if now < t then t else t + ((now - t) / period + 1) * period

/-- TX_SCHEDULER_VISIT: the scheduler visits transmit PDU j of the foreground bank. -/
def execTxSchedulerVisit (j : Nat) (s : State) : Answer :=
  let b := s.fg
  let p := s.pduRec b j
  if !s.run .sigGlobal 0 ∨ (s.bank b).pdus ≤ j ∨ !p.valid ∨ !p.tx then .next s
  else
    let cyclic := p.mode != 1 && p.period != 0 && s.sig.instant.isSome
    let onChange := p.mode == 1 || p.mode == 2
    let next := s.nextCyclic j p.period
    let due := cyclic && decide (next ≤ s.now)
    let next' := afterNow next (p.period * 1000000) s.now
    let s1 : State := if due then { s with sig := { s.sig with
        next := (s.sig.next.filter fun x => x.1 != j) ++ [(j, next')]
        owed := (s.sig.owed.erase j) ++ [j] } } else s
    let s2 := if cyclic then s1.b2wr (pduSt b j + 4) ((if due then next' else next) % 2 ^ 32) else s1
    let sent := look (fun _ => 0) s2.sig.sentAt (32768 * b + j)
    let gapOver := sent == 0 || decide (sent - 1 + p.gapUs * 1000 ≤ s2.now)
    let changed := onChange && s2.pduChanged b j && gapOver && !s2.txStarted j
    if s2.txQueued j then .next { s2 with sig := { s2.sig with owed := s2.sig.owed.erase j } }
    else if s2.sig.owed.contains j ∨ changed then
      let r := s2.offer p.cluster (Job.plain 2 j b s2.sigEpoch s2.stamp 0)
      .next (if r.2 then { r.1 with sig := { r.1.sig with owed := r.1.sig.owed.erase j } } else r.1)
    else .next s2

end Sys2Proof.Machine
end

