-- ==== Sys2Proof/Machine/Tap.lean ====
section
/-! DEFINITION. The Tap (R439, R440): sampling of retired Kettle instructions. -/

namespace Sys2Proof.Machine

/-- Base of the Tap page. -/
def tapB : Nat := pageBase .caskTap 0

/-- Whether the Tap counts an operation code under a KIND (R439). -/
def tapEligible (kind op : Nat) : Bool :=
  match kind with
  | 0 => true
  | 1 => (0x18 ≤ op && op ≤ 0x1F) || op == 0x2C
  | 2 => ([0x30, 0x31, 0x32, 0x33, 0x34, 0x35, 0x37, 0x38] : List Nat).contains op
  | _ => false

/-- The FIFO, its level and EV453 (R440). -/
def State.setTap (s : State) (l : List TapRec) : State :=
  (({ s with tap := { s.tap with fifo := l } }).pf tapB F.caskTap_TAP_LEVEL_LEVEL l.length).level 453 (l != []) 0

/-- A sample enters the FIFO, or is discarded. -/
def State.tapPush (s : State) (r : TapRec) : State :=
  if s.tap.fifo.length < 256 then s.setTap (s.tap.fifo ++ [r]) else s.inc tapB F.caskTap_TAP_LEVEL_LOST

/-- An instruction word `w` at `pc` of core Kk, issued at `stamp`, retires after `lat` cycles. `res`: the resource that
cost the most wait cycles; `addr`: its data address or index. The 0 to 15 that add to PERIOD are a free value (log entry
59). -/
def State.tapRetire (s : State) (k pc w stamp lat res : Nat) (addr : Option Nat) (fault : Bool) : State :=
  if s.run .caskTap 0 ∧ s.on tapB F.caskTap_TAP_CTL_EN ∧ bitOf (s.gf tapB F.caskTap_TAP_CTL_CLUSTERS) (k / 8)
      ∧ tapEligible (s.gf tapB F.caskTap_TAP_CTL_KIND) (w / 2 ^ 26) then
    let r := s.fresh 4
    let (target, s1) := match s.tap.target with
      | some t => (t, s)
      | none => (s.gf tapB F.caskTap_TAP_CTL_PERIOD + r.1.toNat, r.2)
    if s1.tap.count + 1 < target then
      { s1 with tap := { s1.tap with count := s1.tap.count + 1, target := some target } }
    else
      let s2 : State := { s1 with tap := { s1.tap with count := 0, target := none } }
      if lat < s2.gf tapB F.caskTap_TAP_FILT_MIN_LAT then s2
      else
        s2.tapPush ⟨2 ^ 31 + k * 2 ^ 26 + min 4095 lat * 2 ^ 14 + pc, w,
          2 ^ 31 * b2n addr.isSome + 2 ^ 28 * res + 2 ^ 27 * b2n fault + addr.getD 0 % 2 ^ 24, stamp⟩
  else s

/-- The pop of TAP_POP. -/
def State.popTap (s : State) : Nat × State :=
  match s.tap.fifo with
  | [] => (0, s)
  | r :: rest =>
    let s1 := ((s.setTap rest).pf tapB F.caskTap_TAP_POP_LAST_LAST r.w0).pf tapB F.caskTap_TAP_W1_DATA r.w1
    (r.w0, (s1.pf tapB F.caskTap_TAP_W2_DATA r.w2).pf tapB F.caskTap_TAP_W3_DATA r.w3)

/-- TAP_POP: a read of TAP_POP, of one word or of two. -/
def execTapPop (ndw : Nat) (s : State) : Answer := .next (s.popRead .caskTap 0 (tapB + 0x048) ndw State.popTap)

/-- SRST of the Tap page empties its FIFO (R441). -/
def State.tapSrst (s : State) : State := s.setTap []

end Sys2Proof.Machine
end

