-- ==== Sys2Proof/Machine/Recipe.lean ====
section
/-! DEFINITION. The Recipe instruction set of the Kettle cores (R314 to R331, Table 10-7), one meaning per instruction. A
command names the core; the instruction is the word at the core's PC, and a command whose instruction is another does
nothing (log entry 53). `wait`: cycles that the instruction waits for the Signal Cache port or scratch; `uwait`: cycles that
it has waited for its check-value unit. `mem`: 0 no memory error, 1 and 2 a corrected or uncorrectable instruction word, 3
and 4 a corrected or uncorrectable word of data memory or scratch, 5 a state parity error of the check-value unit, 6 the
instruction only starts on its unit here and a later command ends it; from 16 on, (mem − 16) / 2 corrected words of data
memory or scratch and, where mem is odd, a corrected instruction word. -/

namespace Sys2Proof.Machine

/-! ### The core -/

/-- Register Xi of core Kk; X0 reads 0 (R314). -/
def State.xr (s : State) (k i : Nat) : BitVec 64 := if i = 0 then 0 else (s.kc k).regs.getD i 0

/-- Writes register Xi of core Kk; writes to X0 are discarded (R314). -/
def State.setX (s : State) (k i : Nat) (v : BitVec 64) : State :=
  if i = 0 then s else s.setKc k { s.kc k with regs := (s.kc k).regs.set i v }

/-- Sets the PC of core Kk. -/
def State.setPc (s : State) (k pc : Nat) : State := s.setKc k { s.kc k with pc := pc % 16384 }

/-- BAR2 offset of the memories of the cluster of core Kk (Table 10-5). -/
def ktlMem (k : Nat) : Nat := 0x0A000000 + 0x400000 * (k / 8)

/-- The instruction word at the PC of core Kk. -/
def State.recipeWord (s : State) (k : Nat) : Nat := s.b2w (ktlMem k + 4 * (s.kc k).pc)

/-- Operation code and fields of an instruction word (R318, Table 10-6). -/
def opOf (w : Nat) : Nat := bitsOf w 31 26
def rdOf (w : Nat) : Nat := bitsOf w 25 22
def raOf (w : Nat) : Nat := bitsOf w 21 18
def rbOf (w : Nat) : Nat := bitsOf w 17 14
def immOf (w : Nat) : Nat := bitsOf w 17 0
def modeOf (w : Nat) : Nat := bitsOf w 7 5

/-- imm18 sign-extended and zero-extended to 64 bits. -/
def immS (w : Nat) : BitVec 64 := (BitVec.ofNat 18 (immOf w)).signExtend 64
def immZ (w : Nat) : BitVec 64 := BitVec.ofNat 64 (immOf w)

/-- What an instruction used of the shared resources (R329): 1 the Signal Cache port or 2 scratch, its accesses to the
port, and the cycles it waited for its unit. -/
structure CoreUse where
  res : Nat := 0
  ports : Nat := 0
  unit : Nat := 0

/-- The cycles that it waited, `wait` of them for the port or scratch. -/
def CoreUse.waits (u : CoreUse) (wait : Nat) : Nat := (if u.res = 0 then 0 else wait) + u.unit

/-- The resource that cost the most of them: 0 none, 1 the port, 2 scratch, 3 the unit (R439). -/
def CoreUse.most (u : CoreUse) (wait : Nat) : Nat :=
  if u.waits wait = 0 then 0 else if u.res = 0 ∨ wait < u.unit then 3 else u.res

/-- How an instruction ends: with the cycles it takes without waits and its address; with a fault; or not yet, after
`cycles` more of waiting. -/
inductive CoreEnd
  | go (s : State) (cycles : Nat) (use : CoreUse) (addr : Option Nat)
  | fault (s : State) (code info : Nat) (use : CoreUse) (addr : Option Nat := none)
  | stall (s : State) (cycles : Nat)

/-- The BAR2 offset of the word at the PC of core Kk. -/
def State.pcOff (s : State) (k : Nat) : Nat := ktlMem k + 4 * (s.kc k).pc

/-- An instruction of core Kk that had waited as `use` and `wait` say ends: its cycles, `n` with them, and the counters
and the Tap follow (R329, R436, R439). The latency is that from its issue on. -/
def State.retire (s : State) (k pc : Nat) (m : KtlMid) (n : Nat) (use : CoreUse) (wait : Nat) (addr : Option Nat) (fault : Bool) :
    State :=
  let t1 := s.coreCycles k n
  let t2 := ((t1.perf 0x061 k 1).perf 0x062 k (use.waits wait)).perf 0x063 (k / 8) use.ports
  t2.tapRetire k pc m.word m.stamp ((t1.kc k).cycles - m.cycles) (use.most wait) addr fault

/-- An instruction of core Kk ends in a fault, its PC that of the instruction: a free number of cycles besides its
waits. -/
def State.retireFault (s : State) (k code info : Nat) (m : KtlMid) (use : CoreUse) (wait : Nat) (addr : Option Nat) : State :=
  let pc := (s.kc k).pc
  let lat := (s.coreFault k code info).fresh 12
  lat.2.retire k pc m (lat.1.toNat + use.waits wait) use wait addr true

/-- Runs the instruction at the PC of core Kk where `is` accepts its word: the job limit and the fetch first, unless it
has begun, then `f` with PC already past the instruction, then the cycle counts, the counters and the Tap (R329, R330).
The cycles of an instruction that faults are open, as is the word where it is uncorrectable (log entry 53). -/
def State.recipe (s : State) (k : Nat) (is : Nat → Bool) (wait mem : Nat) (f : Nat → State → CoreEnd) : Answer :=
  if !s.coreRuns k then .next s
  else
    let x := s.kc k
    let m := x.mid.getD ⟨s.recipeWord k, s.stamp, x.cycles⟩
    let w := m.word
    let begins := x.mid.isNone
    if !is w then .next s
    else if begins ∧ s.jobLimit k ≤ x.cycles then .next (s.coreFault k 5 x.pc)
    else if begins ∧ (mem = 2 ∨ s.ktlBad.contains (s.pcOff k)) then
      let r := (s.ktlSpoil (s.pcOff k)).fresh 32
      .next (r.2.retireFault k 6 x.pc { m with word := r.1.toNat } {} 0 none)
    else
      let s1 := if begins ∧ (mem = 1 ∨ (16 ≤ mem ∧ mem % 2 = 1)) then s.inc (ktB (k / 8)) F.ktl_IMEM_CORR_COUNT else s
      match f w (s1.setKc k { s1.kc k with pc := (x.pc + 1) % 16384, mid := none }) with
      | .go t cycles use addr => .next (t.retire k x.pc m (cycles + use.waits wait) use wait addr false)
      | .fault t code info use addr => .next ((t.setPc k x.pc).retireFault k code info m use wait addr)
      | .stall t n => .next ((t.setKc k { t.kc k with pc := x.pc, mid := some m }).coreCycles k n)

/-- A word with operation code `op`. -/
def isOp (op w : Nat) : Bool := opOf w == op

/-- An instruction that writes rd with a function of its word and its registers (Table 10-7). -/
def State.alu (s : State) (k op cycles wait mem : Nat) (f : Nat → (Nat → BitVec 64) → BitVec 64) : Answer :=
  s.recipe k (isOp op) wait mem fun w t => .go (t.setX k (rdOf w) (f w (t.xr k))) cycles {} none

/-- A format R operation on ra and rb. -/
def State.aluR (s : State) (k op cycles wait mem : Nat) (f : BitVec 64 → BitVec 64 → BitVec 64) : Answer :=
  s.alu k op cycles wait mem fun w x => f (x (raOf w)) (x (rbOf w))

/-- A format I operation on ra, its immediate extended by `e`. -/
def State.aluI (s : State) (k op wait mem : Nat) (e : Nat → BitVec 64) (f : BitVec 64 → BitVec 64 → BitVec 64) : Answer :=
  s.alu k op 1 wait mem fun w x => f (x (raOf w)) (e w)

/-- 1 for true, 0 for false, as a register value. -/
def flag64 (b : Bool) : BitVec 64 := if b then 1 else 0

/-- The shift amount of bits [5:0]. -/
def shamt (b : BitVec 64) : Nat := b.toNat % 64

/-! ### Arithmetic and logic -/

/-- ADD, SUB, AND, OR, XOR. -/
def execAdd (k wait mem : Nat) (s : State) : Answer := s.aluR k 0x01 1 wait mem (· + ·)

def execSub (k wait mem : Nat) (s : State) : Answer := s.aluR k 0x02 1 wait mem (· - ·)

def execAnd (k wait mem : Nat) (s : State) : Answer := s.aluR k 0x03 1 wait mem (· &&& ·)

def execOr (k wait mem : Nat) (s : State) : Answer := s.aluR k 0x04 1 wait mem (· ||| ·)

def execXor (k wait mem : Nat) (s : State) : Answer := s.aluR k 0x05 1 wait mem (· ^^^ ·)

/-- SHL, SHR, SAR: by rb[5:0]; SHR logical, SAR arithmetic. -/
def execShl (k wait mem : Nat) (s : State) : Answer := s.aluR k 0x06 1 wait mem fun a b => a <<< shamt b

def execShr (k wait mem : Nat) (s : State) : Answer := s.aluR k 0x07 1 wait mem fun a b => a >>> shamt b

def execSar (k wait mem : Nat) (s : State) : Answer := s.aluR k 0x08 1 wait mem fun a b => a.sshiftRight (shamt b)

/-- MUL: bits [63:0] of the product. -/
def execMul (k wait mem : Nat) (s : State) : Answer := s.aluR k 0x09 3 wait mem (· * ·)

/-- SLT, SLTU. -/
def execSlt (k wait mem : Nat) (s : State) : Answer := s.aluR k 0x0A 1 wait mem fun a b => flag64 (a.slt b)

def execSltu (k wait mem : Nat) (s : State) : Answer := s.aluR k 0x0B 1 wait mem fun a b => flag64 (a.ult b)

/-- MIN, MAX: signed. -/
def execMin (k wait mem : Nat) (s : State) : Answer := s.aluR k 0x0C 1 wait mem fun a b => if a.slt b then a else b

def execMax (k wait mem : Nat) (s : State) : Answer := s.aluR k 0x0D 1 wait mem fun a b => if a.slt b then b else a

/-- ADDI sign-extends its immediate; ANDI, ORI and XORI extend it with zeros. -/
def execAddi (k wait mem : Nat) (s : State) : Answer := s.aluI k 0x10 wait mem immS (· + ·)

def execAndi (k wait mem : Nat) (s : State) : Answer := s.aluI k 0x11 wait mem immZ (· &&& ·)

def execOri (k wait mem : Nat) (s : State) : Answer := s.aluI k 0x12 wait mem immZ (· ||| ·)

def execXori (k wait mem : Nat) (s : State) : Answer := s.aluI k 0x13 wait mem immZ (· ^^^ ·)

/-- SHLI, SHRI, SARI: by imm18[5:0]. -/
def execShli (k wait mem : Nat) (s : State) : Answer := s.aluI k 0x14 wait mem immZ fun a b => a <<< shamt b

def execShri (k wait mem : Nat) (s : State) : Answer := s.aluI k 0x15 wait mem immZ fun a b => a >>> shamt b

def execSari (k wait mem : Nat) (s : State) : Answer := s.aluI k 0x16 wait mem immZ fun a b => a.sshiftRight (shamt b)

/-- SHIN: rd ← (ra << 18) OR imm18. -/
def execShin (k wait mem : Nat) (s : State) : Answer := s.aluI k 0x17 wait mem immZ fun a b => (a <<< 18) ||| b

/-! ### Data memory, scratch and windows (R315, R316, R320, R321) -/

/-- The regions of Table 10-4. -/
inductive Region | dmem | scratch | rx | tx | ctx
  deriving DecidableEq, Repr

/-- The region that holds bytes `a` to `a + n − 1`, with the offset of `a` in it. -/
def regionOf (a n : Nat) : Option (Region × Nat) :=
  if a + n ≤ 0x4000 then some (.dmem, a)
  else if 0x10000 ≤ a ∧ a + n ≤ 0x50000 then some (.scratch, a - 0x10000)
  else if 0x80000 ≤ a ∧ a + n ≤ 0x80800 then some (.rx, a - 0x80000)
  else if 0x81000 ≤ a ∧ a + n ≤ 0x81800 then some (.tx, a - 0x81000)
  else if 0x82000 ≤ a ∧ a + n ≤ 0x82040 then some (.ctx, a - 0x82000)
  else none

/-- BAR2 offset of data memory or scratch as core Kk sees it. -/
def regionBase (k : Nat) (r : Region) : Nat :=
  match r with
  | .dmem => ktlMem k + 0x200000 + 0x4000 * (k % 8)
  | _ => ktlMem k + 0x100000

/-- The job context (Table 10-4). -/
def jobContext (x : KCore) (j : Job) : Bytes :=
  let rx := j.kind == 0
  leBytes 1 j.kind ++ leBytes 1 j.epoch ++ leBytes 1 j.origin ++ leBytes 1 j.chan ++ leBytes 4 j.pdu
    ++ leBytes 4 (if rx then j.data.length else 0) ++ leBytes 4 j.stamp ++ leBytes 4 j.sig ++ leBytes 4 j.ident
    ++ leBytes 1 j.flags ++ leBytes 1 j.sdt ++ leBytes 1 j.vcid ++ [0] ++ leBytes 4 j.af ++ leBytes 8 x.start
    ++ List.replicate 24 0

/-- Bytes received, as X3 shows them. -/
def State.rxLen (s : State) (k : Nat) : Nat :=
  min (((s.kc k).job.map fun j => j.data.length).getD 0) (s.xr k 3).toNat

/-- The receive window: bytes at or beyond X3 read 0. -/
def State.rxWin (s : State) (k : Nat) : Bytes :=
  let d := (((s.kc k).job.map fun j => j.data).getD []).take (s.rxLen k)
  d ++ List.replicate (2048 - d.length) 0

/-- The transmit window. -/
def State.txWin (s : State) (k : Nat) : Bytes :=
  let d := (s.kc k).tx
  d ++ List.replicate (2048 - d.length) 0

/-- Replaces the transmit window. -/
def State.setTxWin (s : State) (k : Nat) (b : Bytes) : State := s.setKc k { s.kc k with tx := b }

/-- `n` bytes of a region. -/
def State.regionRead (s : State) (k : Nat) (r : Region) (o n : Nat) : Bytes :=
  match r with
  | .rx => slice (s.rxWin k) o n
  | .tx => slice (s.txWin k) o n
  | .ctx => slice (((s.kc k).job.map (jobContext (s.kc k))).getD []) o n
  | _ => s.b2Bytes (regionBase k r + o) n

/-- Writes bytes into a region that can be written. -/
def State.regionWrite (s : State) (k : Nat) (r : Region) (o : Nat) (b : Bytes) : State :=
  match r with
  | .tx => s.setTxWin k (putBytes (s.txWin k) o b)
  | .dmem => (s.b2Write (regionBase k .dmem + o) b).ktlMend (regionBase k .dmem + o) b.length
  | .scratch => (s.b2Write (regionBase k .scratch + o) b).ktlMend (regionBase k .scratch + o) b.length
  | _ => s

/-- Whether a region carries a correcting code. -/
def Region.coded (r : Region) : Bool := r == .dmem || r == .scratch

/-- The first protected word that an access to `n` bytes of a region finds uncorrectable; `found`: its first is found so
now. -/
def State.badWord (s : State) (k : Nat) (r : Region) (o n : Nat) (found : Bool) : Option Nat :=
  if r.coded ∧ 0 < n then
    let a := regionBase k r + o
    if found then some (a / 4 * 4) else s.ktlBad.find? fun x => a < x + 4 && x < a + n
  else none

/-- An uncorrectable word that a write of `n` bytes covers only in part: it is read first, as by a store of 1 or 2 bytes
(R330; for APPEND an inference, log entry 53). -/
def State.partBad (s : State) (k : Nat) (r : Region) (o n : Nat) : Option Nat :=
  let a := regionBase k r + o
  if r.coded then s.ktlBad.find? fun x => a < x + 4 && x < a + n && (x < a || a + n < x + 4) else none

/-- The corrected words of data memory and scratch that `mem` tells of. -/
def corrected (mem : Nat) : Nat := if mem = 3 then 1 else (mem - 16) / 2

/-- Each corrected word counts in DMEM_CORR (R330). -/
def State.dmemCorr (s : State) (k mem : Nat) (r : Region) : State :=
  if r.coded then s.addSat (ktB (k / 8)) F.ktl_DMEM_CORR_COUNT (corrected mem) else s

/-- What an access to a region uses. -/
def Region.use (r : Region) : CoreUse := { res := if r = .scratch then 2 else 0 }

/-- A load of `n` bytes; ADDR goes before ALIGN where both apply. -/
def State.loadOp (s : State) (k op n wait mem : Nat) : Answer :=
  s.recipe k (isOp op) wait mem fun w t =>
    let a := (t.xr k (raOf w) + immS w).toNat
    match regionOf a n with
    | none => .fault t 3 a {} (some a)
    | some (r, o) =>
      if a % n ≠ 0 then .fault t 2 a {} (some a)
      else
        match t.badWord k r o n (mem == 4) with
        | some x => .fault (t.ktlSpoil x) 7 a r.use (some a)
        | none =>
          let t1 := t.dmemCorr k mem r
          let v := BitVec.ofNat 64 (leNat (t1.regionRead k r o n))
          .go (t1.setX k (rdOf w) v) (if r = .scratch then 4 else 2) r.use (some a)

/-- A store of the low `n` bytes of rd. A store of 1 or 2 bytes reads its protected word first (R330). -/
def State.storeOp (s : State) (k op n wait mem : Nat) : Answer :=
  s.recipe k (isOp op) wait mem fun w t =>
    let a := (t.xr k (raOf w) + immS w).toNat
    match regionOf a n with
    | none => .fault t 3 a {} (some a)
    | some (r, o) =>
      if r = .rx ∨ r = .ctx then .fault t 3 a {} (some a)
      else if a % n ≠ 0 then .fault t 2 a {} (some a)
      else
        match (if n < 4 then t.badWord k r o n (mem == 4) else none) with
        | some x => .fault (t.ktlSpoil x) 7 a r.use (some a)
        | none =>
          let t1 := if n < 4 then t.dmemCorr k mem r else t
          .go (t1.regionWrite k r o (leBytes n (t1.xr k (rdOf w)).toNat)) (if r = .scratch then 2 else 1) r.use (some a)

/-- LD8 to LD64: zero-extended loads. -/
def execLd8 (k wait mem : Nat) (s : State) : Answer := s.loadOp k 0x18 1 wait mem

def execLd16 (k wait mem : Nat) (s : State) : Answer := s.loadOp k 0x19 2 wait mem

def execLd32 (k wait mem : Nat) (s : State) : Answer := s.loadOp k 0x1A 4 wait mem

def execLd64 (k wait mem : Nat) (s : State) : Answer := s.loadOp k 0x1B 8 wait mem

/-- ST8 to ST64. -/
def execSt8 (k wait mem : Nat) (s : State) : Answer := s.storeOp k 0x1C 1 wait mem

def execSt16 (k wait mem : Nat) (s : State) : Answer := s.storeOp k 0x1D 2 wait mem

def execSt32 (k wait mem : Nat) (s : State) : Answer := s.storeOp k 0x1E 4 wait mem

def execSt64 (k wait mem : Nat) (s : State) : Answer := s.storeOp k 0x1F 8 wait mem

/-- AADD: atomically rd ← the 64-bit scratch word at ra; the word ← old value + rb. -/
def execAadd (k wait mem : Nat) (s : State) : Answer :=
  s.recipe k (isOp 0x2C) wait mem fun w t =>
    let a := (t.xr k (raOf w)).toNat
    match regionOf a 8 with
    | some (.scratch, o) =>
      if a % 8 ≠ 0 then .fault t 2 a {} (some a)
      else
        match t.badWord k .scratch o 8 (mem == 4) with
        | some x => .fault (t.ktlSpoil x) 7 a { res := 2 } (some a)
        | none =>
          let t1 := t.dmemCorr k mem .scratch
          let old := BitVec.ofNat 64 (leNat (t1.regionRead k .scratch o 8))
          let t2 := t1.regionWrite k .scratch o (leBytes 8 (old + t1.xr k (rbOf w)).toNat)
          .go (t2.setX k (rdOf w) old) 6 { res := 2 } (some a)
    | _ => .fault t 3 a {} (some a)

/-! ### Branches -/

/-- A branch: ra in bits [25:22], rb in [21:18], the offset from the next instruction. -/
def State.branch (s : State) (k op wait mem : Nat) (f : BitVec 64 → BitVec 64 → Bool) : Answer :=
  s.recipe k (isOp op) wait mem fun w t =>
    if f (t.xr k (rdOf w)) (t.xr k (raOf w)) then
      .go (t.setPc k (ofSigned 14 ((t.kc k).pc + toSigned 18 (immOf w)))) 2 {} none
    else .go t 1 {} none

/-- BEQ, BNE, BLT, BGE, BLTU, BGEU. -/
def execBeq (k wait mem : Nat) (s : State) : Answer := s.branch k 0x20 wait mem (· == ·)

def execBne (k wait mem : Nat) (s : State) : Answer := s.branch k 0x21 wait mem (· != ·)

def execBlt (k wait mem : Nat) (s : State) : Answer := s.branch k 0x22 wait mem fun a b => a.slt b

def execBge (k wait mem : Nat) (s : State) : Answer := s.branch k 0x23 wait mem fun a b => !a.slt b

def execBltu (k wait mem : Nat) (s : State) : Answer := s.branch k 0x24 wait mem fun a b => a.ult b

def execBgeu (k wait mem : Nat) (s : State) : Answer := s.branch k 0x25 wait mem fun a b => !a.ult b

/-- JAL: rd ← PC + 1, PC ← imm18[13:0]. -/
def execJal (k wait mem : Nat) (s : State) : Answer :=
  s.recipe k (isOp 0x26) wait mem fun w t =>
    .go ((t.setX k (rdOf w) (BitVec.ofNat 64 (t.kc k).pc)).setPc k (immOf w)) 2 {} none

/-- JR: PC ← ra[13:0]. -/
def execJr (k wait mem : Nat) (s : State) : Answer :=
  s.recipe k (isOp 0x27) wait mem fun w t => .go (t.setPc k (t.xr k (raOf w)).toNat) 2 {} none

/-! ### Fields (R320) -/

/-- The fields of a descriptor: byte order, sign, length, start. -/
structure FieldSpec where
  be : Bool
  signed : Bool
  len : Nat
  start : Nat

/-- A descriptor in bits [21:0]. -/
def fieldSpec (d : Nat) : FieldSpec := ⟨bitOf d 21, bitOf d 20, bitsOf d 19 14 + 1, bitsOf d 13 0⟩

/-- Whether some position of a field is 16,384 or above. -/
def FieldSpec.outside (f : FieldSpec) : Bool := (fieldPos f.be f.start f.len).any (16384 ≤ ·)

/-- Reads a field of the receive window into rd. -/
def State.extOp (s : State) (k op wait mem : Nat) (desc : Nat → State → Nat) : Answer :=
  s.recipe k (isOp op) wait mem fun w t =>
    let d := desc w t % 2 ^ 22
    let f := fieldSpec d
    if f.outside then .fault t 4 d {}
    else
      let v := extend f.len f.signed (fieldGet (t.rxWin k) f.be f.start f.len)
      .go (t.setX k (rdOf w) (BitVec.ofNat 64 v)) 2 {} none

/-- Writes a field of the transmit window from rd. -/
def State.insOp (s : State) (k op wait mem : Nat) (desc : Nat → State → Nat) : Answer :=
  s.recipe k (isOp op) wait mem fun w t =>
    let d := desc w t % 2 ^ 22
    let f := fieldSpec d
    if f.outside then .fault t 4 d {}
    else .go (t.setTxWin k (fieldPut (t.txWin k) f.be f.start f.len (t.xr k (rdOf w)).toNat)) 2 {} none

/-- EXTI, EXT, INSI, INS. -/
def execExti (k wait mem : Nat) (s : State) : Answer := s.extOp k 0x28 wait mem fun w _ => w

def execExt (k wait mem : Nat) (s : State) : Answer := s.extOp k 0x2A wait mem fun w t => (t.xr k (raOf w)).toNat

def execInsi (k wait mem : Nat) (s : State) : Answer := s.insOp k 0x29 wait mem fun w _ => w

def execIns (k wait mem : Nat) (s : State) : Answer := s.insOp k 0x2B wait mem fun w t => (t.xr k (raOf w)).toNat

/-! ### Signal Cache instructions (R319, R322, R323) -/

/-- One access to the Signal Cache port. -/
def onePort : CoreUse := { res := 1, ports := 1 }

/-- The bank of the job of core Kk. -/
def State.jobBank (s : State) (k : Nat) : Nat := ((s.kc k).job.map (·.bank)).getD 0

/-- Signal index and PDU index that a register names, within their sections (R295). -/
def State.sigArg (s : State) (k i : Nat) : Nat := s.sigIx (s.jobBank k) ((s.xr k i).toNat % 2 ^ 17)
def State.pduArg (s : State) (k i : Nat) : Nat := s.pduIx (s.jobBank k) ((s.xr k i).toNat % 2 ^ 15)

/-- SREC: rd ← word imm18[1:0] of signal record ra. -/
def execSrec (k wait mem : Nat) (s : State) : Answer :=
  s.recipe k (isOp 0x30) wait mem fun w t =>
    let i := t.sigArg k (raOf w)
    let v := t.b2w (bankB (t.jobBank k) + 16 * i + 4 * (immOf w % 4))
    .go (t.setX k (rdOf w) (BitVec.ofNat 64 v)) 3 onePort (some i)

/-- PREC: rd ← word imm18[2:0] of PDU record ra. -/
def execPrec (k wait mem : Nat) (s : State) : Answer :=
  s.recipe k (isOp 0x31) wait mem fun w t =>
    let j := t.pduArg k (raOf w)
    let v := t.b2w (pduOff (t.jobBank k) j + 4 * (immOf w % 8))
    .go (t.setX k (rdOf w) (BitVec.ofNat 64 v)) 3 onePort (some j)

/-- Forwards a value along the chain of record i; the writes already made stand at a CHAIN fault. -/
def State.forward (s : State) (k i : Nat) (v : Int) (cycles ports : Nat) : CoreEnd :=
  let b := s.jobBank k
  let r := s.chain b v 4096 (s.sigRec b i).next 0
  let use : CoreUse := { res := 1, ports := ports + 2 * r.2.1 }
  if r.2.2 then .go r.1 (cycles + 4 * r.2.1) use (some i) else .fault r.1 10 i use (some i)

/-- A job's first SRCV that updates a source counts the PDU (R322). -/
def State.countRx (s : State) (k : Nat) : State :=
  if (s.kc k).counted then s
  else (s.setKc k { s.kc k with counted := true }).incW sgB F.sigGlobal_PDU_RX_COUNT

/-- SRCV: receive source ra (R322). -/
def execSrcv (k wait mem : Nat) (s : State) : Answer :=
  s.recipe k (isOp 0x32) wait mem fun w t =>
    let b := t.jobBank k
    let i := t.sigArg k (raOf w)
    let r := t.sigRec b i
    if !r.valid then .go t 2 onePort (some i)
    else if r.sink then .fault t 9 i onePort (some i)
    else if (fieldPos r.be r.start r.len).any (8 * (t.xr k 3).toNat ≤ ·) then .go t 2 onePort (some i)
    else
      let v := extend r.len r.signed (fieldGet (t.rxWin k) r.be r.start r.len)
      let t1 := t.sourceSet b i v (((t.kc k).job.map (·.stamp)).getD 0)
      let t2 := (t1.countRx k).perf 0x070 (k / 8) 1
      t2.forward k i (t2.sigNum b i) 6 2

/-- SFWD: forward the VALUE of source ra to its sinks (R323). -/
def execSfwd (k wait mem : Nat) (s : State) : Answer :=
  s.recipe k (isOp 0x33) wait mem fun w t =>
    let i := t.sigArg k (raOf w)
    if (t.sigRec (t.jobBank k) i).valid then t.forward k i (t.sigNum (t.jobBank k) i) 3 0
    else .go t 3 { res := 1 } (some i)

/-- SVAL: rd ← VALUE of signal ra. -/
def execSval (k wait mem : Nat) (s : State) : Answer :=
  s.recipe k (isOp 0x34) wait mem fun w t =>
    let i := t.sigArg k (raOf w)
    .go (t.setX k (rdOf w) (BitVec.ofNat 64 (t.sigVal (t.jobBank k) i))) 3 onePort (some i)

/-- SSET: VALUE of signal ra ← rb; for a sink CHANGED as in R322. -/
def execSset (k wait mem : Nat) (s : State) : Answer :=
  s.recipe k (isOp 0x35) wait mem fun w t =>
    let b := t.jobBank k
    let i := t.sigArg k (raOf w)
    let r := t.sigRec b i
    let v := (t.xr k (rbOf w)).toNat
    let t1 := if r.sink then t.sinkSet b i v else t.b2Write (sigSt b i) (leBytes 8 (extend r.len r.signed v))
    .go t1 2 onePort (some i)

/-- XFM: rd ← bits [63:0] of transform entry rb applied to ra. -/
def execXfm (k wait mem : Nat) (s : State) : Answer :=
  s.recipe k (isOp 0x36) wait mem fun w t =>
    let v := t.transform (t.jobBank k) (t.xr k (rbOf w)).toNat (t.xr k (raOf w)).toInt
    .go (t.setX k (rdOf w) (BitVec.ofInt 64 v)) 4 {} none

/-- PGET: rd ← word imm18[1:0] of the PDU state of PDU ra. -/
def execPget (k wait mem : Nat) (s : State) : Answer :=
  s.recipe k (isOp 0x37) wait mem fun w t =>
    let j := t.pduArg k (raOf w)
    let v := t.b2w (pduSt (t.jobBank k) j + 4 * (immOf w % 4))
    .go (t.setX k (rdOf w) (BitVec.ofNat 64 v)) 3 onePort (some j)

/-- PCNT: LAST_CNT of PDU ra ← rb[7:0]; SEEN ← 1. -/
def execPcnt (k wait mem : Nat) (s : State) : Answer :=
  s.recipe k (isOp 0x38) wait mem fun w t =>
    let j := t.pduArg k (raOf w)
    .go (t.setCount (t.jobBank k) j ((t.xr k (rbOf w)).toNat % 256) true) 2 onePort (some j)

/-! ### Check-value units (R326 to R328, R336) -/

/-- Bytes of the field: ⌈WIDTH / 8⌉. -/
def CrcCfg.bytes (c : CrcCfg) : Nat := (c.width + 7) / 8

/-- The low `w` bits of a number in reverse order. -/
def revBits : Nat → Nat → Nat
  | 0, _ => 0
  | w + 1, n => n % 2 * 2 ^ w + revBits w (n / 2)

/-- One bit of the code (R326). -/
def CrcCfg.bit (c : CrcCfg) (reg : Nat) (d : Bool) : Nat :=
  let top := bitOf reg (c.width - 1) != d
  let r := 2 * reg % 2 ^ c.width
  if top then Nat.xor r c.poly else r

/-- The context after some bytes (R326). -/
def CrcCfg.feedBytes (c : CrcCfg) (reg : Nat) (b : Bytes) : Nat :=
  b.foldl (fun r d =>
    let v := if c.refin then revBits 8 d.toNat else d.toNat
    ([7, 6, 5, 4, 3, 2, 1, 0] : List Nat).foldl (fun q i => c.bit q (bitOf v i)) r) reg

/-- The check value of a context (R326). -/
def CrcCfg.out (c : CrcCfg) (reg : Nat) : Nat :=
  let r := reg % 2 ^ c.width
  let o := if c.refout then revBits c.width r else r
  if c.inv then 2 ^ c.width - 1 - o else o

/-- The check value of some bytes from INIT. -/
def CrcCfg.calc (c : CrcCfg) (b : Bytes) : Nat := c.out (c.feedBytes c.init b)

/-- A check value as the field bytes, and read from them. -/
def CrcCfg.field (c : CrcCfg) (v : Nat) : Bytes := if c.fieldBe then beBytes c.bytes v else leBytes c.bytes v
def CrcCfg.unfield (c : CrcCfg) (b : Bytes) : Nat := (if c.fieldBe then beNat b else leNat b) % 2 ^ c.width

/-- Cycles to feed `n` bytes. -/
def CrcCfg.cycles (c : CrcCfg) (n : Nat) : Nat := (n + c.feed - 1) / c.feed

/-- Unit u ends an instruction with configuration c that waited `n` cycles for it; a state parity error raises the UNIT
fault (R328). -/
def State.unitEnd (s : State) (u mem res n : Nat) (f : State → CoreEnd) : CoreEnd :=
  let b := crB u
  let s1 := s.addWrap b F.crc_WAIT_CYC_COUNT n
  if mem = 5 then
    .fault (((s1.pf b hdrFault 1).inc b F.crc_PARITY_COUNT).raise (384 + u) u) 8 u { res := res, ports := res % 2, unit := n }
  else f (s1.incW b F.crc_USES_COUNT)

/-- Unit u serves an instruction of core Kk that uses `res` besides: at once where nothing uses the unit and `mem` does
not split it, else when the core's turn has come (R328). A page not in RUN raises the UNIT fault (R327, R336). -/
def State.useUnit (s : State) (k u uwait mem res : Nat) (f : CrcCfg → Nat → State → CoreEnd) : CoreEnd :=
  match (s.crcUnit u).serving.filter fun x => x.core == k with
  | some x =>
    let n := if x.waited then uwait else 0
    if mem = 6 then .stall s 0 else (s.unitNext u).unitEnd u mem res n (f x.cfg n)
  | none =>
    if !s.run .crc u then .fault s 8 u { res := res, ports := res % 2 }
    else if s.crcUnit u ≠ .idle then .stall (s.unitAsk u k) 0
    else if mem = 6 then .stall (s.setCrc u ⟨some ⟨k, false, 0, s.crcCfg u⟩, []⟩) 0
    else s.unitEnd u mem res 0 (f (s.crcCfg u) 0)

/-- The coverage of a PDU's bytes under R325. -/
def e2eCover (c : CrcCfg) (p : PduRec) (b : Bytes) : Bytes :=
  (if c.idPrefix then leBytes 2 p.id else []) ++ (b.take p.len).take p.crcPos ++ (b.take p.len).drop (p.crcPos + c.bytes)

/-- A counted finding of R287: 1 a wrong check value, 2 a counter finding. -/
def State.e2eFinding (s : State) (d : Nat) : State :=
  let first := s.gf sgB F.sigGlobal_E2E_CRC_ERR_COUNT == 0 && s.gf sgB F.sigGlobal_E2E_CNT_ERR_COUNT == 0
  (s.inc sgB (if d = 1 then F.sigGlobal_E2E_CRC_ERR_COUNT else F.sigGlobal_E2E_CNT_ERR_COUNT)).raiseIf first 324 d

/-- The counter part of R287 for a PDU with a correct check value: whether sources are updated, and the state with the
finding counted. -/
def State.e2eCounter (s : State) (b j : Nat) (p : PduRec) (cnt : Nat) : State × Bool :=
  let last := (s.b2 (pduSt b j + 8)).toNat
  let seen := bitOf (s.b2 (pduSt b j + 9)).toNat 1
  let d := (cnt + 2 ^ 15 - last % 2 ^ p.cntBits) % 2 ^ p.cntBits
  if !seen ∨ p.cntBits = 0 then (s, true)
  else if d = 0 then (s.e2eFinding 2, false)
  else if p.maxDelta < d then (s.e2eFinding 2, true)
  else (s, true)

/-- E2EC: check PDU ra under R287; rd ← 0 update sources, 1 update none. -/
def execE2ec (k wait uwait mem : Nat) (s : State) : Answer :=
  s.recipe k (isOp 0x39) wait mem fun w t =>
    let b := t.jobBank k
    let j := t.pduArg k (raOf w)
    let p := t.pduRec b j
    if !p.e2e then .go (t.setX k (rdOf w) 0) 2 onePort (some j)
    else
      t.useUnit k p.unit uwait mem 1 fun c n t1 =>
        let win := t1.rxWin k
        let cover := e2eCover c p win
        let fits := decide (p.crcPos + c.bytes ≤ t1.rxLen k)
        let good := fits && c.unfield (slice win p.crcPos c.bytes) == c.calc cover
        let cycles := 5 + c.cycles cover.length
        if good then
          let cnt := fieldGet win false p.cntPos p.cntBits
          let r := t1.e2eCounter b j p cnt
          .go ((r.1.setCount b j cnt true).setX k (rdOf w) (flag64 (!r.2))) cycles { onePort with unit := n } (some j)
        else .go ((t1.e2eFinding 1).setX k (rdOf w) 1) cycles { onePort with unit := n } (some j)

/-- E2EP: protect transmit PDU ra (R325). -/
def execE2ep (k wait uwait mem : Nat) (s : State) : Answer :=
  s.recipe k (isOp 0x3B) wait mem fun w t =>
    let b := t.jobBank k
    let j := t.pduArg k (raOf w)
    let p := t.pduRec b j
    if !p.e2e then .go t 2 onePort (some j)
    else
      t.useUnit k p.unit uwait mem 1 fun c n t1 =>
        let cnt := ((t1.b2 (pduSt b j + 8)).toNat + 1) % 2 ^ p.cntBits
        let t2 := if p.cntBits = 0 then t1
          else (t1.setTxWin k (fieldPut (t1.txWin k) false p.cntPos p.cntBits cnt)).setCount b j cnt false
        let cover := e2eCover c p (t2.txWin k)
        .go (t2.setTxWin k (putBytes (t2.txWin k) p.crcPos (c.field (c.calc cover)))) (5 + c.cycles cover.length)
          { onePort with unit := n } (some j)

/-! ### Transmit PDUs (R289, R324) -/

/-- The sinks of a transmit PDU. -/
def State.pduSinks (s : State) (b : Nat) (p : PduRec) : List Nat :=
  ((List.range p.count).map fun n => s.sigIx b (p.first + n)).filter fun i =>
    (s.sigRec b i).valid && (s.sigRec b i).sink

/-- PASM: assemble transmit PDU ra. -/
def execPasm (k wait mem : Nat) (s : State) : Answer :=
  s.recipe k (isOp 0x3A) wait mem fun w t =>
    let b := t.jobBank k
    let j := t.pduArg k (raOf w)
    let p := t.pduRec b j
    let sinks := t.pduSinks b p
    let win := sinks.foldl (fun (x : Bytes) i =>
      let r := t.sigRec b i
      fieldPut x r.be r.start r.len (t.sigVal b i)) (putBytes (t.txWin k) 0 (List.replicate p.len p.fill))
    let t1 := (t.setTxWin k win).setChanged b j false
    let mine := (((t1.kc k).job.map (·.pdu)).getD 0) == j
    let t2 := if mine then t1.setKc k { t1.kc k with assembled := true } else t1
    .go t2 (4 + (p.len + 7) / 8 + 3 * sinks.length) { res := 1, ports := sinks.length } (some j)

/-- The ACF messages of a PDU with its data (R289). -/
def pduMessages (p : PduRec) (time : Nat) (d : Bytes) : List Bytes :=
  match p.fmt with
  | 2 => [acfLin p.chan time (p.id % 64) d]
  | 3 => acfXlAll p.chan time (makeFrame false (p.id % 2048) 2 (d.length - 1) false false p.sdt p.vcid 0 false d) 2020
  | _ => [acfCan false p.chan time ⟨p.fmt == 1, p.id, 2048 * b2n p.fdf + 8192 * b2n p.brs, 0, false, d⟩]

/-- Bytes in the output buffer of cluster c. -/
def State.outBytes (s : State) (c : Nat) : Nat :=
  let a := s.fwd.waiting.foldl (fun n f => n + if ofCluster c f then 8 + f.bytes.length else 0) 0
  let b := s.fwd.looked.foldl (fun n x => n + if ofCluster c x.frame then 8 + x.frame.bytes.length else 0) a
  s.fab.entering.foldl (fun n f =>
    n + if clusterHdr c f.info.src f.info.hdr then 8 + f.bytes.length else 0) b

/-- The frames of messages, with consecutive sequence numbers of an OUT_STREAM entry. -/
def State.streamFrames (s : State) (e : Nat) (msgs : List Bytes) : List Bytes :=
  let b := sgB + 0x20 * e
  let da := s.macOf b F.sigGlobal_OUT_STREAM_DA_HI_DA_HI F.sigGlobal_OUT_STREAM_DA_LO_DA_LO
  let tag := if s.on b F.sigGlobal_OUT_STREAM_TAG_EN then
      some (s.gf b F.sigGlobal_OUT_STREAM_PCP * 0x2000 + s.gf b F.sigGlobal_OUT_STREAM_VID) else none
  let stream := beBytes 4 (s.gf b F.sigGlobal_OUT_STREAM_SID_HI_SID_HI) ++
    beBytes 4 (s.gf b F.sigGlobal_OUT_STREAM_SID_LO_SID_LO)
  let seq := look (fun _ => 0) s.sig.seqs e
  (numbered 0 msgs).map fun x => ntscfFrame da s.srcMac tag ((seq + x.1) % 256) stream x.2

/-- For R288 the PDU has been sent now. -/
def State.noteSent (s : State) (b j : Nat) : State :=
  { s with sig := { s.sig with sentAt := put (fun _ => 0) s.sig.sentAt (32768 * b + j) (s.now + 1) } }

/-- SEND: send transmit PDU ra; it waits while the output buffer cannot hold the frames. -/
def execSend (k wait mem : Nat) (s : State) : Answer :=
  s.recipe k (isOp 0x3C) wait mem fun w t =>
    let b := t.jobBank k
    let j := t.pduArg k (raOf w)
    let p := t.pduRec b j
    let c := k / 8
    if !p.tx then .fault t 11 j {}
    else if !t.on (sgB + 0x20 * p.stream) F.sigGlobal_OUT_STREAM_VALID then .go (t.noteSent b j) 2 {} (some j)
    else
      let msgs := pduMessages p t.now ((t.txWin k).take p.len)
      let frames := t.streamFrames p.stream msgs
      let need := frames.foldl (fun a f => a + 8 + f.length) 0
      if 32768 < t.outBytes c + need then
        .stall (t.incW (ktB c) F.ktl_SEND_STALL_COUNT) 1
      else
        let hdr := busHdr 3 k 0 t.stamp
        let t1 := frames.foldl (fun (a : State) f => a.rxEnter ⟨21, a.stamp, f, hdr, false, 0, none, 0, none⟩) t
        let seq := (look (fun _ => 0) t1.sig.seqs p.stream + frames.length) % 256
        let t2 : State := { t1 with sig := { t1.sig with seqs := put (fun _ => 0) t1.sig.seqs p.stream seq } }
        .go (((t2.pduStamp b j t2.stamp).noteSent b j).incW sgB F.sigGlobal_PDU_TX_COUNT) 2 {} (some j)

/-! ### CVU (R327, Table 10-9) -/

/-- The memory of a window of the CVU: region, size, first data address. -/
def cvuWindow (n : Nat) : Region × Nat × Nat :=
  match n with
  | 0 => (.rx, 0x800, 0x80000)
  | 1 => (.tx, 0x800, 0x81000)
  | 2 => (.dmem, 0x4000, 0)
  | _ => (.scratch, 0x40000, 0x10000)

/-- A CVU operation over a range: the range must lie in its window with `more` bytes after it, and holds `least` bytes
or more. -/
def State.cvu (s : State) (k mode wait uwait mem : Nat)
    (f : CrcCfg → State → Nat → Region → Nat → Nat → Bytes → State × Nat) (append : Bool) : Answer :=
  s.recipe k (fun w => opOf w == 0x3D && (modeOf w == mode || (mode == 0 && 5 ≤ modeOf w))) wait mem fun w t =>
    let u := bitsOf w 13 10
    let win := cvuWindow (bitsOf w 9 8)
    let a := (t.xr k (raOf w)).toNat
    let n := (t.xr k (rbOf w)).toNat
    let c0 := (((t.crcUnit u).serving.filter fun x => x.core == k).map (·.cfg)).getD (t.crcCfg u)
    let addr := (win.2.2 + a) % 2 ^ 32
    if 5 ≤ modeOf w ∨ (append ∧ win.1 = .rx) ∨ (mode = 3 ∧ n < c0.bytes) ∨ (!t.unitServes u k ∧ !t.run .crc u) then
      .fault t 8 u {}
    else if win.2.1 < a + n + (if append then c0.bytes else 0) then .fault t 3 addr {}
    else t.useUnit k u uwait mem win.1.use.res fun c un t1 =>
      let use : CoreUse := { win.1.use with unit := un }
      match t1.badWord k win.1 a n (mem == 4) with
      | some x => .fault (t1.ktlSpoil x) 7 addr use
      | none =>
        let t2 := t1.dmemCorr k mem win.1
        let r := f c t2 w win.1 a n (t2.regionRead k win.1 a n)
        match (if append then t1.partBad k win.1 (a + n) c.bytes else none) with
        | some _ => .fault t2 7 addr use
        | none => .go r.1 r.2 use none

/-- CVU_CALC: rd ← out of the range, from INIT; modes 5 to 7 raise the UNIT fault. -/
def execCvuCalc (k wait uwait mem : Nat) (s : State) : Answer :=
  s.cvu k 0 wait uwait mem (fun c t w _ _ n d => (t.setX k (rdOf w) (BitVec.ofNat 64 (c.calc d)), 3 + c.cycles n)) false

/-- CVU_FEED: rd ← context after the range, from the context in rd. -/
def execCvuFeed (k wait uwait mem : Nat) (s : State) : Answer :=
  s.cvu k 1 wait uwait mem (fun c t w _ _ n d =>
    let ctx := (t.xr k (rdOf w)).toNat % 2 ^ c.width
    (t.setX k (rdOf w) (BitVec.ofNat 64 (c.feedBytes ctx d)), 3 + c.cycles n)) false

/-- CVU_FINAL: rd ← out of the context rd, without feeding. -/
def execCvuFinal (k wait uwait mem : Nat) (s : State) : Answer :=
  s.recipe k (fun w => opOf w == 0x3D && modeOf w == 2) wait mem fun w t =>
    t.useUnit k (bitsOf w 13 10) uwait mem 0 fun c un t1 =>
      .go (t1.setX k (rdOf w) (BitVec.ofNat 64 (c.out (t1.xr k (rdOf w)).toNat))) 2 { unit := un } none

/-- CVU_STRIP: compares the check value of the first rb − f bytes with the last f; rd ← 0 on a match, 1 otherwise. -/
def execCvuStrip (k wait uwait mem : Nat) (s : State) : Answer :=
  s.cvu k 3 wait uwait mem (fun c t w _ _ n d =>
    let m := n - c.bytes
    (t.setX k (rdOf w) (flag64 (c.unfield (d.drop m) != c.calc (d.take m))), 3 + c.cycles m)) false

/-- CVU_APPEND: writes the check value in the f bytes after the range; rd ← out. -/
def execCvuAppend (k wait uwait mem : Nat) (s : State) : Answer :=
  s.cvu k 4 wait uwait mem (fun c t w r a n d =>
    let v := c.calc d
    ((t.regionWrite k r (a + n) (c.field v)).setX k (rdOf w) (BitVec.ofNat 64 v), 4 + c.cycles n)) true

/-! ### Page states of the check-value units (R336) -/

/-- What an instruction that waits for or uses a unit uses besides. -/
def unitRes (w : Nat) : CoreUse :=
  if opOf w = 0x3D then (if modeOf w = 2 then {} else (cvuWindow (bitsOf w 9 8)).1.use) else onePort

/-- The instructions of these cores, with the cycles that each has waited for unit u, end in the UNIT fault; the waits
are counted (R329, R336). -/
def State.unitFaults (s : State) (u : Nat) (cores : List (Nat × Nat)) : State :=
  cores.foldl (fun (a : State) x =>
    let m := ((a.kc x.1).mid).getD ⟨0, 0, 0⟩
    (a.addWrap (crB u) F.crc_WAIT_CYC_COUNT x.2).retireFault x.1 8 u m { unitRes m.word with unit := x.2 } 0 none) s

/-- The cores that wait for unit u, with the cycles that they have waited. -/
def State.unitWaits (s : State) (u : Nat) : List (Nat × Nat) := (s.crcUnit u).waiting.map fun x => (x.1, s.ktlNow - x.2)

/-- The page of unit u has left RUN: the cores that wait fault. -/
def State.crcLeave (s : State) (u : Nat) : State :=
  (s.setCrc u { s.crcUnit u with waiting := [] }).unitFaults u (s.unitWaits u)

/-- SRST of the page of unit u: the instruction in progress ends with the UNIT fault too. -/
def State.crcSrst (s : State) (u : Nat) : State :=
  (s.setCrc u .idle).unitFaults u ((s.crcUnit u).serving.toList.map (fun x => (x.core, x.wait)) ++ s.unitWaits u)

/-! ### The rest -/

/-- TIME: rd ← TIME_NS at issue. -/
def execTime (k wait mem : Nat) (s : State) : Answer :=
  s.recipe k (isOp 0x3E) wait mem fun w t => .go (t.setX k (rdOf w) (BitVec.ofNat 64 t.now)) 1 {} none

/-- END: end the job. -/
def execEnd (k wait mem : Nat) (s : State) : Answer :=
  s.recipe k (isOp 0x3F) wait mem fun _ t => .go (t.jobEnd k) 1 {} none

/-- The operation codes that Table 10-7 does not list. -/
def unlisted (op : Nat) : Bool :=
  op == 0 || op == 0x0E || op == 0x0F || (0x2D ≤ op && op ≤ 0x2F)

/-- BADOP: an unlisted operation code raises the BADOP fault. -/
def execBadop (k wait mem : Nat) (s : State) : Answer :=
  s.recipe k (fun w => unlisted (opOf w)) wait mem fun w t => .fault t 1 w {}

end Sys2Proof.Machine
end

