-- ==== Sys2Proof/Machine/T1s.lean ====
section
/-! DEFINITION. 10BASE-T1S segments (Chapter 6), the frames that leave the fabric at F20 (R258), and the records that
twins share (R274). -/

namespace Sys2Proof.Machine

/-! ### Segments -/

/-- Base of the page of segment Sn. -/
def t1B (n : Nat) : Nat := pageBase .t1s n

/-- A segment's frames and stamps. -/
def State.seg (s : State) (n : Nat) : Segment := look (fun _ => Segment.new) s.segs n

/-- Replaces them. -/
def State.setSeg (s : State) (n : Nat) (x : Segment) : State :=
  { s with segs := put (fun _ => Segment.new) s.segs n x }

/-- EV(193 + 2n): PLCA_OK = 0 while PLCA_EN = 1, or PHY_OK = 0 (Table 6-7). -/
def State.segLevel (s : State) (n : Nat) : State :=
  let b := t1B n
  s.level (193 + 2 * n) ((s.on b F.t1s_SEG_CTL_PLCA_EN && !s.on b F.t1s_SEG_STS_PLCA_OK) || !s.on b F.t1s_SEG_STS_PHY_OK) 0

/-- The segment transmits in its opportunity only (R202). -/
def State.plca (s : State) (n : Nat) : Bool := s.on (t1B n) F.t1s_SEG_CTL_PLCA_EN && s.on (t1B n) F.t1s_SEG_STS_PLCA_OK

/-- Whether the segment works: page in RUN, PHY powered. -/
def State.segRuns (s : State) (n : Nat) : Bool := s.run .t1s n && s.lineOn 2

/-- PHY_OK follows whether the segment works (log entry 61). -/
def State.segPhy (s : State) (n : Nat) : State :=
  if s.alive .t1s n then (s.pf (t1B n) F.t1s_SEG_STS_PHY_OK (b2n (s.segRuns n))).segLevel n else s

/-- The page leaves RUN, or the PHY loses power: a frame in transmission stops with it, so that the page drains at once.
The T1S chapter names no work in flight for a segment page; that the frame is cut there is the model's choice (R48;
DESIGN CHOICE, log entry 137). -/
def State.t1sLeave (s : State) (n : Nat) : State :=
  let s1 := (s.pf (t1B n) F.t1s_SEG_STS_PHY_OK 0).pf (t1B n) F.t1s_SEG_STS_PLCA_OK 0
  (s1.setSeg n { s1.seg n with busyTo := 0, waitTo := 0, burst := 0, cycleTo := 0 }).segLevel n

/-! ### Transmission (R202, R203) -/

/-- The transmit stamp of a PTP event message (R205). -/
def State.segStampTx (s : State) (n : Nat) (b : Bytes) (stamp : Nat) : State :=
  match s.ptpRecord b stamp with
  | none => s
  | some r =>
    let x := s.seg n
    if x.stamps.length < 16 then s.setSegStamps n x (x.stamps ++ [r]) else s.inc (t1B n) ⟨0x064, 31, 16⟩

/-- The first waiting frame of Sn leaves, with the given stamp. A further one of a burst starts within BURST_TMR bit
times of its end, which lies the 96 bit times of the gap before the end of its time on the segment (R203). -/
def State.segSend (s : State) (n stamp : Nat) : State :=
  let x := s.seg n
  match x.tx with
  | [] => s
  | f :: rest =>
    let limit := x.busyTo + s.gf (t1B n) F.t1s_PLCA_TMR_BURST_TMR * 100000 - 9600000
    let s1 := s.setSeg n { x with tx := rest, collisions := 0, busyTo := 0, waitTo := 0, limit := limit }
    ((s1.emit (.t1sTx n f)).incW (t1B n) F.t1s_TX_GOOD_COUNT).segStampTx n f stamp

/-- Time of a frame on the segment with delimiter and gap, in picoseconds: 100 ns a bit (R202). -/
def segTime (f : Bytes) : Nat := (f.length + 20) * 800000

/-- A frame in transmission whose time is over has left; its stamp is the instant of the first bit after its delimiter,
64 bit times after its start (R197, R205). -/
def State.segFinish (s : State) (n : Nat) : State :=
  let x := s.seg n
  if x.busyTo ≠ 0 ∧ x.busyTo ≤ s.ps then
    let ago := (s.ps - x.busyTo + segTime (x.tx.headD [])) / 1000
    s.segSend n ((s.stampAt 0 + 2 ^ 64 - ago + 6400) % 2 ^ 32)
  else s

/-- The segment's own transmit opportunity comes `wait` bit times from now and lasts TO_TIMER bit times: one frame and
up to MAX_BC further ones (R203). -/
def State.segBurst (s : State) (n wait : Nat) : State :=
  let s1 := s.segFinish n
  let x := s1.seg n
  if x.busyTo ≠ 0 then s1
  else
    let at_ := s.ps + wait * 100000
    s1.setSeg n { x with burst := 1 + s.gf (t1B n) F.t1s_PLCA_TMR_MAX_BC, waitTo := at_, limit := at_ + s.gf (t1B n) F.t1s_PLCA_TMR_TO_TIMER * 100000 - 1 }

/-- The picoseconds of `n` transmit opportunities that pass unused. -/
def State.segTurns (s : State) (n turns : Nat) : Nat := turns * s.gf (t1B n) F.t1s_PLCA_TMR_TO_TIMER * 100000

/-- A tick of CLK_SYS: a frame whose time is over has left; the next one starts, under PLCA only in the own opportunity
(R202). A frame that is longer than MAX_LEN when it would start is dropped (R191, R204). An opportunity in which no
further frame can start is over; the coordinator's cycle ends NODE_COUNT − 1 unused opportunities after its last frame.
-/
def State.segTick (s0 : State) (n : Nat) : State :=
  let s := s0.segFinish n
  let x := s.seg n
  if x.busyTo ≠ 0 ∨ !s.segRuns n ∨ s.ps < x.waitTo then s
  else
    let x := if x.limit < s.ps then { x with burst := 0 } else x
    match x.tx with
    | [] => if x = s.seg n then s else s.setSeg n x
    | f :: rest =>
      if s.plca n ∧ x.burst = 0 then s.setSeg n x
      else if s.gf (t1B n) F.t1s_MAX_LEN_BYTES < f.length then s.setSeg n { x with tx := rest, collisions := 0 }
      else
        let turns := s.segTurns n (s.gf (t1B n) F.t1s_SEG_CTL_NODE_COUNT - 1)
        s.setSeg n { x with busyTo := s.ps + segTime f, burst := x.burst - 1, cycleTo := max x.cycleTo (s.ps + segTime f + turns) }

/-- PLCA_BEACON: segment Sn, the coordinator, sends a BEACON; its own opportunity, number 0, follows the BEACON's 2 µs.
The next BEACON comes after NODE_COUNT opportunities (R203), so that an earlier command does not take place. -/
def execPlcaBeacon (n : Nat) (s : State) : Answer :=
  let b := t1B n
  if n < 8 ∧ s.segRuns n ∧ s.on b F.t1s_SEG_CTL_PLCA_EN ∧ s.gf b F.t1s_SEG_CTL_LOCAL_ID = 0 ∧ (s.seg n).cycleTo ≤ s.ps then
    let s1 := (s.pf b F.t1s_SEG_STS_COORD 1).pf b F.t1s_SEG_STS_PLCA_OK 1
    let s2 := (s1.segLevel n).segBurst n 20
    .next (s2.setSeg n { s2.seg n with cycleTo := s.ps + 2000000 + s.segTurns n (s.gf b F.t1s_SEG_CTL_NODE_COUNT) })
  else .next s

/-- PLCA_BEACON_RECEIVED: a follower has received a BEACON; its own opportunity comes after those of the lower IDs, each
taken to pass unused (log entry 61). -/
def execPlcaBeaconReceived (n : Nat) (s : State) : Answer :=
  let b := t1B n
  let id := s.gf b F.t1s_SEG_CTL_LOCAL_ID
  if n < 8 ∧ s.segRuns n ∧ s.on b F.t1s_SEG_CTL_PLCA_EN ∧ 1 ≤ id ∧ id ≤ 254 then
    let s1 := (s.pf b F.t1s_SEG_STS_COORD 0).pf b F.t1s_SEG_STS_PLCA_OK 1
    .next ((s1.segLevel n).segBurst n (id * s.gf b F.t1s_PLCA_TMR_TO_TIMER))
  else .next s

/-- PLCA_BEACON_LOST: a follower has seen no valid BEACON for 4,000 bit times and falls back to CSMA/CD. -/
def execPlcaBeaconLost (n : Nat) (s : State) : Answer :=
  let b := t1B n
  if n < 8 ∧ s.segRuns n ∧ s.plca n ∧ s.gf b F.t1s_SEG_CTL_LOCAL_ID ≠ 0 then
    let s1 := ((s.pf b F.t1s_SEG_STS_PLCA_OK 0).inc b F.t1s_BEACON_LOST_COUNT).segLevel n
    .next (s1.setSeg n { s1.seg n with burst := 0 })
  else .next s

/-- T1S_COLLISION: the frame in transmission collides. The sixteenth time it is discarded; before that it is sent again
after a backoff of a free number of slots (log entry 61). -/
def execT1sCollision (n : Nat) (late : Bool) (s : State) : Answer :=
  let x := s.seg n
  if n < 8 ∧ s.alive .t1s n ∧ x.tx ≠ [] ∧ x.busyTo ≠ 0 then
    let s1 := s.inc (t1B n) (if late then F.t1s_LATE_COLL_COUNT else F.t1s_COLLISIONS_COUNT)
    let k := x.collisions + 1
    if 16 ≤ k then
      .next ((s1.setSeg n { x with tx := x.tx.drop 1, collisions := 0, busyTo := 0, waitTo := 0, burst := 0 }).inc (t1B n) F.t1s_TX_ABORT_COUNT)
    else
      let r := s1.fresh 16
      let slots := r.1.toNat % 2 ^ min k 10
      .next (r.2.setSeg n { x with collisions := k, busyTo := 0, burst := 0, waitTo := s.ps + slots * 51200000 })
  else .next s

/-! ### Discovery (R206) -/

/-- Discovery entry e of Sn: valid, node ID, address. -/
def State.discAt (s : State) (n e : Nat) : Bool × Nat × Bytes :=
  let b := t1B n
  (s.on b (F.t1s_DISC_VALID.at (16 * e)), s.gf b (F.t1s_DISC_NODE_ID.at (16 * e)),
    beBytes 2 (s.gf b (F.t1s_DISC_4_MAC_HI.at (16 * e))) ++ beBytes 4 (s.gf b (F.t1s_DISC_8_MAC_LO.at (16 * e))))

/-- Writes the address and the time of entry e. -/
def State.discSet (s : State) (n e : Nat) (mac : Bytes) : State :=
  let b := t1B n
  ((s.pf b (F.t1s_DISC_4_MAC_HI.at (16 * e)) (beAt mac 0 2)).pf b (F.t1s_DISC_8_MAC_LO.at (16 * e)) (beAt mac 2 4)).pf b
    (F.t1s_DISC_C_LAST_SEEN.at (16 * e)) s.stamp

/-- A GOOD frame from a node. -/
def State.discover_ (s : State) (n id : Nat) (mac : Bytes) : State :=
  let b := t1B n
  let same (e : Nat) : Bool :=
    let d := s.discAt n e
    d.1 && d.2.1 == id && (id != 0xFF || d.2.2 == mac)
  match (List.range 8).find? same with
  | some e =>
    let old := (s.discAt n e).2.2
    let s1 := if old = mac then s else s.nodeLeft (s.localNode 2 n old id)
    (s1.discSet n e mac).nodeSeen (s.localNode 2 n mac id)
  | none =>
    match (List.range 8).find? fun e => !(s.discAt n e).1 with
    | none => s.inc b F.t1s_DISC_FULL_COUNT
    | some e =>
      let s1 := (s.pf b (F.t1s_DISC_VALID.at (16 * e)) 1).pf b (F.t1s_DISC_NODE_ID.at (16 * e)) id
      ((s1.discSet n e mac).raise (192 + 2 * n) id).nodeSeen (s.localNode 2 n mac id)

/-- T1S_NODE_DEPART: entry e of Sn has had no GOOD frame for DEPART_MS. While DISC_EN is 0 the entries stay and none
departs; the chapter says nothing of entries that are listed when it is cleared (R206; DESIGN CHOICE, log entry 137). -/
def execT1sNodeDepart (n e : Nat) (s : State) : Answer :=
  let d := s.discAt n e
  if n < 8 ∧ e < 8 ∧ s.alive .t1s n ∧ s.on (t1B n) F.t1s_DISC_CTL_DISC_EN ∧ d.1 then
    let s1 := s.zeroWords (t1B n + 0x100 + 16 * e) 4
    .next ((s1.raise (192 + 2 * n) (0x80 + e)).nodeLeft (s1.localNode 2 n d.2.2 d.2.1))
  else .next s

/-- A write of SEG_CTL: the level of EV(193 + 2n) follows PLCA_EN (Table 6-7). -/
def State.t1sTrigger (n o : Nat) (s : State) : State := if o = 0x040 then s.segLevel n else s

/-- SRST of a segment's page. -/
def State.t1sSrst (s : State) (n : Nat) : State :=
  let gone := (List.range 8).filter fun e => (s.discAt n e).1
  let s1 := gone.foldl (fun (a : State) e => a.nodeLeft (a.localNode 2 n (a.discAt n e).2.2 (a.discAt n e).2.1)) s
  let s2 := (s1.setSegStamps n Segment.new []).zeroWords (t1B n + 0x100) 32
  (s2.pf (t1B n) F.t1s_SEG_STS_PLCA_OK 0).segLevel n

/-! ### Reception (R204, R205) -/

/-- The frame as it passes to the bridge: an untagged one is given a C-tag, one with VID 0 the segment's VID
and PCP (R204). -/
def State.segTag (s : State) (n : Nat) (frame : Bytes) : Bytes :=
  let b := t1B n
  let x := withoutFcs frame
  let pvid := s.gf b F.t1s_SEG_VLAN_PVID
  let y := if !s.outerTag x then
      x.take 12 ++ beBytes 2 0x8100 ++ beBytes 2 (s.gf b F.t1s_SEG_VLAN_DEF_PCP * 0x2000 + pvid) ++ x.drop 12
    else if beAt x 14 2 % 4096 = 0 then
      putBytes x 14 (beBytes 2 (putBits (putBits (beAt x 14 2) 11 0 pvid) 15 13 (s.gf b F.t1s_SEG_VLAN_DEF_PCP)))
    else x
  if y = x then frame else y ++ ethFcs y

/-- T1S_RX_FRAME: a frame ends on Sn. -/
def execT1sRxFrame (n opp : Nat) (bytes : Bytes) (codeErr : Bool) (ago : Nat) (s : State) : Answer :=
  let b := t1B n
  if n < 8 ∧ s.segRuns n then
    match rxClass bytes codeErr (s.gf b F.t1s_MAX_LEN_BYTES) with
    | 0 =>
      let id := if s.plca n then opp % 256 else 0xFF
      let s1 := s.incW b F.t1s_RX_GOOD_COUNT
      let own := s.plca n && id == s.gf b F.t1s_SEG_CTL_LOCAL_ID
      let s2 := if s.on b F.t1s_DISC_CTL_DISC_EN && !own then s1.discover_ n id (slice bytes 6 6) else s1
      let stamp := s2.rxStamp 0 ago
      .next (s2.f20Enter (busHdr 0 n 0 stamp) (s2.segTag n bytes))
    | 1 => .next (s.inc b F.t1s_RX_RUNT_COUNT)
    | 2 => .next (s.inc b F.t1s_RX_OVERSIZE_COUNT)
    | 3 => .next (s.inc b F.t1s_RX_FCS_ERR_COUNT)
    | _ => .next (s.inc b F.t1s_RX_CODE_ERR_COUNT)
  else .next s

/-! ### Frames that leave the fabric at F20 (R258) -/

/-- A frame is put in the queue of Sn: tag edit, padding and FCS (R190, R204). -/
def State.segQueue (s : State) (n : Nat) (f : EgFrame) : State :=
  let b := t1B n
  let strip := s.on b F.t1s_SEG_VLAN_UNTAG_TX && beAt f.bytes 12 2 == 0x8100
    && beAt f.bytes 14 2 % 4096 == s.gf b F.t1s_SEG_VLAN_PVID
  let x : Sending := ⟨f, ⟨strip, none, []⟩, none, 0, 0⟩
  s.setSeg n { s.seg n with tx := (s.seg n).tx ++ [x.wireWhole.1] }

/-- The segments that a frame goes to. -/
def State.segsFor (s : State) (f : EgFrame) : List Nat :=
  let da := f.bytes.take 6
  let from_ := if 8 ≤ f.info.hdr.length ∧ byteAt f.info.hdr 0 / 32 = 0 then some (byteAt f.info.hdr 0 % 32) else none
  let here := (List.range 8).filter fun n => s.alive .t1s n
  let listed := if byteAt da 0 % 2 = 0 then
      here.filter fun n => (List.range 8).any fun e => (s.discAt n e).1 && (s.discAt n e).2.2 == da
    else []
  let dests := match listed with
    | n :: _ => [n]
    | [] => here.filter fun n => s.gf (t1B n) F.t1s_SEG_VLAN_PVID == f.info.ctx % 4096
  dests.filter fun n => some n != from_

/-- F20_FRAME_RX: the next frame of output 20 leaves the fabric. -/
def execF20FrameRx (ecc : Nat) (s : State) : Answer :=
  let r := s.takeOutput 20 ecc
  match r.2 with
  | none => .next r.1
  | some f =>
    let s1 := r.1
    if !s1.run .brgGlobal 0 then .next s1
    else
      let b := withoutFcs f.bytes
      let o := tagsEnd (s1.gf shB F.pipeShared_TPID_ALT_TPID) b 4 12
      if beAt b o 2 = 0x22F0 then
        match (if byteAt b (o + 2) = 0x82 ∧ s1.run .brgTunnel 0 then s1.rtunFor (slice b (o + 6) 8) else none) with
        | some t => .next (s1.unwrap t (b.drop (o + 2)))
        | none => .next (s1.inc btB F.brgTunnel_RX_NO_TUN_COUNT)
      else
        match s1.segsFor f with
        | [] => .next (s1.inc bgB F.brgGlobal_T1S_NO_SEG_COUNT)
        | l => .next (l.foldl (fun (a : State) n => a.segQueue n f) s1)

/-! ### The twin's records (R274) -/

/-- A record on the lane (log entry 44). -/
def twinRecBytes : TwinRec → Bytes
  | .fdb k mac fid port gone => leBytes 1 0 ++ leBytes 1 k ++ leBytes 1 port ++ leBytes 1 (b2n gone) ++ beBytes 2 fid ++ beBytes 6 mac
  | .srf i recov hist => leBytes 1 1 ++ [0] ++ beBytes 2 i ++ beBytes 2 recov ++ beBytes 4 hist ++ [0, 0]
  | .node kind chan key id p => leBytes 1 2 ++ leBytes 1 (kind + 4 * chan) ++ leBytes 1 id ++ leBytes 1 (b2n p) ++ beBytes 2 (id / 256)
      ++ (key ++ List.replicate 6 0).take 6

/-- Whether two records are of one entry. -/
def twinSame : TwinRec → TwinRec → Bool
  | .fdb k m f _ _, .fdb k' m' f' _ _ => k == k' && m == m' && f == f'
  | .srf i _ _, .srf i' _ _ => i == i'
  | _, _ => false

/-- The record without what it names: what the receiver is to have afterwards. -/
def twinRemoval : TwinRec → TwinRec
  | .fdb k m f p _ => .fdb k m f p true
  | .srf i _ _ => .srf i 0 0
  | r => r

/-- The dynamic FDB entries of both pipes that were not learnt on a twin lane (log entry 45). -/
def State.twinFdb (s : State) : List TwinRec :=
  ([0, 1] : List Nat).flatMap fun k => (s.fdbUsed k).filterMap fun o =>
    let e := s.fdbAt o
    if e.valid && !e.static && !s.twinLanes.contains e.port then some (TwinRec.fdb k (beAt e.mac 0 6) e.fid e.port false) else none

/-- The states of the 1,024 SRFs. -/
def State.twinSrf (s : State) : List TwinRec :=
  (List.range 1024).map fun i =>
    let b := s.b2Bytes (0x05200000 + 16 * i) 16
    TwinRec.srf i (leAt b 4 2) (leAt b 8 4)

/-- The records of a kind that TWIN_CTL shares, as they now stand. -/
def State.twinNow (s : State) : List TwinRec :=
  (if s.on jlB shareFdb then s.twinFdb else []) ++ (if s.on jlB shareSrf then s.twinSrf else [])

/-- Whether TWIN_CTL enables the records of this kind. -/
def State.twinOn (s : State) : TwinRec → Bool
  | .fdb .. => s.on jlB shareFdb
  | .srf .. => s.on jlB shareSrf
  | .node .. => s.on jlB shareNodesFld

/-- The profiles under which a lane carries twin records: TWIN_A and TWIN_B (R464). -/
def State.twinPair (s : State) : Bool := s.profile == 3 || s.profile == 4

/-- TWIN_STATE_SEND: the twin sends what has changed since it last did, of the kinds that TWIN_CTL enables (R274). -/
def execTwinStateSend (s : State) : Answer :=
  match if s.twinPair then s.twinLanes else [] with
  | [] => .next s
  | lane :: _ =>
    let now := s.twinNow
    let old := s.jal.shared.filter s.twinOn
    let rest := s.jal.shared.filter fun r => !s.twinOn r
    let changed := now.filter fun r => !old.contains r
    let gone := (old.filter fun r => !now.any (twinSame r)).map twinRemoval
    let nodes := if s.on jlB shareNodesFld then
        s.sig.twinChanges.map fun x => TwinRec.node x.1.kind x.1.chan x.1.key x.1.nodeId x.2 else []
    let recs := changed ++ gone ++ nodes
    let s1 : State := { s with jal := { s.jal with shared := now ++ rest } }
    let s2 : State := { s1 with sig := { s1.sig with twinChanges := [] } }
    if recs = [] then .next s2
    else .next ((cutList 512 64 recs).foldl (fun (a : State) l => a.jlSend lane 5 0 (l.flatMap twinRecBytes) 16) s2)

/-- A shared FDB entry is written, or one that has gone is removed. -/
def State.twinFdbWrite (s : State) (lane k : Nat) (mac : Bytes) (fid : Nat) (gone : Bool) : State :=
  match s.fdbFind k fid mac with
  | some e =>
    if e.static || e.pinned then s
    else if gone then (if s.jlRole e.port = 2 ∧ e.port < 16 then s.fdbClear e.off else s)
    else s.fdbPut { e with b8 := 0x80 + lane }
  | none =>
    if gone then s
    else
      match ((s.fdbPlaces k fid mac).map s.fdbAt).find? (fun e => !e.valid) with
      | none => s
      | some e => (s.fdbClear e.off).fdbPut ⟨e.off, mac, 0x8000 + fid, fid, 0x80 + lane, 0, s.msCount % 65536, 0, 0⟩

/-- One record of the twin. -/
def State.twinTake (s : State) (lane : Nat) (r : TwinRec) : State :=
  match r with
  | .fdb k mac fid _ gone => if k < 2 then s.twinFdbWrite lane k (beBytes 6 mac) (fid % 4096) gone else s
  | .srf i recov hist =>
    if i < 1024 then
      let o := 0x05200000 + 16 * i
      (s.b2Write (o + 4) (leBytes 2 recov)).b2Write (o + 8) (leBytes 4 hist)
    else s
  | .node kind chan key id p => s.twinNode (s.localNode kind chan ((key ++ List.replicate 6 0).take 6) id) p

/-- TWIN_STATE_RX: records of the twin arrive on a lane. -/
def execTwinStateRx (lane : Nat) (recs : List TwinRec) (s : State) : Answer :=
  if lane < 16 ∧ s.jlRole lane = 2 ∧ s.jlUp lane ∧ s.twinPair then
    .next (recs.foldl (fun (a : State) r => a.twinTake lane r) s)
  else .next s

end Sys2Proof.Machine
end

