-- ==== Sys2Proof/Machine/Time.lean ====
section
/-! DEFINITION. TIME_NS, the servo, host steps, the gPTP engine's receptions, pulse outputs, captures and the arming of
scheduled writes (Chapter 11). -/

namespace Sys2Proof.Machine

/-! ### The counter and its steps (R337, R340, R342, R352) -/

/-- The armed slots whose AT this tick has reached are due from it on (R352, R356). -/
def State.slotsDue (s : State) : State :=
  if s.run .timeSched 0 then
    let mark (x : Slot) : Slot := if x.due.isNone ∧ x.at_ ≤ s.now then { x with due := some s.cycles } else x
    s.setTimed { s.timed with slots := s.timed.slots.map fun x => (x.1, mark x.2) }
  else s

/-- A CLK_SYS tick: TIME_NS takes INCR and a step of `d` ns. -/
def State.tickTime (s : State) (d : Int) : State :=
  let incr := s.gf tcB F.timeClock_INCR_INCR
  let t : State := { s with
    time := BitVec.ofInt 92 ((s.time.toNat : Int) + incr + d * 2 ^ 28)
    cycles := s.cycles + 1
    cask := { s.cask with pd3Cycles := s.cask.pd3Cycles + 1 } }
  t.slotsDue.perf 0x001 0 1

/-- The value of a periodic grid at or after t. -/
def gridFrom (start period t : Nat) : Nat :=
  if t ≤ start ∨ period = 0 then start else start + (t - start + period - 1) / period * period

/-- Output k's state. -/
def State.pps (s : State) (k : Nat) : PpsOut := look (fun _ => ⟨0, 0, 0, none, none⟩) s.timed.outs k

/-- Replaces it; PENDING and ACTIVE follow. -/
def State.setPps (s : State) (k : Nat) (x : PpsOut) : State :=
  let s1 := s.setTimed { s.timed with outs := put (fun _ => ⟨0, 0, 0, none, none⟩) s.timed.outs k x }
  (s1.pf tpB (F.timePulse_OUT_CTL_ACTIVE.at (32 * k)) (b2n x.closes.isSome)).pf tpB (F.timePulse_OUT_CTL_PENDING.at (32 * k))
    (b2n (x.period == 0 && x.next.isSome))

/-- An edge of output k that is due (R353). -/
def State.ppsEdge (s : State) (k : Nat) : State :=
  let x := s.pps k
  match x.next with
  | some t =>
    if t ≤ s.now ∧ s.run .timePulse 0 then
      s.setPps k { x with next := if x.period = 0 then none else some (t + x.period), closes := some (s.now + x.width) }
    else s
  | none => s

/-- Output k after a step (R354). -/
def State.ppsStep (s : State) (old k : Nat) : State :=
  let x := s.pps k
  match x.next with
  | none => s
  | some t =>
    if x.period = 0 then s.ppsEdge k
    else if old ≤ s.now then
      let go := gridFrom t x.period s.now
      let passed := (go - t) / x.period
      let s1 := if passed = 0 ∨ !s.run .timePulse 0 then s
        else (s.addSat tpB (F.timePulse_SKIPPED_COUNT.at (32 * k)) passed).raise 39 k
      (s1.setPps k { x with next := some go }).ppsEdge k
    else s.setPps k { x with next := some (gridFrom x.start x.period s.now) }

/-- What follows TIME_NS at a step tick: gates, flips, pulse outputs (R121, R352, R354). -/
def State.afterStep (s : State) (old : Nat) : State :=
  let s1 := (List.range 16).foldl (fun (a : State) p => if a.alive .hostEgress p then a.gateStep p else a) s
  let s2 := (((s1.streamProceed false).rtProceed false).sigProceed 3)
  (List.range 4).foldl (fun (a : State) k => a.ppsStep old k) s2

/-- A step of `d` ns at this tick: counted, recorded, EV32 (R340, R342, R345). -/
def State.stepTime (s : State) (d : Int) (detail : Nat) : State :=
  let old := s.now
  let s1 := (s.tickTime d).incW tcB F.timeClock_STEP_CNT_COUNT
  let s2 := s1.p64 tcB F.timeClock_LAST_STEP_LO_NS F.timeClock_LAST_STEP_HI_NS (ofSigned 64 d)
  (s2.raise 32 detail).afterStep old

/-! ### The servo (R341 to R344, R346) -/

/-- The servo goes to a state; EV34 but into OFF (Table 11-1). -/
def State.servoTo (s : State) (st : Nat) : State :=
  if s.gf tcB F.timeClock_SERVO_STS_STATE = st then s
  else
    let s1 := s.pf tcB F.timeClock_SERVO_STS_STATE st
    if st = 0 then s1 else s1.raise 34 st

/-- The counter n. -/
def State.setN (s : State) (n : Nat) : State := s.setTimed { s.timed with n := n }

/-- To ACQUIRE with INTEG and n at 0. -/
def State.acquire (s : State) : State := ((s.pf tcB F.timeClock_INTEG_LSB 0).setN 0).servoTo 1

/-- Limits a value to ±`lim`. -/
def clampInt (lim : Nat) (v : Int) : Int := max (-(lim : Int)) (min (lim : Int) v)

/-- The servo law (R341). -/
def State.servoLaw (s : State) (e : Int) : State :=
  let f (x : Fld) : Nat := s.gf tcB x
  let integ0 := toSigned 32 (f F.timeClock_INTEG_LSB)
  let integ := clampInt (f F.timeClock_INT_LIM_LSB) (integ0 + Int.tdiv (e * f F.timeClock_GAIN_KI) 256)
  let adj := clampInt (f F.timeClock_ADJ_LIM_LSB) (-(Int.tdiv (e * f F.timeClock_GAIN_KP) 256 + integ))
  let s1 := (s.pf tcB F.timeClock_INTEG_LSB (ofSigned 32 integ)).pf tcB F.timeClock_INCR_INCR (ofSigned 32 (0x50000000 + adj))
  s1.p64 tcB F.timeClock_LAST_E_LO_NS F.timeClock_LAST_E_HI_NS (ofSigned 64 e)

/-- A refused sample (R344). -/
def State.servoRefuse (s : State) : State :=
  let s1 := (s.pf tcB F.timeClock_SERVO_STS_REFUSED 1).inc tcB F.timeClock_REFUSE_CNT_TOTAL
  let s2 := (s1.inc tcB F.timeClock_REFUSE_CNT_CONSEC).raise 33 0
  let lim := s2.gf tcB F.timeClock_REFUSE_LIM_LIM
  if lim ≠ 0 ∧ lim ≤ s2.gf tcB F.timeClock_REFUSE_CNT_CONSEC then s2.acquire else s2

/-- A sample (Table 11-1). -/
def State.servoTake (s : State) (e : Int) : State :=
  let f (x : Fld) : Nat := s.gf tcB x
  let st := f F.timeClock_SERVO_STS_STATE
  let big := e.natAbs
  let s0 := s.pf tcB F.timeClock_REFUSE_CNT_CONSEC 0
  match st with
  | 0 => s
  | 1 =>
    if f F.timeClock_STEP_THRESH_NS < big then (s0.setN 0).stepTime (-e) 0
    else
      let close := big ≤ f F.timeClock_LOCK_NS
      let s1 := s0.servoLaw e
      if close ∧ s.timed.n + 1 = f F.timeClock_LOCK_CNT then (s1.setN (s.timed.n + 1)).servoTo 2
      else s1.setN (if close then s.timed.n + 1 else 0)
  | _ =>
    if f F.timeClock_STEP_MAX_NS < big then s.servoRefuse
    else if f F.timeClock_STEP_THRESH_NS < big ∧ f F.timeClock_SERVO_CTL_STEP_EN = 1 then (s0.servoTo 2).stepTime (-e) 0
    else (s0.servoTo 2).servoLaw e

/-- SERVO_SAMPLE: the servo takes the oldest waiting sample. -/
def execServoSample (s : State) : Answer :=
  match s.timed.samples with
  | [] => .next s
  | e :: rest => .next ((s.setTimed { s.timed with samples := rest }).servoTake e)

/-- A sample for the servo is computed; in OFF none is taken. -/
def State.sample (s : State) (e : Int) : State :=
  if s.gf tcB F.timeClock_SERVO_STS_STATE = 0 then s else s.setTimed { s.timed with samples := s.timed.samples ++ [e] }

/-- Into OFF: samples that wait are not taken. -/
def State.servoOff (s : State) : State := (s.setTimed { s.timed with samples := [] }).servoTo 0

/-- Into HOLDOVER: INCR holds what INTEG has learnt (Table 11-1). -/
def State.holdover (s : State) : State :=
  if s.gf tcB F.timeClock_SERVO_STS_STATE = 2 then
    let adj := clampInt (s.gf tcB F.timeClock_ADJ_LIM_LSB) (-(toSigned 32 (s.gf tcB F.timeClock_INTEG_LSB)))
    (s.pf tcB F.timeClock_INCR_INCR (ofSigned 32 (0x50000000 + adj))).servoTo 3
  else s

/-- The servo as SERVO_CTL.MODE and the clock page ask (Table 11-1, R357). -/
def State.servoMode (s : State) : State :=
  let on := s.on tcB F.timeClock_SERVO_CTL_MODE && s.run .timeClock 0
  let st := s.gf tcB F.timeClock_SERVO_STS_STATE
  if on && st == 0 then s.acquire else if !on && st != 0 then s.servoOff else s

/-- CAPTURE_ABSENCE_TIMEOUT: no capture of the servo's input for 2 s. -/
def execCaptureAbsenceTimeout (s : State) : Answer :=
  let src := s.gf tcB F.timeClock_SERVO_CTL_SRC
  .next (if (src = 1 ∨ src = 2) ∧ s.timed.samples = [] then s.holdover else s)

/-- STEP_CMD.GO (R345). -/
def State.hostStepGo (s : State) (force : Bool) : State :=
  let d := toSigned 64 (s.g64 tcB F.timeClock_STEP_LO_NS F.timeClock_STEP_HI_NS)
  if s.gf tcB F.timeClock_STEP_MAX_NS < d.natAbs ∧ !force then
    ((s.pf tcB F.timeClock_SERVO_STS_REFUSED 1).inc tcB F.timeClock_REFUSE_CNT_TOTAL).raise 33 1
  else s.setTimed { s.timed with steps := s.timed.steps ++ [(d, force)] }

/-- What a write of a clock page register starts. -/
def State.timeTrigger (o : Nat) (w : Word) (s : State) : State :=
  if o = 0x04C then
    let s1 := s.servoMode
    if bitOf w.toNat 16 ∧ s1.gf tcB F.timeClock_SERVO_STS_STATE ≠ 0 then s1.acquire else s1
  else if o = 0x070 ∧ bitOf w.toNat 0 then s.hostStepGo (bitOf w.toNat 1)
  else s

/-- SERVO_MODE_WRITE, REACQUIRE: the host writes SERVO_CTL. -/
def execServoModeWrite (w : Word) (s : State) : Answer := .next (s.hostWrite (tcB + 0x04C) w (State.timeTrigger 0x04C w))

def execReacquire (w : Word) (s : State) : Answer := .next (s.hostWrite (tcB + 0x04C) w (State.timeTrigger 0x04C w))

/-- HOST_STEP_GO: the host writes STEP_CMD. -/
def execHostStepGo (w : Word) (s : State) : Answer := .next (s.hostWrite (tcB + 0x070) w (State.timeTrigger 0x070 w))

/-- HOST_STEP_APPLY: the oldest host step that waits is applied at this tick. -/
def execHostStepApply (s : State) : Answer :=
  match s.timed.steps with
  | [] => .next s
  | (d, force) :: rest => .next ((s.setTimed { s.timed with steps := rest }).stepTime d (if force then 2 else 1))

/-! ### The gPTP engine (R347 to R351) -/

/-- The PTP message in a frame from DA to FCS, from its header on, where it is one. -/
def State.ptpOf (s : State) (b : Bytes) : Option Bytes :=
  let o := s.afterTags b
  if beAt b o 2 = 0x88F7 then some ((withoutFcs b).drop (o + 2)) else none

/-- A 32-bit stamp extended to 64 bits. -/
def State.extendStamp (s : State) (st : Nat) : Nat := s.now - (s.now + 2 ^ 32 - st % 2 ^ 32) % 2 ^ 32

/-- The enabled instance of a domain. -/
def State.instOf (s : State) (dom : Nat) : Option Nat :=
  ([0, 1, 2, 3] : List Nat).find? fun d => s.ginst d F.timeGptp_INST_CTL_EN == 1 && s.ginst d F.timeGptp_INST_CTL_DOMAIN_NUM == dom

/-- What the engine consumes of a message that came in on port p: 1 Pdelay_Req, 2 Pdelay_Resp or its Follow_Up, 3 Sync
or Follow_Up; 0 nothing (R349). -/
def State.ptpKind (s : State) (p : Nat) (m : Bytes) : Nat :=
  if s.run .timeGptp 0 && decide (p < 16) && bitOf (s.gf tgB F.timeGptp_PORT_EN_MASK) p then
    match byteAt m 0 % 16 with
    | 2 => 1
    | 3 => 2
    | 10 => 2
    | 0 => if (s.instOf (byteAt m 4)).isSome then 3 else 0
    | 8 => if (s.instOf (byteAt m 4)).isSome then 3 else 0
    | _ => 0
  else 0

/-- A frame goes to host queue HOST_Q; `posted`: the descriptors from its HEAD on. -/
def State.toHostQ (s : State) (f : EgFrame) (posted : Bytes) : State :=
  let n := s.gf tgB F.timeGptp_GPTP_CTL_HOST_Q
  let q := s.hq n
  if q.tx || !s.queueRuns n || !s.run .hostGlobal 0 then s.inc (pageBase .hostGlobal 0) F.hostGlobal_MISROUTE_COUNT
  else if q.fifo then s.fifoPublish n f.info (withoutFcs f.bytes) f.bad 0 0
  else s.ringPublish n f.info (withoutFcs f.bytes) f.bad posted 0

/-- The next frame of output 22, by strict priority, and its kind. -/
def State.ptpHead (s : State) : Option (EgFrame × Nat × Bytes) :=
  ((s.eg 22).firstHead.filter (·.whole)).map fun f =>
    match s.ptpOf f.bytes with
    | some m => (f, s.ptpKind f.info.src m, m)
    | none => (f, 0, [])

/-- Takes the next frame of output 22 where it is of a kind; `k` consumes its message. A frame for a host queue that an
output is writing into waits. -/
def State.ptpTake (s : State) (kind ecc : Nat) (posted : Bytes) (k : EgFrame → Bytes → State → State) : State :=
  match s.ptpHead with
  | none => s
  | some (_, kd, m) =>
    if kd = kind ∧ !((kind == 0 || s.on tgB F.timeGptp_GPTP_CTL_COPY) && s.queueBusy (s.gf tgB F.timeGptp_GPTP_CTL_HOST_Q)) then
      let r := s.takeOutput 22 ecc
      match r.2 with
      | none => r.1
      | some f =>
        let s1 := if kind = 0 ∨ r.1.on tgB F.timeGptp_GPTP_CTL_COPY then r.1.toHostQ f posted else r.1
        k f m s1
    else s

/-- PDELAY_REQ_RX: a Pdelay_Req is answered; its Follow_Up is sent when the response has left. -/
def execPdelayReqRx (ecc : Nat) (posted : Bytes) (s : State) : Answer :=
  .next (s.ptpTake 1 ecc posted fun (f : EgFrame) (m : Bytes) (t : State) =>
    let p := f.info.src
    t.ptpEnter p (ptpMsg p 3 (byteAt m 4) 0x0208 0 (beAt m 30 2) 5 0x7F (ptpTime (t.extendStamp f.info.stamp) ++ slice m 20 10)))

/-- PDELAY_OK of port n follows its conditions; EV35 (R350). -/
def State.pdelayOk (s : State) (n : Nat) : State :=
  let mask := s.gf tgB F.timeGptp_PDELAY_OK_MASK
  let ok := (match (s.pdPort n).missed with
    | some k => decide (k ≤ s.gf tgB F.timeGptp_PDELAY_CTL_ALLOWED_LOST)
    | none => false) && decide (s.gf tgB (F.timeGptp_LINK_DELAY_NS.at (16 * n)) ≤ s.gf tgB F.timeGptp_NEIGHBOR_THRESH_NS)
  if bitOf mask n = ok then s
  else (s.pf tgB F.timeGptp_PDELAY_OK_MASK (putBits mask n n (b2n ok))).raise 35 (128 * b2n ok + n)

/-- Port n's exchange in progress is lost. -/
def State.pdelayLost (s : State) (n : Nat) : State :=
  let p := s.pdPort n
  if p.busy then
    ((s.setPd n { p with busy := false, missed := p.missed.map (· + 1) }).inc tgB (F.timeGptp_PDELAY_LOST_COUNT.at (16 * n))).pdelayOk n
  else s

/-- PDELAY_REQ_SEND: INTERVAL_MS has passed on port n. -/
def execPdelayReqSend (n : Nat) (s : State) : Answer :=
  if n < 16 ∧ s.alive .emac n ∧ s.run .timeGptp 0 ∧ bitOf (s.gf tgB F.timeGptp_PORT_EN_MASK) n then
    let s1 := s.pdelayLost n
    let p := s1.pdPort n
    let seq := (p.seq + 1) % 65536
    let s2 := s1.setPd n { p with seq := seq, busy := true, t1 := none, resp := none }
    let log := logInterval (s.gf tgB F.timeGptp_PDELAY_CTL_INTERVAL_MS)
    .next ((s2.ptpEnter n (ptpMsg n 2 0 0x0008 0 seq 5 log (List.replicate 20 0))).incW tgB (F.timeGptp_PDELAY_TX_COUNT.at (16 * n)))
  else .next s

/-- A rate ratio less 1 in units of 2⁻⁴¹: of the peer's time that has passed to this clock's. -/
def rateRatio (peer own : Int) : Int := Int.tdiv ((peer - own) * 2 ^ 41) own

/-- NRR of port n. -/
def State.linkRate (s : State) (n : Nat) : Int := toSigned 32 (s.gf tgB (F.timeGptp_NRR_RATE.at (16 * n)))

/-- A completed exchange: `t1`, `t4` in ns of this clock, `t2`, `t3` in 2⁻¹⁶ ns of the peer's. neighborRateRatio comes
from t3 and t4 of this exchange and of the one completed before it (R347; 802.1AS-2020 11.2.19, log entry 63). -/
def State.pdelayDone (s : State) (n t1 t4 : Nat) (t2 t3 : Int) : State :=
  let nrr := match (s.pdPort n).last with
    | some (u3, u4) => if u4 < t4 then rateRatio (t3 - u3) (65536 * ((t4 : Int) - u4)) else s.linkRate n
    | none => s.linkRate n
  let trip : Int := 65536 * ((t4 : Int) - t1)
  let delay := Int.tdiv (trip + Int.tdiv (trip * nrr) (2 ^ 41) - (t3 - t2)) (2 * 65536)
  let s1 := (s.pf tgB (F.timeGptp_NRR_RATE.at (16 * n)) (ofSigned 32 nrr)).pf tgB (F.timeGptp_LINK_DELAY_NS.at (16 * n)) delay.toNat
  (s1.setPd n { s1.pdPort n with busy := false, missed := some 0, last := some (t3, t4) }).pdelayOk n

/-- PDELAY_RESP_RX: a Pdelay_Resp, or its Follow_Up, for port n's exchange. -/
def execPdelayRespRx (ecc : Nat) (posted : Bytes) (s : State) : Answer :=
  .next (s.ptpTake 2 ecc posted fun (f : EgFrame) (m : Bytes) (t : State) =>
    let n := f.info.src
    let p := t.pdPort n
    let at_ : Int := 65536 * (ptpNs m 34 : Int) + toSigned 64 (beAt m 8 8)
    if !p.busy ∨ beAt m 30 2 ≠ p.seq ∨ slice m 44 10 ≠ portIdent n then t
    else if byteAt m 0 % 16 = 3 then t.setPd n { p with resp := some (at_, t.extendStamp f.info.stamp) }
    else
      match p.t1, p.resp with
      | some t1, some (t2, t4) => t.pdelayDone n t1 t4 t2 at_
      | _, _ => t)

/-- The ports of an instance that Sync goes out on (R347, R350). -/
def State.masterPorts (s : State) (d : Nat) : List Nat :=
  (onesOf 16 (s.ginst d F.timeGptp_MASTER_MASK_MASK)).filter fun n =>
    s.alive .emac n && bitOf (s.gf tgB F.timeGptp_PDELAY_OK_MASK) n

/-- Sends a Sync of instance d on its master ports; `rx`: number of the Sync it relays, none where it originates here.
-/
def State.syncSend (s : State) (d : Nat) (rx : Option Nat) : State :=
  let seq := look (fun _ => 0) s.timed.syncSeq d
  let ports := s.masterPorts d
  let rec_ (n : Nat) : SyncOut := ⟨d, n, seq, rx.isNone, rx.getD 0, none, none⟩
  let s1 := s.setTimed { s.timed with
    syncSeq := put (fun _ => 0) s.timed.syncSeq d ((seq + 1) % 65536)
    syncOut := (s.timed.syncOut.filter fun x => x.inst != d) ++ ports.map rec_ }
  let log := logInterval (s.ginst d F.timeGptp_SYNC_CTL_INTERVAL_MS)
  ports.foldl (fun (a : State) n =>
    a.ptpEnter n (ptpMsg n 0 (s.ginst d F.timeGptp_INST_CTL_DOMAIN_NUM) 0x0208 0 seq 0 log (List.replicate 10 0))) s1

/-- SYNC_ORIGINATE: INTERVAL_MS has passed on a grandmaster instance. -/
def execSyncOriginate (d : Nat) (s : State) : Answer :=
  if d < 4 ∧ s.run .timeGptp 0 ∧ s.ginst d F.timeGptp_INST_CTL_EN = 1 ∧ s.ginst d F.timeGptp_INST_CTL_GM = 1 then
    .next (s.syncSend d none)
  else .next s

/-- The time of a Sync is known: offset and rate, the sample of the servo's instance, and the relay (R347). -/
def State.syncTime (s : State) (d seq t2 origin : Nat) (corr csro : Int) : State :=
  let p := s.ginst d F.timeGptp_INST_CTL_SLAVE_PORT
  let delay := s.gf tgB (F.timeGptp_LINK_DELAY_NS.at (16 * p))
  let e := Int.tdiv (65536 * ((t2 : Int) - origin - delay) - corr) 65536
  let rate := csro + s.linkRate p
  let u := ofSigned 64 e
  let s1 := (s.pf tgB (F.timeGptp_LAST_OFFSET_LO_NS.at (64 * d)) u).pf tgB (F.timeGptp_LAST_OFFSET_HI_NS.at (64 * d)) (u / 2 ^ 32)
  let s2 := s1.pf tgB (F.timeGptp_RATE_RATE.at (64 * d)) (ofSigned 32 rate)
  let mark (x : SyncOut) : SyncOut :=
    if x.inst = d ∧ !x.gm ∧ x.rx = seq then { x with info := some ⟨origin, corr, rate, t2, delay⟩ } else x
  let s3 := (s2.setTimed { s2.timed with syncOut := s2.timed.syncOut.map mark }).followAll
  if d = s3.gf tcB F.timeClock_SERVO_CTL_SEL ∧ s3.gf tcB F.timeClock_SERVO_CTL_SRC = 0 then s3.sample e else s3

/-- The cumulativeScaledRateOffset of a Follow_Up's, or a one-step Sync's, information TLV. -/
def csroOf (m : Bytes) : Int := if beAt m 44 2 = 3 then toSigned 32 (beAt m 54 4) else 0

/-- A Sync, or Follow_Up, of instance d on its slave port; an instance with GM = 1 is not SYNCED by it (R347, R351). -/
def State.syncTake (s : State) (d : Nat) (m : Bytes) (stamp : Nat) : State :=
  let seq := beAt m 30 2
  let corr := toSigned 64 (beAt m 8 8)
  if byteAt m 0 % 16 = 0 then
    let s1 := (s.incW tgB (F.timeGptp_SYNC_RX_COUNT.at (64 * d))).pf tgB (F.timeGptp_INST_CTL_SYNCED.at (64 * d))
      (1 - s.ginst d F.timeGptp_INST_CTL_GM)
    let s2 := s1.syncSend d (some seq)
    if bitOf (byteAt m 6) 1 then
      s2.setTimed { s2.timed with
        syncIn := (s2.timed.syncIn.filter fun x => x.1 != d) ++ [(d, ⟨seq, s.extendStamp stamp, corr⟩)] }
    else s2.syncTime d seq (s.extendStamp stamp) (ptpNs m 34) corr (csroOf m)
  else
    match s.timed.syncIn.find? fun x => x.1 == d && x.2.seq == seq with
    | none => s
    | some (_, x) =>
      let s1 := s.setTimed { s.timed with syncIn := s.timed.syncIn.filter fun y => y.1 != d }
      s1.syncTime d seq x.stamp (ptpNs m 34) (x.corr + corr) (csroOf m)

/-- SYNC_RX: a Sync or a Follow_Up is received; taken on a slave port with PDELAY_OK = 1 only (R350). -/
def execSyncRx (ecc : Nat) (posted : Bytes) (s : State) : Answer :=
  .next (s.ptpTake 3 ecc posted fun (f : EgFrame) (m : Bytes) (t : State) =>
    match t.instOf (byteAt m 4) with
    | none => t
    | some d =>
      if t.ginst d F.timeGptp_INST_CTL_SLAVE_PORT = f.info.src ∧ bitOf (t.gf tgB F.timeGptp_PDELAY_OK_MASK) f.info.src then t.syncTake d m f.info.stamp
      else t)

/-- SYNC_RECEIPT_TIMEOUT: no Sync of instance d within TMO_MS (R351). A sample that waits is of this cycle, and the
servo takes it in place of the timeout (R343). -/
def execSyncReceiptTimeout (d : Nat) (s : State) : Answer :=
  let synced := F.timeGptp_INST_CTL_SYNCED.at (64 * d)
  if d < 4 ∧ s.alive .timeGptp 0 ∧ s.on tgB synced then
    let s1 := ((s.pf tgB synced 0).inc tgB (F.timeGptp_SYNC_TMO_COUNT.at (64 * d))).raise 36 d
    .next (if d = s1.gf tcB F.timeClock_SERVO_CTL_SEL ∧ s1.gf tcB F.timeClock_SERVO_CTL_SRC = 0 ∧ s1.timed.samples = [] then
      s1.holdover else s1)
  else .next s

/-- PTP_FRAME_TO_HOST: the next frame of output 22 is one that the engine does not consume (log entry 64). -/
def execPtpFrameToHost (ecc : Nat) (posted : Bytes) (s : State) : Answer :=
  .next (s.ptpTake 0 ecc posted fun (_ : EgFrame) (_ : Bytes) (t : State) => t)

/-- What a write of a gPTP page register starts: SYNCED is of enabled instances without GM, PDELAY_OK follows its
limits. -/
def State.gptpTrigger (o : Nat) (s : State) : State :=
  if o = 0x044 ∨ o = 0x048 then (List.range 16).foldl (fun (a : State) n => a.pdelayOk n) s
  else if 0x100 ≤ o ∧ o < 0x200 ∧ o % 64 = 0 then
    let d := (o - 0x100) / 64
    if s.ginst d F.timeGptp_INST_CTL_EN = 1 ∧ s.ginst d F.timeGptp_INST_CTL_GM = 0 then s
    else s.pf tgB (F.timeGptp_INST_CTL_SYNCED.at (64 * d)) 0
  else s

/-! ### Pulse outputs (R353, R354) -/

/-- What a write of OUT_CTL[k] starts. -/
def State.ppsTrigger (k : Nat) (old s : State) : State :=
  let en := F.timePulse_OUT_CTL_EN.at (32 * k)
  if s.on tpB en && !old.on tpB en then
    let f (x : Fld) : Nat := s.gf tpB (x.at (32 * k))
    let start := f F.timePulse_START_HI_NS * 2 ^ 32 + f F.timePulse_START_LO_NS
    let period := f F.timePulse_PERIOD_NS
    let next := if period = 0 then start else gridFrom start period s.now
    s.setPps k ⟨start, period, f F.timePulse_WIDTH_NS, some next, none⟩
  else if !s.on tpB en && old.on tpB en then s.setPps k { s.pps k with next := none, closes := none }
  else s

/-- PPS_EDGE: an edge of output k is due. -/
def execPpsEdge (k : Nat) (s : State) : Answer := .next (if k < 4 then s.ppsEdge k else s)

/-- PPS_WIDTH_END: WIDTH has passed since an edge of output k. A WIDTH of PERIOD or more holds the pin active (R353). -/
def execPpsWidthEnd (k : Nat) (s : State) : Answer :=
  match (s.pps k).closes with
  | some t =>
    let x := s.pps k
    let stays := x.period ≠ 0 ∧ x.period ≤ x.width ∧ x.next.isSome
    .next (if k < 4 ∧ t ≤ s.now ∧ !stays then s.setPps k { x with closes := none } else s)
  | none => .next s

/-- The pulse page leaves RUN: the outputs are inactive (R357). -/
def State.pulseLeave (s : State) : State :=
  (List.range 4).foldl (fun (a : State) k => if (a.pps k).closes.isSome then a.setPps k { a.pps k with closes := none } else a) s

/-- The pulse page enters RUN: a periodic output goes on at its next grid point. -/
def State.pulseRun (s : State) : State :=
  (List.range 4).foldl (fun (a : State) k =>
    let x := a.pps k
    if x.period ≠ 0 ∧ x.next.isSome then a.setPps k { x with next := some (gridFrom x.start x.period a.now) } else a) s

/-! ### Captures (R355) -/

/-- The capture FIFO of input i. -/
def State.capFifo (s : State) (i : Nat) : List (Nat × Nat) := look (fun _ => []) s.timed.caps i

/-- Replaces it; LEVEL and EV(37 + i) follow. -/
def State.setCaps (s : State) (i : Nat) (l : List (Nat × Nat)) : State :=
  let s1 := s.setTimed { s.timed with caps := put (fun _ => []) s.timed.caps i l }
  (s1.pf tpB (F.timePulse_CAP_LEVEL_LEVEL.at (32 * i)) l.length).level (37 + i) (l != []) 0

/-- PPS_CAPTURE: an edge on PPS_IN of input i, `ago` ns in the past, has been held for FILT_NS. -/
def execPpsCapture (i : Nat) (falling : Bool) (ago : Nat) (s : State) : Answer :=
  let f (x : Fld) : Nat := s.gf tpB (x.at (32 * i))
  if i < 2 ∧ s.run .timePulse 0 ∧ f F.timePulse_CAP_CTL_EN = 1 ∧ f F.timePulse_CAP_CTL_EDGE = b2n falling
      ∧ f F.timePulse_CAP_CTL_FILT_NS ≤ ago then
    let c := s.stampAgo ago
    let seq := look (fun _ => 0) s.timed.capSeq i
    let s1 := s.setTimed { s.timed with capSeq := put (fun _ => 0) s.timed.capSeq i ((seq + 1) % 256) }
    let l := s1.capFifo i
    let s2 := if l.length < 8 then s1.setCaps i (l ++ [(seq, c)]) else s1.inc tpB (F.timePulse_CAP_LEVEL_LOST.at (32 * i))
    let e : Int := (((c + 500000000) % 1000000000 : Nat) : Int) - 500000000
    .next (if s2.gf tcB F.timeClock_SERVO_CTL_SRC = i + 1 then s2.sample e else s2)
  else .next s

/-- The pop of CAP_POP of input i. -/
def State.popCap (i : Nat) (s : State) : Nat × State :=
  match s.capFifo i with
  | [] => (0, s)
  | (seq, c) :: rest =>
    let w := 0x80000000 + seq
    let s1 := (s.setCaps i rest).pf tpB (F.timePulse_CAP_POP_LAST_LAST.at (32 * i)) w
    (w, (s1.pf tpB (F.timePulse_CAP_STAMP_LO_NS.at (32 * i)) c).pf tpB (F.timePulse_CAP_STAMP_HI_NS.at (32 * i)) (c / 2 ^ 32))

/-- CAP_POP: a read of CAP_POP of input i, of one word or of two. -/
def execCapPop (i ndw : Nat) (s : State) : Answer :=
  .next (if i < 2 then s.popRead .timePulse 0 (tpB + 0x104 + 32 * i) ndw (State.popCap i) else s)

/-! ### Scheduled writes (R356) -/

/-- The slots that are armed; ARMED follows. -/
def State.setSlots (s : State) (l : List (Nat × Slot)) : State :=
  (s.setTimed { s.timed with slots := l }).pf tsB F.timeSched_ARMED_MASK (maskOf (l.map (·.1)))

/-- What a write of SLOT_CTL[k] starts. -/
def State.slotTrigger (k : Nat) (w : Word) (s : State) : State :=
  let armed := s.timed.slots.any fun x => x.1 == k
  let f (x : Fld) : Nat := s.gf tsB (x.at (32 * k))
  let clear (a : State) : State :=
    ((a.pf tsB (F.timeSched_SLOT_CTL_FIRED.at (32 * k)) 0).pf tsB (F.timeSched_SLOT_CTL_LATE.at (32 * k)) 0).pf tsB
      (F.timeSched_SLOT_CTL_ERR.at (32 * k)) 0
  if bitOf w.toNat 31 then
    if armed then clear s
    else
      let at_ := f F.timeSched_AT_HI_NS * 2 ^ 32 + f F.timeSched_AT_LO_NS
      let x : Slot := ⟨at_, f F.timeSched_ADDR_OFFSET, f F.timeSched_DATA_DATA, decide (at_ < s.now), none⟩
      (clear s).setSlots (s.timed.slots ++ [(k, x)])
  else if armed then s.setSlots (s.timed.slots.filter fun x => x.1 != k)
  else s

/-- What a write of a pulse or schedule page register starts. -/
def State.pulseTrigger (o : Nat) (old s : State) : State :=
  if 0x040 ≤ o ∧ o < 0x0C0 ∧ o % 32 = 0 then s.ppsTrigger ((o - 0x040) / 32) old else s

def State.schedTrigger (o : Nat) (w : Word) (s : State) : State :=
  if 0x100 ≤ o ∧ o < 0x300 ∧ o % 32 = 16 then s.slotTrigger ((o - 0x100) / 32) w else s

/-- SLOT_ARM: the host writes SLOT_CTL of slot k. -/
def execSlotArm (k : Nat) (w : Word) (s : State) : Answer :=
  .next (if k < 16 then s.hostWrite (tsB + 0x110 + 32 * k) w (State.schedTrigger (0x110 + 32 * k) w) else s)

/-- The schedule page enters RUN: armed slots whose time has passed are late (R357). -/
def State.schedRun (s : State) : State :=
  s.setSlots (s.timed.slots.map fun (x : Nat × Slot) =>
    if x.2.at_ ≤ s.now then (x.1, { x.2 with late := true, due := some s.cycles }) else (x.1, { x.2 with due := none }))

/-- SRST of the gPTP page: the exchanges, the Syncs in progress and what they have made of the ports and instances
(R49). -/
def State.gptpSrst (s : State) : State :=
  let s1 := s.setTimed { s.timed with pd := [], syncIn := [], syncOut := [], syncSeq := [] }
  let s2 := (List.range 16).foldl (fun (a : State) n => a.pdelayOk n) s1
  (List.range 4).foldl (fun (a : State) d => a.pf tgB (F.timeGptp_INST_CTL_SYNCED.at (64 * d)) 0) s2

/-- SRST of the TIME pages (R49, R357). -/
def State.timeSrst (s : State) (k : PageKind) : State :=
  match k with
  | .timeClock => s.servoOff
  | .timeGptp => s.gptpSrst
  | .timePulse => (s.setCaps 0 []).setCaps 1 []
  | .timeSched =>
    let s1 := s.timed.slots.foldl (fun (a : State) x => a.pf tsB (F.timeSched_SLOT_CTL_ARM.at (32 * x.1)) 0) s
    s1.setSlots []
  | _ => s

end Sys2Proof.Machine
end

