-- ==== Sys2Proof/Machine/Kiln.lean ====
section
/-! DEFINITION. The Kiln, its key slots, lifecycle and alarm, the DRBG, the Block unit and the engine's parity
(Chapter 12). -/

namespace Sys2Proof.Machine

/-- Base of the CIPH Block page. -/
def cbB : Nat := pageBase .ciphBlock 0

/-- Replaces what the Kiln holds beside its registers. -/
def State.setKiln (s : State) (k : Kiln) : State := { s with kiln := k }

/-- A field of the KILN main page, of the identity page, of the Block page. -/
def State.kf (s : State) (f : Fld) : Nat := s.gf kmB f
def State.idf (s : State) (f : Fld) : Nat := s.gf kiB f
def State.bf (s : State) (f : Fld) : Nat := s.gf cbB f

/-! ### Fuses and lifecycle (R359 to R363) -/

/-- Bytes of a fuse field (log entry 68). -/
def State.fuseBytes (s : State) (lo k : Nat) : Bytes := leBytes k (s.kiln.fuses / 2 ^ lo)

/-- The lifecycle state of a LIFECYCLE pattern (Table 12-1). -/
def lifecycleOf (p : Nat) : Nat :=
  match p with
  | 0 => 0
  | 1 => 1
  | 3 => 2
  | 7 => 3
  | _ => 4

/-- The pattern of a state. -/
def lifecyclePattern (st : Nat) : Nat := 2 ^ st - 1

/-- LC_STS.STATE. -/
def State.lifecycle (s : State) : Nat := s.idf F.kilnId_LC_STS_STATE

/-- The test root (R361). -/
def testRoot : Bytes := List.replicate 32 0xA5

/-- The root in use (Table 12-1, R364). -/
def State.root (s : State) : Option Bytes :=
  if s.idf F.kilnId_LC_STS_DEBUG_SUB = 1 then some testRoot
  else match s.lifecycle with
    | 0 => some testRoot
    | 1 => some (s.fuseBytes 0 32)
    | 2 => some (s.fuseBytes 0 32)
    | 3 => some testRoot
    | _ => none

/-- The KDF with HMAC-SHA-256 (R362). -/
def kdfHmac (key : Bytes) (label : List Nat) (context : Bytes) (bits : Nat) : Bytes :=
  kdfCounter (hmacSha256 key) 32 label context bits

/-- "TVX-KEK", "TVX-ID", "TVX-DRV", "TVX-RMA", "TVXAUTH1" in ASCII. -/
def labelKek : List Nat := [0x54, 0x56, 0x58, 0x2D, 0x4B, 0x45, 0x4B]
def labelId : List Nat := [0x54, 0x56, 0x58, 0x2D, 0x49, 0x44]
def labelDrv : List Nat := [0x54, 0x56, 0x58, 0x2D, 0x44, 0x52, 0x56]
def labelRma : List Nat := [0x54, 0x56, 0x58, 0x2D, 0x52, 0x4D, 0x41]
def labelAuth : List Nat := [0x54, 0x56, 0x58, 0x41, 0x55, 0x54, 0x48, 0x31]

/-- Derives the keys of Table 12-3 from a root; the public key follows the scalar (R363, R385). -/
def State.deriveFixed (s : State) (root : Bytes) : State :=
  let kek := s.mask (kdfHmac root labelKek s.serial 256)
  let d := beNat (kdfHmac root labelId s.serial 320) % (p256N - 1) + 1
  let sc := kek.2.mask (beBytes 32 d)
  let s1 := sc.2.setKiln { sc.2.kiln with kek := some kek.1, scalar := some sc.1 }
  let q := (p256Mul d p256G).getD (0, 0)
  (List.range 8).foldl (fun (a : State) k =>
    (a.pf kiB (F.kilnId_ID_PUB_X_DATA.at (4 * k)) (q.1 / 2 ^ (224 - 32 * k))).pf kiB
      (F.kilnId_ID_PUB_Y_DATA.at (4 * k)) (q.2 / 2 ^ (224 - 32 * k))) s1

/-- A new RMA_NONCE (R367). -/
def State.newNonce (s : State) : State :=
  let r := s.draw 64
  let s1 := r.2.setKiln { r.2.kiln with nonced := true }
  (s1.pf kiB F.kilnId_RMA_NONCE_HI_NONCE (r.1.toNat / 2 ^ 32)).pf kiB F.kilnId_RMA_NONCE_LO_NONCE r.1.toNat

/-! ### Slots (R368, R369, R371, R373) -/

/-- ERASE of slot i: active key, shadow and AUX; a pending timed commit of the slot is withdrawn. -/
def State.eraseSlot (s : State) (i : Nat) : State :=
  let s1 := ((s.setSlot i KeySlot.new).setSlotF i F.kilnSlot_SLOT_ATTR_TYPE 0).setSlotF i F.kilnSlot_SLOT_ATTR_USAGE 0
  if s1.kiln.at_.any (fun x => x.1 == i) then
    (s1.setKiln { s1.kiln with at_ := none }).pf kmB F.kilnMain_AT_STS_PEND 0
  else s1

/-- Clears every slot that holds anything. -/
def State.eraseKeys (s : State) : State :=
  (s.kiln.slots.map (·.1)).foldl (fun (a : State) i =>
    ((a.setSlot i KeySlot.new).setSlotF i F.kilnSlot_SLOT_ATTR_TYPE 0).setSlotF i F.kilnSlot_SLOT_ATTR_USAGE 0) s

/-- ERASE_ALL. -/
def State.eraseAll (s : State) : State :=
  (s.eraseKeys.setKiln { s.eraseKeys.kiln with at_ := none }).pf kmB F.kilnMain_AT_STS_PEND 0

/-- The key check value of a key of a TYPE (R369). -/
def kcvOf (typ : Nat) (key : Bytes) : Nat :=
  beAt (if typ < 2 then aesEnc key (List.replicate 16 0) else hmacSha256 key (List.replicate 16 0)) 0 3

/-- Whether a USAGE set may go with a TYPE (Table 12-4). -/
def usageFits (typ usage : Nat) : Bool := natAnd usage (if typ < 2 then 0x1F else 0x34) == usage

/-- Moves the shadow of slot i to the active key (R373); none where there is none. -/
def State.commitSlot (s : State) (i : Nat) : Option State :=
  (s.slot i).shadow.map fun x =>
    let s1 := s.setSlot i { s.slot i with key := some x.key, shadow := none }
    let s2 := (s1.setSlotF i F.kilnSlot_SLOT_ATTR_TYPE x.typ).setSlotF i F.kilnSlot_SLOT_ATTR_USAGE x.usage
    s2.setSlotF i F.kilnSlot_SLOT_ATTR_GEN (s2.slotF i F.kilnSlot_SLOT_ATTR_GEN + 1)

/-! ### KEY_STAGE (R370) -/

/-- Zeroes the staged words. -/
def State.stageZero (s : State) : State :=
  (s.setKiln { s.kiln with stage := List.replicate 8 0 }).pf kmB F.kilnMain_STAGE_STS_WORDS 0

/-- KEY_STAGE[k] is written. -/
def State.stageWrite (s : State) (k : Nat) (w : Word) : State :=
  if s.run .kilnMain 0 then
    let s1 := s.setKiln { s.kiln with stage := s.kiln.stage.set k w.toNat }
    s1.pf kmB F.kilnMain_STAGE_STS_WORDS (putBits (s1.kf F.kilnMain_STAGE_STS_WORDS) k k 1)
  else s

/-- The staged key bytes of a command, 16 or 32 of them. -/
def KilnCmd.staged (c : KilnCmd) (n : Nat) : Bytes := (c.stage.flatMap (beBytes 4)).take n

/-- Whether the words of n bytes were staged. -/
def KilnCmd.stagedAll (c : KilnCmd) (n : Nat) : Bool := (List.range (n / 4)).all fun k => bitOf c.words k

/-- KEY_STAGE_TIMEOUT: 1 ms without a command after the last write. -/
def execKeyStageTimeout (s : State) : Answer := .next (if s.kiln.cmd.isNone then s.stageZero else s)

/-! ### Commands (R371 to R374, Tables 12-5 and 12-6) -/

/-- Fields of a command word. -/
def KilnCmd.op (c : KilnCmd) : Nat := bitsOf c.word 30 28
def KilnCmd.typ (c : KilnCmd) : Nat := bitsOf c.word 25 24
def KilnCmd.src (c : KilnCmd) : Nat := bitsOf c.word 19 10
def KilnCmd.slot (c : KilnCmd) : Nat := bitsOf c.word 9 0
def KilnCmd.usage (c : KilnCmd) : Nat := c.attr % 256

/-- Bytes of a key of a TYPE. -/
def keyBytes (typ : Nat) : Nat := if typ = 0 then 16 else 32

/-- Steps 3 and 4 of R372. The answer of a command is its RESULT, the KCV it reports and the state. -/
def State.toShadow (s : State) (c : KilnCmd) (key : Bytes) (count : Fld) : Nat × Nat × State :=
  let kcv := kcvOf c.typ key
  if kcv ≠ c.kcv then (4, 0, s)
  else
    let m := s.mask key
    let s1 := m.2.setSlot c.slot { m.2.slot c.slot with shadow := some ⟨m.1, c.typ, c.usage⟩ }
    (0, kcv, s1.inc kmB count)

/-- LOAD (R372). -/
def State.doLoad (s : State) (c : KilnCmd) : Nat × Nat × State :=
  let wrapped := bitOf c.word 26
  let n := keyBytes c.typ
  let lc := s.lifecycle
  if lc = 4 ∨ (!wrapped ∧ lc = 2) then (1, 0, s)
  else if !usageFits c.typ c.usage then (2, 0, s)
  else if !c.stagedAll n then (8, 0, s)
  else if !wrapped then s.toShadow c (c.staged n) F.kilnMain_LOADS_COUNT
  else
    let kek := if bitOf c.word 27 then s.kiln.kek.map Masked.value
      else ((s.keyFor c.src 1).filter fun x => x.1 < 2).map (·.2)
    match kek with
    | none => (5, 0, s)
    | some k =>
      let r := keyUnwrap k (beBytes 8 s.kiln.c0) ((List.range (n / 8)).map fun i => slice (c.staged n) (8 * i) 8)
      if r.1 ≠ List.replicate 8 0xA6 then (3, 0, s) else s.toShadow c r.2 F.kilnMain_LOADS_COUNT

/-- DERIVE (R366). -/
def State.doDerive (s : State) (c : KilnCmd) : Nat × Nat × State :=
  let cmac := s.kf F.kilnMain_DRV_CTL_PRF = 1
  if s.lifecycle = 4 then (1, 0, s)
  else if !usageFits c.typ c.usage then (2, 0, s)
  else
    match (s.keyFor c.src 2).filter fun x => !cmac || x.1 < 2 with
    | none => (5, 0, s)
    | some (_, k) =>
      let ctx := (List.range 4).flatMap fun i => beBytes 4 (s.kf (F.kilnMain_DRV_CTX_DATA.at (4 * i)))
      let bits := 8 * keyBytes c.typ
      let key := if cmac then kdfCounter (aesCmac k) 16 labelDrv ctx bits else kdfHmac k labelDrv ctx bits
      s.toShadow c key F.kilnMain_DERIVES_COUNT

/-- What a command does: RESULT, KCV, state. -/
def State.kilnDo (s : State) (c : KilnCmd) : Nat × Nat × State :=
  if s.kiln.alarm ≠ .normal then (7, 0, s)
  else
    match c.op with
    | 0 => s.doLoad c
    | 1 =>
      if s.lifecycle = 4 then (1, 0, s)
      else if !c.stagedAll 16 then (8, 0, s)
      else
        let m := s.mask (c.staged 16)
        (0, 0, m.2.setSlot c.slot { m.2.slot c.slot with aux := some m.1 })
    | 2 => s.doDerive c
    | 3 =>
      if s.lifecycle = 4 then (1, 0, s)
      else
        match s.commitSlot c.slot with
        | none => (6, 0, s)
        | some t => (0, 0, t.inc kmB F.kilnMain_COMMITS_COUNT)
    | 4 =>
      if s.lifecycle = 4 then (1, 0, s)
      else
        let t := s.g64 kmB F.kilnMain_COMMIT_AT_LO_NS F.kilnMain_COMMIT_AT_HI_NS
        let s1 := s.setKiln { s.kiln with at_ := some (c.slot, t) }
        let s2 := (s1.pf kmB F.kilnMain_AT_STS_PEND 1).pf kmB F.kilnMain_AT_STS_SLOT c.slot
        (0, 0, if t < s.now then s2.pf kmB F.kilnMain_AT_STS_LATE 1 else s2)
    | 5 => (0, 0, (s.setKiln { s.kiln with at_ := none }).pf kmB F.kilnMain_AT_STS_PEND 0)
    | 6 => (0, 0, s.eraseSlot c.slot)
    | _ => (0, 0, s.eraseAll)

/-- A command ends with a result (R370, R371). -/
def State.kilnEnd (s : State) (result kcv : Nat) : State :=
  let s1 := (s.setKiln { s.kiln with cmd := none }).stageZero
  let s2 := (s1.pf kmB F.kilnMain_CMD_STS_BUSY 0).pf kmB F.kilnMain_CMD_STS_DONE 1
  let s3 := (s2.pf kmB F.kilnMain_CMD_STS_RESULT result).pf kmB F.kilnMain_CMD_STS_KCV kcv
  let s4 := if result = 0 then s3
    else s3.inc kmB (if result = 4 then F.kilnMain_KCV_FAIL_COUNT else F.kilnMain_REFUSED_COUNT)
  s4.raise 417 result

/-- CMD.GO (R371, R391). -/
def State.kilnGo (s : State) : State :=
  if s.kiln.cmd.isSome ∨ !s.run .kilnMain 0 then s
  else
    let c : KilnCmd := ⟨(s.rd (kmB + 0x044)).toNat, s.kf F.kilnMain_KEY_ATTR_USAGE, s.kf F.kilnMain_KCV_EXP_KCV, s.kiln.stage,
      s.kf F.kilnMain_STAGE_STS_WORDS⟩
    (s.setKiln { s.kiln with cmd := some c }).pf kmB F.kilnMain_CMD_STS_BUSY 1

/-- KILN_COMMAND_DONE: the command in progress ends. -/
def execKilnCommandDone (s : State) : Answer :=
  match s.kiln.cmd with
  | none => .next s
  | some c =>
    let r := s.kilnDo c
    .next (r.2.2.kilnEnd r.1 r.2.1)

/-- TIMED_COMMIT: TIME_NS has reached the armed instant (R374). -/
def execTimedCommit (s : State) : Answer :=
  match s.kiln.at_ with
  | none => .next s
  | some (slot, t) =>
    if t ≤ s.now then
      let s1 := (s.setKiln { s.kiln with at_ := none }).pf kmB F.kilnMain_AT_STS_PEND 0
      if s1.kiln.alarm ≠ .normal then .next (s1.raise 418 7)
      else
        match s1.commitSlot slot with
        | none => .next (s1.raise 418 6)
        | some u => .next ((u.inc kmB F.kilnMain_COMMITS_COUNT).raise 418 0)
    else .next s

/-! ### The alarm (R388, R389) -/

/-- A Block operation ends with a result. -/
def State.blockEnd (s : State) (result : Nat) : State :=
  let s1 := s.setKiln { s.kiln with block := none }
  let s2 := (s1.pf cbB F.ciphBlock_BLK_STS_BUSY 0).pf cbB F.ciphBlock_BLK_STS_DONE 1
  (s2.pf cbB F.ciphBlock_BLK_STS_RESULT result).raise 403 result

/-- EV416 with the lowest cause. -/
def State.alarmLevel (s : State) : State :=
  s.level 416 (s.kf F.kilnMain_ALARM_STS_ALARM == 1) (lowestOne 6 (s.kf F.kilnMain_ALARM_STS_CAUSE))

/-- Whether pipelines work on a protected frame in transmission on port n. -/
def State.secSending (s : State) (n : Nat) : Bool := (s.eg n).sending.any fun x => x.prot.isSome

/-- Overwrites every working key, KEY_STAGE and the derived keys with DRBG output, which nothing can take for a key
afterwards: slots and derived keys are then none. The round keys and subkeys of the pipelines are reset, so a protected
frame in transmission ends there (R388; log entry 133). -/
def State.alarmErase (s : State) : State :=
  let s1 := s.eraseKeys
  let r := s1.draw 256
  let s2 := (r.2.setKiln { r.2.kiln with
    kek := none, scalar := none
    stage := (List.range 8).map fun i => r.1.toNat / 2 ^ (32 * (7 - i)) % 2 ^ 32 }).pf kmB F.kilnMain_STAGE_STS_WORDS 0
  (List.range 16).foldl (fun (a : State) n => if a.secSending n then a.cutShort n else a) s2

/-- A cause trips (Table 12-9). -/
def State.alarmTrip (s : State) (cause : Nat) : State :=
  let c := putBits (s.kf F.kilnMain_ALARM_STS_CAUSE) cause cause 1
  let s1 := (s.pf kmB F.kilnMain_ALARM_STS_ALARM 1).pf kmB F.kilnMain_ALARM_STS_CAUSE c
  let begins := s.kiln.alarm = .normal ∨ s.kiln.alarm = .restoring
  if begins then
    let s2 := (s1.setKiln { s1.kiln with alarm := .erasing }).inc kmB F.kilnMain_ALARMS_COUNT
    let s3 := if s2.kiln.cmd.isSome then s2.kilnEnd 7 0 else s2
    let s4 := if s3.kiln.block.isSome then s3.blockEnd 7 else s3
    s4.alarmErase.alarmLevel
  else s1.alarmLevel

/-- ALARM_TRIP: a supply, the clock, the temperature or the shield trips (Table 12-8, causes 0 to 3). -/
def execAlarmTrip (cause : Nat) (s : State) : Answer :=
  if s.alive .kilnMain 0 ∧ (cause < 3 ∨ (cause = 3 ∧ s.kf F.kilnMain_ALARM_CFG_TAMPER_EN = 1)) then .next (s.alarmTrip cause)
  else .next s

/-- ALARM_ERASURE_DONE: the staged words, overwritten before, are left zero (R370). -/
def execAlarmErasureDone (s : State) : Answer :=
  .next (if s.kiln.alarm = .erasing then (s.setKiln { s.kiln with alarm := .alarm }).stageZero else s)

/-- The DRBG is seeded afresh; one that is stopped is not. -/
def State.reseed (s : State) : State := if s.rngRuns then s.seedRng false else s

/-- The DRBG is instantiated and runs: the first RMA_NONCE is drawn, and a seed change that waits is served (R367, R375,
R377). -/
def State.rngBegin (s : State) : State :=
  let s1 := (s.pf kmB F.kilnMain_RNG_STS_RUN 1).seedRng true
  (if s1.kiln.nonced then s1 else s1.newNonce).seedServe

/-- ALARM_CLR written 1; `present`: a cause is still present. -/
def State.alarmClr (s : State) (present : Bool) : State :=
  if s.kiln.alarm = .alarm ∧ !present ∧ !bitOf (s.kf F.kilnMain_ALARM_STS_CAUSE) 5 then
    ((s.setKiln { s.kiln with alarm := .restoring }).pf kmB F.kilnMain_ALARM_STS_CAUSE 0).reseed
  else s

/-- ALARM_CLR: the host writes ALARM_CLR. -/
def execAlarmClr (present : Bool) (w : Word) (s : State) : Answer :=
  .next (s.hostWrite (kmB + 0x0A8) w fun (t : State) => if bitOf w.toNat 0 then t.alarmClr present else t)

/-- ALARM_RESTORE_DONE: the keys of Table 12-3 are derived again. -/
def execAlarmRestoreDone (s : State) : Answer :=
  if s.kiln.alarm = .restoring then
    let s1 := match s.root with
      | some r => s.deriveFixed r
      | none => s
    .next (((s1.setKiln { s1.kiln with alarm := .normal }).pf kmB F.kilnMain_ALARM_STS_ALARM 0).alarmLevel)
  else .next s

/-! ### PD3 switches on; lifecycle advances; debug substitution (R359 to R364, R367) -/

/-- The DRBG is instantiated, where it has been neither instantiated nor stopped; the first RMA_NONCE is drawn (R367,
R375; log entry 76). -/
def State.rngStart (s : State) : State :=
  if s.rngRuns ∨ s.kf F.kilnMain_RNG_STS_FAIL = 1 then s else s.rngBegin

/-- PD3 has switched on: the DRBG is instantiated, the fuses are read, ROOT is checked (R359, R361, R375). A debug grant
stands until the device is reset, and DEBUG_SUB with it (R364). -/
def State.kilnOn (s0 : State) : State :=
  let s := s0.rngStart
  let st := lifecycleOf (bitsOf s.kiln.fuses 291 288)
  let s1 := (s.pf kiB F.kilnId_LC_STS_STATE st).pf kiB F.kilnId_LC_STS_PEND_STATE st
  let serial := bitsOf s.kiln.fuses 383 320
  let s2 := (s1.pf kiB F.kilnId_SERIAL_HI_SERIAL (serial / 2 ^ 32)).pf kiB F.kilnId_SERIAL_LO_SERIAL serial
  let s3 := s2.pf kiB F.kilnId_DEBUG_CFG_ALLOW (bitsOf s.kiln.fuses 294 292)
  let s4 := (List.range 8).foldl (fun (a : State) k =>
    (a.pf kiB (F.kilnId_CERT_HASH_DATA.at (4 * k)) (beNat (s.fuseBytes (400 + 32 * k) 4))).pf kiB
      (F.kilnId_RMA_PUBHASH_DATA.at (4 * k)) (beNat (s.fuseBytes (656 + 32 * k) 4))) s3
  let s5 := if s.jtag.granted then (s4.pf kiB F.kilnId_LC_STS_DEBUG_SUB 1).level 420 true 0 else s4
  if st = 1 ∨ st = 2 then
    if hashH 0xFFFFFFFF (s.fuseBytes 0 32) = bitsOf s.kiln.fuses 287 256 then s5.pf kiB F.kilnId_LC_STS_ROOT_OK 1
    else s5.alarmTrip 5
  else s5

/-- PD3 has switched off: slots, staged words and everything else in PD3 are gone (R368); the fuses stay. -/
def State.kilnOff (s : State) : State :=
  s.setKiln ⟨[], none, none, List.replicate 8 0, 0, none, none, none, .normal, none, false, none, 0, s.kiln.fuses, ([], []),
    false, []⟩

/-- KILN_ID_READY: the fixed derivations complete (R363). After State.reset, with PD3 on, the DRBG is instantiated here
(log entry 76). -/
def execKilnIdReady (s0 : State) : Answer :=
  if s0.alive .kilnId 0 then
    let s := s0.rngStart
    if s.idf F.kilnId_LC_STS_ID_RDY = 0 ∧ s.kiln.alarm = .normal then
      match s.root with
      | some r => .next ((s.deriveFixed r).pf kiB F.kilnId_LC_STS_ID_RDY 1)
      | none => .next s
    else .next s
  else .next s0

/-- Whether the RMA token in BLK_BUF is accepted (R367). -/
def State.rmaToken (s : State) : Bool :=
  let t := (List.range 32).flatMap fun k => beBytes 4 (s.bf (F.ciphBlock_BLK_BUF_DATA.at (4 * k)))
  let hash := (List.range 8).flatMap fun k => beBytes 4 (s.idf (F.kilnId_RMA_PUBHASH_DATA.at (4 * k)))
  let nonce := beBytes 4 (s.idf F.kilnId_RMA_NONCE_HI_NONCE) ++ beBytes 4 (s.idf F.kilnId_RMA_NONCE_LO_NONCE)
  sha256 (t.take 64) == hash
    && ecdsaVerify (beAt t 0 32) (beAt t 32 32) (beAt t 64 32) (beAt t 96 32) (sha256 (ofNums labelRma ++ s.serial ++ nonce))

/-- LC_CMD.GO (R360). -/
def State.lcGo (s : State) : State :=
  let target := s.idf F.kilnId_LC_CMD_TARGET
  let st := s.lifecycle
  if s.kiln.cmd.isSome ∨ !s.run .kilnMain 0 then s
  else if s.kiln.alarm ≠ .normal then s.kilnEnd 7 0
  else if s.kiln.advanced ∨ !(target = st + 1 ∨ (st = 0 ∧ target = 2) ∨ (st ≠ 4 ∧ target = 4)) then s.kilnEnd 11 0
  else if st = 2 ∧ target = 3 ∧ !s.rmaToken then s.newNonce.kilnEnd 10 0
  else
    let s1 := if st = 2 ∧ target = 3 then s.newNonce else s
    let s2 := s1.setKiln { s1.kiln with fuses := s1.kiln.fuses ||| lifecyclePattern target * 2 ^ 288, advanced := true }
    ((s2.pf kiB F.kilnId_LC_STS_PEND_STATE target).eraseAll.raise 421 target).kilnEnd 0 0

/-- A granted debug request (R364). -/
def State.debugSub (s : State) : State :=
  let s1 := s.eraseAll.stageZero.deriveFixed testRoot
  (s1.pf kiB F.kilnId_LC_STS_DEBUG_SUB 1).level 420 true 0

/-! ### Masks and random bits (R365, R375 to R377) -/

/-- MASK_SWEEP_START: 1 ms has passed since the last sweep began. -/
def execMaskSweepStart (s : State) : Answer :=
  .next (if s.rngRuns ∧ s.alive .kilnMain 0 ∧ s.kiln.sweep.isNone then s.setKiln { s.kiln with sweep := some 0 } else s)

/-- A pair (K ⊕ M, M) with fresh X added to both shares: (K ⊕ M ⊕ X, M ⊕ X). -/
def State.remask (s : State) (m : Option Masked) : Option Masked × State :=
  match m with
  | none => (none, s)
  | some p =>
    let r := s.draw (8 * p.mask.length)
    let x := beBytes p.mask.length r.1.toNat
    (some ⟨xorB p.share x, xorB p.mask x⟩, r.2)

/-- Masks entry e anew: a slot, or a derived key. -/
def State.remaskEntry (s : State) (e : Nat) : State :=
  if e < 1024 then
    let k := s.slot e
    let a := s.remask k.key
    let b := a.2.remask (k.shadow.map (·.key))
    let c := b.2.remask k.aux
    let sh := match k.shadow, b.1 with
      | some x, some m => some { x with key := m }
      | _, _ => none
    c.2.setSlot e ⟨a.1, sh, c.1⟩
  else if e = 1024 then
    let a := s.remask s.kiln.kek
    a.2.setKiln { a.2.kiln with kek := a.1 }
  else if e = 1025 then
    let a := s.remask s.kiln.scalar
    a.2.setKiln { a.2.kiln with scalar := a.1 }
  else s

/-- MASK_SWEEP_VISIT: the sweep visits its next entry. -/
def execMaskSweepVisit (s : State) : Answer :=
  match s.kiln.sweep with
  | none => .next s
  | some e =>
    if s.rngRuns then
      let s1 := s.remaskEntry e
      if e + 1 < 1040 then .next (s1.setKiln { s1.kiln with sweep := some (e + 1) })
      else .next ((s1.setKiln { s1.kiln with sweep := none }).incW kmB F.kilnMain_MASK_SWEEPS_COUNT)
    else .next s

/-- DRBG_RESEED: 2^20 requests have been served, on the TVX-6480 those of the pipelines' masking among them, which no
command makes (R375, log entry 76). -/
def execDrbgReseed (s : State) : Answer := .next (if s.grade.lockstep ∨ 2 ^ 20 ≤ s.kiln.draws then s.reseed else s)

/-- DRBG_HEALTH_FAIL: a health test fails; `apt`: the adaptive proportion test. -/
def execDrbgHealthFail (apt : Bool) (s : State) : Answer :=
  if s.alive .kilnMain 0 then
    let s1 := (s.pf kmB F.kilnMain_RNG_STS_RUN 0).pf kmB F.kilnMain_RNG_STS_FAIL 1
    .next ((s1.inc kmB (if apt then F.kilnMain_RNG_STS_APT_FAIL else F.kilnMain_RNG_STS_RCT_FAIL)).level 419 true (b2n apt))
  else .next s

/-- RNG_STS.RESTART. -/
def State.rngRestart (s : State) : State :=
  (s.pf kmB F.kilnMain_RNG_STS_FAIL 0).rngBegin.level 419 false 0

/-- The pop of RNG_POP (R376). -/
def State.popRng (s : State) : Nat × State :=
  if s.rngRuns then
    let r := s.draw 32
    (r.1.toNat, r.2.pf kmB F.kilnMain_RNG_POP_LAST_LAST r.1.toNat)
  else (0, s)

/-- RNG_POP: a read of RNG_POP, of one word or of two. -/
def execRngPop (ndw : Nat) (s : State) : Answer := .next (s.popRead .kilnMain 0 (kmB + 0x0AC) ndw State.popRng)

/-! ### The Block unit (R384 to R386, Table 12-7) -/

/-- BLK_CMD.GO. -/
def State.blockGo (s : State) : State :=
  if s.kiln.block.isSome ∨ !s.run .ciphBlock 0 then s
  else
    let w := (s.rd (cbB + 0x040)).toNat
    let i := w % 1024
    let key := (s.slot i).key.map fun k => (s.slotF i F.kilnSlot_SLOT_ATTR_TYPE, s.slotF i F.kilnSlot_SLOT_ATTR_USAGE, k)
    (s.setKiln { s.kiln with block := some ⟨w, s.bf F.ciphBlock_BLK_LEN_BYTES, key⟩ }).pf cbB F.ciphBlock_BLK_STS_BUSY 1

/-- The first n bytes of BLK_BUF. -/
def State.blockIn (s : State) (n : Nat) : Bytes :=
  ((List.range ((n + 3) / 4)).flatMap fun k => beBytes 4 (s.bf (F.ciphBlock_BLK_BUF_DATA.at (4 * k)))).take n

/-- Writes BLK_OUT from word 0 on. -/
def State.blockOut (s : State) (b : Bytes) : State :=
  (List.range (b.length / 4)).foldl (fun (a : State) k => a.pf cbB (F.ciphBlock_BLK_OUT_DATA.at (4 * k)) (beAt b (4 * k) 4)) s

/-- An operation's key, where the slot carried the usage. -/
def BlockJob.keyFor (j : BlockJob) (usage : Nat) : Option Bytes :=
  (j.key.filter fun x => bitOf x.2.1 usage).map fun x => x.2.2.value

/-- The ECDSA nonce from 320 random bits, 64 more than n has: 1 to n − 1 (FIPS 186-5 A.3.1; of its two methods the model
takes this one, log entry 139). -/
def nonceOf (r : Nat) : Nat := r % (p256N - 1) + 1

/-- The signature of a digest under scalar d, with a fresh nonce where an attempt gives r = 0 or s = 0 (FIPS 186-5
6.4.1). -/
def State.signWith (s : State) (d : Nat) (digest : Bytes) : Nat → (Nat × Nat) × State
  | 0 => ((0, 0), s)
  | more + 1 =>
    let r := s.draw 320
    let sig := ecdsaSign d (nonceOf r.1.toNat) digest
    if sig.1 = 0 ∨ sig.2 = 0 then r.2.signWith d digest more else (sig, r.2)

/-- What an operation does: RESULT and state. -/
def State.blockDo (s : State) (j : BlockJob) : Nat × State :=
  let msg := s.blockIn j.len
  let keyed (usage : Nat) (k : Bytes → Nat × State) : Nat × State :=
    match j.keyFor usage with
    | none => (2, s)
    | some key => k key
  if s.kiln.alarm ≠ .normal then (7, s)
  else
    match bitsOf j.word 27 24 with
    | 0 => (0, s.blockOut (sha256 msg))
    | 1 => keyed 4 fun key => (0, s.blockOut (hmacSha256 key msg))
    | 2 => keyed 3 fun key => (0, s.blockOut (aesCmac key msg))
    | 3 =>
      if j.len < 16 then (12, s)
      else keyed 3 fun key => (if aesCmac key (msg.take (j.len - 16)) = msg.drop (j.len - 16) then 0 else 9, s)
    | 4 =>
      if j.len ≠ 32 then (12, s)
      else if !s.rngRuns then (7, s)
      else
        match s.kiln.scalar with
        | none => (5, s)
        | some d =>
          let r := s.signWith (beNat d.value) msg 1024
          (0, r.2.blockOut (beBytes 32 r.1.1 ++ beBytes 32 r.1.2))
    | _ =>
      if j.len ≠ 16 then (12, s)
      else keyed 5 fun key =>
        let cnt := s.bf F.ciphBlock_AUTH_CNT_COUNT
        let s1 := s.blockOut (hmacSha256 key (ofNums labelAuth ++ msg ++ s.serial ++ beBytes 4 cnt))
        (0, s1.pf cbB F.ciphBlock_AUTH_CNT_COUNT (cnt + 1))

/-- BLOCK_OP_DONE: the operation in progress ends. -/
def execBlockOpDone (s : State) : Answer :=
  match s.kiln.block with
  | none => .next s
  | some j =>
    let r := s.blockDo j
    .next (r.2.blockEnd r.1)

/-! ### Register writes -/

/-- What a write of a KILN main page register starts. -/
def State.kilnTrigger (o : Nat) (w : Word) (s : State) : State :=
  if o = 0x044 ∧ bitOf w.toNat 31 then s.kilnGo
  else if o = 0x054 then s.setKiln { s.kiln with c0 := putBits s.kiln.c0 63 32 w.toNat }
  else if o = 0x058 then s.setKiln { s.kiln with c0 := putBits s.kiln.c0 31 0 w.toNat }
  else if 0x060 ≤ o ∧ o < 0x080 then s.stageWrite ((o - 0x060) / 4) w
  else if o = 0x0A8 ∧ bitOf w.toNat 0 then
    let r := s.fresh 1
    r.2.alarmClr (r.1 == 1#1)
  else if o = 0x0B4 ∧ bitOf w.toNat 29 then s.rngRestart
  else s

/-- What a write of an identity page or Block page register starts. -/
def State.kilnIdTrigger (o : Nat) (w : Word) (s : State) : State := if o = 0x044 ∧ bitOf w.toNat 31 then s.lcGo else s

def State.blockTrigger (o : Nat) (w : Word) (s : State) : State := if o = 0x040 ∧ bitOf w.toNat 31 then s.blockGo else s

/-- The host writes CMD with GO = 1 and an OP; the other fields are those of `w`. -/
def State.kilnCommand (s : State) (op : Nat) (w : Word) : State :=
  let v : Word := BitVec.ofNat 32 (putBits w.toNat 31 28 (8 + op))
  s.hostWrite (kmB + 0x044) v (State.kilnTrigger 0x044 v)

def execLoad (w : Word) (s : State) : Answer := .next (s.kilnCommand 0 w)

def execLoadAux (w : Word) (s : State) : Answer := .next (s.kilnCommand 1 w)

def execDerive (w : Word) (s : State) : Answer := .next (s.kilnCommand 2 w)

def execCommit (w : Word) (s : State) : Answer := .next (s.kilnCommand 3 w)

def execCommitAt (w : Word) (s : State) : Answer := .next (s.kilnCommand 4 w)

def execCancelAt (w : Word) (s : State) : Answer := .next (s.kilnCommand 5 w)

def execErase (w : Word) (s : State) : Answer := .next (s.kilnCommand 6 w)

def execEraseAll (w : Word) (s : State) : Answer := .next (s.kilnCommand 7 w)

/-- KEY_STAGE_WRITE: the host writes KEY_STAGE[k]. -/
def execKeyStageWrite (k : Nat) (w : Word) (s : State) : Answer :=
  .next (if k < 8 then s.hostWrite (kmB + 0x060 + 4 * k) w (State.kilnTrigger (0x060 + 4 * k) w) else s)

/-- LIFECYCLE_ADVANCE: the host writes LC_CMD with GO = 1. -/
def execLifecycleAdvance (target : Nat) (s : State) : Answer :=
  let w : Word := BitVec.ofNat 32 (2 ^ 31 + target % 16)
  .next (s.hostWrite (kiB + 0x044) w (State.kilnIdTrigger 0x044 w))

/-- RESTART: the host writes RNG_STS with RESTART = 1. -/
def execRestart (s : State) : Answer :=
  let w : Word := BitVec.ofNat 32 (2 ^ 29)
  .next (s.hostWrite (kmB + 0x0B4) w (State.kilnTrigger 0x0B4 w))

/-- The host writes BLK_CMD with GO = 1 and an OP. -/
def State.blockCommand (s : State) (op slot : Nat) : State :=
  let w : Word := BitVec.ofNat 32 (2 ^ 31 + op * 2 ^ 24 + slot % 1024)
  s.hostWrite (cbB + 0x040) w (State.blockTrigger 0x040 w)

def execBlkSha256 (s : State) : Answer := .next (s.blockCommand 0 0)

def execBlkHmacSha256 (slot : Nat) (s : State) : Answer := .next (s.blockCommand 1 slot)

def execCmacGenerate (slot : Nat) (s : State) : Answer := .next (s.blockCommand 2 slot)

def execCmacVerify (slot : Nat) (s : State) : Answer := .next (s.blockCommand 3 slot)

def execIdentitySign (s : State) : Answer := .next (s.blockCommand 4 0)

def execChallengeResponse (slot : Nat) (s : State) : Answer := .next (s.blockCommand 5 slot)

/-! ### Parity (R387) -/

/-- Whether AES pipeline p is present. -/
def Grade.hasPipeline (g : Grade) (p : Nat) : Bool :=
  match g with
  | .tvx6480 => decide (p < 4)
  | .tvx6440 => p == 0 || p == 2
  | .tvx6420 => p == 0

/-- The last frame of port n that waits for its lookup is dropped. -/
def State.dropLastRx (s : State) (n : Nat) : State :=
  match s.fwd.waiting.reverse.find? fun f => f.src == n with
  | none => s
  | some f => ({ s with fwd := { s.fwd with waiting := (s.fwd.waiting.reverse.erase f).reverse } }).freeRx n f.held

/-- CIPHER_PARITY_ERROR: a parity error in pipeline `unit`, or in the Block unit (4); `port` and `tx` say whose frame it
hits. -/
def execCipherParityError (unit port : Nat) (tx : Bool) (s : State) : Answer :=
  if s.alive .ciphGlobal 0 ∧ (unit = 4 ∨ s.grade.hasPipeline unit) then
    let s1 := if unit = 4 then s.inc cgB F.ciphGlobal_BLK_PARITY_COUNT
      else s.inc cgB (F.ciphGlobal_PIPE_PARITY_COUNT.at (4 * unit))
    let s2 := s1.raise 400 unit
    let s3 := if unit = 4 then (if s2.kiln.block.isSome then s2.blockEnd 7 else s2)
      else if port < 16 ∧ s2.pipelineOf port tx = unit then
        if tx then (if s2.secSending port then s2.cutShort port else s2)
        else s2.dropLastRx port
      else s2
    let again := match s3.kiln.lastParity with
      | some c => decide (s3.cycles - c ≤ s3.kf F.kilnMain_ALARM_CFG_PARITY_WIN_MS * 200000)
      | none => false
    let s4 := s3.setKiln { s3.kiln with lastParity := some s3.cycles }
    .next (if again then s4.alarmTrip 4 else s4)
  else .next s

/-! ### Pages (R391) -/

/-- SRST of the KILN main page. -/
def State.kilnSrst (s : State) : State := (if s.kiln.cmd.isSome then s.kilnEnd 7 0 else s).stageZero

/-- A frame of port n is inside a pipeline: 60 ns and one CLK_FAB cycle for each block after its start. -/
def State.inCipher (s : State) (n : Nat) : Bool :=
  (s.eg n).sending.any fun x => x.prot.isSome && decide (s.ps < x.start + 60000 + 1250 * (x.secBytes / 16 + 2))

/-- SRST of the CIPH global page: the frames inside the pipelines end as a parity error would end them. -/
def State.cipherSrst (s : State) : State :=
  (List.range 16).foldl (fun (a : State) n => if a.inCipher n then a.cutShort n else a) s

/-- SRST of the Block page. -/
def State.blockSrst (s : State) : State := if s.kiln.block.isSome then s.blockEnd 7 else s

end Sys2Proof.Machine
end

