-- ==== Sys2Proof/Machine/Nm.lean ====
section
/-! DEFINITION. The power state as PSTATE shows it (R396, R397), and the sleep-agreement rings (R415 to R418). -/

namespace Sys2Proof.Machine

/-- Bases of the PWR pages. -/
def pwB : Nat := pageBase .pwrMain 0
def wkB : Nat := pageBase .pwrWake 0
def rgB : Nat := pageBase .pwrRing 0

/-- Replaces what AON holds. -/
def State.setPower (s : State) (p : Power) : State := { s with power := p }

/-- PSTATE.STATE. -/
def State.pstate (s : State) : Nat := s.gf pwB F.pwrMain_PSTATE_STATE

/-- A change of the power state (R396). -/
def State.setPstate (s : State) (st cause : Nat) : State :=
  if s.pstate = st then s
  else
    let s1 := (s.pf pwB F.pwrMain_PSTATE_PREV s.pstate).pf pwB F.pwrMain_PSTATE_STATE st
    (s1.pf pwB F.pwrMain_PSTATE_CAUSE cause).raise 4 st

/-- Whether every required domain is on. -/
def State.requiredOn (s : State) : Bool :=
  let req := s.gf (pageBase .guardGlobal 0) F.guardGlobal_REQUIRED_DOMAINS
  natAnd req (s.gf pwB F.pwrMain_DOM_STS_ON) == req

/-- PARTIAL and RUN follow the required domains (R397). -/
def State.powerCheck (s : State) : State :=
  if s.power.entry.isSome then s
  else if s.pstate = 3 ∧ s.requiredOn then s.setPstate 4 0
  else if s.pstate = 4 ∧ !s.requiredOn then s.setPstate 3 0
  else s

/-- A transceiver request by a unit of the device: a Supervisor write of TRCV_CTL.STATE of Cn. -/
def State.trcvAsk (s : State) (n st : Nat) : State :=
  let w : Word := BitVec.ofNat 32 (putBits (s.rd (caB n + 0x060)).toNat 1 0 st)
  s.writeBy .supervisor (caB n + 0x060) w (State.canTrigger n 0x060 w)

/-! ### Ring instances -/

/-- Instance k. -/
def State.nmOf (s : State) (k : Nat) : NmInst := look (fun _ => ⟨none, none, false, none⟩) s.nm k

/-- Replaces instance k. -/
def State.setNm (s : State) (k : Nat) (x : NmInst) : State :=
  { s with nm := put (fun _ => ⟨none, none, false, none⟩) s.nm k x }

/-- A field of instance k. -/
def State.nf (s : State) (k : Nat) (f : Fld) : Nat := s.gf rgB (f.at (64 * k))

/-- Sets a field of instance k. -/
def State.setNf (s : State) (k : Nat) (f : Fld) (v : Nat) : State := s.pf rgB (f.at (64 * k)) v

/-- NM_STS.STATE. -/
def State.nmState (s : State) (k : Nat) : Nat := s.nf k F.pwrRing_NM_STS_STATE

/-- A change of state (R418); `wake`: a wake request caused it. -/
def State.nmTo (s : State) (k st : Nat) (wake : Bool) : State :=
  if s.nmState k = st then s else (s.setNf k F.pwrRing_NM_STS_STATE st).raise (280 + k) (128 * b2n wake + st)

/-- Whether address a is listed. -/
def State.nmListed (s : State) (k a : Nat) : Bool :=
  bitOf (s.gf rgB (F.pwrRing_NM_TABLE_LISTED.at (32 * k + 4 * (a / 32)))) (a % 32)

/-- The addresses listed, ascending. -/
def State.nmAddrs (s : State) (k : Nat) : List Nat := (List.range 256).filter (s.nmListed k)

/-- N and SUCC follow the table (R416). -/
def State.nmRing (s : State) (k : Nat) : State :=
  let l := s.nmAddrs k
  let me := s.nf k F.pwrRing_NM_CTL_ADDR
  let succ := (l.find? fun a => me < a).getD (l.headD 0)
  (s.setNf k F.pwrRing_NM_STS_N l.length).setNf k F.pwrRing_NM_STS_SUCC succ

/-- Lists or removes an address. -/
def State.nmList (s : State) (k a : Nat) (v : Bool) : State :=
  let f := F.pwrRing_NM_TABLE_LISTED.at (32 * k + 4 * (a / 32))
  (s.pf rgB f (putBits (s.gf rgB f) (a % 32) (a % 32) (b2n v))).nmRing k

/-- The bytes of a message (Table 13-6). -/
def State.nmBytes (s : State) (k : Nat) (m : NmMsg) : Bytes :=
  let flags := 2 ^ m.kind + 16 * b2n m.ind + 32 * b2n m.ack + 64 * b2n (m.reason != 0)
  leBytes 1 (s.nf k F.pwrRing_NM_STS_SUCC) ++ leBytes 1 flags ++ leBytes 1 m.cnt ++ leBytes 1 m.reason
    ++ beBytes 4 (s.nf k F.pwrRing_NM_USER_DATA)

/-- The transmit object takes a message and is requested (R415). -/
def State.nmRequest (s : State) (k : Nat) (m : NmMsg) : State :=
  let o := s.nf k F.pwrRing_NM_CTL_OBJ
  let id := s.nf k F.pwrRing_NM_CTL_BASE * 256 + s.nf k F.pwrRing_NM_CTL_ADDR
  let s1 := ((s.objWr o 1 id).objWr o 4 8).b2Write (s.objData o) (s.nmBytes k m)
  (s1.setNm k { s1.nmOf k with msg := some m, next := none }).canRequest o

/-- Sends a message: one that is pending gives way (R224); on the wire it ends first. -/
def State.nmSend (s : State) (k : Nat) (m : NmMsg) : State :=
  let o := s.nf k F.pwrRing_NM_CTL_OBJ
  let s1 := if s.objReq o then s.canAbort o else s
  if s1.objReq o then s1.setNm k { s1.nmOf k with next := some m } else s1.nmRequest k m

/-- An ALIVE message; `reason` 0 without WAKE_FLAG. -/
def State.nmAlive (s : State) (k reason : Nat) : State :=
  s.nmSend k ⟨1, s.nf k F.pwrRing_NM_CTL_SLEEP_OK == 1, false, 0, reason⟩

/-- RESET ends when the channel is active (Table 13-7). -/
def State.nmPoll (s : State) (k : Nat) : State :=
  let c := s.canState (s.nf k F.pwrRing_NM_CTL_CHAN)
  if s.nmState k = 1 ∧ (c = 2 ∨ c = 3) then
    let w := (s.nmOf k).wake
    ((s.nmTo k 2 false).setNm k { s.nmOf k with wake := none }).nmAlive k (w.getD 0)
  else s

/-- OFF. -/
def State.nmOff (s : State) (k : Nat) : State := (s.nmTo k 0 false).setNm k ⟨none, none, false, none⟩

/-- OFF to RESET: the table holds ADDR alone. -/
def State.nmReset (s : State) (k : Nat) : State :=
  let s1 := (s.zeroWords (rgB + 0x400 + 32 * k) 8).nmList k (s.nf k F.pwrRing_NM_CTL_ADDR) true
  ((s1.setNm k ⟨none, none, false, none⟩).nmTo k 1 false).nmPoll k

/-- Into WAIT_SLEEP. -/
def State.nmWait (s : State) (k : Nat) : State := (s.setNm k { s.nmOf k with token := false }).nmTo k 4 false

/-- The transceiver of CHAN goes to Normal. -/
def State.nmAwake (s : State) (k : Nat) (wake : Bool) : State :=
  (s.trcvAsk (s.nf k F.pwrRing_NM_CTL_CHAN) 0).nmTo k 1 wake

/-- A wake request clears SLEEP_OK and records its REASON (R418). -/
def State.nmRecord (s : State) (k reason : Nat) : State :=
  (s.setNf k F.pwrRing_NM_CTL_SLEEP_OK 0).setNf k F.pwrRing_NM_LINK_LAST_REASON reason

/-- A wake request to instance k (R418); answers whether it has changed state. -/
def State.nmWake1 (s : State) (k reason : Nat) : State × Bool :=
  if !s.alive .pwrRing 0 then (s, false)
  else
    let s1 := s.nmRecord k reason
    match s1.nmState k with
    | 2 => (s1.nmAlive k reason, false)
    | 4 => (((s1.setNf k F.pwrRing_NM_CNT_ABORTS (min 0xFFFF (s1.nf k F.pwrRing_NM_CNT_ABORTS + 1))).nmTo k 2 true).nmAlive k reason, true)
    | 5 => (((s1.setNm k { s1.nmOf k with wake := some reason }).nmAwake k true).nmPoll k, true)
    | 1 => (s1.setNm k { s1.nmOf k with wake := some reason }, false)
    | _ => (s1, false)

/-- Wake requests to several instances, and to those that are linked to one that changes state; `done` have been
reached. -/
def State.nmWakes (s : State) : Nat → List (Nat × Nat) → List Nat → State
  | 0, _, _ => s
  | _, [], _ => s
  | fuel + 1, (k, reason) :: rest, done =>
    if done.contains k then s.nmWakes fuel rest done
    else
      let r := s.nmWake1 k reason
      let linked := if r.2 then
          ((List.range 8).filter fun i => i != k && bitOf (r.1.nf i F.pwrRing_NM_LINK_LINK) k).map fun i => (i, 5 * 32 + k)
        else []
      r.1.nmWakes fuel (rest ++ linked) (k :: done)

/-- A WAKE_SRC bit is latched: the wake requests, and the bus wakes that end SLEEP (R418, Table 13-7). -/
def State.nmLatched (s : State) (bit reason : Nat) : State :=
  let hit := (List.range 8).filter fun k => bitOf (s.nf k F.pwrRing_NM_WAKE_MASK_MASK) bit
  let s1 := s.nmWakes 80 (hit.map fun k => (k, reason)) []
  (List.range 8).foldl (fun (a : State) k =>
    if a.nmState k = 5 ∧ 8 ≤ bit ∧ bit < 24 ∧ a.nf k F.pwrRing_NM_CTL_CHAN + 8 = bit then (a.nmAwake k false).nmPoll k else a) s1

/-- NM_WAKE_REQUEST: a wake request reaches instance k; kind and index give its REASON. -/
def execNmWakeRequest (k kind index : Nat) (s : State) : Answer :=
  if k < 8 ∧ 1 ≤ kind ∧ kind ≤ 5 then .next (s.nmWakes 80 [(k, kind * 32 + index % 32)] []) else .next s

/-- What a write of NM_CTL of instance k starts. -/
def State.nmTrigger (o : Nat) (s : State) : State :=
  if 0x100 ≤ o ∧ o < 0x300 ∧ o % 64 = 0 then
    let k := (o - 0x100) / 64
    let en := s.nf k F.pwrRing_NM_CTL_EN = 1
    let s1 := if en then (s.setNf k F.pwrRing_NM_CNT_ABORTS 0).setNf k F.pwrRing_NM_CNT_RESTARTS 0 else s
    let on := en ∧ s1.run .pwrRing 0
    let refuse := s.nf k F.pwrRing_NM_CTL_SLEEP_OK = 0
    let noted := if refuse then s1.nmRecord k (4 * 32) else s1
    if !on then noted.nmOff k
    else if s1.nmState k = 0 then noted.nmReset k
    else
      let s2 := s1.nmList k (s1.nf k F.pwrRing_NM_CTL_ADDR) true
      if refuse then s2.nmWakes 80 [(k, 4 * 32)] [] else s2
  else s

/-- NM_ENABLE: the host writes NM_CTL of instance k. -/
def execNmEnable (k : Nat) (w : Word) (s : State) : Answer :=
  .next (if k < 8 then s.hostWrite (rgB + 0x100 + 64 * k) w (State.nmTrigger (0x100 + 64 * k)) else s)

/-- A ring message of `sender` reaches instance k (R416, Table 13-7). A RING or ALIVE with DEST = ADDR that ends
WAIT_SLEEP or LIMPHOME brings the token with it (log entry 78). -/
def State.nmTake (s : State) (k sender : Nat) (data : Bytes) : State :=
  let flags := byteAt data 1
  let ring := bitOf flags 0
  let alive := bitOf flags 1
  let ack := bitOf flags 5
  let s1 := s.nmList k sender true
  let s2 := if ring then s1.setNf k F.pwrRing_NM_STS_LAST_CNT (byteAt data 2)
    else if alive then s1.setNf k F.pwrRing_NM_STS_LAST_CNT 0 else s1
  let ok := s2.nf k F.pwrRing_NM_CTL_SLEEP_OK = 1
  let mine := (ring ∨ alive) ∧ byteAt data 0 = s2.nf k F.pwrRing_NM_CTL_ADDR
  let s3 := if mine then s2.setNm k { s2.nmOf k with token := true } else s2
  match s.nmState k with
  | 2 => if ack then (if ok then s2.nmWait k else s2.nmAlive k (4 * 32)) else s3
  | 3 => if ring ∨ alive then s3.nmTo k 2 false else s2
  | 4 => if ack then s2 else s3.nmTo k 2 false
  | _ => s2

/-- Whether instance k takes ring messages: it is neither OFF nor asleep. -/
def State.nmHears (s : State) (k : Nat) : Bool :=
  s.alive .pwrRing 0 && s.nmState k != 0 && s.nmState k != 5

/-- A frame with base identifier `ident` and 8 data bytes reaches instance k where bits [10:8] equal BASE; bits [7:0]
are the sender's address (R415). -/
def State.nmFrame (s : State) (k ident : Nat) (data : Bytes) : State :=
  if s.nmHears k ∧ ident / 256 % 8 = s.nf k F.pwrRing_NM_CTL_BASE then s.nmTake k (ident % 256) data else s

/-- NM_MESSAGE_RX: a ring message is received on the channel of instance k, with identifier `ident`. -/
def execNmMessageRx (k ident : Nat) (data : Bytes) (s : State) : Answer :=
  .next (if k < 8 ∧ s.canReceives (s.nf k F.pwrRing_NM_CTL_CHAN) ∧ data.length = 8 then s.nmFrame k ident data else s)

/-- The instances on channel n see a received frame, whether or not a receive object matches (R415): a Classical data
frame with a base identifier and 8 bytes. -/
def State.nmHear (s : State) (n : Nat) (f : CanFrame) : State :=
  if f.ide ∨ w4Format f.w4 ≠ 0 ∨ f.data.length ≠ 8 then s
  else
    (List.range 8).foldl (fun (a : State) k =>
      if a.nf k F.pwrRing_NM_CTL_CHAN = n then a.nmFrame k f.id f.data else a) s

/-- CAN_RX_STORE: a frame is received on Cn without error. `ago`: ns since the sample point of its start-of-frame bit;
`ecc`: 1 a corrected, 2 an uncorrectable word of the object RAM (R243). A ring message reaches the ring instances of Cn
with it; NM_MESSAGE_RX describes the same for an instance alone (log entry 78). -/
def execCanRxStore (n : Nat) (frame : CanFrame) (ago ecc : Nat) (s : State) : Answer :=
  let f := canNorm frame
  .next (if s.canReceives n ∧ s.canFormatOn n (w4Format f.w4) then (s.canStoreRx n f ago ecc).nmHear n f else s)

/-- NM_RING_SEND: T_TYP_MS after the token came instance k sends RING (R417). -/
def execNmRingSend (k : Nat) (s : State) : Answer :=
  if k < 8 ∧ s.nmState k = 2 ∧ (s.nmOf k).token then
    let ok := s.nf k F.pwrRing_NM_CTL_SLEEP_OK = 1
    let cnt := if ok then min (s.nf k F.pwrRing_NM_STS_LAST_CNT + 1) 255 else 0
    let s1 := s.setNm k { s.nmOf k with token := false }
    .next (s1.nmSend k ⟨0, ok, decide (s.nf k F.pwrRing_NM_STS_N ≤ cnt), cnt, 0⟩)
  else .next s

/-- NM_MSG_COMPLETE: the message of instance k has left the object; it matters where it completed OK. One that did not
stays noted for T_ERR_MS. -/
def execNmMsgComplete (k : Nat) (s : State) : Answer :=
  let x := s.nmOf k
  let o := s.nf k F.pwrRing_NM_CTL_OBJ
  match x.msg with
  | none => .next s
  | some m =>
    if 8 ≤ k ∨ s.objReq o then .next s
    else
      match x.next with
      | some q => .next (s.nmRequest k q)
      | none =>
        let good := bitsOf (s.objRd o 7) 23 20 = 1
        let s1 := if good then s.setNm k { x with msg := none } else s
        if good ∧ ((s.nmState k = 2 ∧ m.ack) ∨ (s.nmState k = 3 ∧ m.kind = 2 ∧ m.ind)) then .next (s1.nmWait k)
        else .next s1

/-- NM_TMAX_TIMEOUT: no RING or ALIVE for T_MAX_MS. -/
def execNmTmaxTimeout (k : Nat) (s : State) : Answer :=
  if k < 8 ∧ s.nmState k = 2 then
    .next ((s.setNf k F.pwrRing_NM_CNT_RESTARTS (min 0xFFFF (s.nf k F.pwrRing_NM_CNT_RESTARTS + 1))).nmAlive k 0)
  else .next s

/-- NM_TERR_TIMEOUT: T_ERR_MS without an own message completed OK, or since the last LIMPHOME message. -/
def execNmTerrTimeout (k : Nat) (s : State) : Answer :=
  if 8 ≤ k then .next s
  else if s.nmState k = 2 ∧ (s.nmOf k).msg.isSome then .next (s.nmTo k 3 false)
  else if s.nmState k = 3 then .next (s.nmSend k ⟨2, s.nf k F.pwrRing_NM_CTL_SLEEP_OK == 1, false, 0, 0⟩)
  else .next s

/-- NM_WBS_EXPIRY: T_WBS_MS has passed in WAIT_SLEEP. -/
def execNmWbsExpiry (k : Nat) (s : State) : Answer :=
  if k < 8 ∧ s.nmState k = 4 then
    let c := s.nf k F.pwrRing_NM_CTL_CHAN
    let st := if 16 ≤ c ∨ s.gf wkB (F.pwrWake_CANW_CTL_MODE.at (32 * c)) ≠ 0 then 2 else 3
    .next ((s.trcvAsk c st).nmTo k 5 false)
  else .next s

/-- NM_ADDRESS_TIMEOUT: address a has not been heard for N × T_MAX_MS (R416). -/
def execNmAddressTimeout (k a : Nat) (s : State) : Answer :=
  if k < 8 ∧ s.nmState k ≠ 0 ∧ a < 256 ∧ a ≠ s.nf k F.pwrRing_NM_CTL_ADDR ∧ s.nmListed k a then .next (s.nmList k a false)
  else .next s

/-- The ring page enters RUN, or leaves it (R420). -/
def State.ringRun (s : State) : State :=
  (List.range 8).foldl (fun (a : State) k => if a.nf k F.pwrRing_NM_CTL_EN = 1 then a.nmReset k else a) s

def State.ringLeave (s : State) : State := (List.range 8).foldl (fun (a : State) k => a.nmOff k) s

end Sys2Proof.Machine
end

