-- ==== Sys2Proof/Machine/Cask.lean ====
section
/-! DEFINITION. The Cask in flash (R422 to R435): the region, its units and records, writing, recovery after power loss
and the recorder commands; and the timed and commanded changes of the performance counters (R437). -/

namespace Sys2Proof.Machine

/-- Bases of the recorder, counter and flash pages. -/
def caB0 : Nat := pageBase .caskRec 0
def ccB : Nat := pageBase .caskCnt 0
def qsB : Nat := pageBase .qspi 0

/-! ### The flash part -/

/-- Whether a flash part has been found, and whether it is NAND (R443). -/
def State.flashFound (s : State) : Bool := s.gf qsB F.qspi_FLASH_INFO_TYPE != 0
def State.nand (s : State) : Bool := s.gf qsB F.qspi_FLASH_INFO_TYPE == 2

/-! ### The QSPI master (R445): one requester at a time holds it, from the start of a command that lasts to its end. Operations
that this model carries out in one command find it free, and leave it free. -/

def State.setSup (s : State) (x : Sup) : State := { s with sup := x }

/-- Whether the Supervisor runs: its firmware, or the boot ROM in recovery or in END. -/
def State.supRuns (s : State) : Bool := s.sup.phase != .off && s.sup.phase != .bootRom

/-- The mailbox commands that use the flash. -/
def supFlashOps : List Nat := [0x10, 0x11, 0x12, 0x13, 0x14, 0x20, 0x30]

/-- Whether a command of the Supervisor uses the flash. -/
def MbxJob.flash (j : MbxJob) : Bool := supFlashOps.contains j.op

/-- Whether the Supervisor waits for the master: the boot ROM is about to read, or a command is to go on. -/
def State.supWants (s : State) : Bool := s.sup.phase == .off || (s.supRuns && s.sup.job.any MbxJob.flash)

/-- The requester that takes the master where nobody holds it. -/
def State.masterFor (s : State) : Nat :=
  if s.supWants then 1 else if s.cask.job.isSome then 2 else if s.sup.hostJob.isSome then 3 else 0

/-- The master goes to the next requester. -/
def State.masterNext (s : State) : State :=
  if s.sup.master = 0 then s.setSup { s.sup with master := s.masterFor } else s

/-- Requester r has the master no more; it goes to nobody yet. -/
def State.masterLeave (s : State) (r : Nat) : State :=
  if s.sup.master = r then s.setSup { s.sup with master := 0 } else s

/-- Whether an operation can be carried out: nobody holds the master. -/
def State.masterFree (s : State) : Bool := s.sup.master == 0

/-- Key of spare byte 0 of page 0 of NAND block b: the spare areas, 64 bytes a page, stand above the main areas
(log entry 79). -/
def spareKey (b : Nat) : Nat := 2 ^ 32 + 4096 * b

/-- Whether a NAND block is bad (R444). -/
def State.blockBad (s : State) (b : Nat) : Bool := look (fun _ => (0xFF : Byte)) s.flash (spareKey b) != 0xFF

/-- `k` flash bytes from `a` on hold what a failed program or erase left, which the specification does not state: free
values (log entry 118). -/
def State.flashSpoil (s : State) (a k : Nat) : State :=
  { s.flashWrite a ((List.range k).map fun i => Config.free 8 (s.freeCount + i)) with freeCount := s.freeCount + k }

/-- A program or an erase of `k` flash bytes at `a` fails: counted, EV49; a NAND block is marked bad and counted
(R444). -/
def State.flashFail (s : State) (erase : Bool) (a k : Nat) : State :=
  let s0 := s.flashSpoil a k
  let s1 := (s0.inc qsB (if erase then F.qspi_ERASE_FAIL_COUNT else F.qspi_PROG_FAIL_COUNT)).raise 49 (1 + b2n erase)
  if s1.nand then
    let s2 := if erase then s1.flashSpoil (spareKey (a / 131072)) 4096 else s1.flashSpoil (2 ^ 32 + 64 * (a / 2048)) 64
    let s3 := s2.flashProgram (spareKey (a / 131072)) [0x00]
    if s1.blockBad (a / 131072) then s3 else s3.inc qsB F.qspi_FLASH_INFO_BAD_BLOCKS
  else s1

/-- A NAND page read's ECC status: 1 corrected, 2 corrected at the limit, 3 uncorrectable (R444). The Supervisor's
report of a limit page carries its ECC status code and its block. -/
def State.pageEcc (s : State) (ecc a : Nat) : State :=
  match ecc with
  | 1 => s.inc qsB F.qspi_ECC_CORR_COUNT
  | 2 => (s.inc qsB F.qspi_ECC_LIMIT_COUNT).caskRecord 4 4 (leBytes 1 3 ++ leBytes 4 (a / 131072))
  | 3 => (s.inc qsB F.qspi_ECC_UNCORR_COUNT).raise 48 0
  | _ => s

/-! ### Units -/

/-- The region's registers. -/
def State.caskUnits (s : State) : Nat := s.gf caB0 F.caskRec_REGION_CFG_UNITS
def State.unitAt (s : State) (u : Nat) : Nat := s.gf caB0 F.caskRec_REGION_BASE_OFFSET + u * s.caskUnitBytes

/-- A unit header's fields (Table 14-1). -/
structure CaskHeader where
  useq : Nat
  firstSeq : Nat
  opsec : Nat
  pwrcyc : Nat
  deriving DecidableEq, Repr

/-- The bytes that CHECK of a header or a record covers, with MARK taken as 0xA5. -/
def marked (at_ : Nat) (b : Bytes) : Bytes := putBytes b at_ [0xA5]

/-- The valid header of a unit (R423). -/
def State.unitHeader (s : State) (u : Nat) : Option CaskHeader :=
  let b := s.flashBytes (s.unitAt u) 64
  if slice b 0 4 = [0x43, 0x41, 0x53, 0x4B] ∧ leAt b 4 2 = 1 ∧ byteAt b 6 = 0xA5
      ∧ leAt b 60 4 = hashH 0xFFFFFFFF (b.take 60) then
    some ⟨leAt b 8 4, leAt b 12 4, leAt b 16 4, leAt b 20 4⟩
  else none

/-- Whether a unit's erase block is bad: NAND only (R430). -/
def State.unitBad (s : State) (u : Nat) : Bool := s.nand && s.blockBad (s.unitAt u / 131072)

/-- Whether a unit can be opened: it holds no records and is not bad. -/
def State.unitFree (s : State) (u : Nat) : Bool := (s.unitHeader u).isNone && !s.unitBad u

/-- The number of free units. -/
def State.freeUnits (s : State) : Nat := ((List.range s.caskUnits).filter s.unitFree).length

/-- Sets FREE_UNITS; EV449 when it falls to NEAR_UNITS (R432). -/
def State.showFree (s : State) : State :=
  let old := s.gf caB0 F.caskRec_STS_FREE_UNITS
  let new := s.freeUnits
  let near := s.gf caB0 F.caskRec_THRESH_NEAR_UNITS
  (s.pf caB0 F.caskRec_STS_FREE_UNITS new).raiseIf (near < old && new ≤ near) 449 (min new 0xFF)

/-- EV448 follows FULL and SCAN_RESULT 4. -/
def State.caskFullLevel (s : State) : State :=
  s.level 448 (s.on caB0 F.caskRec_STS_FULL || s.gf caB0 F.caskRec_STS_SCAN_RESULT == 4) 0

def State.setFull (s : State) (v : Bool) : State := (s.pf caB0 F.caskRec_STS_FULL (b2n v)).caskFullLevel

/-- Sets the write position and shows it in POS as an offset in the region. -/
def State.setUnit (s : State) (u : Option Nat) (off : Nat) : State :=
  let s1 : State := { s with cask := { s.cask with unit := u, off := off } }
  s1.pf caB0 F.caskRec_POS_OFFSET (u.getD 0 * s.caskUnitBytes + off)

/-- The first unit after the one opened last, in index order, that is not bad. -/
def State.nextUnit (s : State) : Option Nat :=
  let n := s.caskUnits
  let start := match s.cask.unit with | some u => u + 1 | none => 0
  ((List.range n).map fun i => (start + i) % n).find? fun u => !s.unitBad u

/-- The header of a unit being opened. -/
def State.headerBytes (s : State) (useq : Nat) : Bytes :=
  let first := match s.cask.buf with | r :: _ => r.seq | [] => s.gf caB0 F.caskRec_NEXT_SEQ_VALUE
  let b := [0x43, 0x41, 0x53, 0x4B] ++ leBytes 2 1 ++ [0xA5, 0x00] ++ leBytes 4 useq ++ leBytes 4 first
    ++ leBytes 4 s.cask.opsec ++ leBytes 4 (s.gf caB0 F.caskRec_PWRCYC_VALUE) ++ List.replicate 36 0
  b ++ leBytes 4 (hashH 0xFFFFFFFF b)

/-- Erases unit u; on NAND its spare area too, where the mark of a bad block stays (log entry 82). -/
def State.unitErase (s : State) (u : Nat) : State :=
  let key := spareKey (s.unitAt u / 131072)
  let s1 := s.flashErase (s.unitAt u) s.caskUnitBytes
  if !s.nand then s1
  else
    let s2 := s1.flashErase key 4096
    if s.unitBad u then s2.flashProgram key [0x00] else s2

/-- Opens unit u: erased, then its header written (R423). -/
def State.openUnit (s : State) (u : Nat) : State :=
  let useq := (s.cask.useq + 1) % 2 ^ 32
  let s1 := s.unitErase u
  let s2 := s1.flashWrite (s.unitAt u) (s.headerBytes useq)
  let s3 : State := { s2 with cask := { s2.cask with useq := useq } }
  (s3.setUnit (some u) (if s.nand then 2048 else 64)).showFree

/-- The Cask marks a NAND unit bad after a program (1) or erase (2) failure of `k` bytes at offset `a` (R430). -/
def State.unitFails (s : State) (u detail a k : Nat) : State :=
  let s1 := s.flashFail (detail == 2) (s.unitAt u + a) k
  ((if s.unitBad u then s1 else s1.inc caB0 F.caskRec_BAD_UNITS_COUNT).raise 452 detail).showFree

/-- Unit u, on NAND, fails while it is being opened, in its erase (`detail` 2) or the program of its header (1): it is
marked bad, and the Cask goes on with the unit after it (R430). -/
def State.openFails (s : State) (u detail : Nat) : State :=
  let k := if detail = 2 then s.caskUnitBytes else 2048
  ((if detail = 2 then s else s.unitErase u).unitFails u detail 0 k).setUnit (some u) s.caskUnitBytes

/-- Opens the next unit, or finds the region full (R432). `fails`: what a NAND part reports, 2 a failed erase, 3 a
failed program of the header; the unit is then marked bad and nothing is opened. The answer says whether a unit was
opened. -/
def State.openNext (s : State) (fails : Nat) : State × Bool :=
  match s.nextUnit with
  | none => (s.setFull true, false)
  | some u =>
    if (s.unitHeader u).isSome then (s.setFull true, false)
    else if s.nand ∧ fails = 2 then (s.openFails u 2, false)
    else if s.nand ∧ fails = 3 then (s.openFails u 1, false)
    else (s.openUnit u, true)

/-! ### Records -/

/-- A record in flash (Table 14-2), with MARK as given. -/
def CaskRec.bytes (r : CaskRec) (mark : Byte) : Bytes :=
  let n := r.len
  let head (m : Byte) : Bytes := leBytes 2 n ++ [m, BitVec.ofNat 8 r.kind] ++ leBytes 2 r.source
    ++ leBytes 2 (b2n r.overridden) ++ leBytes 4 r.seq ++ leBytes 4 r.opsec ++ leBytes 4 r.pwrcyc ++ leBytes 4 r.stamp
    ++ r.payload ++ List.replicate (n - 28 - r.payload.length) 0
  head mark ++ leBytes 4 (hashH 0xFFFFFFFF (head 0xA5))

/-- Removes committed records from the buffer (R431). -/
def State.caskCommit (s : State) (n : Nat) : State :=
  let s1 : State := { s with cask := { s.cask with buf := s.cask.buf.drop n } }
  ((s1.pf caB0 F.caskRec_BUF_LEVEL_BYTES s1.cask.bytes).addWrap caB0 F.caskRec_RECORDS_COUNT n).perf 0x0B0 0 n

/-- Whether the Cask may write: its page in RUN or QUIESCING, the region scanned and not full, a flash part found, the
QSPI master free (R422, R429, R433 to R435, R445). -/
def State.caskWrites (s : State) : Bool :=
  s.works .caskRec 0 && s.on caB0 F.caskRec_STS_SCANNED && !s.on caB0 F.caskRec_STS_FULL && s.caskUnits != 0
    && s.flashFound && s.masterFree

/-- The unit for a record or page of `len` bytes: the open one, or the next (R432). -/
def State.roomFor (s : State) (len fails : Nat) : State × Bool :=
  if s.cask.unit.isSome ∧ s.cask.off + len ≤ s.caskUnitBytes then (s, true) else s.openNext fails

/-- CASK_RECORD_WRITE: SPI NOR (R429): the record is programmed with MARK 0xFF, read back and compared, and its MARK is
programmed; programming only clears bits. `got`: what the flash holds after the program where that is not what
programming leaves. -/
def execCaskRecordWrite (got : Option Bytes) (s : State) : Answer :=
  match s.cask.buf with
  | [] => .next s
  | r :: _ =>
    if s.caskWrites ∧ !s.nand then
      let o := s.roomFor r.len 0
      if o.2 then
        let p := o.1.unitAt (o.1.cask.unit.getD 0) + o.1.cask.off
        let s1 := (o.1.setUnit o.1.cask.unit (o.1.cask.off + r.len)).flashProgram p (r.bytes 0xFF)
        let s2 := match got with
          | some g => s1.flashWrite p (g.take r.len)
          | none => s1
        if s2.flashBytes p r.len = r.bytes 0xFF then .next ((s2.flashProgram (p + 2) [0xA5]).caskCommit 1)
        else .next (((s2.flashProgram (p + 2) [0x00]).inc caB0 F.caskRec_WRITE_ERR_COUNT).raise 452 3)
      else .next o.1
    else .next s

/-- The page image: the whole records at the head of the buffer that fit into a page (R430; log entry 80). -/
def imageOf : Nat → List CaskRec → List CaskRec
  | _, [] => []
  | room, r :: l => if r.len ≤ room then r :: imageOf (room - r.len) l else []

def State.caskImage (s : State) : List CaskRec := imageOf 2048 s.cask.buf

/-- Programs the page image (R430). `fails`: what the part reports, 0 nothing, 1 a failed program of the page, 2 a
failed erase and 3 a failed header program of the unit that it may have to open. -/
def State.programImage (s : State) (fails : Nat) : State :=
  let l := s.caskImage
  if l ≠ [] ∧ s.caskWrites ∧ s.nand then
    let o := s.roomFor 2048 fails
    if o.2 then
      let u := o.1.cask.unit.getD 0
      if fails ≠ 1 then
        let p := o.1.unitAt u + o.1.cask.off
        ((o.1.setUnit (some u) (o.1.cask.off + 2048)).flashProgram p (l.flatMap fun r => r.bytes 0xA5)).caskCommit l.length
      else (o.1.unitFails u 1 o.1.cask.off 2048).setUnit (some u) o.1.caskUnitBytes
    else o.1
  else s

/-- CASK_PAGE_PROGRAM: SPI NAND; the next record does not fit, or the page drains. -/
def execCaskPageProgram (fails : Nat) (s : State) : Answer :=
  .next (if s.caskImage.length < s.cask.buf.length ∨ s.pst .caskRec 0 = .quiescing then s.programImage fails else s)

/-- CASK_FLUSH_TIMEOUT: FLUSH_MS ms since the oldest record in the image entered the buffer. -/
def execCaskFlushTimeout (fails : Nat) (s : State) : Answer := .next (s.programImage fails)

/-! ### Commands (R433) -/

/-- The unit holding records with the lowest USEQ. -/
def State.oldestUnit (s : State) : Option Nat :=
  ((List.range s.caskUnits).foldl (fun (a : Option (Nat × Nat)) u =>
    match s.unitHeader u, a with
    | none, _ => a
    | some h, none => some (u, h.useq)
    | some h, some (_, q) => if h.useq < q then some (u, h.useq) else a) none).map Prod.fst

/-- CMD.GO (R433). `fails`: what the part reports of a FLUSH, which waits where the QSPI master is held. -/
def State.caskGo (s : State) (fails : Nat) : State :=
  if s.run .caskRec 0 ∧ !s.on caB0 F.caskRec_STS_BUSY ∧ s.flashFound ∧ s.caskUnits ≠ 0 then
    let start (j : CaskJob) : State :=
      (({ s with cask := { s.cask with job := some j } } : State).pf caB0 F.caskRec_STS_BUSY 1).masterNext
    match s.gf caB0 F.caskRec_CMD_OP with
    | 0 => if s.masterFree ∨ !s.nand then s.programImage fails else start .flush
    | 1 =>
      match s.oldestUnit with
      | none => s
      | some u => if s.cask.unit = some u then s else start .free
    | 2 => start .eraseAll
    | _ => start (.read (s.gf caB0 F.caskRec_RD_OFF_OFFSET))
  else s

/-- Writes little-endian words into registers from offset `off` on. -/
def State.putWords (s : State) (off : Nat) : List Nat → State
  | [] => s
  | w :: l => (s.wr off (BitVec.ofNat 32 w)).putWords (off + 4) l

/-- The 32-bit little-endian words of a byte string. -/
def wordsOf (n : Nat) (b : Bytes) : List Nat := (List.range n).map fun k => leAt b (4 * k) 4

/-- Erases one unit of those that a command frees; a NAND unit whose erase fails is marked bad (R430, R433). -/
def State.freeUnit (s : State) (failed : List Nat) (u : Nat) : State :=
  if s.nand && failed.contains u then s.unitFails u 2 0 s.caskUnitBytes else s.unitErase u

/-- What a recorder command has done when it ends. `failed`: the units whose erase failed; `ecc`: the ECC status of the
page read; `fails`: what the part reports of the page image that FLUSH and ERASE_ALL program; `opened`: it reports the
header of the unit that ERASE_ALL opens good. -/
def State.caskDo (s : State) (j : CaskJob) (failed : List Nat) (ecc fails : Nat) (opened : Bool) : State :=
  match j with
  | .flush => s.programImage fails
  | .free =>
    match s.oldestUnit with
    | none => s
    | some u => ((s.freeUnit failed u).showFree).setFull false
  | .eraseAll =>
    let s1 := (List.range s.caskUnits).foldl (fun (a : State) u => a.freeUnit failed u) (s.programImage fails)
    ((((s1.setUnit none 0).setFull false).showFree).openNext (if opened then 0 else 3)).1
  | .read off =>
    let s1 := if s.nand then s.pageEcc ecc (s.unitAt 0 + off) else s
    if s.nand ∧ ecc = 3 then s1
    else s1.putWords (caB0 + 0x100) (wordsOf 64 (s.flashBytes (s.unitAt 0 + off) 256))

/-- What a write of a recorder register starts. What the part reports of a FLUSH is a free value here. -/
def State.caskTrigger (o : Nat) (w : Word) (s : State) : State :=
  if o = 0x090 ∧ bitOf w.toNat 31 then
    if s.gf caB0 F.caskRec_CMD_OP = 0 ∧ s.caskImage ≠ [] then
      let r := s.fresh 2
      r.2.caskGo r.1.toNat
    else s.caskGo 0
  else if o = 0x200 ∧ bitOf w.toNat 31 then
    let bytes := (List.range 16).flatMap fun k => leBytes 4 (s.gf caB0 (F.caskRec_HREC_DATA_DATA.at (4 * k)))
    s.caskRecord 3 (s.gf caB0 F.caskRec_HREC_CTL_SOURCE) (bytes.take (s.gf caB0 F.caskRec_HREC_CTL_LEN))
  else s

/-- The host writes CMD with GO = 1 and an OP. -/
def State.caskCommand (s : State) (op fails : Nat) : State :=
  s.hostWrite (caB0 + 0x090) (BitVec.ofNat 32 (0x80000000 + op)) fun t => t.caskGo fails

def execFlush (fails : Nat) (s : State) : Answer := .next (s.caskCommand 0 fails)

def execFree (s : State) : Answer := .next (s.caskCommand 1 0)

def execCaskEraseAll (s : State) : Answer := .next (s.caskCommand 2 0)

def execRead (s : State) : Answer := .next (s.caskCommand 3 0)

/-- HREC_GO: the host writes HREC_CTL with GO = 1. -/
def execHrecGo (w : Word) (s : State) : Answer :=
  let v := w ||| 0x80000000#32
  .next (s.hostWrite (caB0 + 0x200) v (State.caskTrigger 0x200 v))

/-- CASK_CHECKPOINT: CKPT_S seconds since the last CHECKPOINT or START record, so one has entered (R425). -/
def execCaskCheckpoint (s : State) : Answer :=
  .next (if s.domOn 3 ∧ s.cask.clocked then s.caskRecord 6 0 [] else s)

/-! ### The scan (R434) -/

/-- CASK_SCAN: the recorder page has entered RUN unscanned. -/
def execCaskScan (s : State) : Answer :=
  .next (if s.run .caskRec 0 ∧ s.cask.scan = 1 ∧ s.flashFound then { s with cask := { s.cask with scan := 2 } } else s)

/-- What a walk has found: where writing resumes (none: the unit is closed), TORN, CORRUPT, and the largest SEQ,
PWRCYC and OPSEC of the records whose CHECK is good. -/
structure Walk where
  resume : Option Nat
  torn : Nat
  corrupt : Nat
  seq : Option Nat
  pwrcyc : Nat
  opsec : Nat
  /-- flash offsets of the MARK bytes to void -/
  void : List Nat
  deriving DecidableEq, Repr

def Walk.new (h : CaskHeader) : Walk := ⟨none, 0, 0, none, h.pwrcyc, h.opsec, []⟩

/-- A record header's LEN is legal under R424 within `room` bytes. -/
def lenLegal (len room : Nat) : Bool := len % 4 == 0 && 28 ≤ len && len ≤ 256 && len ≤ room

/-- Whether the CHECK of the record bytes is good. -/
def recGood (b : Bytes) : Bool :=
  leAt b (b.length - 4) 4 == hashH 0xFFFFFFFF (marked 2 (b.take (b.length - 4)))

/-- Takes the SEQ, PWRCYC and OPSEC of a record with a good CHECK. -/
def Walk.take (w : Walk) (b : Bytes) : Walk :=
  if recGood b then
    { w with
      seq := some (max (w.seq.getD 0) (leAt b 8 4)), pwrcyc := max w.pwrcyc (leAt b 16 4), opsec := max w.opsec (leAt b 12 4) }
  else w

/-- Table 14-5 from position p of the unit at flash byte `base`; `fuel` bounds the records. -/
def State.walkNor (s : State) (base : Nat) : Nat → Nat → Walk → Walk
  | 0, _, w => w
  | fuel + 1, p, w =>
    let room := s.caskUnitBytes - p
    if room < 4 then w
    else
      let len := leNat (s.flashBytes (base + p) 2)
      let mark := (s.flashBytes (base + p + 2) 1).headD 0
      if len = 0xFFFF ∧ mark = 0xFF then { w with resume := some p }
      else if lenLegal len room then
        let b := s.flashBytes (base + p) len
        let w1 := w.take b
        let w2 : Walk :=
          if mark = 0xA5 then { w1 with corrupt := w1.corrupt + b2n !(recGood b) }
          else if mark = 0xFF then { w1 with torn := w1.torn + 1, void := (base + p + 2) :: w1.void }
          else w1
        s.walkNor base fuel (p + len) w2
      else w

/-- The records of one NAND page. -/
def pageRecords : Nat → Bytes → Walk → Walk
  | 0, _, w => w
  | fuel + 1, b, w =>
    let len := leAt b 0 2
    if lenLegal len b.length then
      let r := b.take len
      let w1 := w.take r
      pageRecords fuel (b.drop len) { w1 with corrupt := w1.corrupt + b2n (byteAt r 2 == 0xA5 && !(recGood r)) }
    else w

/-- SPI NAND: walks the pages of a unit; writing resumes after the last page that holds anything. `bad`: flash byte
offsets of the pages that read uncorrectable. -/
def State.walkNand (s : State) (base : Nat) (bad : List Nat) : Nat → Nat → Walk → Walk
  | 0, _, w => w
  | fuel + 1, p, w =>
    if s.caskUnitBytes < p + 2048 then w
    else if bad.contains (base + p) then
      s.walkNand base bad fuel (p + 2048) { w with corrupt := w.corrupt + 1 }
    else
      let b := s.flashBytes (base + p) 2048
      if b.all (· == 0xFF) then { w with resume := some p }
      else s.walkNand base bad fuel (p + 2048) (pageRecords 74 b w)

/-- The newest unit: the valid header with the highest USEQ. -/
def newestOf (l : List (Nat × CaskHeader)) : Option (Nat × CaskHeader) :=
  l.foldl (fun (a : Option (Nat × CaskHeader)) x =>
    match a with
    | none => some x
    | some y => if y.2.useq < x.2.useq then some x else a) none

/-- START enters first; the records that entered before it take OPSEC, PWRCYC and SEQ after it (R426). -/
def State.caskStart (s : State) (seq pwrcyc opsecBase torn corrupt : Nat) : State :=
  let cause := s.gf pwB F.pwrMain_PSTATE_CAUSE
  let src := if s.on wkB F.pwrWake_WAKE_FIRST_VALID then s.gf wkB F.pwrWake_WAKE_FIRST_SRC else 0xFF
  let seqErr := s.gf pwB F.pwrMain_SUPPLY_STS_SEQ_ERR
  let payload : Bytes := [cause, src, seqErr, min torn 255, min corrupt 255, 0, 0, 0].map (BitVec.ofNat 8)
  let start : CaskRec := ⟨5, 0, false, seq, (opsecBase + s.cask.pd3Cycles / 200000000) % 2 ^ 32, pwrcyc, s.stamp, payload, none⟩
  let fits := s.cask.room start
  let first := seq + b2n fits
  let new (q : Nat) : Nat := if 2 ^ 32 ≤ q then (first + (q - 2 ^ 32)) % 2 ^ 32 else q
  let settle (r : CaskRec) : CaskRec :=
    { r with seq := new r.seq, opsec := (opsecBase + r.opsec) % 2 ^ 32, pwrcyc := pwrcyc, place := none,
             payload := match r.place with
               | some i => leBytes 4 (first + i) ++ r.payload.drop 4
               | none => r.payload }
  let buf := (if fits then [start] else []) ++ s.cask.buf.map settle
  let s1 : State := { s with cask := { s.cask with clocked := true, buf := buf, opsecBase := opsecBase, watch := s.cask.watch.map fun w => (new w.1, w.2) } }
  let s2 := ((s1.pf caB0 F.caskRec_NEXT_SEQ_VALUE (seq + buf.length)).pf caB0 F.caskRec_PWRCYC_VALUE pwrcyc).pf caB0
    F.caskRec_BUF_LEVEL_BYTES s1.cask.bytes
  let s3 := s2.pf caB0 F.caskRec_BUF_PEAK_BYTES (max (s2.gf caB0 F.caskRec_BUF_PEAK_BYTES) s1.cask.bytes)
  if fits then s3
  else
    let s4 : State := { s3 with cask := { s3.cask with lost := s3.cask.lost + 1 } }
    (s4.incFirst caB0 F.caskRec_LOST_COUNT 451 0).perf 0x0B1 0 1

/-- CASK_SCAN_DONE: the scan ends. `bad`: flash byte offsets of the NAND pages that read uncorrectable. -/
def execCaskScanDone (bad : List Nat) (s0 : State) : Answer :=
  if s0.run .caskRec 0 ∧ s0.cask.scan = 2 ∧ s0.masterFree then
    let n := s0.caskUnits
    let isBad (a : Nat) : Bool := s0.nand && bad.contains a
    let s := (if s0.nand then bad else []).foldl (fun (a : State) x => a.pageEcc 3 x) s0
    let valid := (List.range n).filterMap fun u => if isBad (s.unitAt u) then none else (s.unitHeader u).map fun h => (u, h)
    let pw := valid.foldl (fun a x => max a x.2.pwrcyc) 0
    let op := valid.foldl (fun a x => max a x.2.opsec) 0
    let done (t : State) (result seq pwrcyc base torn corrupt : Nat) : State :=
      let t1 : State := { t with cask := { t.cask with scan := 0 } }
      let t2 := ((t1.pf caB0 F.caskRec_STS_SCAN_RESULT result).caskStart seq pwrcyc base torn corrupt).pf caB0 F.caskRec_STS_SCANNED 1
      (t2.showFree.caskFullLevel).raise 450 result
    match newestOf valid with
    | none =>
      let t : State := { s with cask := { s.cask with useq := 0 } }
      let t1 := t.setUnit none 0
      if (List.range n).any fun u => !s.unitBad u then .next (done t1 3 0 1 0 0 0)
      else .next (done (t1.pf caB0 F.caskRec_STS_FULL 1) 4 0 1 0 0 0)
    | some (u, h) =>
      let base := s.unitAt u
      let w0 : Walk := { Walk.new h with pwrcyc := pw, opsec := op }
      let w := if s.nand then s.walkNand base bad 64 2048 w0 else s.walkNor base (s.caskUnitBytes / 28) 64 w0
      let s1 := w.void.foldl (fun (a : State) x => a.flashProgram x [0x00]) s
      let s2 := (s1.addSat caB0 F.caskRec_TORN_COUNT w.torn).addSat caB0 F.caskRec_CORRUPT_COUNT w.corrupt
      let s3 : State := { s2 with cask := { s2.cask with useq := h.useq } }
      let s4 := s3.setUnit (some u) (w.resume.getD s.caskUnitBytes)
      let blocked := w.resume.isNone && !(match s4.nextUnit with | some v => (s4.unitHeader v).isNone | none => false)
      let result := if blocked then 4 else if w.corrupt ≠ 0 then 2 else if w.torn ≠ 0 then 1 else 0
      let s5 := if blocked then s4.pf caB0 F.caskRec_STS_FULL 1 else s4
      .next (done s5 result (match w.seq with | some q => (q + 1) % 2 ^ 32 | none => h.firstSeq)
        ((w.pwrcyc + 1) % 2 ^ 32) w.opsec w.torn w.corrupt)
  else .next s0

/-! ### The recorder page (R435) -/

/-- The recorder page enters RUN: the scan is due where it has not been made and there is a region. -/
def State.caskRun (s : State) : State :=
  if !s.on caB0 F.caskRec_STS_SCANNED ∧ s.caskUnits ≠ 0 then { s with cask := { s.cask with scan := 1 } } else s

/-- It leaves RUN: a scan that has not completed starts again at the next entry. -/
def State.caskLeave (s : State) : State := { s with cask := { s.cask with scan := 0 } }

/-- Whether QUIESCING of the recorder page may end: no flash operation is in progress, and the buffer is empty or the
region FULL (R435; log entry 82). -/
def State.caskDrained (s : State) : Bool := s.cask.job.isNone && (s.cask.buf == [] || s.on caB0 F.caskRec_STS_FULL)

/-- SRST discards the buffer, counts its records in LOST and clears SCANNED (R435). A watch of an ACTION record that had
no SEQ yet ends with it (log entry 82). -/
def State.caskSrst (s : State) : State :=
  let n := s.cask.buf.length
  let first := s.gf caB0 F.caskRec_LOST_COUNT == 0 && n != 0
  let watch := s.cask.watch.map fun w => if 2 ^ 32 ≤ w.1 then (w.1, 2 ^ 32) else w
  let s1 : State := { s with cask := { s.cask with buf := [], lost := s.cask.lost + n, job := none, scan := 0, watch := watch } }
  let s2 := (((s1.addSat caB0 F.caskRec_LOST_COUNT n).perf 0x0B1 0 n).pf caB0 F.caskRec_BUF_LEVEL_BYTES 0).pf caB0
    F.caskRec_STS_SCANNED 0
  ((s2.pf caB0 F.caskRec_STS_BUSY 0).raiseIf first 451 0).masterLeave 2

/-! ### The performance counters (R437) -/

/-- SNAP: all counters are copied in one cycle. -/
def State.perfSnap (s : State) : State :=
  (List.range 16).foldl (fun (a : State) c =>
    a.p64 ccB (F.caskCnt_SNAP_LO_COUNT.at (8 * c)) (F.caskCnt_SNAP_HI_COUNT.at (8 * c))
      (s.g64 ccB (F.caskCnt_CNT_LO_COUNT.at (16 * c)) (F.caskCnt_CNT_HI_COUNT.at (16 * c)))) s

/-- CLR zeroes the counters of a mask. -/
def State.perfClear (s : State) (mask : Nat) : State :=
  (onesOf 16 mask).foldl (fun (a : State) c =>
    a.p64 ccB (F.caskCnt_CNT_LO_COUNT.at (16 * c)) (F.caskCnt_CNT_HI_COUNT.at (16 * c)) 0) s

/-- What a write of a counter page register starts. -/
def State.perfTrigger (o : Nat) (w : Word) (s : State) : State :=
  if o = 0x040 then
    let s1 := if bitOf w.toNat 2 then s.perfSnap else s
    if bitOf w.toNat 1 then
      { s1 with cask := { s1.cask with perfAt := some (s1.g64 ccB F.caskCnt_PERF_AT_LO_NS F.caskCnt_PERF_AT_HI_NS) } }
    else s1
  else if o = 0x04C then s.perfClear w.toNat
  else s

/-- SNAP and PERF_AT: the host writes PERF_CTL with the bit set, its other bits as `w`. -/
def execSnap (w : Word) (s : State) : Answer :=
  let v := w ||| 4#32
  .next (s.hostWrite (ccB + 0x040) v (State.perfTrigger 0x040 v))

def execPerfAt (w : Word) (s : State) : Answer :=
  let v := w ||| 2#32
  .next (s.hostWrite (ccB + 0x040) v (State.perfTrigger 0x040 v))

/-- PERF_CLR: the host writes CLR. -/
def execPerfClr (w : Word) (s : State) : Answer := .next (s.hostWrite (ccB + 0x04C) w (State.perfTrigger 0x04C w))

/-- The armed change of RUN, once its instant has come (R352). -/
def State.perfDue (s : State) : State :=
  match s.cask.perfAt with
  | none => s
  | some t =>
    if t ≤ s.now ∧ s.alive .caskCnt 0 then
      let run := s.gf ccB F.caskCnt_PERF_CTL_RUN_NEXT
      let s1 : State := { s with cask := { s.cask with perfAt := none } }
      (s1.pf ccB F.caskCnt_PERF_CTL_RUN run).raise 454 run
    else s

def execPerfTimedRun (s : State) : Answer := .next s.perfDue

/-- SRST of the counter page: counters and snapshots zeroed, AT disarmed (R441). -/
def State.perfSrst (s : State) : State :=
  let s1 := (s.perfClear 0xFFFF).zeroWords (ccB + 0x200) 32
  { s1 with cask := { s1.cask with perfAt := none } }

end Sys2Proof.Machine
end

