-- ==== Sys2Proof/Machine/Boot.lean ====
section
/-! DEFINITION. The flash as the host, the boot ROM and the Supervisor use it (R443 to R449), image headers and their
checks, slots and the slot table, boot (R450), and recipe images (R333, R334). -/

namespace Sys2Proof.Machine

/-- Bases of the UPD and SVC pages. -/
def updB : Nat := pageBase .upd 0
def svcB : Nat := pageBase .svc 0

/-! ### Host flash commands (R445) -/

/-- The opcodes that PROD and END allow. -/
def hcmdAllowed : List Nat := [0x03, 0x0B, 0x0F, 0x13, 0x5A, 0x6B, 0x9F]

/-- The bytes of HBUF. -/
def State.hbuf (s : State) (n : Nat) : Bytes :=
  ((List.range 64).flatMap fun k => leBytes 4 (s.gf qsB (F.qspi_HBUF_DATA.at (4 * k)))).take n

/-- Overwrites the first bytes of HBUF. -/
def State.setHbuf (s : State) (b : Bytes) : State := s.putWords (qsB + 0x100) (wordsOf 64 (putBytes (s.hbuf 256) 0 b))

/-- An HCMD ends: EV50. -/
def State.hcmdEnd (s : State) (result : Nat) : State :=
  ((s.pf qsB F.qspi_HCMD_BUSY 0).pf qsB F.qspi_HCMD_RESULT result).raise 50 result

/-- HCMD.GO; ignored while BUSY (log entry 84). -/
def State.hcmdGo (s : State) : State :=
  if s.on qsB F.qspi_HCMD_BUSY then s
  else
    let op := s.gf qsB F.qspi_HCMD_OPCODE
    let guarded := s.lifecycle = 2 ∨ s.lifecycle = 4
    if !s.run .qspi 0 ∨ (guarded ∧ !hcmdAllowed.contains op) then s.hcmdEnd 1
    else
      ((s.setSup { s.sup with hostJob := some ⟨op, s.gf qsB F.qspi_HADDR_ADDR, s.gf qsB F.qspi_HCMD_LEN⟩ }).pf qsB
        F.qspi_HCMD_BUSY 1).masterNext

/-- What a write of a QSPI register starts. -/
def State.qspiTrigger (o : Nat) (w : Word) (s : State) : State := if o = 0x048 ∧ bitOf w.toNat 31 then s.hcmdGo else s

/-- HCMD: the host writes HCMD with GO = 1, OPCODE and LEN as in `w`. -/
def execHcmd (w : Word) (s : State) : Answer :=
  let v := w ||| 0x80000000#32
  .next (s.hostWrite (qsB + 0x048) v (State.qspiTrigger 0x048 v))

/-- A NOR command that the part has carried out. `data`: what the part returns where its contents are not the flash
array's (SFDP, identifier, status). -/
def State.norCmd (s : State) (j : FlashJob) (data : Bytes) : State :=
  match j.op with
  | 0x03 => s.setHbuf (s.flashBytes j.addr j.len)
  | 0x0B => s.setHbuf (s.flashBytes j.addr j.len)
  | 0x6B => s.setHbuf (s.flashBytes j.addr j.len)
  | 0x02 => s.flashProgram j.addr (s.hbuf j.len)
  | 0x20 => s.flashErase (j.addr / 4096 * 4096) 4096
  | 0x52 => s.flashErase (j.addr / 32768 * 32768) 32768
  | 0xD8 => s.flashErase (j.addr / 65536 * 65536) 65536
  | _ => s.setHbuf (data.take j.len)

/-- A NAND command that the part has carried out: HADDR is the page row for 0x13, 0x10 and 0xD8 and the column for
the cache commands (log entry 84). -/
def State.nandCmd (s : State) (j : FlashJob) (data : Bytes) : State :=
  let fromCache := s.setHbuf (readMem 0xFF s.sup.cache j.addr j.len)
  match j.op with
  | 0x13 =>
    let page := s.flashBytes (2048 * j.addr) 2048 ++ s.flashBytes (2 ^ 32 + 64 * j.addr) 64
    s.setSup { s.sup with cache := writeMem 0xFF [] 0 page }
  | 0x03 => fromCache
  | 0x3B => fromCache
  | 0x6B => fromCache
  | 0x02 => s.setSup { s.sup with cache := writeMem 0xFF [] j.addr (s.hbuf j.len) }
  | 0x10 =>
    (s.flashProgram (2048 * j.addr) (readMem 0xFF s.sup.cache 0 2048)).flashProgram (2 ^ 32 + 64 * j.addr)
      (readMem 0xFF s.sup.cache 2048 64)
  | 0xD8 => (s.flashErase (j.addr / 64 * 131072) 131072).flashErase (spareKey (j.addr / 64)) 4096
  | _ => s.setHbuf (data.take j.len)

/-- Whether a command erases, and whether it programs the array. -/
def FlashJob.erases (j : FlashJob) (nand : Bool) : Bool := j.op == 0xD8 || (!nand && (j.op == 0x20 || j.op == 0x52))
def FlashJob.programs (j : FlashJob) (nand : Bool) : Bool := if nand then j.op == 0x10 else j.op == 0x02

/-- The bytes that an erase or program is for: first byte, length. -/
def FlashJob.range (j : FlashJob) (nand : Bool) : Nat × Nat :=
  if nand then (if j.op = 0xD8 then (j.addr / 64 * 131072, 131072) else (2048 * j.addr, 2048))
  else match j.op with
    | 0x20 => (j.addr / 4096 * 4096, 4096)
    | 0x52 => (j.addr / 32768 * 32768, 32768)
    | 0xD8 => (j.addr / 65536 * 65536, 65536)
    | _ => (j.addr, j.len)

/-- What a host flash command has done when it completes. `fail`: the part reports an error; `ecc`: the status of a NAND
page read. -/
def State.hcmdDo (s : State) (j : FlashJob) (fail : Bool) (ecc : Nat) (data : Bytes) : State :=
  if fail then
    let r := j.range s.nand
    (if j.erases s.nand ∨ j.programs s.nand then s.flashFail (j.erases s.nand) r.1 r.2 else s).hcmdEnd 2
  else if s.nand then
    let s1 := s.nandCmd j data
    if j.op = 0x13 then (s1.pageEcc ecc (2048 * j.addr)).hcmdEnd (if ecc = 3 then 2 else 0) else s1.hcmdEnd 0
  else if s.flashFound then (s.norCmd j data).hcmdEnd 0
  else (s.setHbuf (data.take j.len)).hcmdEnd 0

/-! ### Page reads of the Supervisor (R444) -/

/-- The Supervisor reads pages; `ecc`: flash byte offset and ECC status of each that the part reports one for. -/
def State.readPages (s : State) (ecc : List (Nat × Nat)) : State :=
  if !s.nand then s
  else
    let s1 := ecc.foldl (fun (a : State) x => a.pageEcc x.2 x.1) s
    s1.setSup { s1.sup with unread := (ecc.filter fun x => x.2 == 3).map fun x => x.1 / 2048 }

/-- Whether one of `k` bytes from `a` on lies in a page that the Supervisor cannot read. -/
def State.anyUnread (s : State) (a k : Nat) : Bool :=
  k != 0 && s.sup.unread.any fun p => decide (a < 2048 * (p + 1) ∧ 2048 * p < a + k)

/-! ### Directory and partitions (R446) -/

/-- Bytes of an erase unit. -/
def State.eraseBytes (s : State) : Nat := if s.nand then 131072 else s.sup.eraseUnit

/-- The good blocks from `start` on, among `n`. -/
def State.goodBlocks (s : State) (start n : Nat) : List Nat :=
  ((List.range n).map (start + ·)).filter fun b => !s.blockBad b

/-- A directory copy at flash byte `a`, where its CHECK is good. -/
def State.dirAt (s : State) (a : Nat) : Option Bytes :=
  let b := s.flashBytes a 256
  if !s.anyUnread a 256 ∧ leAt b 252 4 = hashH 0xFFFFFFFF (b.take 252) then some b else none

/-- The first good NAND block from `b` on, among `n`. -/
def State.goodFrom (s : State) : Nat → Nat → Option Nat
  | 0, _ => none
  | n + 1, b => if s.blockBad b then s.goodFrom n (b + 1) else some b

/-- The directory: the primary where its CHECK is good, otherwise the copy; one of another MAGIC or FORMAT holds no
entry (R446; log entry 85). A NAND part has at most 4,096 blocks. -/
def State.directory (s : State) : Option Bytes :=
  if !s.flashFound then none
  else
    let first := if s.nand then s.goodFrom 4096 0 else some 0
    let second := if s.nand then first.bind fun b => s.goodFrom (4095 - b) (b + 1) else some 1
    let at_ (i : Option Nat) : Option Bytes := (i.map (s.eraseBytes * ·)).bind s.dirAt
    (match at_ first with
      | some b => some b
      | none => at_ second).filter fun b => slice b 0 4 == [0x54, 0x56, 0x58, 0x46] && leAt b 4 2 == 1

/-- START and LENGTH of a partition. -/
def State.partEntry (s : State) (id : Nat) : Option (Nat × Nat) :=
  match s.directory with
  | none => none
  | some b =>
    ((List.range (min 16 (leAt b 6 2))).find? fun k => byteAt b (16 + 12 * k) == id).map fun k =>
      (leAt b (20 + 12 * k) 4, leAt b (24 + 12 * k) 4)

/-- The erase units of a partition that hold its data, as flash byte offsets (on NAND its good blocks); NOR partitions
are one run. -/
def State.partRuns (s : State) (id : Nat) : List (Nat × Nat) :=
  match s.partEntry id with
  | none => []
  | some (start, len) => if s.nand then (s.goodBlocks start len).map fun b => (131072 * b, 131072) else [(start, len)]

/-- Bytes that a partition holds. -/
def State.partSize (s : State) (id : Nat) : Nat := (s.partRuns id).foldl (fun a r => a + r.2) 0

/-- The flash byte of offset `off` among runs. -/
def runAt : List (Nat × Nat) → Nat → Option Nat
  | [], _ => none
  | (a, n) :: l, off => if off < n then some (a + off) else runAt l (off - n)

/-- Whether one of the first `k` bytes of runs cannot be read. -/
def State.runsUnread (s : State) : List (Nat × Nat) → Nat → Bool
  | [], _ => false
  | (a, n) :: l, k => s.anyUnread a (min k n) || s.runsUnread l (k - n)

/-- Bytes of runs from offset `off` on; short past the end. -/
def State.readRuns (s : State) : List (Nat × Nat) → Nat → Nat → Bytes
  | [], _, _ => []
  | (a, n) :: l, off, k =>
    if off < n then
      let m := min k (n - off)
      s.flashBytes (a + off) m ++ s.readRuns l 0 (k - m)
    else s.readRuns l (off - n) k

def State.partRead (s : State) (id off k : Nat) : Bytes := s.readRuns (s.partRuns id) off k

/-- Erases the units of a partition that its first `n` bytes need. -/
def State.partErase (s : State) (id n : Nat) : State :=
  if s.nand then
    ((s.partRuns id).take ((n + 131071) / 131072)).foldl (fun (a : State) r => a.flashErase r.1 131072) s
  else match s.partRuns id with
    | (a, m) :: _ => s.flashErase a (min m ((n + s.eraseBytes - 1) / s.eraseBytes * s.eraseBytes))
    | [] => s

/-- Programs bytes at an offset of a partition, within one erase unit. -/
def State.partWrite (s : State) (id off : Nat) (b : Bytes) : State :=
  match runAt (s.partRuns id) off with
  | some a => s.flashProgram a b
  | none => s

/-- A program (`erase` false, within one erase unit) or the erase of `k` bytes at an offset of a partition fails. -/
def State.partFail (s : State) (erase : Bool) (id off k : Nat) : State :=
  match runAt (s.partRuns id) off with
  | some a =>
    let unit := s.eraseBytes
    s.flashFail erase a (if !erase then k else if s.nand then 131072 else (k + unit - 1) / unit * unit)
  | none => s.flashFail erase 0 0

/-- Partition ID of a slot of parts 0 to 3, of the manifest and of the certificate (Table 15-1). -/
def partId (part slot : Nat) : Nat := if part < 4 then 2 + 2 * part + slot else part + 6

/-! ### Image headers (R447, R448) -/

/-- The ROLLBACK count: programmed fuse bits. -/
def State.rollbackCount (s : State) : Nat := popCount 64 (s.kiln.fuses / 2 ^ 1168)

/-- The check of an image header for `part`: 0, or the first result of Table 15-5 that fails. -/
def State.headerCheck (s : State) (h : Bytes) (part : Nat) : Nat :=
  let key := s.fuseBytes 912 32
  let zero := key.all (· == 0)
  let skip := zero && s.lifecycle ≤ 1
  if leAt h 252 4 ≠ hashH 0xFFFFFFFF (h.take 252) then 5
  else if slice h 0 4 ≠ [0x54, 0x56, 0x58, 0x49] ∨ leAt h 4 2 ≠ 1 ∨ byteAt h 6 ≠ part then 5
  else if !bitOf (leAt h 14 2) s.grade.code then 6
  else if !skip && (zero || sha256 (slice h 64 64) != key) then 7
  else if !skip && !ecdsaVerify (beAt h 64 32) (beAt h 96 32) (beAt h 128 32) (beAt h 160 32) (sha256 (h.take 128)) then 8
  else if leAt h 12 2 < s.rollbackCount then 9
  else 0

/-- VERSION, PAYLOAD_LEN and PAYLOAD_HASH of a header. -/
def hdrVersion (h : Bytes) : Nat := leAt h 8 4
def hdrLen (h : Bytes) : Nat := leAt h 16 4
def hdrHash (h : Bytes) : Bytes := slice h 32 32

def State.imageHeader (s : State) (part slot : Nat) : Bytes := s.partRead (partId part slot) 0 256
def State.imagePayload (s : State) (part slot : Nat) : Bytes :=
  s.partRead (partId part slot) 256 (hdrLen (s.imageHeader part slot))

/-- Whether the payload agrees with PAYLOAD_HASH. -/
def State.payloadGood (s : State) (part slot : Nat) : Bool :=
  let h := s.imageHeader part slot
  let p := s.imagePayload part slot
  p.length == hdrLen h && sha256 p == hdrHash h

/-- The result of reading an image: its header is checked before its payload, which is checked against PAYLOAD_HASH; a
page that cannot be read is a flash error (R444, R448). -/
def State.imageCheck (s : State) (part slot : Nat) : Nat :=
  let runs := s.partRuns (partId part slot)
  let h := s.imageHeader part slot
  if s.runsUnread runs 256 then 13
  else if s.headerCheck h part ≠ 0 then s.headerCheck h part
  else if s.runsUnread runs (256 + hdrLen h) then 13
  else if s.payloadGood part slot then 0
  else 10

/-! ### Slots and the slot table (R449) -/

def slotFld (slot : Nat) : Fld := if slot = 0 then F.upd_SLOT_STS_STATE_A else F.upd_SLOT_STS_STATE_B
def verFld (slot : Nat) : Fld := if slot = 0 then F.upd_VER_A_VERSION else F.upd_VER_B_VERSION

def State.slotState (s : State) (p slot : Nat) : Nat := s.gf updB ((slotFld slot).at (4 * p))
def State.slotVer (s : State) (p slot : Nat) : Nat := s.gf updB ((verFld slot).at (8 * p))
def State.slotActive (s : State) (p : Nat) : Nat := s.gf updB (F.upd_SLOT_STS_ACTIVE.at (4 * p))
def State.slotTries (s : State) (p : Nat) : Nat := s.gf updB (F.upd_SLOT_STS_TRIES.at (4 * p))

/-- A slot table record of unit i, where it is valid. -/
def State.tableRec (s : State) (i : Nat) : Option Bytes :=
  match runAt (s.partRuns 1) (i * s.eraseBytes) with
  | none => none
  | some a =>
    let b := s.flashBytes a 128
    if !s.anyUnread a 128 ∧ slice b 0 4 = [0x54, 0x56, 0x58, 0x53] ∧ leAt b 124 4 = hashH 0xFFFFFFFF (b.take 124) then some b
    else none

/-- The record in force and its unit. -/
def State.tableInForce (s : State) : Option (Nat × Bytes) :=
  match s.tableRec 0, s.tableRec 1 with
  | none, none => none
  | some a, none => some (0, a)
  | none, some b => some (1, b)
  | some a, some b => if leAt a 4 4 < leAt b 4 4 then some (1, b) else some (0, a)

/-- The record of the slots as UPD shows them. -/
def State.tableBytes (s : State) (seq : Nat) : Bytes :=
  let part (p : Nat) : Bytes :=
    ([s.slotActive p, s.slotState p 0, s.slotState p 1, s.slotTries p].map (BitVec.ofNat 8))
      ++ leBytes 4 (s.slotVer p 0) ++ leBytes 4 (s.slotVer p 1) ++ leBytes 4 0
  let b := [0x54, 0x56, 0x58, 0x53] ++ leBytes 4 seq ++ List.replicate 8 0 ++ (List.range 4).flatMap part
    ++ List.replicate 44 0
  b ++ leBytes 4 (hashH 0xFFFFFFFF b)

/-- A new record goes into the unit that does not hold the newest. -/
def State.programTable (s : State) : State :=
  let (u, seq) := match s.tableInForce with
    | some (i, b) => (1 - i, leAt b 4 4 + 1)
    | none => (0, 1)
  match runAt (s.partRuns 1) (u * s.eraseBytes) with
  | some a => (s.flashErase a s.eraseBytes).flashProgram a (s.tableBytes seq)
  | none => s

/-- The Supervisor writes a new record, once the QSPI master is free (R445); EV47 follows the slots. -/
def State.writeTable (s : State) : State :=
  let s1 := if s.masterFree then s.programTable else s.setSup { s.sup with tableDue := true }
  s1.level 47 ((List.range 4).any fun p => s1.slotState p 0 == 3 || s1.slotState p 1 == 3) 0

/-- The QSPI master is free: a slot table record that waits is written, then the next requester takes the master. -/
def State.masterGo (s : State) : State :=
  if s.masterFree ∧ s.sup.tableDue then
    let s1 := s.programTable
    (s1.setSup { s1.sup with tableDue := false }).masterNext
  else s.masterNext

/-- HCMD_DONE: a host flash command, which holds the QSPI master, completes. -/
def execHcmdDone (fail : Bool) (ecc : Nat) (data : Bytes) (s : State) : Answer :=
  match s.sup.hostJob with
  | none => .next s
  | some j =>
    if s.sup.master ≠ 3 then .next s
    else .next ((((s.setSup { s.sup with hostJob := none }).masterLeave 3).hcmdDo j fail ecc data).masterGo)

/-- CASK_COMMAND_DONE: a recorder command, which holds the QSPI master, ends. -/
def execCaskCommandDone (failed : List Nat) (ecc fails : Nat) (opened : Bool) (s : State) : Answer :=
  match s.cask.job with
  | none => .next s
  | some j =>
    if s.sup.master ≠ 2 then .next s
    else
      let s1 := (({ s with cask := { s.cask with job := none } } : State).pf caB0 F.caskRec_STS_BUSY 0).masterLeave 2
      .next ((s1.caskDo j failed ecc fails opened).masterGo)

/-- Sets a slot's state. -/
def State.setSlotSt (s : State) (p slot st : Nat) : State :=
  if p < 4 then (s.pf updB ((slotFld slot).at (4 * p)) st).writeTable
  else if p = 4 then s.setSup { s.sup with manifest := st }
  else s

/-- Files a report of the Supervisor. -/
def State.report (s : State) (code : Nat) (payload : Bytes) : State := s.caskRecord 4 code payload

/-! ### Boot (R450) -/

/-- The slots that the boot ROM takes where no record is valid: those whose header passes are GOOD, and A is active. -/
def State.slotsFound (s : State) : State :=
  (List.range 8).foldl (fun (a : State) i =>
    let p := i / 2
    let slot := i % 2
    let h := a.imageHeader p slot
    let ok := !a.runsUnread (a.partRuns (partId p slot)) 256 && a.headerCheck h p == 0
    (a.pf updB ((slotFld slot).at (4 * p)) (if ok then 4 else 0)).pf updB ((verFld slot).at (8 * p)) (if ok then hdrVersion h else 0))
    (s.zeroWords (updB + 0x064) 4)

/-- The slots of the record in force. -/
def State.slotsShown (s : State) (b : Bytes) : State :=
  (List.range 4).foldl (fun (a : State) p =>
    let o := 16 + 16 * p
    ((a.wr (updB + 0x064 + 4 * p) (BitVec.ofNat 32 (byteAt b (o + 3) * 2 ^ 24 + byteAt b o % 2 * 2 ^ 16 + byteAt b (o + 2) * 256
      + byteAt b (o + 1)))).pf updB (F.upd_VER_A_VERSION.at (8 * p)) (leAt b (o + 4) 4)).pf updB
        (F.upd_VER_B_VERSION.at (8 * p)) (leAt b (o + 8) 4)) s

/-- TYPE of the part (R443): NOR where the SFDP signature is found, otherwise NAND where command 0x9F returns an
identifier other than 0x00 and 0xFF. -/
def flashType (sfdp : Bool) (ident : Nat) : Nat :=
  if sfdp then 1 else if ident % 256 ≠ 0 ∧ ident % 256 ≠ 0xFF then 2 else 0

/-- The boot ROM detects the part (R443): the clock starts at 12.5 MHz, DIV 7, and is 100 MHz, DIV 0, once a part is
found. -/
def State.detectFlash (s : State) (sfdp : Bool) (ident size unit : Nat) : State :=
  let typ := flashType sfdp ident
  let s1 := (s.pf qsB F.qspi_FLASH_INFO_TYPE typ).pf qsB F.qspi_FLASH_INFO_SIZE_LOG2 (if typ = 0 then 0 else size)
  let s2 := s1.pf qsB F.qspi_CLK_DIV (if typ = 0 then 7 else 0)
  s2.setSup { s2.sup with phase := .bootRom, master := 1, eraseUnit := max 1 unit }

/-- BOOT_START: the boot ROM detects the part and reads the directory and the slot table. `sfdp`: the SFDP signature is
found; `ident`: the identifier that command 0x9F returns; `size`, `unit`: SIZE_LOG2 and, for NOR, the erase unit; `ecc`:
pages whose read reports a status (R443, R444, R446, R450). -/
def execBootStart (sfdp : Bool) (ident size unit : Nat) (ecc : List (Nat × Nat)) (s : State) : Answer :=
  if s.domOn 3 ∧ s.sup.phase = .off ∧ s.sup.master ≤ 1 then
    let s1 := (s.detectFlash sfdp ident size unit).readPages ecc
    let s2 := s1.pf updB F.upd_ROLLBACK_COUNT s1.rollbackCount
    if s2.lifecycle = 4 then
      .next (((s2.pf updB F.upd_BOOT_STS_MODE 3).setSup { s2.sup with phase := .halted, master := 0 }).masterGo)
    else
      let s3 := match s2.tableInForce with
        | some (_, b) => s2.slotsShown b
        | none => if s2.flashFound then s2.slotsFound else s2
      let held := !s3.runsUnread (s3.partRuns 10) 256 && s3.headerCheck (s3.imageHeader 4 0) 4 == 0
      let s4 := s3.setSup { s3.sup with manifest := if held then 2 else 0 }
      .next (s4.level 47 ((List.range 4).any fun p => s4.slotState p 0 == 3 || s4.slotState p 1 == 3) 0)
  else .next s

/-- The firmware slot that the boot ROM chooses. -/
def State.chooseFw (s : State) : Option Nat :=
  let a := s.slotActive 0
  if s.slotState 0 0 = 3 ∧ s.slotTries 0 < 3 then some 0
  else if s.slotState 0 1 = 3 ∧ s.slotTries 0 < 3 then some 1
  else if s.slotState 0 a = 4 then some a
  else if s.slotState 0 (1 - a) = 4 then some (1 - a)
  else none

/-- A TRIAL slot with its three tries used is BAD (R450). -/
def State.triesUsed (s : State) : State :=
  [0, 1].foldl (fun (a : State) x =>
    if a.slotState 0 x = 3 ∧ 3 ≤ a.slotTries 0 then (a.setSlotSt 0 x 5).raise 44 0 else a) s

/-- The check of a firmware slot before it is started. -/
def State.fwCheck (s : State) (slot : Nat) : Nat :=
  let h := s.imageHeader 0 slot
  if s.headerCheck h 0 = 0 ∧ 2 ^ 20 < hdrLen h then 3 else s.imageCheck 0 slot

/-- The boot firmware writes the Cask region from the directory and locks the page (R422). -/
def State.caskRegion (s : State) : State :=
  match s.partEntry 12 with
  | none => s
  | some (start, len) =>
    let by_ (a : State) (o v : Nat) : State := a.writeBy .supervisor (caB0 + o) (BitVec.ofNat 32 v) id
    let sel := if s.nand then 2 else 1
    let base := if s.nand then 131072 * start else start
    let units := if s.nand then len else len / 65536
    let s1 := by_ s 0x044 (min 0x1000 units * 2 ^ 16 + sel)
    by_ (by_ s1 0x040 base) 0x024 1

/-- A mailbox command of the host ends (R451). -/
def State.mbxEnd (s : State) (result : Nat) (rsp : List Nat) : State :=
  let s1 := s.putWords (svcB + 0x070) rsp
  (((s1.pf svcB F.svc_MBX_STS_BUSY 0).pf svcB F.svc_MBX_STS_DONE 1).pf svcB F.svc_MBX_STS_RESULT result).raise 41 result

/-- A command of the host that waited for the restart ends once the Supervisor runs (R451). -/
def State.restartEnd (s : State) : State :=
  let s1 := s.setSup { s.sup with resume := 0 }
  match s.sup.resume with
  | 1 => s1.mbxEnd 0 []
  | 2 => s1.pf svcB F.svc_MBX_STS_BUSY 0
  | 3 => (s1.setSup { s1.sup with remote := none }).mbxEnd 17 []
  | _ => s

/-- The firmware of a slot starts. -/
def State.fwStart (s : State) (slot : Nat) (trial : Bool) : State :=
  let mode := b2n trial
  let ver := hdrVersion (s.imageHeader 0 slot)
  let s1 := ((s.pf updB F.upd_BOOT_STS_MODE mode).pf updB F.upd_BOOT_STS_SLOT slot).pf updB F.upd_BOOT_STS_BOOT_MS
    (min 0xFFFF ((s.cycles - s.sup.bootAt) / 200000))
  let s2 := ((s1.setSup { s1.sup with phase := .firmware }).pf svcB F.svc_SV_STS_RUN 1).pf svcB F.svc_FW_VERSION_VERSION ver
  (s2.report 1 ([BitVec.ofNat 8 slot, BitVec.ofNat 8 mode] ++ leBytes 4 ver)).caskRegion

/-- No slot can be loaded: recovery. The path of a transfer to another unit is forgotten (log entry 92). -/
def State.bootRecovery (s : State) : State :=
  (s.pf updB F.upd_BOOT_STS_MODE 2).setSup { s.sup with phase := .recovery, target := none }

/-- Steps 3 to 6 of R450. -/
def State.bootLoad : Nat → State → State
  | 0, s => s.bootRecovery
  | fuel + 1, s0 =>
    let s := s0.triesUsed
    match (if s0.flashFound then s.chooseFw else none) with
    | none => s.bootRecovery
    | some x =>
      let trial := s.slotState 0 x == 3
      let s1 := if trial then (s.pf updB F.upd_SLOT_STS_TRIES (s.slotTries 0 + 1)).writeTable else s
      match s1.fwCheck x with
      | 0 => s1.fwStart x trial
      | r => State.bootLoad fuel (((s1.setSlotSt 0 x 5).report 2 ([0, x, r].map (BitVec.ofNat 8))).raise 44 0)

/-- The Supervisor restarts into the boot ROM. -/
def State.supRestart (s : State) : State :=
  ((s.setSup { s.sup with phase := .off, bootAt := s.cycles }).pf svcB F.svc_SV_STS_RUN 0).masterNext

/-! ### Recipe images (R333, R334) -/

/-- A section: KIND, TARGET, LENGTH, payload. -/
structure RcpSection where
  kind : Nat
  target : Nat
  len : Nat
  data : Bytes
  deriving DecidableEq, Repr

/-- Payload bytes of a section before padding. -/
def RcpSection.size (x : RcpSection) : Nat := if x.kind = 0 then 4 * x.len else x.len

/-- The sections after the image header; none where one runs past the image. -/
def rcpSections : Nat → Bytes → Option (List RcpSection)
  | 0, _ => some []
  | n + 1, b =>
    let kind := byteAt b 0
    let len := leAt b 12 4
    let target := leAt b 8 4 % (if kind = 0 then 2 ^ 14 else if kind = 1 then 2 ^ 18 else 16)
    let x : RcpSection := ⟨kind, target, len, slice b 16 (if kind = 0 then 4 * len else len)⟩
    let all := 16 + (x.size + 15) / 16 * 16
    if b.length < 16 ∨ b.length < all then none
    else (rcpSections n (b.drop all)).map (x :: ·)

/-- Whether two sections of one kind overlap. -/
def rcpOverlap (x y : RcpSection) : Bool :=
  x.kind == y.kind &&
    (if x.kind = 2 then x.target == y.target else decide (x.target < y.target + y.len ∧ y.target < x.target + x.len))

def anyPair (f : RcpSection → RcpSection → Bool) : List RcpSection → Bool
  | [] => false
  | x :: l => l.any (f x) || anyPair f l

/-- The clusters and sections of an image that may be applied (R334). -/
def State.recipeOf (s : State) (img : Bytes) : Option (List Nat × List RcpSection) :=
  let count := byteAt img 7
  let bad := slice img 0 4 ≠ [0x52, 0x43, 0x50, 0x45] ∨ leAt img 4 2 ≠ 1 ∨ leAt img 8 4 ≠ img.length ∨ img.length < 64
    ∨ leAt img 60 4 ≠ hashH 0xFFFFFFFF (putBytes img 60 [0, 0, 0, 0]) ∨ count = 0 ∨ 64 < count
  if bad then none
  else
    match rcpSections count (img.drop 64) with
    | none => none
    | some l =>
      let past (x : RcpSection) : Bool :=
        (x.kind == 0 && 16384 < x.target + x.len) || (x.kind == 1 && 262144 < x.target + x.len) || (x.kind == 2 && x.len != 24)
          || 2 < x.kind || (x.kind == 2 && s.on (crB x.target) hdrLock)
      let mask := byteAt img 6
      if l.any past ∨ anyPair rcpOverlap l ∨ s.grade.clusters ≤ (onesOf 8 mask).foldl max 0 ∧ mask ≠ 0 then none
      else some (onesOf 8 mask, l)

/-- Writes one section. -/
def State.rcpWrite (s : State) (clusters : List Nat) (x : RcpSection) : State :=
  let base (c : Nat) : Nat := 0x0A000000 + 0x400000 * c
  match x.kind with
  | 0 => clusters.foldl (fun (a : State) c =>
      (a.b2Write (base c + 4 * x.target) x.data).ktlMend (base c + 4 * x.target) x.data.length) s
  | 1 => clusters.foldl (fun (a : State) c =>
      (a.b2Write (base c + 0x100000 + x.target) x.data).ktlMend (base c + 0x100000 + x.target) x.data.length) s
  | _ =>
    (List.range 5).foldl (fun (a : State) k =>
      a.writeBy .supervisor (crB x.target + 0x040 + 4 * k) (BitVec.ofNat 32 (leAt x.data (4 * k) 4)) id) s

/-- Applies an image whole; none where it is refused. -/
def State.applyRecipe (s : State) (img : Bytes) : Option State :=
  (s.recipeOf img).map fun (cs, l) => l.foldl (fun (a : State) x => a.rcpWrite cs x) s

end Sys2Proof.Machine
end

