-- ==== Sys2Proof/Machine/Rack.lean ====
section
/-! DEFINITION. Racking (R454 to R458): the update messages, preparation, the coordinator of Table 15-6a and the
participant of Table 15-6b, and the start of the firmware, which goes on from the state that the UPD block holds. -/

namespace Sys2Proof.Machine

def State.setRack (s : State) (r : Rack) : State := { s with rack := r }

/-- T_ACT and T_REV. -/
def State.tAct (s : State) : Nat := s.g64 updB F.upd_T_ACT_LO_NS F.upd_T_ACT_HI_NS
def State.tRev (s : State) : Nat := s.g64 updB F.upd_T_REV_LO_NS F.upd_T_REV_HI_NS

/-- A timer field in nanoseconds. -/
def State.updMs (s : State) (f : Fld) : Nat := s.gf updB f * 1000000

/-! ### Messages (Table 15-7) -/

/-- The payload of a message (its fields most significant byte first; log entry 88). -/
def updBytes (m : UpdMsg) : Bytes :=
  (m.target ++ m.origin).flatMap (beBytes 2) ++ beBytes 4 m.manifest ++ [BitVec.ofNat 8 m.code, BitVec.ofNat 8 m.flags, 0, 0]
    ++ beBytes 8 m.time ++ m.body

/-- The lanes toward a unit (R273): those toward the child whose path the target's extends, otherwise an UP lane. -/
def State.updLanes (s : State) (path : List Nat) : List Nat :=
  let d := s.unitDepth
  if path.take (d + 1) = s.unitPath.take (d + 1) ∧ d < 3 then
    (List.range 16).filter fun n => s.jlUp n && s.jlRole n == 1
      && s.gf jlB (F.brgJalden_JL_STS_PEER_ID.at (4 * n)) == path.getD (d + 1) 0
  else (s.laneFor 0 none).toList

/-- GO as this model names it among the messages; Table 15-7 gives it no TYPE, so the byte on the wire is a free value.
-/
def goTyp : Nat := 0x100

/-- TYPE of a message on the wire. -/
def wireTyp (typ : Nat) : Nat := if typ = goTyp then Config.goType.toNat else typ

/-- Sends or forwards a message to another unit; it vanishes where there is no lane. -/
def State.updForward (s : State) (typ : Nat) (m : UpdMsg) : State :=
  (s.updLanes m.target).foldl (fun (a : State) n => a.jlSend n (wireTyp typ) 0 (updBytes m) 16) s

/-- The flags of this unit's messages. -/
def State.updFlags (s : State) : Nat :=
  if s.profile = 3 ∨ s.profile = 4 then b2n (s.profile == 4) + 2 * b2n (s.on jlB F.brgJalden_TWIN_STS_PEER_LOST) else 0

/-- A message of this unit. -/
def State.updMsg (s : State) (target : List Nat) (code time : Nat) (body : Bytes) : UpdMsg :=
  ⟨target, s.unitPath, s.gf updB F.upd_MANIFEST_ID_ID, code, s.updFlags, time, body⟩

/-- Whether the firmware runs, which takes the messages of Racking (R457). -/
def State.fwRuns (s : State) : Bool := s.sup.phase == .firmware

/-- The UPD block holds an update message; one that finds it full is discarded (R457). -/
def State.hold (s : State) (typ : Nat) (m : UpdMsg) : State :=
  if s.rack.held.length < 16 then s.setRack { s.rack with held := s.rack.held ++ [(typ, m)] } else s

/-! ### State changes -/

/-- EV42 and report 0x10 of a state. -/
def State.rackNote (s : State) (st : Nat) : State :=
  (s.raise 42 st).report 0x10 ([BitVec.ofNat 8 st, BitVec.ofNat 8 (s.gf updB F.upd_RACK_STS_REASON)] ++ leBytes 2 s.unitId
    ++ leBytes 4 (s.gf updB F.upd_MANIFEST_ID_ID))

/-- The coordinator or the participant changes state; RACK_STS.STATE shows the last change, and the other machine's
state where this one is idle (log entry 89). -/
def State.setCoord (s : State) (st : Nat) : State :=
  let s1 := s.setRack { s.rack with coord := st }
  (s1.pf updB F.upd_RACK_STS_STATE (if st = 0 then s.rack.part else st)).rackNote st

def State.setPart (s : State) (st : Nat) : State :=
  let s1 := s.setRack { s.rack with part := st }
  (s1.pf updB F.upd_RACK_STS_STATE (if st = 0 then s.rack.coord else st)).rackNote st

/-! ### Preparation (R455) -/

/-- A manifest entry's fields (R454). -/
def entPart (e : Bytes) : Nat := byteAt e 9
def entPath (e : Bytes) : List Nat := (List.range 4).map fun i => leAt e (2 * i) 2
def entKey (e : Bytes) : Nat := leAt e 10 2 % 1024

/-- The slot that staging writes to. -/
def State.newSlot (s : State) (p : Nat) : Nat := 1 - s.slotActive p

/-- Whether the staged image of an entry's part matches it (result 14). -/
def State.entMatches (s : State) (e : Bytes) : Bool :=
  let p := entPart e
  let h := s.imageHeader p (s.newSlot p)
  s.slotState p (s.newSlot p) == 2 && hdrVersion h == leAt e 12 4 && hdrLen h == leAt e 16 4 && hdrHash h == slice e 20 32

/-- A word write of the Supervisor to a BAR0 offset with its trigger. -/
def State.svWrite (s : State) (off v : Nat) (k : State → State) : State := s.writeBy .supervisor off (BitVec.ofNat 32 v) k

/-- Builds the Batch of the present variant (BUILD_CTL with BY_VARIANT = 1). -/
def State.rackBuild (s : State) : State :=
  let w := 2 ^ 31 + 2 ^ 8
  s.svWrite (sgB + 0x050) w (State.sigTrigger 0x050 (BitVec.ofNat 32 w))

/-- Region of a database slot in MiB. -/
def State.dbRegion (s : State) (slot : Nat) : Nat :=
  s.gf updB (if slot = 0 then F.upd_DB_REGION_A_MIB else F.upd_DB_REGION_B_MIB)

/-- Sets SIG.DB_BASE; the second answer says whether the page's lock lets it (R455). -/
def State.moveBase (s : State) (mib : Nat) : State × Bool :=
  if s.on sgB hdrLock then (s, false) else (s.svWrite (sgB + 0x05C) mib id, true)

/-- Where a configuration record's words go: the background banks of the routing and stream tables, and their seeds
through the offsets of their registers (log entry 90). -/
inductive CfgPlace
  | route
  | stream
  | register
  | elsewhere
  deriving DecidableEq, Repr

def State.cfgPlace (s : State) (off : Nat) : CfgPlace :=
  let b := 1 - s.gf bgB F.brgGlobal_RT_BANK_FG
  let c := 1 - s.gf shB F.pipeShared_STREAM_BANK_FG
  let within (base size : Nat) : Bool := base ≤ off && off < base + size
  if within (0x06000000 + 0x100000 * b) 0xC0000 ∨ within (0x06200000 + 0x80000 * b) 0x80000 ∨ within (0x06300000 + 0x2000 * b) 0x2000
  then .route
  else if within (0x05100000 + 0x40000 * c) 0x40000 ∨ within (0x05180000 + 0x10000 * c) 0x10000 then .stream
  else if off = bgB + 0x050 + 4 * b ∨ off = shB + 0x050 + 4 * c ∨ off = shB + 0x058 + 4 * c then .register
  else .elsewhere

/-- Writes one word of a configuration record. -/
def State.cfgWord (s : State) (off v : Nat) : State :=
  match s.cfgPlace off with
  | .route => s.routeWrite off v
  | .stream => s.fwdWrite off v
  | .register => s.svWrite off v id
  | .elsewhere => s

def State.cfgWords (s : State) (off : Nat) : List Nat → State
  | [] => s
  | v :: l => (s.cfgWord off v).cfgWords (off + 4) l

/-- The records of a configuration payload: offset, words. -/
def cfgRecords : Nat → Bytes → List (Nat × List Nat)
  | 0, _ => []
  | fuel + 1, b =>
    if b.length < 8 then []
    else
      let n := leAt b 4 2
      (leAt b 0 4, wordsOf n (slice b 8 (4 * n))) :: cfgRecords fuel (b.drop (8 + 4 * n))

/-- Prepares a configuration image. -/
def State.prepConfig (s : State) (payload : Bytes) : State × Nat :=
  let l := cfgRecords (payload.length / 8) payload
  let bad := l.any fun r => (List.range r.2.length).any fun k => s.cfgPlace (r.1 + 4 * k) == .elsewhere
  if s.on bgB F.brgGlobal_RT_BANK_DRAINING || s.on shB F.pipeShared_STREAM_BANK_DRAINING then (s, 18)
  else if bad then (s, 3)
  else (l.foldl (fun (a : State) r => a.cfgWords r.1 r.2) s, 0)

/-- Prepares a database image: the payload goes to LPDDR4X, SIG.DB_BASE to it, and the build starts. A build whose GO
the page would ignore fails (16; log entry 90). -/
def State.prepBatch (s : State) (slot : Nat) : State × Nat :=
  let s1 := s.ddrWrite (s.dbRegion slot * 2 ^ 20) (s.imagePayload 1 slot)
  let r := (s1.setRack { s1.rack with oldBase := s1.gf sgB F.sigGlobal_DB_BASE_MIB }).moveBase (s.dbRegion slot)
  if !r.2 then (r.1, 19)
  else if r.1.on sgB F.sigGlobal_BUILD_STS_BUSY ∨ r.1.on sgB F.sigGlobal_BANK_STS_DRAINING then (r.1, 16)
  else
    let b := r.1.rackBuild
    if b.on sgB F.sigGlobal_BUILD_STS_BUSY then (b.setRack { b.rack with building := true }, 0) else (b, 16)

/-- Prepares one entry: the state and the code, 0 where it has not failed (R444, R448, R455). -/
def State.prepEntry (s : State) (e : Bytes) : State × Nat :=
  let p := entPart e
  let slot := s.newSlot p
  if p = 0x0F then (s, if (s.slot (entKey e)).shadow.isSome then 0 else 4)
  else if 4 ≤ p then (s, 14)
  else if s.runsUnread (s.partRuns (partId p slot)) 256 then (s, 13)
  else if !s.entMatches e then (s, 14)
  else if p ≠ 0 ∧ s.imageCheck p slot ≠ 0 then (s, s.imageCheck p slot)
  else
    match p with
    | 1 => s.prepBatch slot
    | 2 =>
      match s.applyRecipe (s.imagePayload 2 slot) with
      | some t => (t, 0)
      | none => (s, 16)
    | 3 => s.prepConfig (s.imagePayload 3 slot)
    | _ => (s, 0)

/-- Prepares the entries in order; the first that fails ends preparation with its code, and a Batch build that has been
started must end before the next entry. -/
def State.prepGo (s : State) : List Bytes → State
  | [] => s.setRack { s.rack with todo := [] }
  | e :: l =>
    let r := s.prepEntry e
    if r.2 ≠ 0 then r.1.setRack { r.1.rack with todo := [], code := r.2 }
    else if r.1.rack.building then r.1.setRack { r.1.rack with todo := l }
    else r.1.prepGo l

/-- The parts that this participant's entries name. -/
def State.rackHas (s : State) (p : Nat) : Bool := s.rack.entries.any fun e => entPart e == p

/-- The entries of a PREPARE message. -/
def entriesOf (b : Bytes) : List Bytes := (List.range (b.length / 64)).map fun i => slice b (64 * i) 64

/-! ### Timed actions -/

/-- FG and LATE of the three banks as masks. -/
def State.bankFgs (s : State) : Nat :=
  s.gf sgB F.sigGlobal_BANK_STS_FG + 2 * s.gf bgB F.brgGlobal_RT_BANK_FG + 4 * s.gf shB F.pipeShared_STREAM_BANK_FG
def State.bankLates (s : State) : Nat :=
  s.gf sgB F.sigGlobal_BANK_STS_LATE + 2 * s.gf bgB F.brgGlobal_RT_BANK_LATE + 4 * s.gf shB F.pipeShared_STREAM_BANK_LATE

/-- Writes FLIP_AT and then the flip register with AT. -/
def State.armSig (s : State) (t : Nat) : State :=
  ((s.svWrite (sgB + 0x048) (t % 2 ^ 32) id).svWrite (sgB + 0x04C) (t / 2 ^ 32) id).svWrite (sgB + 0x044) 2
    (State.sigTrigger 0x044 2)
def State.armBrg (s : State) (t : Nat) : State :=
  ((s.svWrite (bgB + 0x048) (t % 2 ^ 32) id).svWrite (bgB + 0x04C) (t / 2 ^ 32) id).svWrite (bgB + 0x044) 2
    (State.bgTrigger 0x044 2 s)
def State.armPipe (s : State) (t : Nat) : State :=
  ((s.svWrite (shB + 0x048) (t % 2 ^ 32) id).svWrite (shB + 0x04C) (t / 2 ^ 32) id).svWrite (shB + 0x044) 2
    (State.shTrigger 0x044 2)

/-- A Kiln command of the Supervisor. -/
def State.kilnOp (s : State) (op slot : Nat) : State :=
  let v := BitVec.ofNat 32 (2 ^ 31 + op * 2 ^ 28 + slot)
  s.writeBy .supervisor (kmB + 0x044) v (State.kilnTrigger 0x044 v)

/-- Arms the timed actions of R455 at T_ACT, noting what the banks and key slots show before. -/
def State.armActions (s : State) : State :=
  let keys := (s.rack.entries.filter fun e => entPart e == 0x0F).map entKey
  let gen (k : Nat) : Nat × Nat := (k, s.slotF k F.kilnSlot_SLOT_ATTR_GEN)
  let s0 := s.setRack { s.rack with fgs := s.bankFgs, lates := s.bankLates, gens := keys.map gen, taken := false, restarted := false }
  let t := s0.tAct
  let s1 := if s0.rackHas 1 then s0.armSig t else s0
  let s2 := if s1.rackHas 3 then (s1.armBrg t).armPipe t else s1
  keys.foldl (fun (a : State) k =>
    ((a.svWrite (kmB + 0x080) (t % 2 ^ 32) id).svWrite (kmB + 0x084) (t / 2 ^ 32) id).kilnOp 4 k) s2

/-- Cancels every armed action. -/
def State.cancelActions (s : State) : State :=
  let s1 := if s.rackHas 1 then s.svWrite (sgB + 0x044) 4 (State.sigTrigger 0x044 4) else s
  let s2 := if s1.rackHas 3 then
      (s1.svWrite (bgB + 0x044) 4 (State.bgTrigger 0x044 4 s1)).svWrite (shB + 0x044) 4 (State.shTrigger 0x044 4)
    else s1
  if s2.rack.gens ≠ [] then s2.kilnOp 5 0 else s2

/-- What has become of the timed actions once T_ACT has passed: whether any has failed, or none of them while some are
still to be taken (Table 15-6b). -/
def State.actionsFailed (s : State) : Option Bool :=
  let flip (i : Nat) (has pend : Bool) : Option Bool :=
    if !has then some false
    else if pend then none
    else some (bitOf s.bankFgs i == bitOf s.rack.fgs i || (bitOf s.bankLates i && !bitOf s.rack.lates i))
  let key (g : Nat × Nat) : Option Bool :=
    if s.kiln.at_.any fun a => a.1 == g.1 then none else some (s.slotF g.1 F.kilnSlot_SLOT_ATTR_GEN == g.2)
  let fw : Option Bool :=
    if !s.rackHas 0 then some false
    else if !s.rack.restarted ∨ !s.fwRuns then none
    else some (s.gf updB F.upd_BOOT_STS_SLOT == s.slotActive 0)
  let all := [flip 0 (s.rackHas 1) (s.on sgB F.sigGlobal_BANK_STS_FLIP_PEND),
    flip 1 (s.rackHas 3) (s.on bgB F.brgGlobal_RT_BANK_FLIP_PEND),
    flip 2 (s.rackHas 3) (s.on shB F.pipeShared_STREAM_BANK_FLIP_PEND), fw] ++ s.rack.gens.map key
  if all.any (· == some true) then some true else if all.any Option.isNone then none else some false

/-! ### The participant's rows that wait for a message (Table 15-6b) -/

/-- PREPARE in IDLE. -/
def State.takePrepare (s : State) (m : UpdMsg) : State :=
  let s1 := s.setRack { s.rack with
    entries := entriesOf m.body, todo := entriesOf m.body, building := false, origin := m.origin, code := 0, gens := [],
    taken := false, restarted := false }
  let s2 := ((s1.pf updB F.upd_MANIFEST_ID_ID m.manifest).p64 updB F.upd_T_ACT_LO_NS F.upd_T_ACT_HI_NS m.time).setPart 8
  if s2.masterFree then s2.prepGo s2.rack.todo else s2

/-- New slots of some parts that take one; one that boot has marked BAD stays so (log entry 90). -/
def State.setNewSlots (s : State) (parts : List Nat) (st : Nat) : State :=
  parts.foldl (fun (a : State) p =>
    if a.rackHas p ∧ a.slotState p (a.newSlot p) ≠ 5 then a.setSlotSt p (a.newSlot p) st else a) s

/-- The ROLLBACK fuse is advanced to the largest ROLLBACK of the confirmed images (R458). -/
def State.advanceRollback (s : State) : State :=
  let top := (List.range 4).foldl (fun a p =>
    if s.rackHas p then max a (leAt (s.imageHeader p (s.newSlot p)) 12 2) else a) 0
  if s.rollbackCount < top then
    let n := min 64 top
    let s1 := s.setKiln { s.kiln with fuses := putBits s.kiln.fuses 1231 1168 ((2 ^ n - 1) ||| bitsOf s.kiln.fuses 1231 1168) }
    ((s1.pf updB F.upd_ROLLBACK_COUNT s1.rollbackCount).raise 45 s1.rollbackCount).report 0x11 (leBytes 1 s1.rollbackCount)
  else s

/-- CONFIRM in ACTIVE. -/
def State.takeConfirm (s : State) : State :=
  let s1 := s.advanceRollback
  let s2 := (List.range 4).foldl (fun (a : State) p =>
    if a.rackHas p then
      let x := a.newSlot p
      (a.pf updB (F.upd_SLOT_STS_ACTIVE.at (4 * p)) x).setSlotSt p x 4
    else a) s1
  s2.setPart 0

/-- REVERT in ACTIVE or FAILED: the old Batch region is restored and built, the flips that were taken are armed back,
at T_REV. -/
def State.restore (s : State) : State :=
  let t := s.tRev
  let s1 := if s.rackHas 1 then
      let b := (s.moveBase s.rack.oldBase).1
      (if b.on sgB F.sigGlobal_BANK_STS_DRAINING ∨ b.on sgB F.sigGlobal_BUILD_STS_BUSY then b.setRack { b.rack with rebuild := true }
        else b.rackBuild).armSig t
    else s
  let moved (i : Nat) : Bool := bitOf s.bankFgs i != bitOf s.rack.fgs i
  let s2 := if s1.rackHas 3 ∧ moved 1 then s1.armBrg t else s1
  if s2.rackHas 3 ∧ moved 2 then s2.armPipe t else s2

/-- REVERT. -/
def State.takeRevert (s : State) (m : UpdMsg) : State :=
  let s1 := (s.p64 updB F.upd_T_REV_LO_NS F.upd_T_REV_HI_NS m.time).setRack { s.rack with restarted := false }
  if s.rack.part = 10 then (s1.cancelActions).setPart 13 else s1.restore.setPart 13

/-- A row of Table 15-6b that names the message, in the present state. -/
def State.partRow (s : State) (typ : Nat) (m : UpdMsg) : Option State :=
  let own := m.manifest == s.gf updB F.upd_MANIFEST_ID_ID
  if typ = 0x12 then (if s.rack.part = 0 then some (s.takePrepare m) else none)
  else if typ = goTyp then (if s.rack.part = 9 ∧ own then some (s.setPart 10) else none)
  else if typ = 0x14 then (if s.rack.part = 9 ∧ own then some (s.cancelActions.setPart 0) else none)
  else if typ = 0x16 then (if s.rack.part = 11 ∧ own then some s.takeConfirm else none)
  else if typ = 0x17 then
    if own ∧ ((s.rack.part = 10 ∧ s.now < s.tAct) ∨ s.rack.part = 11 ∨ s.rack.part = 12) then some (s.takeRevert m) else none
  else none

/-- Takes held messages that a row names, oldest first. -/
def State.takeHeld : Nat → State → State
  | 0, s => s
  | fuel + 1, s =>
    if !s.fwRuns then s
    else
      match s.rack.held.find? fun x => (s.partRow x.1 x.2).isSome with
      | none => s
      | some x =>
        let s1 := s.setRack { s.rack with held := s.rack.held.erase x }
        match s1.partRow x.1 x.2 with
        | some t => State.takeHeld fuel t
        | none => s1

/-- A message for the participant of this unit arrives: taken by its row, held while the firmware does not run or
while an activation is being settled, otherwise without effect (R457). -/
def State.partRecv (s : State) (typ : Nat) (m : UpdMsg) : State :=
  if !s.fwRuns ∨ (s.rack.part = 10 ∧ s.tAct ≤ s.now) then s.hold typ m
  else (s.partRow typ m).getD s

/-! ### The coordinator (Table 15-6a) -/

/-- Sends a message to one participant; a unit's message to itself arrives at once, and at its twin over a twin lane. -/
def State.toUnit (s : State) (typ : Nat) (m : UpdMsg) : State :=
  if m.target = s.unitPath then
    let s1 := match s.laneFor 2 none with
      | some n => s.jlSend n (wireTyp typ) 0 (updBytes m) 16
      | none => s
    s1.partRecv typ m
  else s.updForward typ m

/-- Sends a message to every participant. -/
def State.toAll (s : State) (typ time : Nat) : State :=
  s.rack.units.foldl (fun (a : State) u =>
    a.toUnit typ (a.updMsg u.path 0 time (if typ = 0x12 then u.entries.flatten else []))) s

/-- Whether a participant has answered (R456): one device, or both of a twin pair, or one that has lost its peer. -/
def answered (twin : Bool) (l : List (Nat × Nat)) : Bool :=
  l != [] && (!twin || l.any (fun a => bitOf a.1 1) || (l.any (fun a => bitOf a.1 0) && l.any fun a => !bitOf a.1 0))

/-- The unit ID of a participant: its path's level at its DEPTH. -/
def RackUnit.id (u : RackUnit) : Nat := u.path.getD (byteAt (u.entries.headD []) 8) 0

/-- The coordinator's attempt ends. -/
def State.coordEnd (s : State) (reason : Nat) : State :=
  let s1 := s.pf updB F.upd_RACK_STS_REASON reason
  (s1.inc updB (if reason = 0 then F.upd_RACKS_DONE_COUNT else F.upd_RACKS_FAILED_COUNT)).setCoord 0

/-- COLLECTING ends with ABORT to every participant. -/
def State.coordAbort (s : State) (code : Nat) : State := (s.toAll 0x14 s.tAct).coordEnd code

/-- GO_SENT or TRIAL goes to REVERTING: T_REV is the next whole ms after REV_LEAD_MS. -/
def State.coordRevert (s : State) (fail : Option Nat) : State :=
  let t := (s.now + s.updMs F.upd_RACK_TMR2_REV_LEAD_MS + 999999) / 1000000 * 1000000
  let s1 := (s.p64 updB F.upd_T_REV_LO_NS F.upd_T_REV_HI_NS t).setRack { s.rack with failUnit := fail }
  (s1.setCoord 4).toAll 0x17 t

/-- REVERTING ends. -/
def State.coordReverted (s : State) : State :=
  let miss := s.rack.units.find? fun u => !answered u.twin u.reverted
  let fail := match s.rack.failUnit with
    | some u => u
    | none => (miss.map RackUnit.id).getD 0
  (s.pf updB F.upd_RACK_STS_UNIT fail).coordEnd (if miss.isSome then 17 else 16)

/-- READY from a participant. `twin`: it is one of a twin pair (log entry 91). -/
def State.takeReady (s : State) (twin : Bool) (m : UpdMsg) : State :=
  if s.rack.coord = 1 ∧ m.manifest = s.gf updB F.upd_MANIFEST_ID_ID then
    let note (u : RackUnit) : RackUnit :=
      if u.path = m.origin then { u with twin := u.twin || twin, ready := u.ready ++ [(m.flags, m.code)] } else u
    let s1 := s.setRack { s.rack with units := s.rack.units.map note }
    if m.code ≠ 0 ∧ s1.rack.units.any (fun u => u.path == m.origin) then s1.coordAbort m.code
    else if s1.rack.units.all fun u => answered u.twin u.ready then (s1.setCoord 2).toAll goTyp s1.tAct
    else s1
  else s

/-- DONE from a participant; in REVERTING only an answer to the REVERT counts. -/
def State.takeDone (s : State) (twin : Bool) (m : UpdMsg) : State :=
  if m.manifest ≠ s.gf updB F.upd_MANIFEST_ID_ID then s
  else if s.rack.coord = 2 then
    let note (u : RackUnit) : RackUnit :=
      if u.path = m.origin then { u with twin := u.twin || twin, done := u.done ++ [(m.flags, m.code)] } else u
    let s1 := s.setRack { s.rack with units := s.rack.units.map note }
    match s1.rack.units.find? (fun u => u.path == m.origin) with
    | none => s1
    | some u =>
      if m.code ≠ 0 then s1.coordRevert (some u.id)
      else if s1.rack.units.all fun u => answered u.twin u.done then s1.setCoord 3
      else s1
  else if s.rack.coord = 4 ∧ m.time = s.tRev then
    let note (u : RackUnit) : RackUnit :=
      if u.path = m.origin then { u with twin := u.twin || twin, reverted := u.reverted ++ [(m.flags, m.code)] } else u
    let s1 := s.setRack { s.rack with units := s.rack.units.map note }
    if s1.rack.units.all fun u => answered u.twin u.reverted then s1.coordReverted else s1
  else s

/-- A participant's answer to its coordinator. -/
def State.toCoord (s : State) (typ code time : Nat) : State :=
  let m := s.updMsg s.rack.origin code time []
  if m.target = s.unitPath then
    let twin := s.profile = 3 ∨ s.profile = 4
    if typ = 0x13 then s.takeReady (decide twin) m else s.takeDone (decide twin) m
  else s.updForward typ m

/-! ### The participant's own rows -/

/-- PREPARING ends with READY (R455). -/
def State.prepDone (s : State) : State :=
  if s.rack.code = 0 then (s.armActions.setPart 9).toCoord 0x13 0 s.tAct
  else (s.setPart 0).toCoord 0x13 s.rack.code s.tAct

/-- The Batch build of an entry has ended: preparation fails with 16 unless its RESULT is 0 (R455). -/
def State.prepBuilt (s : State) : State :=
  if !s.rack.building then s
  else if s.gf sgB F.sigGlobal_BUILD_STS_RESULT = 0 then s.setRack { s.rack with building := false }
  else s.setRack { s.rack with building := false, todo := [], code := 16 }

/-- An ARMED participant whose T_ACT has passed and whose actions are settled sends DONE. -/
def State.partSettle (s : State) : State :=
  match s.actionsFailed with
  | none => s
  | some failed =>
    let s1 := (s.setRack { s.rack with taken := true }).setNewSlots [1, 2, 3] 3
    if failed then (s1.setPart 12).toCoord 0x15 16 s.tAct else (s1.setPart 11).toCoord 0x15 0 s.tAct

/-- A reverting participant is back on its old images. -/
def State.partReverted (s : State) : State :=
  ((((s.setPart 0).raise 46 0).inc updB F.upd_REVERTS_COUNT).setRack { s.rack with part := 0, taken := false }).toCoord 0x15 0 s.tRev

/-- The firmware has started: it goes on from the Racking state, then takes what has been held (R457). -/
def State.rackResume (s : State) : State :=
  let s1 :=
    if s.rack.part = 10 ∧ s.rack.restarted then s.partSettle
    else if s.rack.part = 13 ∧ s.rack.restarted then s.partReverted
    else s
  State.takeHeld 16 s1

/-- A message that reaches the unit, or passes through it. -/
def State.updRecv (s : State) (m : UpdMsg) (typ : Nat) (f : State → State) : Answer :=
  .next (if m.target = s.unitPath then f s else s.updForward typ m)

/-- PREPARE_RX; `ecc`: the statuses of the pages that preparation reads at once (R444). -/
def execPrepareRx (m : UpdMsg) (ecc : List (Nat × Nat)) (s : State) : Answer :=
  s.updRecv m 0x12 fun t => (if t.fwRuns ∧ t.masterFree then t.readPages ecc else t).partRecv 0x12 m

def execGoRx (m : UpdMsg) (s : State) : Answer := s.updRecv m goTyp fun t => t.partRecv goTyp m

def execAbortRx (m : UpdMsg) (s : State) : Answer := s.updRecv m 0x14 fun t => t.partRecv 0x14 m

def execConfirmRx (m : UpdMsg) (s : State) : Answer := s.updRecv m 0x16 fun t => t.partRecv 0x16 m

def execRevertRx (m : UpdMsg) (s : State) : Answer := s.updRecv m 0x17 fun t => t.partRecv 0x17 m

def execReadyRx (twin : Bool) (m : UpdMsg) (s : State) : Answer := s.updRecv m 0x13 fun t => t.takeReady twin m

def execDoneRx (twin : Bool) (m : UpdMsg) (s : State) : Answer := s.updRecv m 0x15 fun t => t.takeDone twin m

/-- RACK_PREPARATION_DONE: the entries that were left are prepared, the build before them having ended, and preparation
ends; an entry that starts another build prolongs it. `ecc`: the statuses of the pages read (R444). -/
def execRackPreparationDone (ecc : List (Nat × Nat)) (s : State) : Answer :=
  if s.rack.part = 8 ∧ s.fwRuns ∧ !s.on sgB F.sigGlobal_BUILD_STS_BUSY ∧ s.masterFree then
    let s1 := (s.readPages ecc).prepBuilt
    let s2 := s1.prepGo s1.rack.todo
    .next (if s2.rack.building then s2 else s2.prepDone)
  else .next s

/-- RACK_READY_DEADLINE: T_ACT − ARM_LEAD_MS in COLLECTING. -/
def execRackReadyDeadline (s : State) : Answer :=
  .next (if s.rack.coord = 1 ∧ s.tAct ≤ s.now + s.updMs F.upd_RACK_TMR1_ARM_LEAD_MS then s.coordAbort 15 else s)

/-- RACK_GUARD_DEADLINE: T_ACT − GUARD_MS in READY. -/
def execRackGuardDeadline (s : State) : Answer :=
  .next (if s.rack.part = 9 ∧ s.tAct ≤ s.now + s.updMs F.upd_RACK_TMR1_GUARD_MS then
    (s.cancelActions.setPart 0).toCoord 0x15 15 s.tAct else s)

/-- RACK_ACTIVATION: T_ACT has passed in ARMED. An action that has failed is answered at once; otherwise, with part 0,
the Supervisor restarts into the new slot, which is TRIAL with TRIES 0, and the new firmware settles. -/
def execRackActivation (s : State) : Answer :=
  if s.rack.part = 10 ∧ s.tAct ≤ s.now ∧ s.fwRuns then
    if s.actionsFailed = none ∧ s.rackHas 0 ∧ !s.rack.restarted then
      let s1 := (s.pf updB F.upd_SLOT_STS_TRIES 0).setSlotSt 0 (s.newSlot 0) 3
      .next ((s1.setRack { s1.rack with restarted := true }).supRestart)
    else .next (State.takeHeld 16 s.partSettle)
  else .next s

/-- RACK_CHECK_DEADLINE: T_ACT + CHECK_MS in GO_SENT. -/
def execRackCheckDeadline (s : State) : Answer :=
  .next (if s.rack.coord = 2 ∧ s.tAct + s.updMs F.upd_RACK_TMR2_CHECK_MS ≤ s.now then
    s.coordRevert ((s.rack.units.find? fun u => !answered u.twin u.done).map RackUnit.id) else s)

/-- RACK_REVERT_DEADLINE: T_REV + CHECK_MS in REVERTING. -/
def execRackRevertDeadline (s : State) : Answer :=
  .next (if s.rack.coord = 4 ∧ s.tRev + s.updMs F.upd_RACK_TMR2_CHECK_MS ≤ s.now then s.coordReverted else s)

/-- RACK_REVERT_APPLY: T_REV has passed in REVERTING: the new slots are STAGED again; with part 0 that had been
activated the Supervisor restarts into its old slot, and the old firmware then answers. -/
def execRackRevertApply (s : State) : Answer :=
  if s.rack.part = 13 ∧ s.tRev ≤ s.now then
    let s1 := s.setNewSlots [0, 1, 2, 3] 2
    if s.rackHas 0 ∧ s.rack.taken ∧ !s.rack.restarted then
      .next ((s1.setRack { s1.rack with restarted := true }).supRestart)
    else if s.fwRuns then .next (State.takeHeld 16 s1.partReverted)
    else .next s
  else .next s

/-- The rebuild that waits for DRAINING to clear (R456). -/
def State.rackTick (s : State) : State :=
  if s.rack.rebuild ∧ s.fwRuns ∧ !s.on sgB F.sigGlobal_BANK_STS_DRAINING ∧ !s.on sgB F.sigGlobal_BUILD_STS_BUSY then
    (s.setRack { s.rack with rebuild := false }).rackBuild
  else s

/-! ### The coordinator's commands -/

/-- The entries of the manifest; none where its count is not legal (R454). -/
def State.manifestEntries (s : State) : Option (List Bytes) :=
  let p := s.imagePayload 4 0
  let n := leAt p 4 2
  if n = 0 ∨ 4096 < n ∨ p.length < 16 + 64 * n then none
  else some ((List.range n).map fun i => slice p (16 + 64 * i) 64)

/-- The participants that entries name, in the order in which they are first named. -/
def unitsOf (l : List Bytes) : List RackUnit :=
  (l.map entPath).eraseDups.map fun p => ⟨p, l.filter fun e => entPath e == p, false, [], [], []⟩

/-- RACK_PREPARE with T_ACT: the mailbox result and the state. -/
def State.rackPrepare (s : State) (t : Nat) : Nat × State :=
  if s.sup.manifest ≠ 2 ∨ s.rack.coord ≠ 0 then (4, s)
  else if t ≤ s.now + s.updMs F.upd_RACK_TMR1_ARM_LEAD_MS then (3, s)
  else if s.imageCheck 4 0 ≠ 0 then (s.imageCheck 4 0, s)
  else
    match s.manifestEntries with
    | none => (4, s)
    | some l =>
      let s1 := (s.pf updB F.upd_MANIFEST_ID_ID (leAt (s.imagePayload 4 0) 0 4)).p64 updB F.upd_T_ACT_LO_NS F.upd_T_ACT_HI_NS t
      let s2 := (s1.setRack { s1.rack with units := unitsOf l, failUnit := none }).setCoord 1
      (0, s2.toAll 0x12 t)

/-- RACK_CONFIRM. -/
def State.rackConfirm (s : State) : Nat × State :=
  if s.rack.coord = 3 then (0, (s.toAll 0x16 s.tAct).coordEnd 0) else (4, s)

/-- RACK_REVERT. -/
def State.rackRevert (s : State) : Nat × State := if s.rack.coord = 3 then (0, s.coordRevert none) else (4, s)

/-- A participant's state as its answers show it, and its last code (log entry 91). -/
def State.unitView (s : State) (u : RackUnit) : Nat × Nat :=
  let last (l : List (Nat × Nat)) : Nat := (l.map Prod.snd).getLastD 0
  if s.rack.coord = 0 then (last (u.ready ++ u.done ++ u.reverted), 0)
  else if s.rack.coord = 4 then (last (u.ready ++ u.done ++ u.reverted), if u.reverted = [] then 13 else 0)
  else if u.done ≠ [] then (last u.done, if last u.done = 0 then 11 else 12)
  else if s.rack.coord = 2 then (last u.ready, 10)
  else (last u.ready, if u.ready = [] then 8 else if last u.ready = 0 then 9 else 0)

/-- Whether Racking uses a part's slot (result 18). -/
def State.rackUses (s : State) (part : Nat) : Bool :=
  (s.rack.part != 0 && s.rackHas part) || (part == 4 && s.rack.coord != 0)

end Sys2Proof.Machine
end

