-- ==== Sys2Proof/Machine/Mbx.lean ====
section
/-! DEFINITION. The Supervisor mailbox (R451 to R453, Table 15-4): its commands for the host and for other units, and
the Supervisor's restarts (R450, R471). -/

namespace Sys2Proof.Machine

/-! ### Ends -/

/-- Sends the result of a command that another unit's XFER brought. -/
def State.xferAck (s : State) (dest : List Nat) (result : Nat) (rsp : List Nat) (data : Bytes) : State :=
  let body := (rsp ++ List.replicate (8 - rsp.length) 0).flatMap (beBytes 4) ++ data
  s.updForward 0x11 ⟨dest, s.unitPath, s.gf updB F.upd_MANIFEST_ID_ID, result, s.updFlags, 0, body⟩

/-- The DATA registers. -/
def State.mbxData (s : State) (n : Nat) : Bytes :=
  ((List.range ((n + 3) / 4)).flatMap fun k => leBytes 4 (s.gf svcB (F.svc_DATA_DATA.at (4 * k)))).take n

/-- Overwrites the first bytes of DATA. -/
def State.setMbxData (s : State) (b : Bytes) : State :=
  let n := (b.length + 3) / 4
  s.putWords (svcB + 0x800) (wordsOf n (putBytes (s.mbxData (4 * n)) 0 b))

/-- A command ends with a result, a response and, for READ_CERT, data. -/
def State.jobEnds (s : State) (j : MbxJob) (result : Nat) (rsp : List Nat) (data : Bytes) : State :=
  let s1 := s.setSup { s.sup with job := none }
  match j.origin with
  | some p => s1.xferAck p result rsp data
  | none => (if data = [] then s1 else s1.setMbxData data).mbxEnd result rsp

/-! ### Slots (R452, R453) -/

/-- The partition that a transfer writes to. -/
def Staging.part_ (g : Staging) : Nat := partId g.part g.slot

/-- OPEN_SLOT: the result that refuses it, or 0. -/
def State.openCheck (s : State) (part len : Nat) : Nat :=
  if 5 < part then 3
  else if s.sup.phase = .recovery ∧ part ≠ 0 then 4
  else if part = 5 ∧ s.lifecycle ≠ 0 then 2
  else if s.rackUses part then 18
  else if len = 0 ∨ s.partSize (partId part (if part < 4 then s.newSlot part else 0)) < len then 3
  else 0

/-- A transfer ends without an image: the slot is EMPTY. -/
def State.slotEmpty (s : State) (g : Staging) : State :=
  (s.setSlotSt g.part g.slot 0).setSup { s.sup with
    staging := none, manifest := if g.part = 4 then 0 else s.sup.manifest }

/-- WRITE_BLOCK. `programmed`: the part reports the program good. -/
def State.writeBlock (s : State) (off len : Nat) (data : Bytes) (programmed : Bool) : Nat × State :=
  match s.sup.staging with
  | none => (4, s)
  | some g =>
    let legal := off % 2048 = 0 ∧ off < g.len ∧ (if off + 2048 < g.len then len = 2048 else off + len = g.len)
    let b := data.take len
    if ¬ legal ∨ b.length ≠ len then (3, s)
    else if g.blocks.contains off then (if s.partRead g.part_ off len = b then (0, s) else (12, s))
    else if off ≠ 0 ∧ !g.blocks.contains 0 then (4, s)
    else
      let check := if off = 0 ∧ g.part < 5 then s.headerCheck (b.take 256) g.part else 0
      if check ≠ 0 then (check, s.slotEmpty g)
      else if !programmed then (13, s.partFail false g.part_ off len)
      else (0, (s.partWrite g.part_ off b).setSup { s.sup with staging := some { g with blocks := off :: g.blocks } })

/-- Whether every block of the image has been written. -/
def Staging.whole (g : Staging) : Bool := (List.range ((g.len + 2047) / 2048)).all fun i => g.blocks.contains (2048 * i)

/-- The check of CLOSE_SLOT after the read-back. -/
def State.closeCheck (s : State) (g : Staging) : Nat :=
  if g.part = 5 then
    let fuse := s.fuseBytes 400 32
    if s.runsUnread (s.partRuns g.part_) g.len then 13
    else if fuse.all (· == 0) || sha256 (s.partRead g.part_ 0 g.len) == fuse then 0
    else 10
  else s.imageCheck g.part g.slot

/-- CLOSE_SLOT ends. `ok`: the read-back met no flash error. -/
def State.closeSlot (s : State) (g : Staging) (ok : Bool) : Nat × State :=
  match (if ok then s.closeCheck g else 13) with
  | 0 =>
    let v := hdrVersion (s.imageHeader g.part g.slot)
    let s1 := if g.part < 4 then s.pf updB ((verFld g.slot).at (8 * g.part)) v else s
    let s2 := (s1.setSup { s1.sup with staging := none }).setSlotSt g.part g.slot 2
    (0, s2.report 3 ([BitVec.ofNat 8 g.part, BitVec.ofNat 8 g.slot] ++ leBytes 4 v))
  | r => (r, (s.slotEmpty g).raise 43 r)

/-! ### Fuses -/

/-- The fuse bits that a FUSE field covers: lowest bit, width (Table 12-2). -/
def fuseField (f : Nat) : Nat × Nat :=
  match f with
  | 0 => (0, 288)
  | 1 => (912, 256)
  | 2 => (400, 256)
  | _ => (656, 256)

/-- The hash fuses as their registers show them. -/
def State.showHashes (s : State) : State :=
  (List.range 8).foldl (fun (a : State) k =>
    (a.pf kiB (F.kilnId_CERT_HASH_DATA.at (4 * k)) (beNat (s.fuseBytes (400 + 32 * k) 4))).pf kiB
      (F.kilnId_RMA_PUBHASH_DATA.at (4 * k)) (beNat (s.fuseBytes (656 + 32 * k) 4))) s

def State.fuseCheck (s : State) (f : Nat) : Nat :=
  if s.lifecycle ≠ 0 then 2
  else if 3 < f ∨ bitsOf s.kiln.fuses ((fuseField f).1 + (fuseField f).2 - 1) (fuseField f).1 ≠ 0 then 3
  else 0

/-- Programs a fuse field from 32 bytes; ROOT with its check. -/
def State.fuseProgram (s : State) (f : Nat) (b : Bytes) : State :=
  let v := leNat b + (if f = 0 then 2 ^ 256 * hashH 0xFFFFFFFF b else 0)
  let s1 := (s.setKiln { s.kiln with fuses := s.kiln.fuses ||| v * 2 ^ (fuseField f).1 }).showHashes
  (if f = 0 then s1.zeroWords (svcB + 0x800) 512 else s1).report 0x12 (leBytes 1 f)

/-! ### Commands -/

/-- The commands of Table 15-4. -/
def mbxOps : List Nat := [0x01, 0x02, 0x10, 0x11, 0x12, 0x13, 0x14, 0x20, 0x21, 0x22, 0x23, 0x30, 0x40]

/-- The result with which the Supervisor's phase turns a command with its first argument away, or 0: in recovery the
commands of a transfer are for part 0 alone (R450; log entry 92). -/
def State.phaseCheck (s : State) (op part : Nat) : Nat :=
  let far := s.sup.target.isSome || s.sup.staging.all fun g => g.part == 0
  match s.sup.phase with
  | .halted => if op = 0x01 then 0 else 2
  | .recovery =>
    if op = 0x01 ∨ op = 0x02 ∨ (op = 0x10 ∧ part = 0) ∨ ((op = 0x11 ∨ op = 0x12) ∧ far) then 0 else 4
  | _ => 0

/-- What the flash part reports of a mailbox command: a good program, and the ECC statuses of the pages read. -/
structure MbxFlash where
  programmed : Bool
  ecc : List (Nat × Nat)
  deriving DecidableEq, Repr

/-- The part reports nothing. -/
def mbxClean : MbxFlash := ⟨true, []⟩

/-- APPLY_RECIPE: the active image is read, checked and applied whole, or not at all (R334, R448). -/
def State.recipeJob (s : State) (j : MbxJob) : State :=
  let x := s.slotActive 2
  let r := s.imageCheck 2 x
  if r ≠ 0 then s.jobEnds j r [] []
  else
    match s.applyRecipe (s.imagePayload 2 x) with
    | none => s.jobEnds j 16 [] []
    | some t => t.jobEnds j 0 [] []

/-- READ_CERT. -/
def State.certJob (s : State) (j : MbxJob) : State :=
  let n := min 2048 (s.partSize 11)
  if s.runsUnread (s.partRuns 11) n then s.jobEnds j 13 [] []
  else s.jobEnds j 0 [s.partSize 11] (s.partRead 11 0 n)

/-- Runs a command: it ends at once, or stays as the job that MAILBOX_COMMAND_DONE ends. One that uses the flash stays
too where another requester holds the QSPI master (R445). -/
def State.runJob (s0 : State) (j : MbxJob) (part : MbxFlash) : State :=
  let a (i : Nat) : Nat := j.args.getD i 0
  let wait := j.flash && !s0.masterFree
  let s := if j.flash && !wait then s0.readPages part.ecc else s0
  let endsWith (r : Nat) : State := s.jobEnds j r [] []
  let both (r : Nat × State) : State := r.2.jobEnds j r.1 [] []
  let long := (s.setSup { s.sup with job := some j }).masterNext
  if !mbxOps.contains j.op then endsWith 1
  else if s.phaseCheck j.op (a 0) ≠ 0 then endsWith (s.phaseCheck j.op (a 0))
  else if wait then long
  else
    match j.op with
    | 0x01 =>
      s.jobEnds j 0 [s.gf svcB F.svc_FW_VERSION_VERSION, (s.rd (updB + 0x098)).toNat, s.lifecycle] []
    | 0x02 => (if j.origin.isSome then endsWith 0 else s.setSup { s.sup with resume := 1 }).supRestart
    | 0x10 => if s.openCheck (a 0) (a 1) = 0 then long else endsWith (s.openCheck (a 0) (a 1))
    | 0x11 => both (s.writeBlock (a 0) (a 1) j.data part.programmed)
    | 0x12 =>
      match s.sup.staging with
      | none => endsWith 4
      | some g => if g.whole then long else endsWith 11
    | 0x13 =>
      match s.sup.staging with
      | none => endsWith 4
      | some g => (s.slotEmpty g).jobEnds j 0 [] []
    | 0x14 => s.certJob j
    | 0x20 => both (s.rackPrepare (a 0 + 2 ^ 32 * a 1))
    | 0x21 => both s.rackConfirm
    | 0x22 => both s.rackRevert
    | 0x23 =>
      match s.rack.units[a 0]? with
      | none => endsWith 3
      | some u => s.jobEnds j 0 [(s.unitView u).1, (s.unitView u).2] []
    | 0x30 => s.recipeJob j
    | _ => if s.fuseCheck (a 0) = 0 then long else endsWith (s.fuseCheck (a 0))

/-- The path in ARG2 and ARG3, laid out as PATH01 and PATH23. -/
def argPath (a b : Nat) : List Nat := [bitsOf a 9 0, bitsOf a 25 16, bitsOf b 9 0, bitsOf b 25 16]

/-- Starts the host's command (R451). -/
def State.mbxStart (s : State) (part : MbxFlash) : State :=
  let op := s.gf svcB F.svc_MBX_CMD_OP
  let args := (List.range 8).map fun k => s.gf svcB (F.svc_MBX_ARG_DATA.at (4 * k))
  let path := argPath (args.getD 2 0) (args.getD 3 0)
  let target : Option (List Nat) :=
    if op = 0x10 then (if path = s.unitPath then none else some path)
    else if op = 0x11 ∨ op = 0x12 ∨ op = 0x13 then s.sup.target
    else none
  let s1 := if op = 0x10 then s.setSup { s.sup with target := target } else s
  let data := if op = 0x11 then s.mbxData (min 2048 (args.getD 1 0)) else if op = 0x40 then s.mbxData 32 else []
  match (if s.phaseCheck op (args.getD 0 0) = 0 then target else none) with
  | some p =>
    let body := beBytes 4 op ++ (args.take 4).flatMap (beBytes 4) ++ data
    (s1.setSup { s1.sup with remote := some p }).updForward 0x10 (s1.updMsg p 0 0 body)
  | none => s1.runJob ⟨op, args, data, none⟩ part

/-- MBX_CMD.GO: ignored while BUSY, while the page is not in RUN (R459) and before the Supervisor runs; a command that
arrives while another unit's runs waits for it. -/
def State.mbxGo (s : State) (part : MbxFlash) : State :=
  if !s.run .svc 0 ∨ s.on svcB F.svc_MBX_STS_BUSY ∨ !s.supRuns then s
  else
    let s1 := s.pf svcB F.svc_MBX_STS_BUSY 1
    if s1.sup.job.isSome then s1 else s1.mbxStart part

/-- What the part reports of a command of which no operand says it: free values, among them the status of one page. -/
def State.freeFlash (s : State) : MbxFlash × State :=
  let a := s.fresh 1
  let b := a.2.fresh 32
  let c := b.2.fresh 2
  (⟨a.1 == 1#1, [(b.1.toNat, c.1.toNat)]⟩, c.2)

/-- After another unit's command has ended, the host's that waits starts. -/
def State.mbxNext (s : State) : State :=
  if s.on svcB F.svc_MBX_STS_BUSY ∧ s.sup.job.isNone ∧ s.sup.remote.isNone ∧ s.sup.resume = 0 ∧ s.supRuns then
    let r := s.freeFlash
    r.2.mbxStart r.1
  else s

/-- What a write of an SVC register starts; what the part reports of a command that uses the flash is free here. -/
def State.svcTrigger (o : Nat) (w : Word) (s : State) : State :=
  if o = 0x048 ∧ bitOf w.toNat 31 then
    if supFlashOps.contains (s.gf svcB F.svc_MBX_CMD_OP) then
      let r := s.freeFlash
      r.2.mbxGo r.1
    else s.mbxGo mbxClean
  else s

/-- The host writes MBX_CMD with GO = 1 and an OP. -/
def State.mbxCommand (s : State) (op : Nat) (part : MbxFlash) : State :=
  s.hostWrite (svcB + 0x048) (BitVec.ofNat 32 (2 ^ 31 + op)) fun t => t.mbxGo part

def execGetInfo (s : State) : Answer := .next (s.mbxCommand 0x01 mbxClean)

def execMbxRestart (s : State) : Answer := .next (s.mbxCommand 0x02 mbxClean)

def execOpenSlot (s : State) : Answer := .next (s.mbxCommand 0x10 mbxClean)

def execWriteBlock (programmed : Bool) (s : State) : Answer := .next (s.mbxCommand 0x11 ⟨programmed, []⟩)

def execCloseSlot (s : State) : Answer := .next (s.mbxCommand 0x12 mbxClean)

def execAbortSlot (s : State) : Answer := .next (s.mbxCommand 0x13 mbxClean)

def execReadCert (ecc : List (Nat × Nat)) (s : State) : Answer := .next (s.mbxCommand 0x14 ⟨true, ecc⟩)

def execRackPrepare (ecc : List (Nat × Nat)) (s : State) : Answer := .next (s.mbxCommand 0x20 ⟨true, ecc⟩)

def execRackConfirm (s : State) : Answer := .next (s.mbxCommand 0x21 mbxClean)

def execRackRevert (s : State) : Answer := .next (s.mbxCommand 0x22 mbxClean)

def execRackUnit (s : State) : Answer := .next (s.mbxCommand 0x23 mbxClean)

def execApplyRecipe (ecc : List (Nat × Nat)) (s : State) : Answer := .next (s.mbxCommand 0x30 ⟨true, ecc⟩)

def execFuse (s : State) : Answer := .next (s.mbxCommand 0x40 mbxClean)

/-- MBX_UNKNOWN_OP: an OP that Table 15-4 does not list. -/
def execMbxUnknownOp (op : Nat) (s : State) : Answer :=
  if mbxOps.contains (op % 256) then .next s else .next (s.mbxCommand (op % 256) mbxClean)

/-- The command that an XFER message carries. -/
def xferJob (m : UpdMsg) : MbxJob :=
  ⟨beAt m.body 0 4, (List.range 4).map fun k => beAt m.body (4 + 4 * k) 4, m.body.drop 20, some m.origin⟩

/-- XFER_ACK for the host's remote command ends it. -/
def State.takeAck (s : State) (m : UpdMsg) : State :=
  if s.sup.remote = some m.origin then
    let s1 := s.setSup { s.sup with remote := none }
    let rsp := (List.range (min 8 (m.body.length / 4))).map fun k => beAt m.body (4 * k) 4
    let data := m.body.drop 32
    (if data = [] then s1 else s1.setMbxData (data.take 2048)).mbxEnd m.code rsp
  else s

/-- Takes XFER and XFER_ACK messages that were held while the Supervisor did not run (R457). -/
def State.takeXfers : Nat → State → State
  | 0, s => s
  | fuel + 1, s =>
    if s.sup.job.isSome ∨ !s.supRuns then s
    else
      match s.rack.held.find? fun x => x.1 == 0x10 || x.1 == 0x11 with
      | none => s
      | some x =>
        let s1 := s.setRack { s.rack with held := s.rack.held.erase x }
        if x.1 = 0x11 then State.takeXfers fuel (s1.takeAck x.2)
        else
          let r := s1.freeFlash
          State.takeXfers fuel (r.2.runJob (xferJob x.2) r.1)

/-- What a long command has done when it ends, and its result. `ok`: the part reports no error. -/
def State.longJob (s : State) (j : MbxJob) (ok : Bool) : Nat × State :=
  let a (i : Nat) : Nat := j.args.getD i 0
  match j.op with
  | 0x10 =>
    let part := a 0
    let slot := if part < 4 then s.newSlot part else 0
    if ok then
      let s1 := (s.partErase (partId part slot) (a 1)).setSlotSt part slot 1
      (0, s1.setSup { s1.sup with staging := some ⟨part, slot, a 1, []⟩, unread := [] })
    else (13, s.partFail true (partId part slot) 0 (a 1))
  | 0x12 =>
    match s.sup.staging with
    | none => (4, s)
    | some g => s.closeSlot g ok
  | _ => (0, s.fuseProgram (a 0) j.data)

/-- Whether a command lasts: an erase, a read-back, fuse programming; the others that stay have waited for the QSPI
master. -/
def MbxJob.long (j : MbxJob) : Bool := j.op == 0x10 || j.op == 0x12 || j.op == 0x40

/-- MAILBOX_COMMAND_DONE: the erase, read-back or fuse programming ends, or a command that waited for the QSPI master is
carried out; one that uses the flash holds the master. `ok`: the part reports no error; `ecc`: the statuses of the pages
read. -/
def execMailboxCommandDone (ok : Bool) (ecc : List (Nat × Nat)) (s : State) : Answer :=
  match s.sup.job with
  | none => .next s
  | some j =>
    if !s.supRuns ∨ (j.flash ∧ s.sup.master ≠ 1) then .next s
    else
      let s1 := if j.flash then s.masterLeave 1 else s
      let s2 :=
        if j.long then
          let r := (if j.flash then s1.readPages ecc else s1).longJob j ok
          r.2.jobEnds j r.1 [] []
        else (s1.setSup { s1.sup with job := none }).runJob j ⟨ok, ecc⟩
      .next (((State.takeXfers 16 s2).mbxNext).masterGo)

/-- XFER_RX: a command of another unit for this one, or one to forward. -/
def execXferRx (m : UpdMsg) (programmed : Bool) (ecc : List (Nat × Nat)) (s : State) : Answer :=
  if m.target ≠ s.unitPath then .next (s.updForward 0x10 m)
  else if !s.supRuns then .next (s.hold 0x10 m)
  else if s.sup.job.isSome ∨ s.on svcB F.svc_MBX_STS_BUSY then .next (s.xferAck m.origin 18 [] [])
  else .next (s.runJob (xferJob m) ⟨programmed, ecc⟩)

/-- XFER_ACK_RX: the answer to the host's remote command, or one to forward; held while the Supervisor does not run. -/
def execXferAckRx (m : UpdMsg) (s : State) : Answer :=
  if m.target ≠ s.unitPath then .next (s.updForward 0x11 m)
  else if !s.supRuns then .next (s.hold 0x11 m)
  else .next (s.takeAck m)

/-- XFER_TIMEOUT: 10 × CPL_TMO.US without an answer. While the Supervisor restarts BUSY stays 1: the command ends with
17 once it runs (R451). -/
def execXferTimeout (s : State) : Answer :=
  if s.sup.remote.isNone then .next s
  else if s.supRuns then .next ((s.setSup { s.sup with remote := none }).mbxEnd 17 [])
  else .next (s.setSup { s.sup with resume := 3 })

/-! ### Restarts -/

/-- BOOT_FIRMWARE_START: the boot ROM has loaded a checked slot and starts it, or enters recovery (R450); the new
firmware goes on with what the UPD block holds (R457). `ecc`: the statuses of the pages read (R444). -/
def execBootFirmwareStart (ecc : List (Nat × Nat)) (s : State) : Answer :=
  if s.sup.phase = .bootRom ∧ s.sup.master ≤ 1 then
    let s0 := (s.setSup { s.sup with master := 0 }).readPages ecc
    let s1 := (State.bootLoad 6 s0).restartEnd
    let s2 := if s1.sup.phase = .firmware then s1.rackResume else s1
    .next (((State.takeXfers 16 s2).mbxNext).masterGo)
  else .next s

/-- SUPERVISOR_LOCKSTEP_MISMATCH: the running command ends with result 18; the Supervisor restarts. BUSY stays 1 until
it runs (R451); a command of the host that only waits for another unit's starts then. -/
def execSupervisorLockstepMismatch (s : State) : Answer :=
  if s.domOn 3 ∧ s.sup.phase ≠ .off then
    let s1 := s.inc svcB F.svc_SV_STS_LOCKSTEP_ERR
    let s2 := match s1.sup.job with
      | some j =>
        match j.origin with
        | some p => s1.xferAck p 18 [] []
        | none => s1
      | none => s1
    let own := s1.sup.job.any (fun j => j.origin.isNone) || s1.sup.remote.isSome || s1.sup.resume == 1
    let s3 := s2.setSup { s2.sup with job := none, remote := none, resume := if own then 2 else s2.sup.resume }
    let s4 := if own then (s3.mbxEnd 18 []).pf svcB F.svc_MBX_STS_BUSY 1 else s3
    .next s4.supRestart
  else .next s

end Sys2Proof.Machine
end

