-- ==== Sys2Proof/Machine/Guard.lean ====
section
/-! DEFINITION. Profiles and degraded operation (R461 to R467). -/

namespace Sys2Proof.Machine

/-- Base of the GUARD global page. -/
def guB : Nat := pageBase .guardGlobal 0

/-- Required domains of a profile, bit n for PDn (Table 16-1). -/
def profileDomains (p : Nat) : Nat :=
  match p with
  | 0 => 0x0008
  | 2 => 0x6B7E
  | _ => 0x7FF8

/-- The required set: the profile's domains on this grade, less those that may be off (R462, R466). -/
def State.requiredSet (s : State) : Nat :=
  let own := natAnd (profileDomains (s.gf guB F.guardGlobal_PROFILE_ACTIVE)) s.grade.domMask
  own - natAnd own (2 * s.gf guB F.guardGlobal_DEG_STS_DOMAINS)

/-- REQUIRED shows the required set. -/
def State.setRequired (s : State) : State := s.pf guB F.guardGlobal_REQUIRED_DOMAINS (s.requiredSet / 2)

/-- The GUARD global page enters RUN: the profile takes effect (R461). -/
def State.guardRun (s : State) : State :=
  ((s.pf guB F.guardGlobal_PROFILE_ACTIVE (s.gf guB F.guardGlobal_PROFILE_SEL)).setRequired).powerCheck

/-- The end of DEGRADED (R467). -/
def State.degExit (s : State) : State :=
  let s1 := ((s.pf guB F.guardGlobal_DEG_STS_GRANTED 0).pf guB F.guardGlobal_DEG_STS_DOMAINS 0).setRequired
  if s1.pstate = 5 then s1.setPstate (if s1.requiredOn then 4 else 3) 0 else s1

/-- What a write of DEG_REQ starts: EXIT, then the request. Both at once keep the device DEGRADED (R467). -/
def State.degTrigger (w : Word) (s : State) : State :=
  let go := bitOf w.toNat 31
  let s1 := if bitOf w.toNat 30 then
      (if go then (s.pf guB F.guardGlobal_DEG_STS_DOMAINS 0).setRequired else s.degExit) else s
  if go then s1.degrade (s1.gf guB F.guardGlobal_DEG_REQ_CAUSE) (s1.gf guB F.guardGlobal_DEG_REQ_DOMAINS * 2) else s1

/-- What a write of a GUARD global register starts. -/
def State.guardTrigger (o : Nat) (w : Word) (s : State) : State := if o = 0x044 then s.degTrigger w else s

/-- DEGRADE_REQUEST: the host writes DEG_REQ with GO. -/
def execDegradeRequest (w : Word) (s : State) : Answer :=
  let v := w ||| 0x80000000#32
  .next (s.hostWrite (guB + 0x044) v (State.guardTrigger 0x044 v))

/-- DEGRADE_EXIT: the host writes DEG_REQ with EXIT. -/
def execDegradeExit (w : Word) (s : State) : Answer :=
  let v := w ||| 0x40000000#32
  .next (s.hostWrite (guB + 0x044) v (State.guardTrigger 0x044 v))

/-- Whether the Supervisor runs: its firmware has been started. -/
def State.supUp (s : State) : Bool := s.sup.phase == .firmware || s.sup.phase == .recovery

/-- The grant of a request (R466). -/
def State.grant (s : State) (cause domains : Nat) : State :=
  let held := if s.pstate = 5 then s.gf guB F.guardGlobal_DEG_STS_DOMAINS else 0
  let both := (held ||| domains / 2) - natAnd (held ||| domains / 2) 4
  let s1 := (s.pf guB F.guardGlobal_DEG_STS_GRANTED 1).pf guB F.guardGlobal_DEG_STS_CAUSE cause
  let s2 := (s1.pf guB F.guardGlobal_DEG_STS_DOMAINS both).inc guB F.guardGlobal_DEG_GRANTS_COUNT
  (s2.setPstate 5 5).setRequired

/-- DEGRADE_GRANT: the Supervisor grants the oldest request (R466). -/
def execDegradeGrant (s : State) : Answer :=
  match s.degPend with
  | [] => .next s
  | (c, d) :: rest =>
    if s.supUp ∧ 3 ≤ s.pstate then
      let s1 := { s with degPend := rest }
      .next ((s1.pf guB F.guardGlobal_DEG_STS_PEND (b2n (rest != []))).grant c d)
    else .next s

end Sys2Proof.Machine
end

