-- ==== Sys2Proof/Machine/Hooks.lean ====
section
/-! DEFINITION. What blocks do when their pages change state: entry to RUN, leaving RUN, the work that an SRST discards,
the work in flight that QUIESCING waits for (R48, R49 and the owning chapters). -/

namespace Sys2Proof.Machine

/-- An SRST that the owning chapter ignores: FAB global and port pages always, a slice page outside OUT (R519). -/
def State.srstIgnored (s : State) (k : PageKind) (i : Nat) : Bool :=
  match k with
  | .fabGlobal => true
  | .fabPort => true
  | .fabSlice => s.sliceState i != 2
  | _ => false

/-- The lanes of the E ports present. -/
def State.ports16 (s : State) : List Nat := List.range s.grade.ePorts

/-- The page has entered RUN. -/
def State.pageEntered (s : State) (k : PageKind) (i : Nat) : State :=
  match k with
  | .pwrRing => s.ringRun
  | .timeClock => s.servoMode
  | .timePulse => s.pulseRun
  | .timeSched => s.schedRun
  | .pipe =>
    (s.setPipe i { s.pipeSt i with seed := s.gf (pageBase .pipe i) F.pipe_FDB_SEED_SEED }).fdbRemove i false false 0 false 0
  | .pipeShared =>
    ({ s with fwd := { s.fwd with flowSeed := s.gf shB F.pipeShared_FLOW_SEED_SEED } }).streamProceed true
  | .emac => (s.latchLane i).laneRetry i
  | .t1s => s.segPhy i
  | .can => s.canRun i
  | .lin => s.linRun i
  | .brgJalden => s.ports16.foldl (fun (a : State) n => a.laneRetry n) s
  | .sigGlobal => s.sigProceed 2
  | .hostGlobal =>
    s.pf (pageBase .hostGlobal 0) F.hostGlobal_PROT_MODE (s.gf (pageBase .hostGlobal 0) F.hostGlobal_PROT_MODE_NEXT)
  | .ddr => s.ddrEnter
  | .caskRec => s.caskRun
  | .guardGlobal => s.guardRun
  | _ => s

/-- The page has left RUN. -/
def State.pageLeft (s : State) (k : PageKind) (i : Nat) : State :=
  match k with
  | .pwrRing => s.ringLeave
  | .timeClock => s.servoMode
  | .timePulse => s.pulseLeave
  | .emac => (s.laneHeld i).lpiStop i
  | .t1s => s.t1sLeave i
  | .can => s.canLeave i
  | .lin => s.linLeave i
  | .brgTunnel => s.tunnelLeave
  | .brgJalden => s.ports16.foldl (fun (a : State) n => a.laneHeld n) s
  | .ktl => s.discardQueue i
  | .crc => s.crcLeave i
  | .kilnMain => s.stageZero
  | .ddr => s.ddrLeave
  | .caskRec => s.caskLeave
  | _ => s

/-- SRST of the GUARD global page: the queue, every LATCHED, and p and r go (R483). -/
def State.guardSrst (s : State) : State :=
  let s1 := (List.range 256).foldl (fun (a : State) r =>
    a.pf (pageBase .guardRule (r / 64)) (F.guardRule_RULE_CTL_LATCHED.at (32 * (r % 64))) 0) s
  { s1 with guard := ⟨[], [], none⟩ }

/-- SRST of the SIG global page: the build, the old-epoch work, a flip that waits, the timeout FIFO and the lists of the
scanner and the scheduler go; the banks and states keep their contents. A build of a Cellarer BATCH action fails it
(R49, R307; log entry 134). -/
def State.sigSrst (s : State) : State :=
  let s1 := ((s.sigPend FlipReq.none).pf sgB F.sigGlobal_BUILD_STS_BUSY 0).pf sgB F.sigGlobal_BANK_STS_DRAINING 0
  let s2 : State := { s1 with sig := { s1.sig with build := none, deferred := [], next := [], owed := [], sentAt := [] } }
  match s.sig.build with
  | some j => (s2.setTmo []).batchActionEnd j.batch 1
  | none => s2.setTmo []

/-- SRST of the SIG node page: the directory, the node FIFO and what waits to be sent go (R49; log entry 134). -/
def State.nodeSrst (s : State) : State :=
  let s1 : State := { s with sig := { s.sig with
    nodes := [], changes := [], twinChanges := [], named := [], holds := [], twinHold := [] } }
  (s1.pf ndB F.sigNode_NODE_STS_COUNT 0).setNodeFifo []

/-- SRST of the SVC page: the running command goes, without a result (R49, R459; log entry 134). -/
def State.svcSrst (s : State) : State :=
  let s1 := (s.setSup { s.sup with job := none, remote := none, resume := 0 }).pf svcB F.svc_MBX_STS_BUSY 0
  let s2 := if s.sup.job.any MbxJob.flash then s1.masterLeave 1 else s1
  (State.takeXfers 16 s2).masterGo

/-- SRST of the UPD page: the Racking state that the block holds goes, its message queue too (R49, R457; log entry 134).
-/
def State.updSrst (s : State) : State :=
  (s.setRack State.reset.rack).pf updB F.upd_RACK_STS_STATE 0

/-- The work that an accepted SRST of a page discards. -/
def State.srstWork (s : State) (k : PageKind) (i : Nat) : State :=
  match k with
  | .timeClock => s.timeSrst k
  | .timeGptp => s.timeSrst k
  | .timePulse => s.timeSrst k
  | .timeSched => s.timeSrst k
  | .pipe => s.pipeSrst i
  | .emac => s.emacSrst i
  | .t1s => s.t1sSrst i
  | .can => s.canSrst i
  | .lin => s.linSrst i
  | .brgJalden => s.jaldenSrst
  | .brgGlobal => s.bridgeSrst
  | .brgTunnel => s.tunnelSrst
  | .ktl => s.ktlSrst i
  | .crc => s.crcSrst i
  | .ciphGlobal => s.cipherSrst
  | .ciphBlock => s.blockSrst
  | .kilnMain => s.kilnSrst
  | .caskRec => s.caskSrst.masterGo
  | .caskCnt => s.perfSrst
  | .caskTap => s.tapSrst
  | .hostEgress => s.outputSrst i
  | .hostQueue => s.queueSrst i
  | .guardGlobal => s.guardSrst
  | .sigGlobal => s.sigSrst
  | .sigNode => s.nodeSrst
  | .ddr => s.ddrEnter
  | .svc => s.svcSrst
  | .qspi => (((s.setSup { s.sup with hostJob := none }).pf qsB F.qspi_HCMD_BUSY 0).masterLeave 3).masterGo
  | .upd => s.updSrst
  | _ => s

/-- A queue page has reached OFF: each of its queues has REASON 5 and RUN 0, one that ran is stopped (R138). -/
def State.queuesOff (s : State) (i : Nat) : State :=
  (List.range 16).foldl (fun (a : State) j =>
    let n := 16 * i + j
    let a1 := if a.on (qB n) F.hostQueue_Q_CTL_RUN then a.pf (qB n) F.hostQueue_STS_STOPPED 1 else a
    (a1.pf (qB n) F.hostQueue_STS_REASON 5).pf (qB n) F.hostQueue_Q_CTL_RUN 0) s

/-- The page has entered RUN: its pins leave the states of Table 17-9 (R503). -/
def State.noteRan (s : State) (b : Nat) : State := if s.ran.contains b then s else { s with ran := s.ran ++ [b] }

/-- What follows a change of page state from `old` to `s`. -/
def State.pageChanged (old s : State) (k : PageKind) (i : Nat) : State :=
  let a := old.pst k i
  let b := s.pst k i
  if a = b then s
  else
    let s1 := if a = .run then s.pageLeft k i else s
    let s2 := if b = .resetting then s1.srstWork k i else s1
    let s3 := if b = .off ∧ k = .hostQueue then s2.queuesOff i else s2
    if b = .run then (s3.noteRan (pageBase k i)).pageEntered k i else s3

/-- Whether a page has work in flight. -/
def State.workInFlight (s : State) (k : PageKind) (i : Nat) : Bool :=
  match k with
  | .pwrRing => (List.range 8).any fun j => s.nf j F.pwrRing_NM_CTL_EN == 1 &&
      s.canOnWire (s.nf j F.pwrRing_NM_CTL_CHAN) == some (s.nf j F.pwrRing_NM_CTL_OBJ)
  | .pipe => s.fwd.looked.any fun x => pipeFor x.frame.src == i
  | .emac => (s.eg i).sending.isSome && decide (s.ps < (s.eg i).busyTo)
  | .can => (s.canOnWire i).isSome
  | .lin => (s.linCh i).busy
  | .sigGlobal => s.sig.build.isSome || s.on sgB F.sigGlobal_BANK_STS_DRAINING
  | .ktl => (List.range 8).any fun j => (s.kc (8 * i + j)).job.isSome
  | .crc => (s.crcUnit i).serving.isSome
  | .ciphGlobal => (List.range 16).any fun n => s.inCipher n
  | .ciphBlock => s.kiln.block.isSome
  | .kilnMain => s.kiln.cmd.isSome
  | .caskRec => !s.caskDrained
  | .hostEgress => (s.eg i).queue != [] || (s.eg i).sending.isSome || (s.eg i).writing.isSome
  | .hostQueue => ([16, 17, 18, 19] : List Nat).any fun p => (s.eg p).writing.any fun x => x.queue / 16 == i
  | .guardGlobal => s.guard.queue != [] || s.guard.batch.isSome
  | .svc => s.sup.job.isSome || s.on svcB F.svc_MBX_STS_BUSY
  | _ => false

/-- QUIESCE_DRAINED: the work in flight of a quiescing page is finished (Table 2-4). -/
def State.drained (s : State) (k : PageKind) (i : Nat) : State :=
  if s.alive k i ∧ s.pst k i = .quiescing ∧ !s.workInFlight k i then State.pageChanged s (s.pageDrained k i) k i else s

/-- A block reset completes: FAULT and the event bits are cleared, the page settles as from OFF (Table 2-4, R519). -/
def State.resetDone (s : State) (k : PageKind) (i : Nat) : State :=
  if s.alive k i ∧ s.pst k i = .resetting then
    let b := pageBase k i
    let s1 := ((s.pf b hdrFault 0).pf b hdrRaw 0).pf b hdrPend 0
    let s2 := if k = .fabSlice then s1.pf b F.fabSlice_SLICE_STS_BY_FAULT 0 else s1
    let s3 := State.pageChanged s2 (s2.settleOff k i) k i
    (if k = .hostGlobal then s3.hostLinks else s3).regroup (pageGroup k i)
  else s

/-- QUIESCE_DRAINED: the page is named by its BAR0 page number. -/
def execQuiesceDrained (page : Nat) (s : State) : Answer :=
  match pageOf page with
  | none => .next s
  | some (k, i) => .next (s.drained k i)

/-- PAGE_RESET_COMPLETE. -/
def execPageResetComplete (page : Nat) (s : State) : Answer :=
  match pageOf page with
  | none => .next s
  | some (k, i) => .next (s.resetDone k i)

/-- The device's own write of PAGE_CTL: QUIESCE is set in a page (R400). -/
def State.quiescePage (s : State) (k : PageKind) (i : Nat) : State :=
  if s.alive k i ∧ !k.noState then
    let s1 := s.pf (pageBase k i) hdrQuiesce 1
    State.pageChanged s (s1.pageCtl k i (s1.on (pageBase k i) hdrEn) false) k i
  else s

end Sys2Proof.Machine
end

