-- ==== Sys2Proof/Machine/Power.lean ====
section
/-! DEFINITION. Supplies, power states, domain switching, the entry sequence and the wake path (R393 to R414), device
reset (R500) and the die-to-die link (R14, R473). -/

namespace Sys2Proof.Machine

/-! ### Domains -/

/-- DOM_STS and DOM_REQ, bit n for PDn. -/
def State.domSts (s : State) : Nat := 2 * s.gf pwB F.pwrMain_DOM_STS_ON
def State.domReq (s : State) : Nat := 2 * s.gf pwB F.pwrMain_DOM_REQ_ON

/-- Sets the domains that are on. -/
def State.setDomSts (s : State) (m : Nat) : State := s.pf pwB F.pwrMain_DOM_STS_ON (m / 2)

/-- The domain that is being switched. -/
def State.domBusy (s : State) : Option Nat := (onesOf 15 (2 * s.gf pwB F.pwrMain_DOM_BUSY_BUSY)).head?

/-- DOM_BUSY: the domain being switched, and in PEND the request that reverses its switch (R401). -/
def State.setDomBusy (s : State) (d : Option Nat) : State :=
  let s1 := s.pf pwB F.pwrMain_DOM_BUSY_BUSY (match d with
    | none => 0
    | some n => 2 ^ n / 2)
  s1.pf pwB F.pwrMain_DOM_BUSY_PEND 0

/-- PEND follows DOM_REQ. -/
def State.showPend (s : State) : State :=
  match s.domBusy with
  | none => s
  | some n => s.pf pwB F.pwrMain_DOM_BUSY_PEND
      (if s.power.entry.isNone ∧ bitOf s.domReq n = bitOf s.domSts n then 2 ^ n / 2 else 0)

/-- The pages of a domain that the grade has. -/
def State.domPages (s : State) (d : Nat) : List (PageKind × Nat) :=
  (PageKind.all.flatMap fun k => (List.range k.count).map fun i => (k, i)).filter fun x =>
    pageDomain x.1 x.2 == d && s.grade.hasPage x.1 x.2

/-- Whether a page of a domain that follows R48 is neither in OFF nor in HELD (R400). -/
def State.domWaits (s : State) (d : Nat) : Bool :=
  (s.domPages d).any fun x => !x.1.noState && s.pst x.1 x.2 != .off && s.pst x.1 x.2 != .held

/-- The slices of a domain. -/
def State.domSlices (s : State) (d : Nat) : List Nat :=
  ((s.domPages d).filter fun x => x.1 == .fabSlice).map (·.2)

/-- Every summary bit follows its sources. -/
def State.regroupAll (s : State) : State := (List.range 16).foldl (fun (a : State) g => a.regroup g) s

/-- A slice loses its power: what it holds is lost (R105, R106). -/
def State.sliceOff (s : State) (n : Nat) : State :=
  let s1 := if s.sliceState n = 2 then s else
    (if s.sliceState n = 0 ∨ s.sliceState n = 4 then s.leavePattern n else s).purge n
  s1.setSlice n Slice.new

/-- What the blocks of a domain hold besides their registers is lost with its power. -/
def State.blocksOff (s : State) (d : Nat) : State :=
  let s1 := (s.domPages d).foldl (fun (a : State) x => if a.pst x.1 x.2 = .run then a.pageLeft x.1 x.2 else a) s
  match d with
  | 1 => (List.range 16).foldl (fun (a : State) n => a.canCutOff n) s1
  | 2 => (List.range 8).foldl (fun (a : State) n => a.t1sLeave n) s1
  | 4 => { (s1.pipeSrst 0).setPipe 0 Pipe.new with bar2 := s1.bar2.filter fun c => c.1 < 0x04000000 || 0x04100000 ≤ c.1 }
  | 5 => { (s1.pipeSrst 1).setPipe 1 Pipe.new with bar2 := s1.bar2.filter fun c => c.1 < 0x04100000 || 0x04200000 ≤ c.1 }
  | 6 => (s1.domSlices 6).foldl (fun (a : State) n => a.sliceOff n) s1
  | 7 => (s1.domSlices 7).foldl (fun (a : State) n => a.sliceOff n) s1
  | 8 => s1.blockSrst
  | 9 =>
    let s2 := (s1.ktlSrst 0).ktlSrst 1
    { s2 with
      cores := s2.cores.filter fun x => 16 ≤ x.1
      ktlBad := s2.ktlBad.filter fun x => 0x0A800000 ≤ x
      bar2 := s2.bar2.filter fun c => c.1 < 0x0A000000 || 0x0A800000 ≤ c.1 }
  | 10 =>
    let s2 := (s1.ktlSrst 2).ktlSrst 3
    { s2 with
      cores := s2.cores.filter fun x => x.1 < 16
      ktlBad := s2.ktlBad.filter fun x => x < 0x0A800000
      bar2 := s2.bar2.filter fun c => c.1 < 0x0A800000 || 0x0B000000 ≤ c.1 }
  | 11 => (List.range 8).foldl (fun (a : State) n => ((a.endSending n).emacSrst n).setPort n EPort.new) s1
  | 12 => ((List.range 8).map (· + 8)).foldl (fun (a : State) n => ((a.endSending n).emacSrst n).setPort n EPort.new) s1
  | 13 => { s1 with hostQ := [], msixMask := [], msixPend := [] }
  | _ => s1

/-- The registers and page states of a domain are lost (R51). -/
def State.regsOff (s : State) (d : Nat) : State :=
  let keep (off : Nat) : Bool := match pageOf (off / 0x1000) with
    | some (k, i) => pageDomain k i != d
    | none => true
  { s with regs := s.regs.filter fun x => keep x.1, pages := s.pages.filter fun x => keep x.1, ran := s.ran.filter keep }

/-- A transceiver whose wake is armed and that was not in Standby enters it when the Logic die loses its power: its
frame error counter is 0 (R403, R411). -/
def State.standbyOff (old s : State) : State :=
  ((List.range 16).filter fun n => old.gf wkB (F.pwrWake_CANW_CTL_MODE.at (32 * n)) != 0 && old.canTrcv n != 2).foldl
    (fun (a : State) n => a.pf wkB (F.pwrWake_CANW_STS_FEC.at (32 * n)) 0) s

/-- The channels that are suspended stay so without power: their SUSPEND stands in AON (R413). -/
def State.suspended (s : State) : List (Nat × CanCh) :=
  (s.can.filter fun x => x.2.susp).map fun x => (x.1, { CanCh.new with susp := true })

/-- The Logic die has lost its power: what AON holds stays, as do the flash, LPDDR4X, the fuses and what has been sent;
everything else is as after reset. -/
def State.logicOff (s : State) : State :=
  let keep (off : Nat) : Bool := match pageOf (off / 0x1000) with
    | some (k, i) => pageDomain k i == 0
    | none => false
  let s1 : State := { State.reset with
    grade := s.grade
    regs := s.regs.filter fun x => keep x.1
    ddr := s.ddr
    ddrBad := s.ddrBad
    flash := s.flash
    power := s.power
    can := s.suspended
    jtag := s.jtag
    kiln := s.kilnOff.kiln
    cycles := s.cycles
    dieLost := s.dieLost
    out := s.out
    freeCount := s.freeCount
    pending := s.pending }
  State.standbyOff s ((s1.setDomSts (natAnd s.domSts 6)).setDomBusy none)

/-- Power is removed from a domain (R51, R400). -/
def State.domainOff (s : State) (d : Nat) : State :=
  if d = 3 then s.logicOff
  else
    let s1 := s.blocksOff d
    let s2 := (s1.setDomSts (natAnd s1.domSts (0x7FFF - 2 ^ d))).regsOff d
    if d ≤ 2 ∨ !s2.domOn 3 then s2 else s2.regroupAll

/-- A domain has power and its registers hold their reset values (R51, R519). -/
def State.domainOn (s : State) (d : Nat) : State :=
  let s1 := s.setDomSts (s.domSts ||| 2 ^ d)
  match d with
  | 2 => (List.range 8).foldl (fun (a : State) n => a.segPhy n) s1
  | 3 => s1.setSup { s1.sup with bootAt := s1.cycles }
  | 6 => (s1.setPattern (s1.pattern ||| maskOf (s1.domSlices 6))).releaseAll
  | 7 => (s1.setPattern (s1.pattern ||| maskOf (s1.domSlices 7))).releaseAll
  | 13 => s1.hostLinks
  | _ => s1

/-! ### Wakes that are armed (Table 13-2) -/

/-- Whether the wake of Cn, or of Ln, is armed. -/
def State.canArmed (s : State) (n : Nat) : Bool := s.gf wkB (F.pwrWake_CANW_CTL_MODE.at (32 * n)) != 0
def State.linArmed (s : State) (n : Nat) : Bool := s.on wkB (F.pwrWake_LINW_CTL_EN.at (4 * n))

/-- Whether some CAN, or some LIN, bus wake is armed. -/
def State.anyCanArmed (s : State) : Bool := (List.range 16).any s.canArmed
def State.anyLinArmed (s : State) : Bool := (List.range 8).any s.linArmed

/-! ### Switching (R399 to R401, R403) -/

/-- The next domain to switch. In the entry sequence: PD14 down to PD4, PD3, then PD2 and PD1 unless a wake needs them.
Otherwise off requests in descending, then on requests in ascending number. -/
def State.nextSwitch (s : State) : Option Nat :=
  let down := (List.range 15).reverse
  if s.power.entry.isSome then
    down.find? fun n => 1 ≤ n && bitOf s.domSts n && !(n == 2 && s.anyLinArmed) && !(n == 1 && s.anyCanArmed)
  else
    match down.find? fun n => 1 ≤ n && n != 3 && bitOf s.domSts n && !bitOf s.domReq n with
    | some n => some n
    | none => (List.range 15).find? fun n =>
        1 ≤ n && n != 3 && !bitOf s.domSts n && bitOf s.domReq n && (n ≤ 2 || s.domOn 3)

/-- A domain begins to switch: an off switch sets QUIESCE in its pages and takes its slices out (R400). -/
def State.beginSwitch (s : State) (n : Nat) : State :=
  let s1 := s.setDomBusy (some n)
  if bitOf s1.domSts n then
    let s2 := (s1.domPages n).foldl (fun (a : State) x => a.quiescePage x.1 x.2) s1
    (s2.domSlices n).foldl (fun (a : State) i => a.pf (slB i) F.fabSlice_SLICE_CTL_SKIP 1) s2
  else s1

/-- Starts the next switch where none is in progress and the Logic die is not held in reset. -/
def State.startSwitch (s : State) : State :=
  if s.domBusy.isSome then s.showPend
  else
    match s.nextSwitch with
    | none => s
    | some n => s.beginSwitch n

/-! ### INH outputs (R407) -/

/-- INH outputs with MODE 0 go high, or, except those that `keep` names, low. -/
def State.inhHigh (s : State) : State := (s.pf pwB F.pwrMain_INH_CTL_STATE0 1).pf pwB F.pwrMain_INH_CTL_STATE1 1

def State.inhLow (s : State) (standby : Bool) : State :=
  let s1 := if s.on pwB F.pwrMain_INH_CTL_MODE0 || (standby && s.on pwB F.pwrMain_INH_CTL_KEEP_STBY0) then s
    else s.pf pwB F.pwrMain_INH_CTL_STATE0 0
  if s1.on pwB F.pwrMain_INH_CTL_MODE1 || (standby && s1.on pwB F.pwrMain_INH_CTL_KEEP_STBY1) then s1
  else s1.pf pwB F.pwrMain_INH_CTL_STATE1 0

/-! ### PD3 switches on (R394, R397, R405, R500) -/

/-- What holds the Logic die in reset: a sequencing error, RESET_N, a test pin (R394, R490, R500). -/
def State.logicHeld (s : State) : Bool := s.power.hold || s.power.resetN || s.jtag.test != 0

/-- FAULT_N is driven low (R502); THERM.TJ is in °C plus 64. -/
def State.faultLow (s : State) : Bool :=
  s.power.hold || decide (150 + 64 ≤ s.gf pwB F.pwrMain_THERM_TJ) || (s.domOn 3 && s.on kmB F.kilnMain_ALARM_STS_ALARM)

/-- The change to PARTIAL, with its cause even where the state was PARTIAL already. -/
def State.toPartial (s : State) (cause : Nat) : State := (s.setPstate 3 cause).pf pwB F.pwrMain_PSTATE_CAUSE cause

/-- The channels that are suspended find their transceivers in Standby when the Logic die has power again: the
transceivers lie on the Line die and the suspension has not ended (R413). -/
def State.stayStandby (s : State) : State :=
  (s.can.filter fun x => x.2.susp).foldl (fun (a : State) x =>
    (a.pf (caB x.1) F.can_TRCV_CTL_STATE 2).pf (caB x.1) F.can_TRCV_STS_STATE 2) s

/-- PD3 is on with DOM_REQ at `req`: EV5 of its switch (R401), the fuses are read, boot follows with BOOT_START; the
events of wakes in low power are raised, and requests held while PD3 was off are served (R26). -/
def State.pdOn (s : State) (cause req : Nat) : State :=
  let sts := s.domSts ||| 8
  let s1 := ((s.setDomSts sts).setDomBusy none).pf pwB F.pwrMain_DOM_REQ_ON (req / 2)
  let ev := s1.power.events
  let s2 := (s1.setPower { s1.power with entry := none, waking := 0, fails := 0, woken := false, draining := false, events := [], release := false }).pf pwB
    F.pwrMain_PSTATE_ENTRY 0
  let s3 := (s2.stayStandby.inhHigh.kilnOn.regroupAll.raise 5 0x83).toPartial cause
  (ev.foldl (fun (a : State) e => a.raise e.1 e.2) s3).startSwitch

/-! ### The entry sequence (R403, R404) -/

/-- Whether the device is in PARTIAL, RUN or DEGRADED. -/
def State.awake (s : State) : Bool := 3 ≤ s.pstate && s.domOn 3

/-- Whether a wake stops the entry sequence: it is acted on only below 130 °C (R398, R404). -/
def State.entryStopped (s : State) : Bool := s.power.entry.isSome && s.power.woken && !s.power.hot

/-- The entry sequence stops: back to PARTIAL with PD3 on, on along the wake path without it (R404). -/
def State.abortEntry (s : State) : State :=
  let s1 := (s.pf pwB F.pwrMain_PSTATE_ENTRY 0).inc pwB F.pwrMain_ENTRY_ABORTS_COUNT
  let s2 := s1.setPower { s1.power with entry := none, woken := false, fails := 0, waking := if s1.domOn 3 then 0 else 1 }
  if s2.domOn 3 then (s2.toPartial 2).startSwitch else s2

/-- The transceivers go to their low-power states (R403 step 1). -/
def State.trcvLow (s : State) : State :=
  let s1 := (List.range 24).foldl (fun (a : State) n => a.trcvAsk n (if n < 16 ∧ !a.canArmed n then 3 else 2)) s
  (List.range 8).foldl (fun (a : State) n =>
    let w : Word := BitVec.ofNat 32 (putBits (a.rd (liB n + 0x050)).toNat 0 0 1)
    a.writeBy .supervisor (liB n + 0x050) w (State.linTrigger n 0x050 w a)) s1

/-- The entry sequence starts. -/
def State.beginEntry (s : State) (cause : Nat) : State :=
  if s.awake ∧ s.power.entry.isNone then
    let s1 := (s.setPower { s.power with entry := some cause, woken := false }).pf pwB F.pwrMain_PSTATE_ENTRY 1
    s1.trcvLow.startSwitch
  else s

/-- What a write of LP_CTL starts. -/
def State.lpTrigger (w : Word) (s : State) : State :=
  if bitOf w.toNat 31 ∧ (s.rd (wkB + 0x040)).toNat = 0 then s.beginEntry 0 else s

/-- LP_ENTRY_GO: the host writes LP_CTL with GO. -/
def execLpEntryGo (w : Word) (s : State) : Answer :=
  let v := w ||| 0x80000000#32
  .next (s.hostWrite (pwB + 0x044) v (State.lpTrigger v))

/-- LP_ENTRY_AUTO: AUTO is set and every enabled ring instance, of which there is one, is in SLEEP. -/
def execLpEntryAuto (s : State) : Answer :=
  let en := (List.range 8).filter fun k => s.run .pwrRing 0 && s.nf k F.pwrRing_NM_CTL_EN == 1
  if s.on pwB F.pwrMain_LP_CTL_AUTO ∧ en ≠ [] ∧ en.all (fun k => s.nmState k == 5) ∧ (s.rd (wkB + 0x040)).toNat = 0 then
    .next (s.beginEntry 1)
  else .next s

/-- LP_ENTRY_COMPLETE: every domain that the sequence switches off is off; steps 5 and 6, or the wake path where a wake
has been latched (R403, R404). -/
def execLpEntryComplete (s : State) : Answer :=
  match s.power.entry with
  | none => .next s
  | some cause =>
    if s.domBusy.isSome ∨ s.nextSwitch.isSome then .next s
    else if s.entryStopped then .next s.abortEntry
    else
      let standby := s.anyCanArmed || s.anyLinArmed
      let s1 := (s.setPower { s.power with entry := none }).pf pwB F.pwrMain_PSTATE_ENTRY 0
      let s2 := (s1.inhLow standby).inc pwB F.pwrMain_SLEEPS_COUNT
      .next (s2.setPstate (if standby then 2 else 1) cause)

/-! ### Switches end -/

/-- Whether the entry sequence stands at the end of a step after domain n has been switched (R404). -/
def State.stepEnd (s : State) (n : Nat) : Bool :=
  n == 3 || (4 ≤ n && (onesOf 15 s.domSts).all fun m => m ≤ 3) || (n ≤ 2 && s.nextSwitch.isNone)

/-- What follows the completion of a switch: EV5, the power state, the next switch or the stop of the sequence. -/
def State.switched (s : State) (n : Nat) (on : Bool) : State :=
  let s1 := ((s.setDomBusy none).raise 5 (128 * b2n on + n)).powerCheck
  if s1.entryStopped ∧ s1.stepEnd n then s1.abortEntry else s1.startSwitch

/-- The switch in progress is complete. An off switch waits for the pages and the slices of the domain (R400). -/
def State.switchDone (s : State) (n : Nat) : State :=
  if bitOf s.domSts n then
    if s.domWaits n ∨ (s.domSlices n).any (fun i => s.sliceState i != 2) then s else (s.domainOff n).switched n false
  else (s.domainOn n).switched n true

/-- DOMAIN_SWITCH_DONE: the switch of the domain in DOM_BUSY completes (R401). -/
def execDomainSwitchDone (s : State) : Answer :=
  match s.domBusy with
  | none => .next s
  | some n => .next (s.switchDone n)

/-- A domain is cut: EV6, and the device's own degraded request for PD11 and PD12 (R400, R465). -/
def State.cut (s : State) (n : Nat) : State :=
  let s1 := s.raise 6 n
  let s2 := s1.domainOff n
  if n = 11 ∨ n = 12 then s2.autoDegrade 3 (2 ^ n) else s2

/-- DOMAIN_CUT_TIMEOUT: DOM_TMO has passed with a page still QUIESCING (R400). -/
def execDomainCutTimeout (s : State) : Answer :=
  match s.domBusy with
  | none => .next s
  | some n => if bitOf s.domSts n ∧ s.domWaits n then .next ((s.cut n).switched n false) else .next s

/-- DOM_REQ_WRITE: the host writes DOM_REQ. -/
def execDomReqWrite (w : Word) (s : State) : Answer := .next (s.hostWrite (pwB + 0x048) w State.startSwitch)

/-! ### The junction (R398, R513) -/

/-- EV8 follows TJ and WARN_C. -/
def State.thermLevel (s : State) : State :=
  s.level 8 (decide (s.gf pwB F.pwrMain_THERM_WARN_C + 64 ≤ s.gf pwB F.pwrMain_THERM_TJ)) 0

/-- The junction sensor is updated. -/
def State.setTj (s : State) (tj : Nat) : State := (s.pf pwB F.pwrMain_THERM_TJ (min 255 tj)).thermLevel

/-- THERMAL_WARNING: an update of the junction sensor; `tj` in °C plus 64. -/
def execThermalWarning (tj : Nat) (s : State) : Answer := .next (s.setTj tj)

/-- A domain is cut as though its timeout had expired; one without a page in QUIESCING has no EV6. -/
def State.cutNow (s : State) (n : Nat) : State :=
  if bitOf s.domSts n then
    let s1 := s.beginSwitch n
    let s2 := if s1.domWaits n then s1.cut n else s1.domainOff n
    (s2.setDomBusy none).raise 5 n
  else s

/-- THERMAL_SHUTDOWN: the junction has reached 150 °C: the entry sequence without waiting (R398). -/
def execThermalShutdown (tj : Nat) (s : State) : Answer :=
  if 150 + 64 ≤ tj then
    let s1 := (s.setTj tj).setPower { s.power with hot := true }
    if s1.awake then
      let s2 := if s1.power.entry.isSome then s1 else
        { (s1.pf pwB F.pwrMain_PSTATE_ENTRY 1).trcvLow with power := { s1.power with woken := false } }
      let s3 := s2.setPower { s2.power with entry := some 4 }
      let keep (n : Nat) : Bool := (n == 2 && s3.anyLinArmed) || (n == 1 && s3.anyCanArmed)
      let order := (List.range 15).reverse.filter fun n => 1 ≤ n && !keep n
      .next (order.foldl (fun (a : State) n => a.cutNow n) (s3.setDomBusy none))
    else .next s1
  else .next s

/-! ### The wake path (R405, R406) -/

/-- Every rail is GOOD; VCAN takes no part (R393, R495). -/
def State.railsGood (s : State) : Bool := (s.gf pwB F.pwrMain_SUPPLY_STS_GOOD ||| 2) == 0x3FF

/-- The wake path begins: the INH outputs go high. -/
def State.beginWake (s : State) : State :=
  (s.inhHigh).setPower { s.power with waking := 1, fails := 0, woken := false }

/-- A latched wake is acted on: in the entry sequence it waits for the end of the step; in low power the wake path
begins; above 130 °C it waits (R398, R404, R405). -/
def State.wakeAct (s : State) : State :=
  if s.power.entry.isSome then
    let s1 := s.setPower { s.power with woken := true }
    s1
  else if s.pstate = 1 ∨ s.pstate = 2 then
    if s.power.hot then s.setPower { s.power with woken := true }
    else if s.power.waking = 0 then s.beginWake
    else s
  else s

/-- A wake is latched in WAKE_SRC: WAKE_FIRST, its event, the rings, and the wake path (R408, R418). `reason`: the
REASON of a wake request. Wake events reach the Logic die over the die-to-die link, and none does while it is lost
(R14). Of two wakes of one 32 kHz cycle, 6,250 cycles of CLK_SYS, the lower-numbered bit is recorded (log entry 123). -/
def State.latchWake (s : State) (bit ev detail reason : Nat) : State :=
  let src := (s.rd (wkB + 0x040)).toNat
  let s1 := s.wr (wkB + 0x040) (BitVec.ofNat 32 (putBits src bit bit 1))
  let cycle := s.cycles / 6250
  let lower := decide (s.power.first = cycle) && decide (bit < s1.gf wkB F.pwrWake_WAKE_FIRST_SRC)
  let s2 := if s1.on wkB F.pwrWake_WAKE_FIRST_VALID && !lower then s1
    else ((s1.pf wkB F.pwrWake_WAKE_FIRST_VALID 1).pf wkB F.pwrWake_WAKE_FIRST_SRC bit).setPower { s1.power with first := cycle }
  let s3 := if s2.domOn 3 ∧ s2.dieLost then s2.raise ev detail
    else if s2.domOn 3 then (s2.raise ev detail).nmLatched bit reason
    else s2.setPower { s2.power with events := s2.power.events ++ [(ev, detail)] }
  s3.wakeAct

/-- WAKE_INPUT: WAKEi has made a transition and held the new level for `held` cycles of 32 kHz (R409). -/
def execWakeInput (i : Nat) (falling : Bool) (held : Nat) (s : State) : Answer :=
  let f (x : Fld) : Nat := s.gf wkB (x.at (4 * i))
  let edge := f F.pwrWake_WAKE_CFG_EDGE
  if i < 8 ∧ s.pstate ≠ 0 ∧ f F.pwrWake_WAKE_CFG_EN = 1 ∧ (edge = 2 ∨ edge = b2n falling) ∧ f F.pwrWake_WAKE_CFG_FILT ≤ held then
    .next (s.latchWake i 272 i (32 + i))
  else .next s

/-- WAKE_SUPPLIES_GOOD: the rails are GOOD and PD3 comes on (R405). -/
def execWakeSuppliesGood (s : State) : Answer :=
  if s.power.waking = 1 ∧ s.railsGood ∧ !s.logicHeld then .next ((s.inc pwB F.pwrMain_WAKES_COUNT).pdOn 2 (natAnd s.domSts 6 ||| 8)) else .next s

/-- WAKE_SUPPLY_TIMEOUT: SUPPLY_TMO has passed; the third failure in a row waits for a new wake (R406). -/
def execWakeSupplyTimeout (s : State) : Answer :=
  if s.power.waking = 1 ∧ !s.railsGood then
    let standby := s.anyCanArmed || s.anyLinArmed
    let s1 := (s.inhLow false).inc pwB F.pwrMain_SUPPLY_FAIL_COUNT
    let n := s1.power.fails + 1
    let s2 := s1.setPower { s1.power with fails := n, waking := if n < 3 then 2 else 0 }
    .next (if 3 ≤ s2.pstate then s2.setPstate (if standby then 2 else 1) 3 else s2)
  else .next s

/-- WAKE_RETRY: 1 s after a failure the path goes on from its second step (R406). -/
def execWakeRetry (s : State) : Answer :=
  if s.power.waking = 2 then .next ((s.inhHigh).setPower { s.power with waking := 1 }) else .next s

/-- THERMAL_RECOVERY: the junction is below 130 °C; wakes that were latched are acted on (R398). -/
def execThermalRecovery (tj : Nat) (s : State) : Answer :=
  if s.power.hot ∧ tj < 130 + 64 then
    let s1 := (s.setTj tj).setPower { s.power with hot := false }
    .next (if s1.power.woken ∧ (s1.pstate = 1 ∨ s1.pstate = 2) ∧ s1.power.entry.isNone then s1.beginWake else s1)
  else .next s

/-! ### CAN and LIN bus wakes, partial networking (R410 to R414) -/

/-- The suspension of Cn ends (R413). While the die-to-die link is lost its controller hears nothing of it: that part
follows when the link is restored (R14; log entry 125). -/
def State.endSuspend (s : State) (n : Nat) : State :=
  let s1 := (s.setPower { s.power with suspend := s.power.suspend.filter (· != n) }).pf wkB (F.pwrWake_PN_CTL_SUSPEND.at (32 * n)) 0
  if (s1.canCh n).susp ∧ !(s1.domOn 3 && s1.dieLost) then
    let s2 := s1.setCan n { s1.canCh n with susp := false }
    if !s2.alive .can n then s2 else
    let s3 := if s2.on wkB (F.pwrWake_PN_CTL_FREEZE.at (32 * n)) then s2 else s2.canZero n
    s3.trcvAsk n 0
  else s1

/-- Cn wakes: `frame`: by a wake-up frame. Its suspension ends (R413); with the device awake its transceiver returns to
Normal (R412). -/
def State.canWake (s : State) (n : Nat) (frame : Bool) : State :=
  let s1 := (s.latchWake (8 + n) 273 (128 * b2n frame + n) (64 + n)).endSuspend n
  if s1.awake ∧ !s1.dieLost ∧ s1.canTrcv n = 2 then s1.trcvAsk n 0 else s1

/-- Whether the transceiver of Cn is in Standby with its wake receiver powered; with PD3 off every armed one is. -/
def State.canStandby (s : State) (n : Nat) : Bool :=
  n < 16 && s.domOn 1 && s.canArmed n && s.pstate != 0 && (if s.domOn 3 then s.canTrcv n == 2 else true)

/-- Whether a frame is a wake-up frame of Cn (R411). -/
def State.wakeFrame (s : State) (n : Nat) (f : CanFrame) : Bool :=
  let g (x : Fld) : Nat := s.gf wkB (x.at (32 * n))
  let mask := g F.pwrWake_CANW_MASK_MASK
  let data := leNat (f.data.take 8)
  let want := g F.pwrWake_CANW_DATA_HI_DATA * 2 ^ 32 + g F.pwrWake_CANW_DATA_LO_DATA
  !w4Remote f.w4 && f.ide == (g F.pwrWake_CANW_CTL_IDE == 1)
    && natAnd f.id mask == natAnd (g F.pwrWake_CANW_ID_ID) mask
    && (g F.pwrWake_CANW_CTL_DATA_EN == 0 ||
      (w4Dlc f.w4 == g F.pwrWake_CANW_CTL_DLC && (w4Dlc f.w4 == 0 || natAnd data want != 0)))

/-- A frame with an error at a wake receiver (R411). -/
def State.wakeFrameError (s : State) (n : Nat) : State :=
  let f := F.pwrWake_CANW_STS_FEC.at (32 * n)
  let fec := s.gf wkB f
  if fec = 31 then
    let s1 := ((s.pf wkB f 32).pf wkB (F.pwrWake_CANW_STS_OVF.at (32 * n)) 1).canWake n false
    if s1.domOn 3 then s1.raise 275 n else s1.setPower { s1.power with events := s1.power.events ++ [(275, n)] }
  else s.pf wkB f (min 32 (fec + 1))

/-- CAN_BUS_WAKE: what the wake receiver of Cn sees: kind 0 the wake-up pattern, 1 a frame without error, 2 a frame with
a stuff, form or CRC error (R410, R411). -/
def execCanBusWake (n kind : Nat) (frame : CanFrame) (s : State) : Answer :=
  if s.canStandby n then
    let mode := s.gf wkB (F.pwrWake_CANW_CTL_MODE.at (32 * n))
    let f := canNorm frame
    if kind = 0 then .next (if mode = 1 ∨ mode = 3 then s.canWake n false else s)
    else if mode = 1 then .next s
    else if kind = 1 ∧ w4Format f.w4 = 0 then
      let fec := F.pwrWake_CANW_STS_FEC.at (32 * n)
      let s1 := s.pf wkB fec (s.gf wkB fec - 1)
      .next (if s1.wakeFrame n f then s1.canWake n true else s1)
    else if w4Format f.w4 ≠ 0 ∧ s.on wkB (F.pwrWake_CANW_CTL_FD_PASSIVE.at (32 * n)) then .next s
    else .next (s.wakeFrameError n)
  else .next s

/-- LIN_BUS_WAKE: the transceiver of Ln, in Sleep, has seen 150 µs of dominant level and then recessive; it returns to
Normal where PD2 is on (R414). -/
def execLinBusWake (n : Nat) (s : State) : Answer :=
  if n < 8 ∧ s.linArmed n ∧ s.pstate ≠ 0 ∧ (!s.domOn 3 ∨ s.on (liB n) F.lin_LIN_TRCV_STATE) then
    let s1 := s.latchWake (24 + n) 274 n (96 + n)
    let w : Word := BitVec.ofNat 32 (putBits (s1.rd (liB n + 0x050)).toNat 0 0 0)
    .next (if s1.domOn 3 ∧ s1.domOn 2 ∧ !s1.dieLost then s1.writeBy .supervisor (liB n + 0x050) w (State.linTrigger n 0x050 w s1) else s1)
  else .next s

/-- LIN_IDLE_SLEEP: the bus of the responder Ln has been recessive for IDLE_MS (R414). -/
def execLinIdleSleep (n : Nat) (s : State) : Answer :=
  if s.linRuns n ∧ s.on (liB n) F.lin_LIN_CFG_ROLE ∧ s.on wkB (F.pwrWake_LINW_CTL_IDLE_EN.at (4 * n)) then .next (s.linSleep n)
  else .next s

/-- The clamp has left SUSPEND as it stands; it is requested or ended (R413). -/
def State.pnTrigger (n : Nat) (s : State) : State :=
  if s.on wkB (F.pwrWake_PN_CTL_SUSPEND.at (32 * n)) then
    if (s.canCh n).susp ∨ s.power.suspend.contains n then s
    else s.setPower { s.power with suspend := s.power.suspend ++ [n] }
  else s.endSuspend n

/-- What a write of a wake page register starts. -/
def State.wakeTrigger (o : Nat) (w : Word) (s : State) : State :=
  if o = 0x044 then (if bitOf w.toNat 31 then s.pf wkB F.pwrWake_WAKE_FIRST_VALID 0 else s)
  else if 0x118 ≤ o ∧ o < 0x300 ∧ (o - 0x118) % 32 = 0 then s.pnTrigger ((o - 0x118) / 32)
  else s

/-- What a write of a PWR main page register starts. -/
def State.powerTrigger (o : Nat) (w : Word) (s : State) : State :=
  match o with
  | 0x044 => s.lpTrigger w
  | 0x048 => s.startSwitch
  | 0x064 => s.thermLevel
  | _ => s

/-- WAKE_FIRST_CLEAR: the host writes WAKE_FIRST. -/
def execWakeFirstClear (w : Word) (s : State) : Answer := .next (s.hostWrite (wkB + 0x044) w (State.wakeTrigger 0x044 w))

/-- PN_SUSPEND: the host writes PN_CTL of Cn. -/
def execPnSuspend (n : Nat) (w : Word) (s : State) : Answer :=
  if n < 16 then .next (s.hostWrite (wkB + 0x118 + 32 * n) w (State.pnTrigger n)) else .next s

/-- PN_SUSPEND_EFFECT: the bus of Cn is idle; in BUS_OFF and RECOVERING the suspension waits (R413). -/
def execPnSuspendEffect (n : Nat) (s : State) : Answer :=
  if s.power.suspend.contains n ∧ n < 16 ∧ s.alive .can n ∧ (s.canOnWire n).isNone ∧ s.canState n ≠ 4 ∧ s.canState n ≠ 5 then
    let s1 := s.setPower { s.power with suspend := s.power.suspend.filter (· != n) }
    let s2 := (s1.setCan n { s1.canCh n with susp := true }).trcvAsk n 2
    .next (s2.trcvReached n)
  else .next s

/-! ### Supplies (R393 to R395, Table 13-1) -/

/-- The rail that has to be GOOD before a rail (Table 13-1). -/
def railBefore (r : Nat) : Option Nat :=
  match r with
  | 2 => some 0
  | 3 => some 2
  | 4 => some 3
  | 5 => some 4
  | 0 => none
  | 1 => none
  | _ => some 5

/-- GOOD of a rail. -/
def State.railGood (s : State) (r : Nat) : Bool := bitOf (s.gf pwB F.pwrMain_SUPPLY_STS_GOOD) r

/-- Sets GOOD of a rail. -/
def State.setRail (s : State) (r : Nat) (v : Bool) : State :=
  s.pf pwB F.pwrMain_SUPPLY_STS_GOOD (putBits (s.gf pwB F.pwrMain_SUPPLY_STS_GOOD) r r (b2n v))

/-- A break of the sequence: its cause bit, and the Logic die is held in reset (R394). -/
def State.seqBreak (s : State) (cause : Nat) : State :=
  let s1 := s.pf pwB F.pwrMain_SUPPLY_STS_SEQ_ERR (putBits (s.gf pwB F.pwrMain_SUPPLY_STS_SEQ_ERR) cause cause 1)
  let s2 := if s1.domOn 3 then s1.logicOff else s1
  (s2.setPower { s2.power with hold := true, entry := none }).pf pwB F.pwrMain_PSTATE_ENTRY 0

/-- EV7 follows VSUP_UV and VSUP_OV (R395). -/
def State.vsupLevel (s : State) (detail : Nat) : State :=
  s.level 7 (s.on pwB F.pwrMain_SUPPLY_STS_VSUP_UV || s.on pwB F.pwrMain_SUPPLY_STS_VSUP_OV) detail

/-- PD3 switches on where a hold has ended, none is left and every rail is GOOD (R500, R501). -/
def State.holdOver (s : State) : State :=
  if s.power.release ∧ !s.logicHeld ∧ s.railsGood ∧ !s.domOn 3 then s.pdOn 7 (s.domReq ||| 8) else s

/-- RAIL_GOOD: rail r becomes GOOD. `late`: it is the last and VIO33 began to rise more than 20 ms ago; `high`: VCORE
has stood above VSRAM + 50 mV for more than 1 µs (R393, R394, R493). VSUP above 4.5 V also ends VSUP_UV. VCAN takes no
part in the checks (R495). Where a hold has ended before the last rail is GOOD, that rail brings PD3 on (R501). -/
def execRailGood (r : Nat) (late high : Bool) (s : State) : Answer :=
  if r < 10 then
    let s1 := s.setRail r true
    let order := match railBefore r with
      | some q => !s1.railGood q
      | none => false
    let s2 := if order then s1.seqBreak 0 else s1
    let s3 := if late && r != 1 then s2.seqBreak 1 else s2
    let s4 := if high && r != 1 then s3.seqBreak 2 else s3
    let s5 := if r = 0 then ((s4.setPower { s4.power with linLow := false }).pf pwB F.pwrMain_SUPPLY_STS_VSUP_UV 0).vsupLevel 1 else s4
    .next s5.holdOver
  else .next s

/-- RAIL_NOT_GOOD: rail r leaves GOOD; while PD3 is on that is a DROP, but for VCAN (R394, R493, R495). -/
def execRailNotGood (r : Nat) (s : State) : Answer :=
  if r < 10 ∧ s.railGood r then
    let s1 := s.setRail r false
    .next (if s1.domOn 3 ∧ r ≠ 1 then s1.seqBreak 3 else s1)
  else .next s

/-- SEQ_ERROR_RELEASE: every rail has been GOOD for 1 ms (R394). -/
def execSeqErrorRelease (s : State) : Answer :=
  if s.power.hold ∧ s.railsGood then
    let s1 := s.setPower { s.power with hold := false }
    let s2 := if s1.logicHeld then s1.setPower { s1.power with release := true } else s1.pdOn 6 (s1.domReq ||| 8)
    .next (s2.raise 9 ((onesOf 4 (s2.gf pwB F.pwrMain_SUPPLY_STS_SEQ_ERR)).headD 0))
  else .next s

/-- VSUP_UV: VSUP, now `mv` millivolts, is below 4.5 V; below 4.0 V the integrated LIN transmitters hold recessive. -/
def execVsupUv (mv : Nat) (s : State) : Answer :=
  .next ((s.setPower { s.power with linLow := decide (mv < 4000) }).pf pwB F.pwrMain_SUPPLY_STS_VSUP_UV 1 |>.vsupLevel 1)

/-- VSUP_OV: VSUP rises above 28 V. -/
def execVsupOv (s : State) : Answer := .next ((s.pf pwB F.pwrMain_SUPPLY_STS_VSUP_OV 1).vsupLevel 2)

/-- VSUP_OVERVOLTAGE_END: VSUP is at 28 V or below again. -/
def execVsupOvervoltageEnd (s : State) : Answer := .next ((s.pf pwB F.pwrMain_SUPPLY_STS_VSUP_OV 0).vsupLevel 2)

/-- VSUP_LOSS: VSUP below 3.0 V resets AON; the device is OFF (R395, R397). -/
def execVsupLoss (s : State) : Answer :=
  let pins : Jtag := { State.reset.jtag with test := s.jtag.test, perst := s.jtag.perst }
  let s1 : State := { s.logicOff with regs := [], can := [], power := State.reset.power, dieLost := false, jtag := pins }
  let s2 := (s1.setDomSts 0).pf pwB F.pwrMain_DOM_REQ_ON 0
  let s3 := (s2.pf pwB F.pwrMain_SUPPLY_STS_GOOD 0).pf pwB F.pwrMain_INH_CTL_STATE0 0
  .next ((s3.pf pwB F.pwrMain_INH_CTL_STATE1 0).pf pwB F.pwrMain_PSTATE_STATE 0)

/-- POWER_ON: the supplies are sequenced and PD3 switches on, when no hold is left (R397, R501). -/
def execPowerOn (s : State) : Answer :=
  if s.pstate = 0 ∧ s.railsGood then
    .next (if s.logicHeld then s.setPower { s.power with release := true } else s.pdOn 7 8)
  else .next s

/-! ### Device reset (R490, R500, R501) -/

/-- The Logic die is held in reset: its domains are off without quiescing, the entry sequence is abandoned, the debug
grant ends. -/
def State.holdReset (s : State) : State :=
  let s1 := if s.domOn 3 then s.logicOff else s
  let back := s.power.release || s.domOn 3 || s.power.waking != 0 || s.power.entry.isSome
  let s2 := (s1.setPower { s1.power with entry := none, waking := 0, woken := false, release := back }).pf pwB
    F.pwrMain_PSTATE_ENTRY 0
  let j : Jtag := { s2.jtag with granted := false, refused := false, dbgStatus := 0, dbgAddr := 0, dbgData := 0 }
  { s2 with jtag := j }


/-- RESET_N_ASSERT: RESET_N has been low for `ns` nanoseconds; between 100 ns and 1 µs the device may or may not respond
(R500). It has no effect while VIO33 is absent. -/
def execResetNAssert (ns : Nat) (s : State) : Answer :=
  let pick := s.fresh 1
  if ns ≤ 100 ∨ !s.railGood 2 then .next s
  else if ns < 1000 then
    .next (if pick.1 = 0 then pick.2 else (pick.2.setPower { s.power with resetN := true }).holdReset)
  else .next ((s.setPower { s.power with resetN := true }).holdReset)

/-- RESET_N_RELEASE: RESET_N is high again; DOM_REQ is 0x0000_0008 (R500). -/
def execResetNRelease (s : State) : Answer :=
  if s.power.resetN then
    .next (((s.setPower { s.power with resetN := false, release := true }).pf pwB F.pwrMain_DOM_REQ_ON 4).holdOver)
  else .next s

/-- TEST_PIN_HIGH: the levels of TEST0 and TEST1 (R490). -/
def execTestPinHigh (levels : Nat) (s : State) : Answer :=
  let s1 := { s with jtag := { s.jtag with test := levels % 4 } }
  .next (if levels % 4 ≠ 0 then s1.holdReset else if s.jtag.test ≠ 0 then s1.holdOver else s1)

/-! ### The die-to-die link (R14, R473) -/

/-- The link has been declared lost. -/
def State.dieDown (s : State) : State :=
  let s1 := { s with dieLost := true }
  let s2 := (List.range 16).foldl (fun (a : State) n => match a.canOnWire n with
    | some k => a.canFailed n k 4
    | none => a) s1
  let s3 := (List.range 8).foldl (fun (a : State) n => a.t1sLeave n) s2
  s3.autoDegrade 4 6

/-- DIE_LINK_CHECK_FAIL: a transfer has failed its check, and `retries` retries of it in succession too: the third
declares the link lost (R14). -/
def execDieLinkCheckFail (retries : Nat) (s : State) : Answer :=
  if 3 ≤ retries ∧ s.domOn 3 ∧ !s.dieLost then .next s.dieDown else .next s

/-- DIE_LINK_RETRY: the Supervisor retries a lost link; `pass`: the transfer passes its check (R473). -/
def execDieLinkRetry (pass : Bool) (s : State) : Answer :=
  if pass ∧ s.dieLost ∧ s.supUp then
    let s1 := { s with dieLost := false }
    let again (a : State) (n : Nat) : State :=
      if a.run .can n ∧ 1 ≤ a.canState n ∧ a.canState n ≤ 3 then a.canIntegrate n else a
    let ended (a : State) (n : Nat) : State :=
      if (a.canCh n).susp ∧ !a.on wkB (F.pwrWake_PN_CTL_SUSPEND.at (32 * n)) then a.endSuspend n else a
    let s2 := (List.range 16).foldl ended ((List.range 16).foldl again s1)
    .next ((List.range 8).foldl (fun (a : State) n => a.segPhy n) s2).regroupAll
  else .next s

end Sys2Proof.Machine
end

