-- ==== Sys2Proof/Machine/Read.lean ====
section
/-! DEFINITION. Reads: what a register shows (R44, R47, R51, R64), the pops of RC registers (R58 to R61), and the words of
BAR2 (R43, R44, Tables 2-2, 3-4 and 5-8). -/

namespace Sys2Proof.Machine

/-! ### Registers -/

/-- The pop of LOG_POP (R59, Table 2-11). -/
def State.popLog (s : State) : Nat × State :=
  match s.log with
  | [] => (0, s)
  | r :: rest =>
    let b := pageBase .evt 0
    let w := 0x80000000 + r.detail % 256 * 0x10000 + r.source % 512
    let s1 := ({ s with log := rest }.pf b F.evt_LOG_LAST_LAST w).pf b F.evt_LOG_STAMP_STAMP r.stamp
    (w, s1.logLevels)

/-- The pop of an RC register: page kind, page number, offset. -/
def popAt (k : PageKind) (i o : Nat) : Option (State → Nat × State) :=
  match k with
  | .evt => if o = 0x094 then some State.popLog else none
  | .emac => if o = 0x060 then some (State.popStamp i) else none
  | .t1s => if o = 0x058 then some (State.popSegStamp i) else none
  | .sigNode => if o = 0x04C then some State.popNode else none
  | .sigGlobal => if o = 0x064 then some State.popTmo else none
  | .caskTap => if o = 0x048 then some State.popTap else none
  | .timePulse => if o = 0x104 then some (State.popCap 0) else if o = 0x124 then some (State.popCap 1) else none
  | .kilnMain => if o = 0x0AC then some State.popRng else none
  | _ => none

/-- PAGE_STS as the page state machine stands (Tables 2-3 to 2-5, R47). -/
def State.pageSts (s : State) (k : PageKind) (i : Nat) : Nat :=
  if k.noState then 2
  else
    let b := pageBase k i
    let rest := 16 * s.gf b hdrPendEn + 8 * s.gf b hdrFault
    match s.pst k i with
    | .off => rest
    | .run => rest + 2 + b2n (s.workInFlight k i)
    | .quiescing => rest + 5
    | .held => rest
    | .resetting => rest + 1

/-- The word a block register shows: what follows the clock or a queue is taken from it. -/
def State.shown (s : State) (k : PageKind) (i o : Nat) : Nat :=
  let w := (s.rd (pageBase k i + o)).toNat
  match popAt k i o with
  | some pop => (pop s).1
  | none =>
    match k with
    | .evt =>
      if o = 0x08C then putBits w 10 0 s.log.length
      else if 0x0A0 ≤ o ∧ o < 0x0E0 then
        let g := (o - 0x0A0) / 4
        maskOf ((List.range 32).filter fun b => s.evPend (32 * g + b))
      else w
    | .timeClock => if o = 0x040 then s.now % 2 ^ 32 else if o = 0x044 then s.now / 2 ^ 32 % 2 ^ 32 else w
    | .ktl => (s.ktlShown i o).getD w
    | .crc => if o = 0x054 then s.unitSts i else w
    | .hostEgress => if i < 16 then ((s.showGates i).rd (pageBase k i + o)).toNat else w
    | .caskRec => if o = 0x0A0 then s.cask.opsec else w
    | _ => w

/-- The user page's view of a performance counter (R438). -/
def State.userCount (s : State) (o : Nat) : Nat :=
  let c := (o - 0x080) / 16
  let r := o % 16
  if 0x080 ≤ o ∧ o < 0x180 ∧ (r = 4 ∨ r = 8) ∧ s.on (pageBase .caskCnt 0) (F.caskCnt_PSEL_USER_RD.at (16 * c)) then
    (s.rd (pageBase .caskCnt 0 + o)).toNat
  else 0

/-- The word of a BAR0 offset with no side effect: what its BAR2 alias returns (R4, R41, R44, R51, R64). -/
def State.peekReg (s : State) (off : Nat) : Nat :=
  match pageOf (off / 0x1000) with
  | none => 0
  | some (k, i) =>
    let o := off % 0x1000 / 4 * 4
    if !s.grade.hasPage k i then 0
    else if s.dieLost && lineDiePage k then 0xFFFFFFFF
    else if !s.domOn (pageDomain k i) then (if o = 0 then (s.rd (pageBase k i)).toNat else 0)
    else if k = .caskUser then (if o < 8 then (s.rd (pageBase k i + o)).toNat else s.userCount o)
    else if o = 0x010 then s.pageSts k i
    else if o < 0x028 then (s.rd (pageBase k i + o)).toNat
    else if o < 0x040 ∨ absentReg s.grade k i o then 0
    else s.shown k i o

/-- A BAR0 read of one word; only the first address of a transaction pops (R58, R61). -/
def State.regRead (s : State) (off : Nat) (first : Bool) : Nat × State :=
  match pageOf (off / 0x1000) with
  | none => (0, s)
  | some (k, i) =>
    match popAt k i (off % 0x1000 / 4 * 4) with
    | none => (s.peekReg off, s)
    | some pop => if first ∧ s.alive k i then pop s else (s.peekReg off, s)

/-! ### The Tun queue state (Tables 3-1 to 3-4) -/

/-- The 16 bytes of a cell's header (Tables 3-1 to 3-3). -/
def FabCell.header (x : FabCell) : Bytes :=
  let mcast := 1 < (onesOf 24 x.info.targets).length
  let out := if mcast then 0 else (onesOf 24 x.info.targets).headD 0
  let first := x.j == 0
  let b0 := (if first then 0x40 else 0x80) + 32 * b2n x.last + 16 * b2n mcast + 8 * b2n x.bad + x.info.tc % 8
  leBytes 1 b0 ++ leBytes 1 (8 * x.info.src + x.info.epoch % 8) ++ leBytes 1 (8 * out) ++ leBytes 1 (8 * x.idx)
    ++ leBytes 1 x.rtag ++ leBytes 1 x.j ++ beBytes 2 x.info.tag
    ++ (if first then beBytes 2 (x.info.member % 4 * 0x4000 + x.info.len % 0x4000) ++ beBytes 2 x.info.ctx ++ beBytes 4 x.info.stamp
      else leBytes 1 (x.payload.length % 128) ++ List.replicate 7 0)

/-- A word of a slice's queue state and the bits of it that are open: Table 3-4 names something that the slice does not
hold now (the head of an empty list, the entry behind the last, what a free entry or cell contains; log entry 94). -/
def Slice.word (t : Slice) (pending : Nat → Nat) (o : Nat) : Nat × Nat :=
  let freeC : List Nat := (if t.fresh < 32768 then [t.fresh] else []) ++ (t.returned ++ t.just).take 1
  let freeE : List Nat := (if t.freshE < 65536 then [t.freshE] else []) ++ t.returnedE.take 1
  let number (l : List Nat) : Nat × Nat := match l with
    | [] => (0, 0xFFFF)
    | x :: _ => (x, 0)
  if o < 0xC00 then
    let l := (t.lists.find? fun l => pairNo l.out l.tc == o / 16).map (·.entries) |>.getD []
    match o % 16 / 4 with
    | 0 => number (l.map (·.no))
    | 1 => number (l.reverse.map (·.no))
    | 2 => (l.length, 0)
    | _ => (pending (o / 16), 0)
  else if 0x1000 ≤ o ∧ o < 0x1010 then
    match o % 16 / 4 with
    | 0 => (32768 - t.fresh + t.returned.length + t.just.length, 0)
    | 1 => (65536 - t.freshE + t.returnedE.length, 0)
    | 2 => number freeC
    | _ => number freeE
  else if 0x10000 ≤ o ∧ o < 0x50000 then
    let e := (o - 0x10000) / 4
    match t.lists.find? (fun l => l.entries.any fun x => x.no == e) with
    | none => (0, 0xFFFFFFFF)
    | some l =>
      match l.entries.dropWhile (fun x => x.no != e) with
      | [] => (0, 0xFFFFFFFF)
      | x :: rest =>
        let next := number (rest.map (·.no))
        (2 ^ 31 * b2n (x.group == 0) + 2 ^ 16 * x.buf + next.1, next.2)
  else if 0x50000 ≤ o ∧ o < 0x70000 then
    match t.bufs.find? (fun x => x.no == (o - 0x50000) / 4) with
    | none => (0, 0x300)
    | some x => (256 * x.pos + x.refs, 0)
  else if 0x80000 ≤ o ∧ o < 0x100000 then
    match t.bufs.find? (fun x => x.no == (o - 0x80000) / 16) with
    | none => (0, 0xFFFFFFFF)
    | some x => (leAt x.cell.header (o % 16 / 4 * 4) 4, 0)
  else (0, 0)

/-- A word of the Tun region; absent slices and gaps read 0. -/
def State.tunRead (s : State) (off : Nat) : Nat × State :=
  let n := (off - 0x0B000000) / 0x200000
  if n < s.grade.slices ∧ s.domOn (pageDomain .fabSlice n) then
    let pending (q : Nat) : Nat := (s.fab.groups.filter fun g => pairNo g.out g.tc == q).length
    let w := (s.tun n).word pending (off % 0x200000)
    if w.2 = 0 then (w.1, s)
    else
      let r := s.fresh 32
      (w.1 + natAnd r.1.toNat w.2, r.2)
  else (0, s)

/-! ### BAR2 -/

/-- A word of BAR2; nothing pops (R44). A read of LPDDR4X can meet an uncorrectable line (R306); what an uncorrectable
word of a Kettle memory reads is open (log entry 53). `again`: a later word of a line that its request has read already.
-/
def State.bar2Read (s : State) (off0 : Nat) (again : Bool := false) : Nat × State :=
  let off := off0 / 4 * 4
  if off < 0x04000000 then (s.peekReg off, s)
  else if 0x051B0000 ≤ off ∧ off < 0x051C0000 then
    let m := s.meterAt ((off - 0x051B0000) / 16)
    (match off % 16 / 4 with
      | 0 => m.c / 2 ^ 20
      | 1 => m.e / 2 ^ 20
      | 2 => b2n m.red
      | _ => m.last % 2 ^ 32, s)
  else if off < 0x08000000 then (s.b2w off, s)
  else if off < 0x09000000 then (s.cacheWord off, s)
  else if off < 0x0A000000 then
    (if off < 0x09010000 then leAt (s.nodeBytes ((off - 0x09000000) / 16)) (off % 16) 4 else 0, s)
  else if off < 0x0B000000 then
    if s.ktlBad.contains off then
      let r := s.fresh 32
      (r.1.toNat, r.2)
    else (s.b2w off, s)
  else if off < 0x0C000000 then s.tunRead off
  else if off < 0x20000000 then (0, s)
  else if off < 0x40000000 then s.apertureRead (off - 0x20000000) again
  else (0, s)

/-- A read at an address of the 32-bit form: the word, and whether the address lies in some space (R65). -/
def State.busRead (s : State) (addr : Nat) (first : Bool) : Nat × Bool × State :=
  match placeOf addr with
  | .bar0 off => let r := s.regRead (off / 4 * 4) first; (r.1, true, r.2)
  | .bar2 off => let r := s.bar2Read off; (r.1, true, r.2)
  | .nowhere => (0, false, s)

/-- The same read as BAR2 reads it (R44, R477). -/
def State.busPeek (s : State) (addr : Nat) : Nat × State :=
  match placeOf addr with
  | .bar0 off => (s.peekReg (off / 4 * 4), s)
  | .bar2 off => s.bar2Read off
  | .nowhere => (0, s)

end Sys2Proof.Machine
end

