-- ==== Sys2Proof/Machine/Bus.lean ====
section
/-! DEFINITION. Writes by any writer with all they start: a BAR0 register write, CNT_CLR, a write of a BAR2 word, and a
write at an address of the 32-bit form (R35, R43 to R45, R57, R63 to R65). -/

namespace Sys2Proof.Machine

/-! ### CNT_CLR -/

/-- Offset of CNT_CLR of a page kind, and the ranges of words that it zeroes. -/
def clearRanges (k : PageKind) (i : Nat) : Option (Nat × List (Nat × Nat)) :=
  match k with
  | .fabPort => some (0x060, [(0x044, 0x05C)])
  | .hostGlobal => some (0x058, [(0x044, 0x050)])
  | .hostEgress => some (0x08C, if i < 16 then [(0x068, 0x088), (0x118, 0x118)] else [(0x068, 0x088)])
  | .pipe => some (0x0D0, [(0x058, 0x0CC)])
  | .emac => some (0x0C4, [(0x080, 0x0C0)])
  | .macsec => some (0x0F0, [(0x0A0, 0x0E4)])
  | .t1s => some (0x0AC, [(0x080, 0x0A8)])
  | .can => some (0x0A8, [(0x080, 0x0A4)])
  | .lin => some (0x0AC, [(0x080, 0x0A8)])
  | .brgGlobal => some (0x0E0, [(0x068, 0x07C), (0x100, 0x17C)])
  | .brgTunnel => some (0x040, [(0x044, 0x47C)])
  | .brgJalden => some (0x200, [(0x074, 0x074), (0x100, 0x1FC)])
  | .sigGlobal => some (0x0B0, [(0x080, 0x0AC), (0x0B4, 0x0B4)])
  | .sigNode => some (0x090, [(0x080, 0x08C)])
  | .ktl => some (0x0C0, [(0x080, 0x0B8)])
  | .crc => some (0x064, [(0x058, 0x060)])
  | .timeClock => some (0x098, [(0x090, 0x090)])
  | .ciphGlobal => some (0x090, [(0x060, 0x08C)])
  | .kilnMain => some (0x0E0, [(0x0C0, 0x0D4)])
  | .pwrMain => some (0x078, [(0x068, 0x074)])
  | .caskRec => some (0x0CC, [(0x0B0, 0x0C8)])
  | .caskTap => some (0x060, [])
  | .upd => some (0x0A8, [(0x09C, 0x0A4)])
  | .qspi => some (0x064, [(0x050, 0x060)])
  | .ddr => some (0x058, [(0x04C, 0x054)])
  | .guardGlobal => some (0x078, [(0x060, 0x074)])
  | _ => none

/-- The single fields that CNT_CLR zeroes beside the ranges. -/
def clearField (k : PageKind) : Option Fld :=
  match k with
  | .fabPort => some F.fabPort_STORE_OCC_PEAK
  | .emac => some F.emac_TS_LEVEL_LOST
  | .t1s => some ⟨0x064, 31, 16⟩
  | .sigGlobal => some F.sigGlobal_TMO_LEVEL_LOST
  | .sigNode => some F.sigNode_NODE_LEVEL_LOST
  | .ktl => some F.ktl_QUEUE_PEAK
  | .caskRec => some F.caskRec_BUF_PEAK_BYTES
  | .caskTap => some F.caskTap_TAP_LEVEL_LOST
  | _ => none

/-- Zeroes what CNT_CLR of a page names; that of the Pipe A page also BANK_WR_REJ (Table 5-10). -/
def State.clearCounters (s : State) (k : PageKind) (i : Nat) : State :=
  let b := pageBase k i
  let ranges := (clearRanges k i).map (·.2) |>.getD []
  let s1 := ranges.foldl (fun (a : State) r => a.zeroWords (b + r.1) ((r.2 - r.1) / 4 + 1)) s
  let s2 := match clearField k with
    | some f => s1.pf b f 0
    | none => s1
  if k = .pipe ∧ i = 0 then s2.pf shB F.pipeShared_BANK_WR_REJ_COUNT 0 else s2

/-! ### What a write starts -/

/-- BUS_ERR.CLR. -/
def State.sysTrigger (o : Nat) (w : Word) (s : State) : State :=
  if o = 0x044 ∧ bitOf w.toNat 31 then
    let b := pageBase .sys 0
    ((s.pf b F.sys_BUS_ERR_REJ_CNT 0).pf b F.sys_BUS_ERR_TMO_CNT 0).pf b F.sys_BUS_ERR_ADDR_OFFSET 0
  else s

/-- GRP_EOI of group g: the group is armed again; with GRP_SUM 1 and a route to an H port the message goes out at once
and disarms it (R73). -/
def State.eoi (s : State) (g : Nat) : State :=
  let b := pageBase .evt 0
  let target := s.gf b (F.evt_GRP_ROUTE_TARGET.at (4 * g))
  if bitOf (s.gf b F.evt_GRP_SUM_SUM) g ∧ (target = 1 ∨ target = 2) then
    { s.message (target - 1) (s.gf b (F.evt_GRP_ROUTE_VECTOR.at (4 * g))) with armed := putBits s.armed g g 0 }
  else { s with armed := putBits s.armed g g 1 }

/-- What a write of an EVT register starts. -/
def State.evtTrigger (o : Nat) (w : Word) (s : State) : State :=
  if o = 0x084 then (onesOf 16 w.toNat).foldl (fun (a : State) g => a.eoi g) s
  else if o = 0x088 then s.logLevels
  else if o = 0x08C ∧ bitOf w.toNat 16 then (s.pf (pageBase .evt 0) F.evt_LOG_LOST_LOST 0).logLevels
  else s

/-- BANK_SEED and BANK_IPMASK of a bank take a write only while the bank is the background one and nothing drains
(R171). -/
def State.bankTrigger (o : Nat) (old s : State) : State :=
  if 0x050 ≤ o ∧ o < 0x060 then
    if s.on shB F.pipeShared_STREAM_BANK_DRAINING ∨ s.gf shB F.pipeShared_STREAM_BANK_FG = o / 4 % 2 then
      (s.wr (shB + o) (old.rd (shB + o))).inc shB F.pipeShared_BANK_WR_REJ_COUNT
    else s
  else s

/-- What a write of a rule page register starts: CLR clears LATCHED, and EN written 1 over 0 makes the next sample the
first (R478, R479). -/
def State.ruleTrigger (i o : Nat) (w : Word) (old s : State) : State :=
  if 0x100 ≤ o ∧ o % 32 = 0 then
    let k := (o - 0x100) / 32
    let b := pageBase .guardRule i
    let r := 64 * i + k
    let s1 := if bitOf w.toNat 30 then s.pf b (F.guardRule_RULE_CTL_LATCHED.at (32 * k)) 0 else s
    if s1.on b (F.guardRule_RULE_CTL_EN.at (32 * k)) ∧ !old.on b (F.guardRule_RULE_CTL_EN.at (32 * k)) then
      { s1 with guard := { s1.guard with rules := s1.guard.rules.filter fun x => x.1 != r } }
    else s1
  else s

/-- What an accepted write of a block register starts, by the block that owns it: offset in the page, the word written,
the state before the write. -/
def State.started (k : PageKind) (i o : Nat) (w : Word) (old s : State) : State :=
  match k with
  | .sys => State.sysTrigger o w s
  | .evt => State.evtTrigger o w s
  | .pwrMain => State.powerTrigger o w s
  | .pwrWake => State.wakeTrigger o w s
  | .pwrRing => State.nmTrigger o s
  | .timeClock => State.timeTrigger o w s
  | .timeGptp => State.gptpTrigger o s
  | .timePulse => State.pulseTrigger o old s
  | .timeSched => State.schedTrigger o w s
  | .fabGlobal => State.fabTrigger o w old s
  | .pipe => State.pipeTrigger i o w s
  | .pipeShared => State.shTrigger o w (State.bankTrigger o old s)
  | .emac => State.emacTrigger i o w old s
  | .macsec => State.macsecTrigger i o s
  | .t1s => State.t1sTrigger i o s
  | .can => State.canTrigger i o w s
  | .canGlobal => State.canGlobalTrigger o old s
  | .lin => State.linTrigger i o w old s
  | .brgGlobal => State.bgTrigger o w old s
  | .brgJalden => State.jaldenTrigger o w s
  | .sigGlobal => State.sigTrigger o w s
  | .ktl => State.ktlTrigger i o w s
  | .ciphBlock => State.blockTrigger o w s
  | .kilnMain => State.kilnTrigger o w s
  | .kilnId => State.kilnIdTrigger o w s
  | .caskRec => State.caskTrigger o w (if o = 0x04C then s.showFree else s)
  | .caskCnt => State.perfTrigger o w s
  | .hostQueue => if 0x100 ≤ o then State.queueTrigger (16 * i + (o - 0x100) / 0x40) (o % 0x40) w old s else s
  | .hostEgress => State.egTrigger i o w old s
  | .qspi => State.qspiTrigger o w s
  | .guardGlobal => State.guardTrigger o w s
  | .guardRule => State.ruleTrigger i o w old s
  | .svc => State.svcTrigger o w s
  | _ => s

/-- CNT_CLR, then what else the write starts. -/
def State.wrote (k : PageKind) (i o : Nat) (w : Word) (old s : State) : State :=
  if o < 0x040 then s
  else
    let clr := match clearRanges k i with
      | some (c, _) => o == c && bitOf w.toNat 0
      | none => false
    State.started k i o w old (if clr then s.clearCounters k i else s)

/-! ### A write of a register -/

/-- The write of a word at a BAR0 offset, with the result. A PAGE_CTL write runs the page state machine and what the
block does on it; an SRST that the owner ignores is none (R48, R519). -/
def State.busReg (who : Writer) (off0 : Nat) (w : Word) (s : State) : State × WriteResult :=
  let off := off0 / 4 * 4
  let o := off % 0x1000
  match pageOf (off / 0x1000) with
  | none => s.regWrite off w
  | some (k, i) =>
        let w' := if o = 0x00C ∧ s.srstIgnored k i ∧ !s.ctlLocked k i then w &&& ~~~(2#32) else w
    match s.regWrite off w' with
    | (t, .accepted) =>
      let t1 := t.noteOverride who off w.toNat
      (if o = 0x00C then State.pageChanged s t1 k i else State.wrote k i o w s t1, .accepted)
    | (t, r) => (t, r)

/-- Whether a write leaves a field of a register unchanged because of the lock (R54), PAGE_CTL under LOCK_CTL included.
-/
def State.lockRefuses (s : State) (off0 : Nat) (w : Word) : Bool :=
  let off := off0 / 4 * 4
  match pageOf (off / 0x1000) with
  | none => false
  | some (k, i) =>
    let o := off % 0x1000
    if !s.alive k i ∨ absentReg s.grade k i o then false
    else if o < 0x040 then
      o == 0x00C && !k.noState && s.ctlLocked k i && s.ctlDiffers k i w.toNat
    else
      match descAt k o with
      | none => false
      | some d =>
        let b := pageBase k i
        (d.fields.foldl (fieldEffect s b o w.toNat (s.on b hdrLock)) ⟨(s.rd (b + o)).toNat, false, false⟩).violated

/-! ### A write of a BAR2 word -/

/-- The domain whose memory holds a BAR2 offset (log entry 95). -/
def bar2Domain (off : Nat) : Nat :=
  if 0x04000000 ≤ off ∧ off < 0x04100000 then 4
  else if 0x04100000 ≤ off ∧ off < 0x04200000 then 5
  else if 0x0A000000 ≤ off ∧ off < 0x0B000000 then pageDomain .ktl ((off - 0x0A000000) / 0x400000)
  else if 0x20000000 ≤ off then 14
  else 3

/-- A word of the message-object region (Table 7-3): W7 has its own rules (R216), reserved bits stay 0, and a change of
W0 under a pending request is checked (R222). -/
def State.objWrite (s : State) (off v : Nat) : State :=
  if off < 0x07040000 then
    let k := (off - 0x07000000) / 32
    let i := off % 32 / 4
    if i = 7 then s.w7Write k (BitVec.ofNat 32 v)
    else
      let s1 := s.b2wr off (natAnd v (objWordMask i))
      if i = 0 ∧ s1.objTx k ∧ s1.objReq k ∧ s1.canBad k then s1.canRequested k else s1
  else s.b2wr off v

/-- Whether a BAR2 offset holds a word of a Kettle memory (Table 10-5). -/
def State.ktlWord (s : State) (off : Nat) : Bool :=
  let o := (off - 0x0A000000) % 0x400000
  0x0A000000 ≤ off && off < 0x0B000000 && (off - 0x0A000000) / 0x400000 < s.grade.clusters
    && (o < 0x10000 || (0x100000 ≤ o && o < 0x140000) || (0x200000 ≤ o && o < 0x220000))

/-- What an access finds in the first word of a Kettle memory, or line of LPDDR4X, that it reads: `ecc` 1 a single-bit
error, which is corrected and counted, 2 one that cannot be corrected (R306, R330; log entries 48 and 53). -/
def State.wordEcc (s : State) (off ecc : Nat) : State :=
  let a := off / 4 * 4
  if s.ktlWord a then
    let b := ktB ((a - 0x0A000000) / 0x400000)
    if !s.domOn (bar2Domain a) then s
    else if ecc = 1 then
      s.inc b (if (a - 0x0A000000) % 0x400000 < 0x10000 then F.ktl_IMEM_CORR_COUNT else F.ktl_DMEM_CORR_COUNT)
    else if ecc = 2 then s.ktlSpoil a else s
  else s.apertureEcc off ecc

/-- A word of the Kettle region, which is good then (R330); absent clusters and reserved offsets ignore it. -/
def State.ktlMemWrite (s : State) (off v : Nat) : State :=
  if s.ktlWord off then (s.b2wr off v).ktlMend off 4 else s

/-- The write of a word at a BAR2 offset: the alias of BAR0, the read-only regions and what holds nothing ignore it
(R43, R44). -/
def State.bar2Write (who : Writer) (off0 : Nat) (w : Word) (s0 : State) : State :=
  let off := off0 / 4 * 4
  let v := w.toNat
  if off < 0x04000000 ∨ !s0.domOn (bar2Domain off) then s0
  else
    let s := s0.noteOverride who (0x40000000 + off) v
    if off < 0x06000000 then s.fwdWrite off v
    else if off < 0x07000000 then s.routeWrite off v
    else if off < 0x08000000 then s.objWrite off v
    else if off < 0x0A000000 then s.sigWrite off v
    else if off < 0x0B000000 then s.ktlMemWrite off v
    else if 0x20000000 ≤ off ∧ off < 0x40000000 then s.apertureWrite (off - 0x20000000) (leBytes 4 v) false
    else s

/-- The word that byte enables make of a word written over one that is held. -/
def enabled (be old v : Nat) : Nat :=
  leNat ((List.range 4).map fun i => BitVec.ofNat 8 (byteAt (leBytes 4 (if bitOf be i then v else old)) i))

/-- A word whose byte enables are not all set: the bytes of the rest stay, as BAR2 reads them (log entry 132). In a
Kettle memory an uncorrectable word is read first: the write is discarded and counted (R330). -/
def State.bar2Partial (who : Writer) (off0 : Nat) (w : Word) (be : Nat) (s : State) : State :=
  let off := off0 / 4 * 4
  if s.ktlWord off ∧ s.ktlBad.contains off ∧ s.domOn (bar2Domain off) then
    let c := (off - 0x0A000000) / 0x400000
    if (off - 0x0A000000) % 0x400000 < 0x10000 then
      (s.inc (ktB c) F.ktl_IMEM_UNCORR_COUNT).raise (355 + 8 * c) 0
    else (s.inc (ktB c) F.ktl_DMEM_UNCORR_COUNT).raise (355 + 8 * c) 1
  else State.bar2Write who off (BitVec.ofNat 32 (enabled be (s.b2w off) w.toNat)) s

/-- The bytes that a write request's words make of those that LPDDR4X holds behind an offset of the aperture. -/
def State.lineBytes (s : State) (off : Nat) (ws : List (Word × Nat)) : Bytes :=
  (numbered 0 ws).flatMap fun x =>
    leBytes 4 (enabled x.2.2 (leNat (s.ddrBytes (s.apertureAt (off - 0x20000000 + 4 * x.1)) 4)) x.2.1.toNat)

/-- The words of a write request, with their byte enables, that fall in one line of LPDDR4X are one write of it (R306);
elsewhere a word is written by itself. -/
def State.bar2Line (who : Writer) (off : Nat) (ws : List (Word × Nat)) (s : State) : State :=
  if ws.all fun x => x.2 == 0 then s
  else if 0x20000000 ≤ off ∧ off < 0x40000000 then
    if s.domOn 14 then
      let s1 := (numbered 0 ws).foldl (fun (a : State) x => a.noteOverride who (0x40000000 + off + 4 * x.1) x.2.1.toNat) s
      s1.apertureWrite (off - 0x20000000) (s1.lineBytes off ws) (ws.length == 16 && ws.all fun x => x.2 == 15)
    else s
  else
    ws.foldl (fun (a : State) x => if x.2 = 15 then State.bar2Write who off x.1 a else State.bar2Partial who off x.1 x.2 a) s

/-- A write request to BAR2 of words from `off` on, line by line and in rising order (R45). -/
def State.bar2Words (who : Writer) : Nat → Nat → List (Word × Nat) → State → State
  | 0, _, _, s => s
  | n + 1, off, ws, s =>
    let k := if 0x20000000 ≤ off then 16 - off % 64 / 4 else 1
    State.bar2Words who n (off + 4 * k) (ws.drop k) (State.bar2Line who off (ws.take k) s)

/-- Whether a write request at `off` reads first: its first word, or line of LPDDR4X, is not covered whole. -/
def partly (off : Nat) (ws : List (Word × Nat)) : Bool :=
  if 0x20000000 ≤ off then off % 64 != 0 || ws.length < 16 || !(ws.take 16).all fun x => x.2 == 15
  else (ws.head?.map fun x => x.2 != 15 && x.2 != 0).getD false

/-! ### A write at an address of the 32-bit form (R65) -/

/-- The write, and whether it was rejected. -/
def State.busWrite (who : Writer) (addr : Nat) (w : Word) (s : State) : State × Bool :=
  match placeOf addr with
  | .bar0 off => let r := State.busReg who off w s; (r.1, r.2 == .rejected)
  | .bar2 off => (State.bar2Write who off w s, false)
  | .nowhere => (s.reject (bitsOf addr 25 0), true)

/-- A host write of a register with all that it starts. -/
def State.hostReg (s : State) (off : Nat) (w : Word) : State := (State.busReg .host off w s).1

end Sys2Proof.Machine
end

