-- ==== Sys2Proof/Machine/Register.lean ====
section
/-! DEFINITION. The commands of Chapter 2: register and table accesses, PAGE_CTL and PAGE_LOCK, counters and events, and
HSPI transactions. -/

namespace Sys2Proof.Machine

/-! ### BAR0 and BAR2 (R42, R43, R62) -/

/-- REGISTER_WRITE: a BAR0 write of `ndw` words with first byte enables `be`; only one word with 0xF is accepted (R42).
-/
def execRegisterWrite (off : Nat) (w : Word) (be ndw : Nat) (s : State) : Answer :=
  let off := off % 2 ^ 26
  .next (if be = 15 ∧ ndw = 1 then s.hostReg off w else s.reject off)

/-- `n` words read from a BAR0 offset on; `pop` holds for the first (R61). -/
def State.readRegs (s : State) (off : Nat) (pop : Bool) : Nat → List Nat × State
  | 0 => ([], s)
  | n + 1 =>
    let r := s.regRead (off % 2 ^ 26) pop
    let t := r.2.readRegs (off + 4) false n
    (r.1 :: t.1, t.2)

/-- `n` words of a read request from a BAR2 offset on; `again`: an earlier word of the line of the first has been read.
-/
def State.readTable (s : State) (off : Nat) (again : Bool) : Nat → List Nat × State
  | 0 => ([], s)
  | n + 1 =>
    let r := s.bar2Read (off % 2 ^ 30) again
    let t := r.2.readTable (off + 4) ((off + 4) % 64 != 0) n
    (r.1 :: t.1, t.2)

/-- BAR0_LONG_READ: a read of `ndw` words. Of BAR0 more than 2 end with Unsupported Request and read nothing (R42); of
BAR2 (`bar2`) any number is completed (R45), with `ecc` as what its first line of LPDDR4X, or word of a Kettle memory,
is found to hold (R306, R330). With PD3 off no read reaches the device (Table 13-2; log entry 100). -/
def execBar0LongRead (off ndw : Nat) (bar2 : Bool) (ecc : Nat) (s : State) : Answer :=
  if !s.domOn 3 then .next s
  else if bar2 then
    let off := off / 4 * 4 % 2 ^ 30
    let r := (s.wordEcc off ecc).readTable off false ndw
    .next (r.2.emit (.readData r.1))
  else if 2 < ndw then .next (s.emit .unsupportedRequest)
  else
    let r := s.readRegs (off / 4 * 4) true ndw
    .next (r.2.emit (.readData r.1))

/-- The words of a write request with the byte enables of its first and last. -/
def enables (w : Word) (be : Nat) : List Word → Nat → List (Word × Nat)
  | [], _ => [(w, be)]
  | more, lastBe => (w, be) :: (more.dropLast.map fun v => (v, 15)) ++ (more.getLast?.toList.map fun v => (v, lastBe))

/-- TABLE_WORD_WRITE: a host's write request to BAR2: a word, or `more` after it, with the first and last byte enables
(R43, R45, R170, R171, R306). `ecc`: what a write that does not cover its first line of LPDDR4X, or word of a Kettle
memory, finds there (R306, R330). -/
def execTableWordWrite (off : Nat) (w : Word) (be : Nat) (more : List Word) (lastBe ecc : Nat) (s : State) : Answer :=
  let a := off / 4 * 4 % 2 ^ 30
  let ws := enables w be more lastBe
  .next (if s.domOn 3 then
    State.bar2Words .host (more.length + 1) a ws (if partly a ws then s.wordEcc a ecc else s) else s)

/-- A register access times out (R62). -/
def State.accessTimeout (s : State) (isWrite : Bool) (off : Nat) : State :=
  let b := pageBase .sys 0
  if s.domOn 3 then ((s.inc b F.sys_BUS_ERR_TMO_CNT).pf b F.sys_BUS_ERR_ADDR_OFFSET off).raise 0 (b2n isWrite) else s

/-- A write that times out may or may not have taken effect (R62): a free value says which. -/
def State.lateWrite (who : Writer) (off : Nat) (w : Word) (s : State) : State :=
  let r := s.fresh 1
  let s1 := if r.1 = 1 then (State.busReg who off w r.2).1 else r.2
  s1.accessTimeout true off

/-- REGISTER_ACCESS_TIMEOUT: an access by the host receives no answer within TMO_CYC cycles; `w` is the word of a write.
Whether a read that times out has popped an RC register is open in R62: here it has not (DESIGN CHOICE, log entry 119).
-/
def execRegisterAccessTimeout (off : Nat) (w : Option Word) (s : State) : Answer :=
  let off := off % 2 ^ 26
  match w with
  | some v => .next (State.lateWrite .host off v s)
  | none => .next (if s.domOn 3 then (s.accessTimeout false off).emit (.readData [0xFFFFFFFF]) else s)

/-! ### PAGE_CTL and PAGE_LOCK (R48 to R54) -/

/-- A host write of PAGE_CTL of the page at BAR0 page number `page` that changes one field and repeats EN and QUIESCE
as they stand. -/
def State.pageWrite (s : State) (page hi lo v : Nat) : State :=
  let off := 0x1000 * page + 0x00C
  s.hostReg off (BitVec.ofNat 32 (putBits (bitsOf (s.peekReg off) 2 0) hi lo v))

/-- PAGE_ENABLE: EN takes the value given. -/
def execPageEnable (page : Nat) (en : Bool) (s : State) : Answer := .next (s.pageWrite page 0 0 (b2n en))

/-- PAGE_QUIESCE: QUIESCE takes the value given. -/
def execPageQuiesce (page : Nat) (q : Bool) (s : State) : Answer := .next (s.pageWrite page 2 2 (b2n q))

/-- PAGE_SRST: SRST is written 1. -/
def execPageSrst (page : Nat) (s : State) : Answer := .next (s.pageWrite page 1 1 1)

/-- PAGE_LOCK_WRITE. -/
def execPageLockWrite (page : Nat) (w : Word) (s : State) : Answer := .next (s.hostReg (0x1000 * page + 0x024) w)

/-- CNT_CLR: the host writes the register at `off` that holds a CLR bit. -/
def execCntClr (off : Nat) (w : Word) (s : State) : Answer := .next (s.hostReg (off % 2 ^ 26) w)

/-! ### Events (R69 to R77) -/

/-- EVT_PEND_CLEAR: the host writes EVT_PEND; the sources of the page in `again` occur in the same cycle and stay
pending (R71). -/
def execEvtPendClear (page : Nat) (w : Word) (again : List (Nat × Nat)) (s : State) : Answer :=
  match pageOf page with
  | none => .next (s.hostReg (0x1000 * page + 0x01C) w)
  | some (k, i) =>
    let here := again.filter fun x => match sourceHome x.1 with
      | some (k', i', _) => k' == k && i' == i
      | none => false
    let bits := maskOf (here.map fun x => match sourceHome x.1 with
      | some (_, _, b) => b
      | none => 32)
    let v := w.toNat - natAnd w.toNat bits
    let s1 := s.hostReg (0x1000 * page + 0x01C) (BitVec.ofNat 32 v)
    .next (here.foldl (fun (a : State) x => a.raise x.1 x.2) s1)

/-- The level sources of the specification. -/
def levelSource (n : Nat) : Bool :=
  [2, 3, 7, 8, 37, 38, 47, 296, 323, 326, 416, 419, 420, 448, 453, 461, 463].contains n
    || (128 ≤ n && n < 192 && n % 4 < 2) || (192 ≤ n && n < 208 && n % 2 == 1) || (352 ≤ n && n < 384 && n % 8 == 5)

/-- EVENT_OCCURRENCE: source EVn occurs; a level source rises (R69; log entry 97). -/
def execEventOccurrence (n detail : Nat) (s : State) : Answer :=
  .next (if levelSource n then s.level n true detail else s.raise n detail)

/-- GRP_EOI: the host writes GRP_EOI. -/
def execGrpEoi (w : Word) (s : State) : Answer := .next (s.hostReg 0x10084 w)

/-- LOG_POP: a BAR0 read of one or two words at LOG_POP. -/
def execLogPop (ndw : Nat) (s : State) : Answer := .next (s.popRead .evt 0 0x10094 ndw State.popLog)

/-- LOG_OVF_CLEAR: the host writes 1 to LOG_STS.OVF. -/
def execLogOvfClear (s : State) : Answer := .next (s.hostReg 0x1008C 0x10000)

/-! ### HSPI (R65 to R68) -/

/-- The register bus is available to HSPI (Table 2-8). -/
def State.hspiUp (s : State) : Bool := s.domOn 3 && s.domOn 13

/-- Sets the HSPI target's state. -/
def State.setHspi (s : State) (h : Hspi) : State := { s with hspi := h }

/-- Applies the oldest buffered word, with the rest of its line where a transaction covers the whole line and all of it
is buffered (R306); `late`: its access times out. -/
def State.hspiApply (s : State) (late : Bool) : State :=
  match s.hspi.buf with
  | [] => s
  | (addr, data, whole) :: rest =>
    let s1 := s.setHspi { s.hspi with buf := rest }
    let w : Word := BitVec.ofNat 32 data
    let line := (rest.take 15).map fun x => ((BitVec.ofNat 32 x.2.1 : Word), 15)
    match placeOf addr, late with
    | .bar2 off, _ =>
      let follows := (rest.take 15).map (·.1) == (List.range 15).map fun i => addr + 4 * i + 4
      if whole ∧ follows ∧ 0x20000000 ≤ off ∧ off < 0x40000000 then
        State.bar2Words .host 1 off ((w, 15) :: line) (s.setHspi { s.hspi with buf := rest.drop 15 })
      else (State.busWrite .host addr w s1).1
    | .bar0 off, true => (State.lateWrite .host off w s1).setHspi { s1.hspi with tmo := true }
    | _, _ => (State.busWrite .host addr w s1).1

/-- Applies `n` buffered words in order. -/
def State.hspiDrain (s : State) : Nat → State
  | 0 => s
  | n + 1 => (s.hspiApply false).hspiDrain n

/-- A transaction, or a word of one, at an address in no space sets ADDR_ERR (R65). -/
def State.hspiPlace (s : State) (addr : Nat) : State :=
  if placeOf addr = .nowhere then s.setHspi { s.hspi with addrErr := true } else s

/-- One word of a READ burst, the first or a later one; `late`: the access times out. -/
def State.hspiWord (s : State) (addr : Nat) (first late : Bool) : Nat × State :=
  match placeOf addr with
  | .nowhere => (0, s.hspiPlace addr)
  | .bar2 off => s.bar2Read off (!first && off % 64 != 0)
  | .bar0 off =>
    if late then (0xFFFFFFFF, (s.accessTimeout false off).setHspi { s.hspi with tmo := true })
    else s.regRead (off / 4 * 4) first

/-- Word `i` and the following `n - 1` words of a READ burst at `addr` (R67). -/
def State.hspiWords (s : State) (addr i : Nat) (late : List Nat) : Nat → List Nat × State
  | 0 => ([], s)
  | n + 1 =>
    let r := s.hspiWord ((addr + 4 * i) % 2 ^ 32) (i == 0) (late.contains i)
    let t := r.2.hspiWords addr (i + 1) late n
    (r.1 :: t.1, t.2)

/-- What a READ transaction finds in its first line of LPDDR4X or word of a Kettle memory. -/
def State.hspiEcc (s : State) (addr ecc : Nat) : State :=
  match placeOf addr with
  | .bar2 off => s.wordEcc off ecc
  | _ => s

/-- `n` fresh words. -/
def State.freshWords (s : State) : Nat → List Nat × State
  | 0 => ([], s)
  | n + 1 =>
    let r := s.fresh 32
    let t := r.2.freshWords n
    (r.1.toNat :: t.1, t.2)

/-- HSPI_READ: a READ transaction of `n` words; the words in `late` time out. Buffered writes are applied first (R68).
Without the register bus the words are open (log entry 96). `ecc`: what the first line of LPDDR4X read is found to hold
(R306). -/
def execHspiRead (addr n : Nat) (late : List Nat) (ecc : Nat) (s : State) : Answer :=
  if s.hspiUp then
    let s0 := ((s.hspiDrain s.hspi.buf.length).hspiPlace (addr % 2 ^ 32)).hspiEcc (addr % 2 ^ 32) ecc
    let r := s0.hspiWords (addr % 2 ^ 32) 0 late n
    .next (r.2.emit (.readData r.1))
  else
    let r := s.freshWords n
    .next (r.2.emit (.readData r.1))

/-- A word of a WRITE transaction reaches the buffer: ADDR_ERR for an address in no space, WR_DROP where it is full. -/
def State.hspiTake (s : State) (addr data : Nat) (whole : Bool) : State :=
  let h1 := (s.hspiPlace addr).hspi
  s.setHspi (if h1.buf.length < 16 then { h1 with buf := h1.buf ++ [(addr, data, whole)] } else { h1 with wrDrop := true })

/-- The words of a WRITE transaction: before each, the device has applied some of those buffered. -/
def State.hspiPut (s : State) (addr : Nat) : List (Nat × Nat) → State
  | [] => s
  | (applied, data) :: rest =>
    ((s.hspiDrain applied).hspiTake addr (data % 2 ^ 32) (addr % 64 == 0 && decide (15 ≤ rest.length))).hspiPut
      ((addr + 4) % 2 ^ 32) rest

/-- HSPI_WRITE: a WRITE transaction; each word with the number of buffered words applied since the previous one, and the
nibbles of an incomplete last word (R68). -/
def execHspiWrite (addr : Nat) (words : List (Nat × Nat)) (nibbles : Nat) (s : State) : Answer :=
  if s.hspiUp then
    let s1 := (s.hspiPlace (addr % 2 ^ 32)).hspiPut (addr % 2 ^ 32) words
    .next (if nibbles % 8 = 0 then s1 else s1.setHspi { s1.hspi with partialWord := true })
  else .next s

/-- HSPI_WRITE_APPLY: the oldest buffered word is applied; `late`: its access times out. -/
def execHspiWriteApply (late : Bool) (s : State) : Answer := .next (if s.hspiUp then s.hspiApply late else s)

/-- The status byte (Table 2-8). -/
def State.hspiStatus (s : State) : Nat :=
  128 * b2n s.hspiUp + 16 * b2n (s.hspi.buf != []) + 8 * b2n s.hspi.tmo + 4 * b2n s.hspi.partialWord
    + 2 * b2n s.hspi.addrErr + b2n s.hspi.wrDrop

/-- READ_STATUS. -/
def execReadStatus (s : State) : Answer := .next (s.emit (.hspiStatus s.hspiStatus))

/-- CLEAR_STATUS: status bits [3:0]. -/
def execClearStatus (s : State) : Answer := .next (s.setHspi ⟨s.hspi.buf, false, false, false, false⟩)

/-- HSPI_UNKNOWN_COMMAND: a transaction that consists of its command byte. READ_STATUS and CLEAR_STATUS need no more; a
READ or WRITE that ends before its address names no word; any other code is ignored until HSPI_CS_N rises (R66). -/
def execHspiUnknownCommand (code : Nat) (s : State) : Answer :=
  if code % 256 = 0x05 then execReadStatus s
  else if code % 256 = 0x06 then execClearStatus s
  else .next s

end Sys2Proof.Machine
end

