-- ==== Sys2Proof/Machine/Remote.lean ====
section
/-! DEFINITION. Accesses that are executed for others: scheduled writes (R356) and remote access requests (R273). -/

namespace Sys2Proof.Machine

/-- A write at an address of the 32-bit form that may time out, and whether it failed. -/
def State.busWriteLate (who : Writer) (addr : Nat) (w : Word) (late : Bool) (s : State) : State × Bool :=
  match placeOf addr, late with
  | .bar0 off, true => (State.lateWrite who off w s, true)
  | _, _ => State.busWrite who addr w s

/-! ### Scheduled writes (R356) -/

/-- The cycle at which a slot became due, the next one where no tick has passed since. -/
def State.slotDue (s : State) (x : Slot) : Nat := x.due.getD (s.cycles + 1)

/-- Whether slot y writes before slot x: the one that became due at an earlier tick, and slots due at one tick in
ascending order (R356). -/
def State.slotBefore (s : State) (y x : Nat × Slot) : Bool :=
  s.slotDue y.2 < s.slotDue x.2 || (s.slotDue y.2 == s.slotDue x.2 && y.1 < x.1)

/-- SLOT_FIRE: slot k, which is due, writes DATA to ADDR as a host write; `late`: the write times out. -/
def execSlotFire (k : Nat) (late : Bool) (s : State) : Answer :=
  match s.timed.slots.find? (fun x => x.1 == k) with
  | none => .next s
  | some x =>
    let due := s.timed.slots.filter fun y => y.2.due.isSome || y.2.at_ ≤ s.now
    if s.run .timeSched 0 ∧ due.contains x ∧ !(due.any fun y => s.slotBefore y x) then
      let w : Word := BitVec.ofNat 32 x.2.data
      let lock := s.lockRefuses x.2.addr w
      let r := State.busWriteLate .host x.2.addr w late s
      let err := r.2 || lock
      let s1 := r.1.setSlots (r.1.timed.slots.filter fun y => y.1 != k)
      let set (a : State) (f : Fld) (v : Bool) : State := if v then a.pf tsB (f.at (32 * k)) 1 else a
      let s2 := s1.pf tsB (F.timeSched_SLOT_CTL_ARM.at (32 * k)) 0
      let s3 := set (set (set s2 F.timeSched_SLOT_CTL_FIRED true) F.timeSched_SLOT_CTL_LATE x.2.late) F.timeSched_SLOT_CTL_ERR err
      .next (s3.raise 40 (128 * b2n x.2.late + 64 * b2n err + k))
    else .next s

/-! ### Remote access (R273) -/

/-- A request is executed on this unit's register bus: state, STATUS, data read. -/
def State.raccExecute (s : State) (r : RaccReq) (late : Bool) : State × Nat × Nat :=
  if r.op = 0 then
    match placeOf r.addr, late with
    | .bar0 off, true => (s.accessTimeout false off, 2, 0xFFFFFFFF)
    | _, _ =>
      let x := s.busRead r.addr true
      (x.2.2, if x.2.1 then 0 else 1, x.1)
  else
    let x := State.busWriteLate .host r.addr (BitVec.ofNat 32 r.wdata) late s
    (x.1, match placeOf r.addr, late with
      | .nowhere, _ => 1
      | .bar0 _, true => 2
      | _, _ => 0, 0)

/-- What a unit does with a request that has come from `origin` (16: its own): it executes it and answers, sends it on,
or answers that there is no way (R273). A posted write has no answer; the unit's own is DONE with STATUS 0. -/
def State.raccHandle (s : State) (origin : Nat) (r : RaccReq) (late : Bool) : State :=
  let reply (a : State) (st v : Nat) : State :=
    if r.op = 1 then (if origin = 16 then a.raccReply 16 0 0 false else a) else a.raccReply origin st v (r.op == 0)
  match s.raccHop r with
  | .here => let x := s.raccExecute r late; reply x.1 x.2.1 x.2.2
  | .lane n => s.raccSend n r origin
  | .nowhere => reply s 3 0

/-- RACC_REQUEST_RX: a request arrives on a lane that is UP; lane 16 names this unit's own pending request. `late`: its
access times out. -/
def execRaccRequestRx (lane : Nat) (path : List Nat) (depth twin op addr wdata : Nat) (late : Bool) (s : State) : Answer :=
  if lane = 16 then
    match s.jal.own with
    | none => .next s
    | some r =>
      let s1 : State := { s with jal := { s.jal with own := none } }
      .next (s1.raccHandle 16 r late)
  else if s.laneOn lane ∧ s.jlUp lane then .next (s.raccHandle lane ⟨path, depth, twin, op, addr, wdata⟩ late)
  else .next s

end Sys2Proof.Machine
end

