-- ==== Sys2Proof/Machine/Cellarer.lean ====
section
/-! DEFINITION. The Cellarer (R476 to R483): its evaluation cycle and its nine actions. -/

namespace Sys2Proof.Machine

/-! ### The evaluation cycle (R476 to R479) -/

/-- A rule that has taken no sample. -/
def RuleSt.new : RuleSt := ⟨true, 0, 0, 0, 0, 0⟩

/-- Sampling state of rule r. -/
def State.ruleSt (s : State) (r : Nat) : RuleSt := look (fun _ => RuleSt.new) s.guard.rules r

def State.setRule (s : State) (r : Nat) (x : RuleSt) : State :=
  { s with guard := { s.guard with rules := put (fun _ => RuleSt.new) s.guard.rules r x } }

/-- A field of rule r. -/
def State.ruleF (s : State) (r : Nat) (f : Fld) : Nat := s.gf (pageBase .guardRule (r / 64)) (f.at (32 * (r % 64)))

/-- Sets a field of rule r. -/
def State.ruleP (s : State) (r : Nat) (f : Fld) (v : Nat) : State :=
  s.pf (pageBase .guardRule (r / 64)) (f.at (32 * (r % 64))) v

/-- The enabled rules, ascending (R476). -/
def State.rulesOn (s : State) : List Nat := (List.range 256).filter fun r => s.ruleF r F.guardRule_RULE_CTL_EN == 1

/-- The samples v of the rules; none where the sample times out (R477). -/
def State.sampleRules (s : State) (skips : List Nat) : List Nat → List (Nat × Option Nat) × State
  | [] => ([], s)
  | r :: rs =>
    let src := s.ruleF r F.guardRule_SRC_ADDR
    let x : Option Nat × State :=
      if skips.contains r then
        let s1 := s.inc guB F.guardGlobal_SAMPLE_ERR_COUNT
        (none, match placeOf src with
          | .bar0 off => s1.accessTimeout false off
          | _ => s1)
      else
        let v := s.busPeek src
        (some (natAnd v.1 (s.ruleF r F.guardRule_MASK_MASK)), v.2)
    let t := x.2.sampleRules skips rs
    ((r, x.1) :: t.1, t.2)

/-- The quantity that a rule compares (R478). -/
def RuleSt.quantity (x : RuleSt) (kind v : Nat) : Nat :=
  match kind with
  | 1 => (v + 2 ^ 32 - x.prev) % 2 ^ 32
  | 2 => (v + 2 ^ 32 - x.ref) % 2 ^ 32
  | _ => v

/-- The comparison of CMP (R478). -/
def ruleHolds (cmp q thresh : Nat) : Bool :=
  match cmp with
  | 0 => decide (thresh < q)
  | 1 => decide (q < thresh)
  | 2 => q == thresh
  | _ => q != thresh

/-- A rule fires: its action is queued where the queue has room (R479, R480). -/
def State.ruleFire (s : State) (r : Nat) : State :=
  if s.guard.queue.length < 256 then
    let a : GuardAct := ⟨r, s.ruleF r F.guardRule_RULE_CTL_ACTION, s.ruleF r F.guardRule_TARGET_ADDR, s.ruleF r F.guardRule_VALUE_VALUE⟩
    let s1 : State := { s with guard := { s.guard with queue := s.guard.queue ++ [a] } }
    let n := s1.ruleF r F.guardRule_FIRES_COUNT
    (s1.ruleP r F.guardRule_RULE_CTL_LATCHED 1).ruleP r F.guardRule_FIRES_COUNT (n + 1)
  else s

/-- The evaluation of a rule with its sample (R478, R479). -/
def State.evalRule (s : State) (r : Nat) (sample : Option Nat) : State :=
  let x := s.ruleSt r
  match sample with
  | none => if x.fresh then s else s.setRule r { x with win := x.win + 1 }
  | some v =>
    if x.fresh then s.setRule r ⟨false, v, v, 0, 0, 0⟩
    else
      let width := s.ruleF r F.guardRule_WINDOW_CYCLES
      let w := x.win + 1
      let x1 : RuleSt := if width ≤ w then { x with ref := v, win := w % width } else { x with win := w }
      let holds := ruleHolds (s.ruleF r F.guardRule_RULE_CTL_CMP) (x1.quantity (s.ruleF r F.guardRule_RULE_CTL_KIND) v)
        (s.ruleF r F.guardRule_THRESH_VALUE)
      let x2 : RuleSt := { x1 with prev := v, held := if holds then x1.held + 1 else 0, failed := if holds then 0 else x1.failed + 1 }
      let s1 := s.setRule r x2
      let rearm := s.ruleF r F.guardRule_RULE_CTL_REARM
      if s.ruleF r F.guardRule_RULE_CTL_LATCHED = 1 then
        (if rearm ≠ 0 ∧ rearm ≤ x2.failed then s1.ruleP r F.guardRule_RULE_CTL_LATCHED 0 else s1)
      else if s.ruleF r F.guardRule_RULE_CTL_HOLD ≤ x2.held then s1.ruleFire r
      else s1

/-- How many of the sampled rules are evaluated: a skipped and a first sample are not (R477, R478). -/
def State.evaluated (s : State) (l : List (Nat × Option Nat)) : Nat :=
  (l.filter fun x => x.2.isSome && !(s.ruleSt x.1).fresh).length

/-- CELLARER_CYCLE: every enabled rule is sampled, then evaluated, in ascending order; the samples in `skips` time out.
EVALS counts rule evaluations, as event 0x0A0 does (Tables 14-7, 16-7; log entry 93). -/
def execCellarerCycle (skips : List Nat) (s : State) : Answer :=
  if s.run .guardGlobal 0 then
    let r := s.sampleRules skips s.rulesOn
    let s1 := r.1.foldl (fun (a : State) x => a.evalRule x.1 x.2) r.2
    let n := s.evaluated r.1
    .next ((s1.addWrap guB F.guardGlobal_EVALS_COUNT n).perf 0x0A0 0 n)
  else .next s

/-- RULE_CLEAR: the host writes CLR of rule r (R479). -/
def execRuleClear (r : Nat) (s : State) : Answer :=
  if r < 256 then
    let off := pageBase .guardRule (r / 64) + 0x100 + 32 * (r % 64)
    .next (s.hostReg off (s.rd off ||| 0x40000000#32))
  else .next s

/-! ### Actions (R480 to R482, Table 16-6) -/

/-- The oldest queued action, where it has the code. -/
def State.action (s : State) (code : Nat) (f : GuardAct → State → State) : State :=
  match s.guard.queue with
  | [] => s
  | a :: rest => if a.code = code then f a { s with guard := { s.guard with queue := rest } } else s

/-- A Cellarer write of a register, and whether it failed: rejected, timed out, or kept from a field by the lock (R482).
-/
def State.cellarerWrite (s : State) (off : Nat) (w : Word) (late : Bool) : State × Bool :=
  let lock := s.lockRefuses off w
  let r := State.busWriteLate .cellarer off w late s
  (r.1, r.2 || lock)

/-- An action that writes a register: the field takes `v`; the record carries `value` and `before`. -/
def State.registerAction (s : State) (a : GuardAct) (off : Nat) (w : Word) (late : Bool) (value before : Nat) : State :=
  let r := s.cellarerWrite off w late
  r.1.actionRecord a.rule a.code r.2 a.target value before (if r.2 then none else some off)

/-- An action that fails before it writes. -/
def State.actionFails (s : State) (a : GuardAct) (value before : Nat) : State :=
  s.actionRecord a.rule a.code true a.target value before none

/-- CELLARER_LOG: the action writes nothing. -/
def execCellarerLog (s : State) : Answer :=
  .next (s.action 0 fun a t => t.actionRecord a.rule 0 false a.target 0 0 none)

/-- CELLARER_EVENT: EV(480 + VALUE[4:0]) is raised with the rule's number. -/
def execCellarerEvent (s : State) : Answer :=
  .next (s.action 1 fun a t =>
    (t.raise (480 + a.value % 32) (a.rule % 256)).actionRecord a.rule 1 false a.target (a.value % 32) 0 none)

/-- Writes words at BAR2 offset `off` on, ascending (R170, R480). -/
def State.tableWords (s : State) (off : Nat) : List Nat → State
  | [] => s
  | v :: vs => (State.bar2Write .cellarer off (BitVec.ofNat 32 v) s).tableWords (off + 4) vs

/-- CELLARER_METER: the meter record at TARGET takes CIR ← VALUE[23:0]. -/
def execCellarerMeter (s : State) : Answer :=
  .next (s.action 2 fun a t =>
    let off := a.target - 0x40000000
    let cir := a.value % 2 ^ 24
    if 0x451A0000 ≤ a.target ∧ a.target < 0x451B0000 ∧ a.target % 16 = 0 then
      let b := t.b2Bytes off 16
      let old := byteAt b 0 * 65536 + leAt b 1 2
      let rec' := leBytes 1 (cir / 65536) ++ leBytes 2 (cir % 65536) ++ slice b 3 13
      (t.tableWords off ((List.range 4).map fun i => leAt rec' (4 * i) 4)).actionRecord a.rule 2 false a.target cir old (some a.target)
    else t.actionFails a cir 0)

/-- CELLARER_LISTEN: TRCV_CTL.STATE of the channel at TARGET ← 1. -/
def execCellarerListen (late : Bool) (s : State) : Answer :=
  .next (s.action 3 fun a t =>
    match placeOf a.target with
    | .bar0 off =>
      match pageOf (off / 0x1000) with
      | some (.can, n) =>
        if t.grade.hasPage .can n ∧ off % 0x1000 = 0x060 then
          t.registerAction a off (BitVec.ofNat 32 (putBits (t.rd off).toNat 1 0 1)) late 1 (bitsOf (t.rd off).toNat 1 0)
        else t.actionFails a 1 0
      | _ => t.actionFails a 1 0
    | _ => t.actionFails a 1 0)

/-- Whether a BAR2 offset is that of an FDB entry of a pipe that is on. -/
def State.isFdb (s : State) (off : Nat) : Bool :=
  off % 16 == 0 && ((0x04000000 ≤ off && off < 0x04040400 && s.domOn 4)
    || (0x04100000 ≤ off && off < 0x04140400 && s.domOn 5))

/-- CELLARER_PIN: the valid FDB entry at TARGET is written back with PINNED set. -/
def execCellarerPin (s : State) : Answer :=
  .next (s.action 4 fun a t =>
    match placeOf a.target with
    | .bar2 off =>
      let old := t.b2w (off + 4)
      if t.isFdb off ∧ bitOf old 31 then
        let new := putBits old 29 29 1
        (t.tableWords off [t.b2w off, new, t.b2w (off + 8), t.b2w (off + 12)]).actionRecord a.rule 4 false a.target new old
          (some (a.target + 4))
      else t.actionFails a 0 0
    | _ => t.actionFails a 0 0)

/-- CELLARER_RESEED: RESEED_CTL.REQ ← 1. -/
def execCellarerReseed (late : Bool) (s : State) : Answer :=
  .next (s.action 5 fun a t =>
    t.registerAction a (fabB + 0x054) (t.rd (fabB + 0x054) ||| 2#32) late 1 (t.gf fabB F.fabGlobal_PIN_SEED_SEED))

/-- CELLARER_BATCH: a build of VALUE[7:0] starts; its end flips or fails the action (log entry 93). -/
def execCellarerBatch (late : Bool) (s : State) : Answer :=
  .next (s.action 6 fun a t =>
    let before := t.gf sgB F.sigGlobal_BANK_STS_FG_BATCH
    let w : Word := BitVec.ofNat 32 (2 ^ 31 + a.value % 512)
    let r := t.cellarerWrite (sgB + 0x050) w late
    if !r.2 ∧ r.1.sig.build.isSome ∧ r.1.guard.batch.isNone then
      { r.1 with guard := { r.1.guard with batch := some (a, before) } }
    else r.1.actionFails a (a.value % 256) before)

/-- CELLARER_BLOCK: PORT_BLK.BLOCK at TARGET ← 1. -/
def execCellarerBlock (late : Bool) (s : State) : Answer :=
  .next (s.action 7 fun a t =>
    let off := a.target
    if shB + 0x10C ≤ off ∧ off < shB + 0x10C + 16 * 24 ∧ (off - shB - 0x10C) % 16 = 0 then
      t.registerAction a off 1 late 1 (bitsOf (t.rd off).toNat 0 0)
    else t.actionFails a 1 0)

/-- CELLARER_DEGRADE: DEG_REQ takes GO, CAUSE 6, DOMAINS ← VALUE[14:1]. -/
def execCellarerDegrade (late : Bool) (s : State) : Answer :=
  .next (s.action 8 fun a t =>
    let v := 0x80060000 + natAnd a.value 0x7FFE
    t.registerAction a (guB + 0x044) (BitVec.ofNat 32 v) late v (t.rd (guB + 0x048)).toNat)

end Sys2Proof.Machine
end

