-- ==== Sys2Proof/Machine/Tap1149.lean ====
section
/-! DEFINITION. The JTAG port (R507 to R510, Table 17-12) and the pins of the PCIe endpoints (R139, R501). -/

namespace Sys2Proof.Machine

/-- Sets the TAP's state. -/
def State.setJtag (s : State) (j : Jtag) : State := { s with jtag := j }

/-- An instruction is shifted in: the instruction register captures 0b0000_0001, which shifts out (R507). -/
def State.tapIr (s : State) (code : Nat) : State := (s.emit (.tdo 8 1)).setJtag { s.jtag with ir := code }

/-- An instruction whose data register is the boundary register: the balls' levels are captured and `shift` is loaded.
-/
def State.boundaryScan (s : State) (code balls shift : Nat) : State :=
  ((s.tapIr code).emit (.tdo 345 (balls % 2 ^ 345))).setJtag { s.jtag with ir := code, boundary := shift % 2 ^ 345 }

/-- EXTEST: the chained balls follow the boundary register. -/
def execExtest (balls shift : Nat) (s : State) : Answer := .next (s.boundaryScan 0x00 balls shift)

/-- SAMPLE_PRELOAD. -/
def execSamplePreload (balls shift : Nat) (s : State) : Answer := .next (s.boundaryScan 0x01 balls shift)

/-- IDCODE of a grade (R508). -/
def Grade.idcode (g : Grade) : Nat :=
  match g with
  | .tvx6480 => 0x164800B7
  | .tvx6440 => 0x164400B7
  | .tvx6420 => 0x164200B7

/-- IDCODE. -/
def execIdcode (s : State) : Answer := .next ((s.tapIr 0x02).emit (.tdo 32 s.grade.idcode))

/-- HIGHZ: bypass is selected and the chained balls float. -/
def execHighz (s : State) : Answer := .next ((s.tapIr 0x03).emit (.tdo 1 0))

/-- CLAMP: bypass is selected and the chained balls follow the boundary register. -/
def execClamp (s : State) : Answer := .next ((s.tapIr 0x04).emit (.tdo 1 0))

/-- The codes of Table 17-12 whose data register is not the bypass register alone. -/
def tapListed : List Nat := [0x00, 0x01, 0x02, 0x03, 0x04, 0x40, 0x41]

/-- BYPASS: code 0xFF and every code that Table 17-12 does not list. -/
def execBypass (code : Nat) (s : State) : Answer :=
  .next (if tapListed.contains (code % 256) then s else (s.tapIr (code % 256)).emit (.tdo 1 0))

/-- TAP_TEST_LOGIC_RESET: IDCODE is selected. -/
def execTapTestLogicReset (s : State) : Answer := .next (s.setJtag { s.jtag with ir := 0x02 })

/-- Whether a debug-access request is granted (Table 12-1). -/
def State.debugAllowed (s : State) : Bool :=
  match s.lifecycle with
  | 0 => true
  | 1 => bitOf (s.idf F.kilnId_DEBUG_CFG_ALLOW) 0
  | 2 => bitOf (s.idf F.kilnId_DEBUG_CFG_ALLOW) 1
  | 3 => bitOf (s.idf F.kilnId_DEBUG_CFG_ALLOW) 2
  | _ => false

/-- DBG_REQ: Capture-DR shows GRANTED and REFUSED; Update-DR with the key requests debug access (R364, R509). Each such
request is granted or refused anew; a grant that stands lasts until device reset. -/
def execDbgReq (value : Nat) (s : State) : Answer :=
  let s1 := (s.tapIr 0x40).emit (.tdo 32 (b2n s.jtag.granted + 2 * b2n s.jtag.refused))
  if value = 0x44424751 ∧ s1.alive .kilnMain 0 then
    (if s1.debugAllowed then .next ((s1.setJtag { s1.jtag with granted := true, refused := false }).debugSub)
      else .next (s1.setJtag { s1.jtag with refused := true }))
  else .next s1

/-- The end of a debug access. -/
def State.dbgEnd (s : State) (status addr : Nat) (data : Option Nat) : State :=
  s.setJtag { s.jtag with dbgStatus := status, dbgAddr := addr, dbgData := data.getD s.jtag.dbgData }

/-- The access that an Update-DR of DBG_ACCESS starts, as a host access; `late`: it times out. -/
def State.dbgAccess (s : State) (op addr data : Nat) (late : Bool) : State :=
  let bad : Nat := match placeOf addr, late with
    | .nowhere, _ => 2
    | .bar0 _, true => 2
    | _, _ => 0
  if !s.domOn 3 then s.dbgEnd 2 addr none
  else if op = 1 then
    match placeOf addr, late with
    | .bar0 off, true => (s.accessTimeout false off).dbgEnd 2 addr (some 0xFFFFFFFF)
    | _, _ =>
      let r := s.busRead addr true
      r.2.2.dbgEnd bad addr (some r.1)
  else (State.busWriteLate .host addr (BitVec.ofNat 32 data) late s).1.dbgEnd bad addr none

/-- DBG_ACCESS: Capture-DR shows the last access; Update-DR starts the next (R510). Without a grant it captures 0. -/
def execDbgAccess (op addr data : Nat) (late : Bool) (s : State) : Answer :=
  let s0 := s.tapIr 0x41
  let j := s.jtag
  if j.granted then
    let s1 := s0.emit (.tdo 66 (j.dbgStatus * 2 ^ 64 + j.dbgAddr * 2 ^ 32 + j.dbgData))
    .next (if op = 1 ∨ op = 2 then s1.dbgAccess op (addr % 2 ^ 32) (data % 2 ^ 32) late else s1)
  else .next (s0.emit (.tdo 66 0))

/-! ### PCIe pins and links -/

/-- PERST_RELEASE: PERSTh_N rises; the endpoint trains its link, which PCIE_LINK_CHANGE reports. -/
def execPerstRelease (h : Nat) (s : State) : Answer :=
  .next (if h < 2 then s.setJtag { s.jtag with perst := putBits s.jtag.perst h h 1 } else s)

/-- Lanes of an H port (Table 0-2). -/
def Grade.pcieLanes (g : Grade) : Nat := if g = .tvx6420 then 2 else 4

/-- PCIE_LINK_CHANGE: the link of H port h goes up, with its generation and width, or down; EV461 follows. A link is no
wider than the lanes of the grade (R3). -/
def execPcieLinkChange (h : Nat) (up : Bool) (gen width : Nat) (s : State) : Answer :=
  if h < s.grade.hPorts ∧ s.alive .hostGlobal 0 ∧ (!up ∨ bitOf s.jtag.perst h) then
    let f (a b : Fld) : Fld := if h = 0 then a else b
    let s1 := s.pf hgB (f F.hostGlobal_LINK_H0_UP F.hostGlobal_LINK_H1_UP) (b2n up)
    let s2 := s1.pf hgB (f F.hostGlobal_LINK_H0_GEN F.hostGlobal_LINK_H1_GEN) (if up then gen else 0)
    let s3 := s2.pf hgB (f F.hostGlobal_LINK_H0_WIDTH F.hostGlobal_LINK_H1_WIDTH) (if up then min width s.grade.pcieLanes else 0)
    .next s3.hostLinks
  else .next s

end Sys2Proof.Machine
end

