-- ==== Sys2Proof/Machine/Pins.lean ====
section
/-! DEFINITION. The levels of the digital and bus pins (R502, R503, Table 17-9; R73, R229, R353, R507; log entry 134). -/

namespace Sys2Proof.Machine

/-- Pins, by their numbers where there are several. -/
inductive Pin
  | hspiIo (n : Nat) | hspiCs | hspiSck | tdo | tms | tdi | tck | trst | resetN | perst (h : Nat)
  | int (n : Nat) | fault
  | canTxd (n : Nat) | canRxd (n : Nat) | canStb (n : Nat)
  | qspiCs | qspiSck | qspiIo (n : Nat)
  | ppsOut (k : Nat) | ppsIn (i : Nat)
  | ddrReset | ddrCke (b : Bool)
  | canBus (n : Nat) | linBus (n : Nat) | t1sBus (n : Nat)
  deriving DecidableEq, Repr

/-- What the device does at a pin. `bits`: the block drives the bits of a transfer, which the model holds whole. -/
inductive PinLevel
  | hiZ | low | high | pullUp | pullDown | recessive | ground | bits
  deriving DecidableEq, Repr

/-- The rail of SUPPLY_STS whose absence leaves a pin high-impedance: VIO33 for IO33 and OD33, VIO18 for IO18 (R503). -/
def Pin.rail (p : Pin) : Option Nat :=
  match p with
  | .qspiCs => some 3
  | .qspiSck => some 3
  | .qspiIo _ => some 3
  | .ddrReset => none
  | .ddrCke _ => none
  | .canBus _ => none
  | .linBus _ => none
  | .t1sBus _ => none
  | _ => some 2

/-- The place of a ball in the boundary register: the order of Table 17-1, DDR balls in that of R487 (R507). -/
def Pin.ball (p : Pin) : Option Nat :=
  match p with
  | .perst h => some h
  | .ddrCke b => some (64 + b2n b)
  | .ddrReset => some 66
  | .canTxd n => some (67 + 3 * (n - 16))
  | .canRxd n => some (68 + 3 * (n - 16))
  | .canStb n => some (69 + 3 * (n - 16))
  | .qspiCs => some 91
  | .qspiSck => some 92
  | .qspiIo n => some (93 + n)
  | .hspiCs => some 97
  | .hspiSck => some 98
  | .hspiIo n => some (99 + n)
  | .int n => some (103 + n)
  | .ppsOut k => some (107 + k)
  | .ppsIn i => some (111 + i)
  | .resetN => some 113
  | .fault => some 114
  | _ => none

/-- Whether the grade has the instance that a ball belongs to; the ball of an absent one has no connection (R489). -/
def Grade.connects (g : Grade) (p : Pin) : Bool :=
  match p with
  | .perst h => h < g.hPorts
  | .canTxd n => g.hasPage .can n
  | .canRxd n => g.hasPage .can n
  | .canStb n => g.hasPage .can n
  | .canBus n => g.hasPage .can n
  | .linBus n => g.hasPage .lin n
  | .t1sBus n => g.hasPage .t1s n
  | _ => true

/-- Whether the owning page has entered RUN since the pins took the states of Table 17-9. -/
def State.owned (s : State) (k : PageKind) (i : Nat) : Bool := s.alive k i && s.ran.contains (pageBase k i)

/-- A frame of Cn is on the wire, and its transmitter drives it (R231). -/
def State.canDrives (s : State) (n : Nat) : Bool :=
  s.run .can n && s.canTrcv n == 0 && (s.canOnWire n).isSome && !s.canMute n

/-- A bus pin: ground while its domain is off, recessive unless the block transmits (Table 17-9). -/
def busLevel (on drives : Bool) : PinLevel := if !on then .ground else if drives then .bits else .recessive

/-- What the blocks do at a pin (Table 17-9; R73, R229, R353, R395, R495, R502). -/
def State.blockLevel (s : State) (p : Pin) : PinLevel :=
  match p with
  | .hspiIo _ => .hiZ
  | .tdo => .hiZ
  | .int n => if s.intLow n then .low else .hiZ
  | .fault => if s.faultLow then .low else .hiZ
  | .hspiCs => .pullUp
  | .hspiSck => .pullUp
  | .tms => .pullUp
  | .tdi => .pullUp
  | .resetN => .pullUp
  | .canRxd _ => .pullUp
  | .tck => .pullDown
  | .trst => .pullDown
  | .perst _ => .pullDown
  | .ppsIn _ => .pullDown
  | .qspiCs => .high
  | .qspiSck => .low
  | .qspiIo _ => .pullUp
  | .canTxd n => if s.owned .can n && s.canDrives n then .bits else .high
  | .canStb n => if s.owned .can n && decide (s.canTrcv n ≤ 1) then .low else .high
  | .ppsOut k =>
    if s.owned .timePulse 0 then
      (if (s.pps k).closes.isSome == s.on tpB (F.timePulse_OUT_CTL_POL.at (32 * k)) then .high else .low)
    else .low
  | .ddrReset => if s.owned .ddr 0 then .bits else .low
  | .ddrCke _ => if s.owned .ddr 0 then .bits else .low
  | .canBus n => busLevel (s.domOn 1) (s.owned .can n && s.lineOn 1 && s.canDrives n)
  | .linBus n => busLevel (s.domOn 2) (s.owned .lin n && s.linRuns n && (s.linCh n).busy && !s.power.linLow)
  | .t1sBus n => busLevel (s.domOn 2) (s.owned .t1s n && s.segRuns n && decide (s.ps < (s.seg n).busyTo))

/-- Whether EXTEST, HIGHZ or CLAMP is in force (R507). -/
def State.scanForce (s : State) : Bool := ([0x00, 0x03, 0x04] : List Nat).contains s.jtag.ir

/-- What a chained ball shows of the boundary register: input, output and control cell of ball b are 3b to 3b + 2, and
the output cell is driven where the control cell holds 1; under HIGHZ every ball floats (R507; log entry 110). -/
def State.cellLevel (s : State) (b : Nat) : PinLevel :=
  if s.jtag.ir = 0x03 ∨ !bitOf s.jtag.boundary (3 * b + 2) then .hiZ
  else if bitOf s.jtag.boundary (3 * b + 1) then .high
  else .low

/-- The level of a pin. The blocks behind the balls see their levels at all times (R507). -/
def State.pin (s : State) (p : Pin) : PinLevel :=
  if !s.grade.connects p ∨ p.rail.any (fun r => !s.railGood r) then .hiZ
  else
    match p.ball with
    | some b => if s.scanForce then s.cellLevel b else s.blockLevel p
    | none => s.blockLevel p

end Sys2Proof.Machine
end

