-- ==== Sys2Proof/Machine/Dispatch.lean ====
section
/-! DEFINITION. One arm per command: a direct call of its meaning, or a rejection by name. -/

namespace Sys2Proof.Machine

def exec (i : Instr) (s : State) : Host.Outcome State Fault Refusal :=
  match i with
  | .registerWrite off w be ndw => Sys2Proof.Machine.execRegisterWrite off w be ndw s
  | .bar0LongRead off ndw bar2 ecc => Sys2Proof.Machine.execBar0LongRead off ndw bar2 ecc s
  | .tableWordWrite off w be more lastBe ecc => Sys2Proof.Machine.execTableWordWrite off w be more lastBe ecc s
  | .registerAccessTimeout off w => Sys2Proof.Machine.execRegisterAccessTimeout off w s
  | .pageEnable page en => Sys2Proof.Machine.execPageEnable page en s
  | .pageQuiesce page q => Sys2Proof.Machine.execPageQuiesce page q s
  | .pageSrst page => Sys2Proof.Machine.execPageSrst page s
  | .quiesceDrained page => Sys2Proof.Machine.execQuiesceDrained page s
  | .pageResetComplete page => Sys2Proof.Machine.execPageResetComplete page s
  | .pageLockWrite page w => Sys2Proof.Machine.execPageLockWrite page w s
  | .cntClr off w => Sys2Proof.Machine.execCntClr off w s
  | .evtPendClear page w again => Sys2Proof.Machine.execEvtPendClear page w again s
  | .eventOccurrence n detail => Sys2Proof.Machine.execEventOccurrence n detail s
  | .grpEoi w => Sys2Proof.Machine.execGrpEoi w s
  | .logPop ndw => Sys2Proof.Machine.execLogPop ndw s
  | .logOvfClear => Sys2Proof.Machine.execLogOvfClear s
  | .hspiRead addr n late ecc => Sys2Proof.Machine.execHspiRead addr n late ecc s
  | .hspiWrite addr words nibbles => Sys2Proof.Machine.execHspiWrite addr words nibbles s
  | .hspiWriteApply late => Sys2Proof.Machine.execHspiWriteApply late s
  | .readStatus => Sys2Proof.Machine.execReadStatus s
  | .clearStatus => Sys2Proof.Machine.execClearStatus s
  | .hspiUnknownCommand code => Sys2Proof.Machine.execHspiUnknownCommand code s
  | .dieLinkCheckFail retries => Sys2Proof.Machine.execDieLinkCheckFail retries s
  | .dieLinkRetry pass => Sys2Proof.Machine.execDieLinkRetry pass s
  | .frameAdmission port => Sys2Proof.Machine.execFrameAdmission port s
  | .roundStart => Sys2Proof.Machine.execRoundStart s
  | .flushTimerExpiry input out tc => Sys2Proof.Machine.execFlushTimerExpiry input out tc s
  | .cellArrival input phase => Sys2Proof.Machine.execCellArrival input phase s
  | .roundEnd => Sys2Proof.Machine.execRoundEnd s
  | .outputCellTake out phase ecc => Sys2Proof.Machine.execOutputCellTake out phase ecc s
  | .sliceLeavePattern slice => Sys2Proof.Machine.execSliceLeavePattern slice s
  | .purgeComplete slice corr uncorr => Sys2Proof.Machine.execPurgeComplete slice corr uncorr s
  | .sliceRebuildStart slice => Sys2Proof.Machine.execSliceRebuildStart slice s
  | .rebuildComplete slice good => Sys2Proof.Machine.execRebuildComplete slice good s
  | .sliceJoinPattern slice => Sys2Proof.Machine.execSliceJoinPattern slice s
  | .sliceReadmitDone slice => Sys2Proof.Machine.execSliceReadmitDone slice s
  | .hotPosition pos => Sys2Proof.Machine.execHotPosition pos s
  | .reseedReq w => Sys2Proof.Machine.execReseedReq w s
  | .pinSeedWrite w => Sys2Proof.Machine.execPinSeedWrite w s
  | .pinClassWrite w => Sys2Proof.Machine.execPinClassWrite w s
  | .seedPairMove out tc => Sys2Proof.Machine.execSeedPairMove out tc s
  | .seedPairAbandon out tc => Sys2Proof.Machine.execSeedPairAbandon out tc s
  | .seedHoldRetry out tc => Sys2Proof.Machine.execSeedHoldRetry out tc s
  | .frerHalfWrite w => Sys2Proof.Machine.execFrerHalfWrite w s
  | .eTxSelect port ecc => Sys2Proof.Machine.execETxSelect port ecc s
  | .ctUnderrun port => Sys2Proof.Machine.execCtUnderrun port s
  | .gateEntryChange port => Sys2Proof.Machine.execGateEntryChange port s
  | .configChange port w => Sys2Proof.Machine.execConfigChange port w s
  | .gateConfigApply port => Sys2Proof.Machine.execGateConfigApply port s
  | .egressQuiesceTimeout out => Sys2Proof.Machine.execEgressQuiesceTimeout out s
  | .queueRunStart queue => Sys2Proof.Machine.execQueueRunStart queue s
  | .queueRunStop queue => Sys2Proof.Machine.execQueueRunStop queue s
  | .queueFlush queue => Sys2Proof.Machine.execQueueFlush queue s
  | .queueTailWrite queue w => Sys2Proof.Machine.execQueueTailWrite queue w s
  | .hostRxPublish out ecc posted => Sys2Proof.Machine.execHostRxPublish out ecc posted s
  | .queueIrqTimeExpiry queue => Sys2Proof.Machine.execQueueIrqTimeExpiry queue s
  | .hostTxFetch queue ecc parts => Sys2Proof.Machine.execHostTxFetch queue ecc parts s
  | .dmaCompletionTimeout queue => Sys2Proof.Machine.execDmaCompletionTimeout queue s
  | .dmaCompletionError queue => Sys2Proof.Machine.execDmaCompletionError queue s
  | .pointerFlush queue number tc single => Sys2Proof.Machine.execPointerFlush queue number tc single s
  | .frameLookup port mismatch parity => Sys2Proof.Machine.execFrameLookup port mismatch parity s
  | .gristEdit port => Sys2Proof.Machine.execGristEdit port s
  | .learnCommit pipe => Sys2Proof.Machine.execLearnCommit pipe s
  | .spargeVisit pipe hit => Sys2Proof.Machine.execSpargeVisit pipe hit s
  | .fdbFlush pipe w => Sys2Proof.Machine.execFdbFlush pipe w s
  | .fdbFlushComplete pipe => Sys2Proof.Machine.execFdbFlushComplete pipe s
  | .srfResetTimeout srf => Sys2Proof.Machine.execSrfResetTimeout srf s
  | .streamFlipNow => Sys2Proof.Machine.execStreamFlipNow s
  | .streamFlipAt => Sys2Proof.Machine.execStreamFlipAt s
  | .streamFlipCancel => Sys2Proof.Machine.execStreamFlipCancel s
  | .streamFlipDue => Sys2Proof.Machine.execStreamFlipDue s
  | .streamDrainEnd => Sys2Proof.Machine.execStreamDrainEnd s
  | .linkUp port code => Sys2Proof.Machine.execLinkUp port code s
  | .linkDown port lock => Sys2Proof.Machine.execLinkDown port lock s
  | .ethRxFrame port bytes codeErr ago => Sys2Proof.Machine.execEthRxFrame port bytes codeErr ago s
  | .tsPop segment number ndw => Sys2Proof.Machine.execTsPop segment number ndw s
  | .tsFlush port w => Sys2Proof.Machine.execTsFlush port w s
  | .lpiEntry port partner => Sys2Proof.Machine.execLpiEntry port partner s
  | .lpiWakeEnd port partner => Sys2Proof.Machine.execLpiWakeEnd port partner s
  | .t1sRxFrame segment opportunity bytes codeErr ago => Sys2Proof.Machine.execT1sRxFrame segment opportunity bytes codeErr ago s
  | .t1sNodeDepart segment entry => Sys2Proof.Machine.execT1sNodeDepart segment entry s
  | .plcaBeacon segment => Sys2Proof.Machine.execPlcaBeacon segment s
  | .plcaBeaconLost segment => Sys2Proof.Machine.execPlcaBeaconLost segment s
  | .t1sCollision segment late => Sys2Proof.Machine.execT1sCollision segment late s
  | .canRxStore channel frame ago ecc => Sys2Proof.Machine.execCanRxStore channel frame ago ecc s
  | .canProtocolException channel => Sys2Proof.Machine.execCanProtocolException channel s
  | .objectW7Write object w => Sys2Proof.Machine.execObjectW7Write object w s
  | .canTxComplete channel tdcv ecc ago => Sys2Proof.Machine.execCanTxComplete channel tdcv ecc ago s
  | .canArbLost channel => Sys2Proof.Machine.execCanArbLost channel s
  | .canError channel lec tx extra tdcv => Sys2Proof.Machine.execCanError channel lec tx extra tdcv s
  | .canIntegrated channel => Sys2Proof.Machine.execCanIntegrated channel s
  | .canRecover channel w => Sys2Proof.Machine.execCanRecover channel w s
  | .canRecoveryComplete channel => Sys2Proof.Machine.execCanRecoveryComplete channel s
  | .trcvStateRequest channel w => Sys2Proof.Machine.execTrcvStateRequest channel w s
  | .trcvStateReached channel => Sys2Proof.Machine.execTrcvStateReached channel s
  | .txdTmo channel => Sys2Proof.Machine.execTxdTmo channel s
  | .busDom channel => Sys2Proof.Machine.execBusDom channel s
  | .thermal channel => Sys2Proof.Machine.execThermal channel s
  | .linSlotStart channel err => Sys2Proof.Machine.execLinSlotStart channel err s
  | .linHeaderRx channel rate pid ago bad => Sys2Proof.Machine.execLinHeaderRx channel rate pid ago bad s
  | .linResponseRx channel bytes framing => Sys2Proof.Machine.execLinResponseRx channel bytes framing s
  | .linResponseTimeout channel got => Sys2Proof.Machine.execLinResponseTimeout channel got s
  | .linDataStage channel id w => Sys2Proof.Machine.execLinDataStage channel id w s
  | .linDataCommit channel id w => Sys2Proof.Machine.execLinDataCommit channel id w s
  | .schedSwitch channel w => Sys2Proof.Machine.execSchedSwitch channel w s
  | .wakeTx channel w => Sys2Proof.Machine.execWakeTx channel w s
  | .routeLookup => Sys2Proof.Machine.execRouteLookup s
  | .bridgeCopyPlace channel => Sys2Proof.Machine.execBridgeCopyPlace channel s
  | .rtFlipNow => Sys2Proof.Machine.execRtFlipNow s
  | .rtFlipAt => Sys2Proof.Machine.execRtFlipAt s
  | .rtFlipCancel => Sys2Proof.Machine.execRtFlipCancel s
  | .rtFlipDue => Sys2Proof.Machine.execRtFlipDue s
  | .rtDrainEnd => Sys2Proof.Machine.execRtDrainEnd s
  | .f20FrameRx ecc => Sys2Proof.Machine.execF20FrameRx ecc s
  | .tunnelFrameSend tunnel => Sys2Proof.Machine.execTunnelFrameSend tunnel s
  | .tunnelHoldExpiry tunnel => Sys2Proof.Machine.execTunnelHoldExpiry tunnel s
  | .tunnelFragTimeout tunnel => Sys2Proof.Machine.execTunnelFragTimeout tunnel s
  | .jaldenFrameRx lane typ cls seq ack creditP creditNp payload crc => Sys2Proof.Machine.execJaldenFrameRx lane typ cls seq ack creditP creditNp payload crc s
  | .jaldenReplayTimeout lane => Sys2Proof.Machine.execJaldenReplayTimeout lane s
  | .jaldenIdleAck lane => Sys2Proof.Machine.execJaldenIdleAck lane s
  | .jlBlockLock lane => Sys2Proof.Machine.execJlBlockLock lane s
  | .jlBlockLockLost lane => Sys2Proof.Machine.execJlBlockLockLost lane s
  | .discoverRx lane ack creditP creditNp payload => Sys2Proof.Machine.execDiscoverRx lane ack creditP creditNp payload s
  | .discoverSend lane => Sys2Proof.Machine.execDiscoverSend lane s
  | .jlRetry lane w => Sys2Proof.Machine.execJlRetry lane w s
  | .raccGo w => Sys2Proof.Machine.execRaccGo w s
  | .raccRequestRx lane path depth twin op addr wdata late => Sys2Proof.Machine.execRaccRequestRx lane path depth twin op addr wdata late s
  | .raccCompletionRx lane origin status rdata => Sys2Proof.Machine.execRaccCompletionRx lane origin status rdata s
  | .raccTimeout => Sys2Proof.Machine.execRaccTimeout s
  | .twinStateSend => Sys2Proof.Machine.execTwinStateSend s
  | .twinStateRx lane recs => Sys2Proof.Machine.execTwinStateRx lane recs s
  | .twinPeerTimeout => Sys2Proof.Machine.execTwinPeerTimeout s
  | .ktlDispatchFrame ecc => Sys2Proof.Machine.execKtlDispatchFrame ecc s
  | .ktlFragTimeout cluster origin bus => Sys2Proof.Machine.execKtlFragTimeout cluster origin bus s
  | .jobStart cluster => Sys2Proof.Machine.execJobStart cluster s
  | .jobBudgetExpiry core => Sys2Proof.Machine.execJobBudgetExpiry core s
  | .coreResume core data => Sys2Proof.Machine.execCoreResume core data s
  | .opAdd core wait mem => Sys2Proof.Machine.execAdd core wait mem s
  | .opSub core wait mem => Sys2Proof.Machine.execSub core wait mem s
  | .opAnd core wait mem => Sys2Proof.Machine.execAnd core wait mem s
  | .opOr core wait mem => Sys2Proof.Machine.execOr core wait mem s
  | .opXor core wait mem => Sys2Proof.Machine.execXor core wait mem s
  | .opShl core wait mem => Sys2Proof.Machine.execShl core wait mem s
  | .opShr core wait mem => Sys2Proof.Machine.execShr core wait mem s
  | .opSar core wait mem => Sys2Proof.Machine.execSar core wait mem s
  | .opMul core wait mem => Sys2Proof.Machine.execMul core wait mem s
  | .opSlt core wait mem => Sys2Proof.Machine.execSlt core wait mem s
  | .opSltu core wait mem => Sys2Proof.Machine.execSltu core wait mem s
  | .opMin core wait mem => Sys2Proof.Machine.execMin core wait mem s
  | .opMax core wait mem => Sys2Proof.Machine.execMax core wait mem s
  | .opAddi core wait mem => Sys2Proof.Machine.execAddi core wait mem s
  | .opAndi core wait mem => Sys2Proof.Machine.execAndi core wait mem s
  | .opOri core wait mem => Sys2Proof.Machine.execOri core wait mem s
  | .opXori core wait mem => Sys2Proof.Machine.execXori core wait mem s
  | .opShli core wait mem => Sys2Proof.Machine.execShli core wait mem s
  | .opShri core wait mem => Sys2Proof.Machine.execShri core wait mem s
  | .opSari core wait mem => Sys2Proof.Machine.execSari core wait mem s
  | .opShin core wait mem => Sys2Proof.Machine.execShin core wait mem s
  | .opLd8 core wait mem => Sys2Proof.Machine.execLd8 core wait mem s
  | .opLd16 core wait mem => Sys2Proof.Machine.execLd16 core wait mem s
  | .opLd32 core wait mem => Sys2Proof.Machine.execLd32 core wait mem s
  | .opLd64 core wait mem => Sys2Proof.Machine.execLd64 core wait mem s
  | .opSt8 core wait mem => Sys2Proof.Machine.execSt8 core wait mem s
  | .opSt16 core wait mem => Sys2Proof.Machine.execSt16 core wait mem s
  | .opSt32 core wait mem => Sys2Proof.Machine.execSt32 core wait mem s
  | .opSt64 core wait mem => Sys2Proof.Machine.execSt64 core wait mem s
  | .opBeq core wait mem => Sys2Proof.Machine.execBeq core wait mem s
  | .opBne core wait mem => Sys2Proof.Machine.execBne core wait mem s
  | .opBlt core wait mem => Sys2Proof.Machine.execBlt core wait mem s
  | .opBge core wait mem => Sys2Proof.Machine.execBge core wait mem s
  | .opBltu core wait mem => Sys2Proof.Machine.execBltu core wait mem s
  | .opBgeu core wait mem => Sys2Proof.Machine.execBgeu core wait mem s
  | .opJal core wait mem => Sys2Proof.Machine.execJal core wait mem s
  | .opJr core wait mem => Sys2Proof.Machine.execJr core wait mem s
  | .opExti core wait mem => Sys2Proof.Machine.execExti core wait mem s
  | .opInsi core wait mem => Sys2Proof.Machine.execInsi core wait mem s
  | .opExt core wait mem => Sys2Proof.Machine.execExt core wait mem s
  | .opIns core wait mem => Sys2Proof.Machine.execIns core wait mem s
  | .opAadd core wait mem => Sys2Proof.Machine.execAadd core wait mem s
  | .opSrec core wait mem => Sys2Proof.Machine.execSrec core wait mem s
  | .opPrec core wait mem => Sys2Proof.Machine.execPrec core wait mem s
  | .opSrcv core wait mem => Sys2Proof.Machine.execSrcv core wait mem s
  | .opSfwd core wait mem => Sys2Proof.Machine.execSfwd core wait mem s
  | .opSval core wait mem => Sys2Proof.Machine.execSval core wait mem s
  | .opSset core wait mem => Sys2Proof.Machine.execSset core wait mem s
  | .opXfm core wait mem => Sys2Proof.Machine.execXfm core wait mem s
  | .opPget core wait mem => Sys2Proof.Machine.execPget core wait mem s
  | .opPcnt core wait mem => Sys2Proof.Machine.execPcnt core wait mem s
  | .opE2ec core wait uwait mem => Sys2Proof.Machine.execE2ec core wait uwait mem s
  | .opPasm core wait mem => Sys2Proof.Machine.execPasm core wait mem s
  | .opE2ep core wait uwait mem => Sys2Proof.Machine.execE2ep core wait uwait mem s
  | .opSend core wait mem => Sys2Proof.Machine.execSend core wait mem s
  | .opCvuCalc core wait uwait mem => Sys2Proof.Machine.execCvuCalc core wait uwait mem s
  | .opCvuFeed core wait uwait mem => Sys2Proof.Machine.execCvuFeed core wait uwait mem s
  | .opCvuFinal core wait uwait mem => Sys2Proof.Machine.execCvuFinal core wait uwait mem s
  | .opCvuStrip core wait uwait mem => Sys2Proof.Machine.execCvuStrip core wait uwait mem s
  | .opCvuAppend core wait uwait mem => Sys2Proof.Machine.execCvuAppend core wait uwait mem s
  | .opTime core wait mem => Sys2Proof.Machine.execTime core wait mem s
  | .opEnd core wait mem => Sys2Proof.Machine.execEnd core wait mem s
  | .opBadop core wait mem => Sys2Proof.Machine.execBadop core wait mem s
  | .deadlineVisit signal => Sys2Proof.Machine.execDeadlineVisit signal s
  | .txSchedulerVisit pdu => Sys2Proof.Machine.execTxSchedulerVisit pdu s
  | .tmoPop dwords => Sys2Proof.Machine.execTmoPop dwords s
  | .buildGo batch byVariant => Sys2Proof.Machine.execBuildGo batch byVariant s
  | .buildDone badLine corr => Sys2Proof.Machine.execBuildDone badLine corr s
  | .hostReady batch => Sys2Proof.Machine.execHostReady batch s
  | .sigFlipNow => Sys2Proof.Machine.execSigFlipNow s
  | .sigFlipAt => Sys2Proof.Machine.execSigFlipAt s
  | .sigFlipCancel => Sys2Proof.Machine.execSigFlipCancel s
  | .sigFlipDue => Sys2Proof.Machine.execSigFlipDue s
  | .sigDrainEnd => Sys2Proof.Machine.execSigDrainEnd s
  | .nodeDepartTimeout entry => Sys2Proof.Machine.execNodeDepartTimeout entry s
  | .nodePop dwords => Sys2Proof.Machine.execNodePop dwords s
  | .nodeSummarySend snapshot => Sys2Proof.Machine.execNodeSummarySend snapshot s
  | .nodeSummaryRx lane src payload => Sys2Proof.Machine.execNodeSummaryRx lane src payload s
  | .childHoldExpiry owner => Sys2Proof.Machine.execChildHoldExpiry owner s
  | .twinNodeHoldExpiry => Sys2Proof.Machine.execTwinNodeHoldExpiry s
  | .ddrTrainingDone ok => Sys2Proof.Machine.execDdrTrainingDone ok s
  | .servoSample => Sys2Proof.Machine.execServoSample s
  | .servoModeWrite w => Sys2Proof.Machine.execServoModeWrite w s
  | .reacquire w => Sys2Proof.Machine.execReacquire w s
  | .captureAbsenceTimeout => Sys2Proof.Machine.execCaptureAbsenceTimeout s
  | .hostStepGo w => Sys2Proof.Machine.execHostStepGo w s
  | .hostStepApply => Sys2Proof.Machine.execHostStepApply s
  | .pdelayReqRx ecc posted => Sys2Proof.Machine.execPdelayReqRx ecc posted s
  | .pdelayReqSend port => Sys2Proof.Machine.execPdelayReqSend port s
  | .pdelayRespRx ecc posted => Sys2Proof.Machine.execPdelayRespRx ecc posted s
  | .syncRx ecc posted => Sys2Proof.Machine.execSyncRx ecc posted s
  | .syncOriginate inst => Sys2Proof.Machine.execSyncOriginate inst s
  | .syncReceiptTimeout inst => Sys2Proof.Machine.execSyncReceiptTimeout inst s
  | .ptpFrameToHost ecc posted => Sys2Proof.Machine.execPtpFrameToHost ecc posted s
  | .ppsEdge k => Sys2Proof.Machine.execPpsEdge k s
  | .ppsWidthEnd k => Sys2Proof.Machine.execPpsWidthEnd k s
  | .ppsCapture input falling ago => Sys2Proof.Machine.execPpsCapture input falling ago s
  | .capPop input ndw => Sys2Proof.Machine.execCapPop input ndw s
  | .slotArm slot w => Sys2Proof.Machine.execSlotArm slot w s
  | .slotFire k late => Sys2Proof.Machine.execSlotFire k late s
  | .load w => Sys2Proof.Machine.execLoad w s
  | .loadAux w => Sys2Proof.Machine.execLoadAux w s
  | .derive w => Sys2Proof.Machine.execDerive w s
  | .commit w => Sys2Proof.Machine.execCommit w s
  | .commitAt w => Sys2Proof.Machine.execCommitAt w s
  | .cancelAt w => Sys2Proof.Machine.execCancelAt w s
  | .erase w => Sys2Proof.Machine.execErase w s
  | .eraseAll w => Sys2Proof.Machine.execEraseAll w s
  | .kilnCommandDone => Sys2Proof.Machine.execKilnCommandDone s
  | .timedCommit => Sys2Proof.Machine.execTimedCommit s
  | .keyStageWrite k w => Sys2Proof.Machine.execKeyStageWrite k w s
  | .keyStageTimeout => Sys2Proof.Machine.execKeyStageTimeout s
  | .lifecycleAdvance target => Sys2Proof.Machine.execLifecycleAdvance target s
  | .kilnIdReady => Sys2Proof.Machine.execKilnIdReady s
  | .maskSweepStart => Sys2Proof.Machine.execMaskSweepStart s
  | .maskSweepVisit => Sys2Proof.Machine.execMaskSweepVisit s
  | .drbgReseed => Sys2Proof.Machine.execDrbgReseed s
  | .drbgHealthFail apt => Sys2Proof.Machine.execDrbgHealthFail apt s
  | .restart => Sys2Proof.Machine.execRestart s
  | .rngPop ndw => Sys2Proof.Machine.execRngPop ndw s
  | .blkSha256 => Sys2Proof.Machine.execBlkSha256 s
  | .blkHmacSha256 slot => Sys2Proof.Machine.execBlkHmacSha256 slot s
  | .cmacGenerate slot => Sys2Proof.Machine.execCmacGenerate slot s
  | .cmacVerify slot => Sys2Proof.Machine.execCmacVerify slot s
  | .identitySign => Sys2Proof.Machine.execIdentitySign s
  | .challengeResponse slot => Sys2Proof.Machine.execChallengeResponse slot s
  | .blockOpDone => Sys2Proof.Machine.execBlockOpDone s
  | .cipherParityError unit port tx => Sys2Proof.Machine.execCipherParityError unit port tx s
  | .alarmTrip cause => Sys2Proof.Machine.execAlarmTrip cause s
  | .alarmErasureDone => Sys2Proof.Machine.execAlarmErasureDone s
  | .alarmClr present w => Sys2Proof.Machine.execAlarmClr present w s
  | .alarmRestoreDone => Sys2Proof.Machine.execAlarmRestoreDone s
  | .railGood r late high => Sys2Proof.Machine.execRailGood r late high s
  | .railNotGood r => Sys2Proof.Machine.execRailNotGood r s
  | .seqErrorRelease => Sys2Proof.Machine.execSeqErrorRelease s
  | .vsupUv mv => Sys2Proof.Machine.execVsupUv mv s
  | .vsupOv => Sys2Proof.Machine.execVsupOv s
  | .vsupLoss => Sys2Proof.Machine.execVsupLoss s
  | .powerOn => Sys2Proof.Machine.execPowerOn s
  | .thermalShutdown tj => Sys2Proof.Machine.execThermalShutdown tj s
  | .thermalRecovery tj => Sys2Proof.Machine.execThermalRecovery tj s
  | .domReqWrite w => Sys2Proof.Machine.execDomReqWrite w s
  | .domainSwitchDone => Sys2Proof.Machine.execDomainSwitchDone s
  | .domainCutTimeout => Sys2Proof.Machine.execDomainCutTimeout s
  | .lpEntryGo w => Sys2Proof.Machine.execLpEntryGo w s
  | .lpEntryAuto => Sys2Proof.Machine.execLpEntryAuto s
  | .lpEntryComplete => Sys2Proof.Machine.execLpEntryComplete s
  | .wakeInput input falling held => Sys2Proof.Machine.execWakeInput input falling held s
  | .canBusWake n kind frame => Sys2Proof.Machine.execCanBusWake n kind frame s
  | .linBusWake n => Sys2Proof.Machine.execLinBusWake n s
  | .linIdleSleep n => Sys2Proof.Machine.execLinIdleSleep n s
  | .wakeSuppliesGood => Sys2Proof.Machine.execWakeSuppliesGood s
  | .wakeSupplyTimeout => Sys2Proof.Machine.execWakeSupplyTimeout s
  | .wakeRetry => Sys2Proof.Machine.execWakeRetry s
  | .wakeFirstClear w => Sys2Proof.Machine.execWakeFirstClear w s
  | .pnSuspend n w => Sys2Proof.Machine.execPnSuspend n w s
  | .pnSuspendEffect n => Sys2Proof.Machine.execPnSuspendEffect n s
  | .nmEnable k w => Sys2Proof.Machine.execNmEnable k w s
  | .nmWakeRequest k kind index => Sys2Proof.Machine.execNmWakeRequest k kind index s
  | .nmMessageRx k ident data => Sys2Proof.Machine.execNmMessageRx k ident data s
  | .nmRingSend k => Sys2Proof.Machine.execNmRingSend k s
  | .nmMsgComplete k => Sys2Proof.Machine.execNmMsgComplete k s
  | .nmTmaxTimeout k => Sys2Proof.Machine.execNmTmaxTimeout k s
  | .nmTerrTimeout k => Sys2Proof.Machine.execNmTerrTimeout k s
  | .nmWbsExpiry k => Sys2Proof.Machine.execNmWbsExpiry k s
  | .nmAddressTimeout k address => Sys2Proof.Machine.execNmAddressTimeout k address s
  | .caskCheckpoint => Sys2Proof.Machine.execCaskCheckpoint s
  | .hrecGo w => Sys2Proof.Machine.execHrecGo w s
  | .caskRecordWrite got => Sys2Proof.Machine.execCaskRecordWrite got s
  | .caskPageProgram fails => Sys2Proof.Machine.execCaskPageProgram fails s
  | .caskFlushTimeout fails => Sys2Proof.Machine.execCaskFlushTimeout fails s
  | .flush fails => Sys2Proof.Machine.execFlush fails s
  | .free => Sys2Proof.Machine.execFree s
  | .caskEraseAll => Sys2Proof.Machine.execCaskEraseAll s
  | .read => Sys2Proof.Machine.execRead s
  | .caskCommandDone failed ecc fails opened => Sys2Proof.Machine.execCaskCommandDone failed ecc fails opened s
  | .caskScan => Sys2Proof.Machine.execCaskScan s
  | .caskScanDone bad => Sys2Proof.Machine.execCaskScanDone bad s
  | .snap w => Sys2Proof.Machine.execSnap w s
  | .perfAt w => Sys2Proof.Machine.execPerfAt w s
  | .perfTimedRun => Sys2Proof.Machine.execPerfTimedRun s
  | .perfClr w => Sys2Proof.Machine.execPerfClr w s
  | .tapPop dwords => Sys2Proof.Machine.execTapPop dwords s
  | .hcmd w => Sys2Proof.Machine.execHcmd w s
  | .hcmdDone fail ecc data => Sys2Proof.Machine.execHcmdDone fail ecc data s
  | .bootStart sfdp ident size unit ecc => Sys2Proof.Machine.execBootStart sfdp ident size unit ecc s
  | .bootFirmwareStart ecc => Sys2Proof.Machine.execBootFirmwareStart ecc s
  | .getInfo => Sys2Proof.Machine.execGetInfo s
  | .mbxRestart => Sys2Proof.Machine.execMbxRestart s
  | .openSlot => Sys2Proof.Machine.execOpenSlot s
  | .writeBlock programmed => Sys2Proof.Machine.execWriteBlock programmed s
  | .closeSlot => Sys2Proof.Machine.execCloseSlot s
  | .abortSlot => Sys2Proof.Machine.execAbortSlot s
  | .readCert ecc => Sys2Proof.Machine.execReadCert ecc s
  | .rackPrepare ecc => Sys2Proof.Machine.execRackPrepare ecc s
  | .rackConfirm => Sys2Proof.Machine.execRackConfirm s
  | .rackRevert => Sys2Proof.Machine.execRackRevert s
  | .rackUnit => Sys2Proof.Machine.execRackUnit s
  | .applyRecipe ecc => Sys2Proof.Machine.execApplyRecipe ecc s
  | .fuse => Sys2Proof.Machine.execFuse s
  | .mbxUnknownOp op => Sys2Proof.Machine.execMbxUnknownOp op s
  | .xferRx m programmed ecc => Sys2Proof.Machine.execXferRx m programmed ecc s
  | .xferAckRx m => Sys2Proof.Machine.execXferAckRx m s
  | .xferTimeout => Sys2Proof.Machine.execXferTimeout s
  | .prepareRx m ecc => Sys2Proof.Machine.execPrepareRx m ecc s
  | .rackPreparationDone ecc => Sys2Proof.Machine.execRackPreparationDone ecc s
  | .readyRx twin m => Sys2Proof.Machine.execReadyRx twin m s
  | .goRx m => Sys2Proof.Machine.execGoRx m s
  | .abortRx m => Sys2Proof.Machine.execAbortRx m s
  | .doneRx twin m => Sys2Proof.Machine.execDoneRx twin m s
  | .confirmRx m => Sys2Proof.Machine.execConfirmRx m s
  | .revertRx m => Sys2Proof.Machine.execRevertRx m s
  | .rackReadyDeadline => Sys2Proof.Machine.execRackReadyDeadline s
  | .rackGuardDeadline => Sys2Proof.Machine.execRackGuardDeadline s
  | .rackActivation => Sys2Proof.Machine.execRackActivation s
  | .rackCheckDeadline => Sys2Proof.Machine.execRackCheckDeadline s
  | .rackRevertDeadline => Sys2Proof.Machine.execRackRevertDeadline s
  | .rackRevertApply => Sys2Proof.Machine.execRackRevertApply s
  | .degradeRequest w => Sys2Proof.Machine.execDegradeRequest w s
  | .degradeGrant => Sys2Proof.Machine.execDegradeGrant s
  | .degradeExit w => Sys2Proof.Machine.execDegradeExit w s
  | .cellarerCycle skips => Sys2Proof.Machine.execCellarerCycle skips s
  | .cellarerLog => Sys2Proof.Machine.execCellarerLog s
  | .cellarerEvent => Sys2Proof.Machine.execCellarerEvent s
  | .cellarerMeter => Sys2Proof.Machine.execCellarerMeter s
  | .cellarerListen late => Sys2Proof.Machine.execCellarerListen late s
  | .cellarerPin => Sys2Proof.Machine.execCellarerPin s
  | .cellarerReseed late => Sys2Proof.Machine.execCellarerReseed late s
  | .cellarerBatch late => Sys2Proof.Machine.execCellarerBatch late s
  | .cellarerBlock late => Sys2Proof.Machine.execCellarerBlock late s
  | .cellarerDegrade late => Sys2Proof.Machine.execCellarerDegrade late s
  | .ruleClear r => Sys2Proof.Machine.execRuleClear r s
  | .resetNAssert ns => Sys2Proof.Machine.execResetNAssert ns s
  | .resetNRelease => Sys2Proof.Machine.execResetNRelease s
  | .testPinHigh levels => Sys2Proof.Machine.execTestPinHigh levels s
  | .perstRelease h => Sys2Proof.Machine.execPerstRelease h s
  | .pcieLinkChange h up gen width => Sys2Proof.Machine.execPcieLinkChange h up gen width s
  | .extest balls shift => Sys2Proof.Machine.execExtest balls shift s
  | .samplePreload balls shift => Sys2Proof.Machine.execSamplePreload balls shift s
  | .idcode => Sys2Proof.Machine.execIdcode s
  | .highz => Sys2Proof.Machine.execHighz s
  | .clamp => Sys2Proof.Machine.execClamp s
  | .bypass code => Sys2Proof.Machine.execBypass code s
  | .dbgReq value => Sys2Proof.Machine.execDbgReq value s
  | .dbgAccess op addr data late => Sys2Proof.Machine.execDbgAccess op addr data late s
  | .mailboxCommandDone ok ecc => Sys2Proof.Machine.execMailboxCommandDone ok ecc s
  | .supervisorLockstepMismatch => Sys2Proof.Machine.execSupervisorLockstepMismatch s
  | .transceiverFaultClear channel bit => Sys2Proof.Machine.execTransceiverFaultClear channel bit s
  | .plcaBeaconReceived segment => Sys2Proof.Machine.execPlcaBeaconReceived segment s
  | .thermalWarning tj => Sys2Proof.Machine.execThermalWarning tj s
  | .vsupOvervoltageEnd => Sys2Proof.Machine.execVsupOvervoltageEnd s
  | .tapTestLogicReset => Sys2Proof.Machine.execTapTestLogicReset s

end Sys2Proof.Machine
end

