-- ==== Sys2Proof/Machine/Tick.lean ====
section
/-! DEFINITION. A CLK_SYS tick: what the block does on an empty queue (log entry 7). Periods and deadlines that the
specification gives in its own rows are commands; here stands what follows the clock alone. -/

namespace Sys2Proof.Machine

/-- The clock: TIME_NS counts while PD3 is on (R337). -/
def State.clockTick (s : State) : State := if s.domOn 3 then s.tickTime 0 else { s with cycles := s.cycles + 1 }

/-- A frame of En whose transmission is over has left. -/
def State.portTick (s : State) (n : Nat) : State :=
  match (s.eg n).sending with
  | none => s
  | some x => if x.frame.whole ∧ (s.eg n).busyTo ≤ s.ps then s.finishSending n else s

/-- A unit's remote access to itself is executed (log entry 46). -/
def State.ownAccess (s : State) : State :=
  match s.jal.own with
  | none => s
  | some r =>
    let s1 : State := { s with jal := { s.jal with own := none } }
    s1.raccHandle 16 r false

/-- A tick. -/
def State.tick (s : State) : State :=
  let s1 := (List.range s.grade.ePorts).foldl (fun (a : State) n => a.portTick n) s.clockTick
  let s2 := (List.range 8).foldl (fun (a : State) n => a.segTick n) s1
  let s3 := (List.range s.grade.canChannels).foldl (fun (a : State) n => a.canStart n) s2
  let s3l := (List.range 8).foldl (fun (a : State) n => a.linTick n) s3
  let s3' := (s3l.flushVisit 0 4).flushVisit 1 4
  let s4 := (List.range 8).foldl (fun (a : State) k => a.nmPoll k) s3'
  s4.powerCheck.perfDue.rackTick.ownAccess.recirculate 0

end Sys2Proof.Machine
end

