-- ==== Sys2Proof/WellFormed.lean ====
section
/-! DEFINITION. Which commands are well formed: operands within the ranges that the specification gives what they name
(page numbers and offsets of BAR0 and BAR2, ports, channels, queues, slots, events and the like). A command outside
them names nothing; its meaning leaves the state unchanged or is that of the bits it has. -/

namespace Sys2Proof

/-- The operands of a command lie in their ranges. -/
def Instr.wellFormed : Instr → Bool
  | .registerWrite off _ be _ => decide (off < 0x4000000) && decide (be < 16)
  | .bar0LongRead off _ _ ecc => decide (off < 0x40000000) && decide (ecc < 3)
  | .tableWordWrite off _ be _ lastBe ecc => decide (off < 0x40000000) && decide (be < 16) && decide (lastBe < 16) && decide (ecc < 3)
  | .registerAccessTimeout off _ => decide (off < 0x4000000)
  | .pageEnable page _ => decide (page < 0x4000)
  | .pageQuiesce page _ => decide (page < 0x4000)
  | .pageSrst page => decide (page < 0x4000)
  | .quiesceDrained page => decide (page < 0x4000)
  | .pageResetComplete page => decide (page < 0x4000)
  | .pageLockWrite page _ => decide (page < 0x4000)
  | .cntClr off _ => decide (off < 0x4000000)
  | .evtPendClear page _ _ => decide (page < 0x4000)
  | .eventOccurrence n detail => decide (n < 512) && decide (detail < 256)
  | .grpEoi _ => true
  | .logPop _ => true
  | .logOvfClear => true
  | .hspiRead addr _ _ ecc => decide (addr < 0x100000000) && decide (ecc < 3)
  | .hspiWrite addr _ _ => decide (addr < 0x100000000)
  | .hspiWriteApply _ => true
  | .readStatus => true
  | .clearStatus => true
  | .hspiUnknownCommand code => decide (code < 256)
  | .dieLinkCheckFail _ => true
  | .dieLinkRetry _ => true
  | .frameAdmission port => decide (port < 24)
  | .roundStart => true
  | .flushTimerExpiry input out tc => decide (input < 24) && decide (out < 24) && decide (tc < 8)
  | .cellArrival input phase => decide (input < 24) && decide (phase < 24)
  | .roundEnd => true
  | .outputCellTake out phase ecc => decide (out < 24) && decide (phase < 24) && decide (ecc < 4)
  | .sliceLeavePattern slice => decide (slice < 8)
  | .purgeComplete slice _ _ => decide (slice < 8)
  | .sliceRebuildStart slice => decide (slice < 8)
  | .rebuildComplete slice _ => decide (slice < 8)
  | .sliceJoinPattern slice => decide (slice < 8)
  | .sliceReadmitDone slice => decide (slice < 8)
  | .hotPosition pos => decide (pos < 24)
  | .reseedReq _ => true
  | .pinSeedWrite _ => true
  | .pinClassWrite _ => true
  | .seedPairMove out tc => decide (out < 24) && decide (tc < 8)
  | .seedPairAbandon out tc => decide (out < 24) && decide (tc < 8)
  | .seedHoldRetry out tc => decide (out < 24) && decide (tc < 8)
  | .frerHalfWrite _ => true
  | .eTxSelect port ecc => decide (port < 16) && decide (ecc < 4)
  | .ctUnderrun port => decide (port < 16)
  | .gateEntryChange port => decide (port < 16)
  | .configChange port _ => decide (port < 16)
  | .gateConfigApply port => decide (port < 16)
  | .egressQuiesceTimeout out => decide (out < 24)
  | .queueRunStart queue => decide (queue < 64)
  | .queueRunStop queue => decide (queue < 64)
  | .queueFlush queue => decide (queue < 64)
  | .queueTailWrite queue _ => decide (queue < 64)
  | .hostRxPublish out ecc _ => decide (out < 24) && decide (ecc < 4)
  | .queueIrqTimeExpiry queue => decide (queue < 64)
  | .hostTxFetch queue ecc _ => decide (queue < 64) && decide (ecc < 3)
  | .dmaCompletionTimeout queue => decide (queue < 64)
  | .dmaCompletionError queue => decide (queue < 64)
  | .pointerFlush _ number tc _ => decide (number < 64) && decide (tc < 8)
  | .frameLookup port _ _ => decide (port < 24)
  | .gristEdit port => decide (port < 24)
  | .learnCommit pipe => decide (pipe < 2)
  | .spargeVisit pipe _ => decide (pipe < 2)
  | .fdbFlush pipe _ => decide (pipe < 2)
  | .fdbFlushComplete pipe => decide (pipe < 2)
  | .srfResetTimeout srf => decide (srf < 1024)
  | .streamFlipNow => true
  | .streamFlipAt => true
  | .streamFlipCancel => true
  | .streamFlipDue => true
  | .streamDrainEnd => true
  | .linkUp port _ => decide (port < 16)
  | .linkDown port _ => decide (port < 16)
  | .ethRxFrame port _ _ _ => decide (port < 16)
  | .tsPop _ number _ => decide (number < 64)
  | .tsFlush port _ => decide (port < 16)
  | .lpiEntry port _ => decide (port < 16)
  | .lpiWakeEnd port _ => decide (port < 16)
  | .t1sRxFrame segment opportunity _ _ _ => decide (segment < 8) && decide (opportunity < 256)
  | .t1sNodeDepart segment entry => decide (segment < 8) && decide (entry < 256)
  | .plcaBeacon segment => decide (segment < 8)
  | .plcaBeaconLost segment => decide (segment < 8)
  | .t1sCollision segment _ => decide (segment < 8)
  | .canRxStore channel _ _ ecc => decide (channel < 24) && decide (ecc < 3)
  | .canProtocolException channel => decide (channel < 24)
  | .objectW7Write object _ => decide (object < 8192)
  | .canTxComplete channel _ ecc _ => decide (channel < 24) && decide (ecc < 3)
  | .canArbLost channel => decide (channel < 24)
  | .canError channel lec _ _ _ => decide (channel < 24) && decide (lec < 8)
  | .canIntegrated channel => decide (channel < 24)
  | .canRecover channel _ => decide (channel < 24)
  | .canRecoveryComplete channel => decide (channel < 24)
  | .trcvStateRequest channel _ => decide (channel < 24)
  | .trcvStateReached channel => decide (channel < 24)
  | .txdTmo channel => decide (channel < 16)
  | .busDom channel => decide (channel < 16)
  | .thermal channel => decide (channel < 16)
  | .linSlotStart channel _ => decide (channel < 8)
  | .linHeaderRx channel _ pid _ _ => decide (channel < 8) && decide (pid < 256)
  | .linResponseRx channel _ _ => decide (channel < 8)
  | .linResponseTimeout channel _ => decide (channel < 8)
  | .linDataStage channel id _ => decide (channel < 8) && decide (id < 64)
  | .linDataCommit channel id _ => decide (channel < 8) && decide (id < 64)
  | .schedSwitch channel _ => decide (channel < 8)
  | .wakeTx channel _ => decide (channel < 8)
  | .routeLookup => true
  | .bridgeCopyPlace channel => decide (channel < 24)
  | .rtFlipNow => true
  | .rtFlipAt => true
  | .rtFlipCancel => true
  | .rtFlipDue => true
  | .rtDrainEnd => true
  | .f20FrameRx ecc => decide (ecc < 3)
  | .tunnelFrameSend tunnel => decide (tunnel < 32)
  | .tunnelHoldExpiry tunnel => decide (tunnel < 32)
  | .tunnelFragTimeout tunnel => decide (tunnel < 32)
  | .jaldenFrameRx lane typ cls seq ack _ _ _ _ => decide (lane < 16) && decide (typ < 256) && decide (cls < 4) && decide (seq < 65536) && decide (ack < 65536)
  | .jaldenReplayTimeout lane => decide (lane < 16)
  | .jaldenIdleAck lane => decide (lane < 16)
  | .jlBlockLock lane => decide (lane < 16)
  | .jlBlockLockLost lane => decide (lane < 16)
  | .discoverRx lane ack _ _ _ => decide (lane < 16) && decide (ack < 65536)
  | .discoverSend lane => decide (lane < 16)
  | .jlRetry lane _ => decide (lane < 16)
  | .raccGo _ => true
  | .raccRequestRx lane path depth twin op addr wdata _ => decide (lane < 17) && path.length == 4 && decide (depth < 4) && decide (twin < 2) && decide (op < 3) && decide (addr < 0x100000000) && decide (wdata < 0x100000000)
  | .raccCompletionRx lane origin status rdata => decide (lane < 16) && decide (origin < 17) && decide (status < 8) && decide (rdata < 0x100000000)
  | .raccTimeout => true
  | .twinStateSend => true
  | .twinStateRx lane _ => decide (lane < 16)
  | .twinPeerTimeout => true
  | .ktlDispatchFrame ecc => decide (ecc < 3)
  | .ktlFragTimeout cluster origin bus => decide (cluster < 4) && decide (origin < 17) && decide (bus < 32)
  | .jobStart cluster => decide (cluster < 4)
  | .jobBudgetExpiry core => decide (core < 32)
  | .coreResume core _ => decide (core < 32)
  | .opAdd core _ _ => decide (core < 32)
  | .opSub core _ _ => decide (core < 32)
  | .opAnd core _ _ => decide (core < 32)
  | .opOr core _ _ => decide (core < 32)
  | .opXor core _ _ => decide (core < 32)
  | .opShl core _ _ => decide (core < 32)
  | .opShr core _ _ => decide (core < 32)
  | .opSar core _ _ => decide (core < 32)
  | .opMul core _ _ => decide (core < 32)
  | .opSlt core _ _ => decide (core < 32)
  | .opSltu core _ _ => decide (core < 32)
  | .opMin core _ _ => decide (core < 32)
  | .opMax core _ _ => decide (core < 32)
  | .opAddi core _ _ => decide (core < 32)
  | .opAndi core _ _ => decide (core < 32)
  | .opOri core _ _ => decide (core < 32)
  | .opXori core _ _ => decide (core < 32)
  | .opShli core _ _ => decide (core < 32)
  | .opShri core _ _ => decide (core < 32)
  | .opSari core _ _ => decide (core < 32)
  | .opShin core _ _ => decide (core < 32)
  | .opLd8 core _ _ => decide (core < 32)
  | .opLd16 core _ _ => decide (core < 32)
  | .opLd32 core _ _ => decide (core < 32)
  | .opLd64 core _ _ => decide (core < 32)
  | .opSt8 core _ _ => decide (core < 32)
  | .opSt16 core _ _ => decide (core < 32)
  | .opSt32 core _ _ => decide (core < 32)
  | .opSt64 core _ _ => decide (core < 32)
  | .opBeq core _ _ => decide (core < 32)
  | .opBne core _ _ => decide (core < 32)
  | .opBlt core _ _ => decide (core < 32)
  | .opBge core _ _ => decide (core < 32)
  | .opBltu core _ _ => decide (core < 32)
  | .opBgeu core _ _ => decide (core < 32)
  | .opJal core _ _ => decide (core < 32)
  | .opJr core _ _ => decide (core < 32)
  | .opExti core _ _ => decide (core < 32)
  | .opInsi core _ _ => decide (core < 32)
  | .opExt core _ _ => decide (core < 32)
  | .opIns core _ _ => decide (core < 32)
  | .opAadd core _ _ => decide (core < 32)
  | .opSrec core _ _ => decide (core < 32)
  | .opPrec core _ _ => decide (core < 32)
  | .opSrcv core _ _ => decide (core < 32)
  | .opSfwd core _ _ => decide (core < 32)
  | .opSval core _ _ => decide (core < 32)
  | .opSset core _ _ => decide (core < 32)
  | .opXfm core _ _ => decide (core < 32)
  | .opPget core _ _ => decide (core < 32)
  | .opPcnt core _ _ => decide (core < 32)
  | .opE2ec core _ _ _ => decide (core < 32)
  | .opPasm core _ _ => decide (core < 32)
  | .opE2ep core _ _ _ => decide (core < 32)
  | .opSend core _ _ => decide (core < 32)
  | .opCvuCalc core _ _ _ => decide (core < 32)
  | .opCvuFeed core _ _ _ => decide (core < 32)
  | .opCvuFinal core _ _ _ => decide (core < 32)
  | .opCvuStrip core _ _ _ => decide (core < 32)
  | .opCvuAppend core _ _ _ => decide (core < 32)
  | .opTime core _ _ => decide (core < 32)
  | .opEnd core _ _ => decide (core < 32)
  | .opBadop core _ _ => decide (core < 32)
  | .deadlineVisit signal => decide (signal < 131072)
  | .txSchedulerVisit pdu => decide (pdu < 32768)
  | .tmoPop _ => true
  | .buildGo batch _ => decide (batch < 256)
  | .buildDone _ _ => true
  | .hostReady batch => decide (batch < 256)
  | .sigFlipNow => true
  | .sigFlipAt => true
  | .sigFlipCancel => true
  | .sigFlipDue => true
  | .sigDrainEnd => true
  | .nodeDepartTimeout entry => decide (entry < 4096)
  | .nodePop _ => true
  | .nodeSummarySend _ => true
  | .nodeSummaryRx lane src _ => decide (lane < 16) && decide (src < 1024)
  | .childHoldExpiry owner => decide (owner < 1024)
  | .twinNodeHoldExpiry => true
  | .ddrTrainingDone _ => true
  | .servoSample => true
  | .servoModeWrite _ => true
  | .reacquire _ => true
  | .captureAbsenceTimeout => true
  | .hostStepGo _ => true
  | .hostStepApply => true
  | .pdelayReqRx ecc _ => decide (ecc < 3)
  | .pdelayReqSend port => decide (port < 16)
  | .pdelayRespRx ecc _ => decide (ecc < 3)
  | .syncRx ecc _ => decide (ecc < 3)
  | .syncOriginate inst => decide (inst < 4)
  | .syncReceiptTimeout inst => decide (inst < 4)
  | .ptpFrameToHost ecc _ => decide (ecc < 3)
  | .ppsEdge k => decide (k < 4)
  | .ppsWidthEnd k => decide (k < 4)
  | .ppsCapture input _ _ => decide (input < 2)
  | .capPop input _ => decide (input < 2)
  | .slotArm slot _ => decide (slot < 16)
  | .slotFire k _ => decide (k < 16)
  | .load _ => true
  | .loadAux _ => true
  | .derive _ => true
  | .commit _ => true
  | .commitAt _ => true
  | .cancelAt _ => true
  | .erase _ => true
  | .eraseAll _ => true
  | .kilnCommandDone => true
  | .timedCommit => true
  | .keyStageWrite k _ => decide (k < 8)
  | .keyStageTimeout => true
  | .lifecycleAdvance target => decide (target < 8)
  | .kilnIdReady => true
  | .maskSweepStart => true
  | .maskSweepVisit => true
  | .drbgReseed => true
  | .drbgHealthFail _ => true
  | .restart => true
  | .rngPop _ => true
  | .blkSha256 => true
  | .blkHmacSha256 slot => decide (slot < 1024)
  | .cmacGenerate slot => decide (slot < 1024)
  | .cmacVerify slot => decide (slot < 1024)
  | .identitySign => true
  | .challengeResponse slot => decide (slot < 1024)
  | .blockOpDone => true
  | .cipherParityError unit port _ => decide (unit < 4) && decide (port < 16)
  | .alarmTrip cause => decide (cause < 8)
  | .alarmErasureDone => true
  | .alarmClr _ _ => true
  | .alarmRestoreDone => true
  | .railGood r _ _ => decide (r < 10)
  | .railNotGood r => decide (r < 10)
  | .seqErrorRelease => true
  | .vsupUv mv => decide (mv < 4500)
  | .vsupOv => true
  | .vsupLoss => true
  | .powerOn => true
  | .thermalShutdown tj => decide (tj < 256)
  | .thermalRecovery tj => decide (tj < 256)
  | .domReqWrite _ => true
  | .domainSwitchDone => true
  | .domainCutTimeout => true
  | .lpEntryGo _ => true
  | .lpEntryAuto => true
  | .lpEntryComplete => true
  | .wakeInput input _ _ => decide (input < 4)
  | .canBusWake n kind _ => decide (n < 16) && decide (kind < 2)
  | .linBusWake n => decide (n < 8)
  | .linIdleSleep n => decide (n < 8)
  | .wakeSuppliesGood => true
  | .wakeSupplyTimeout => true
  | .wakeRetry => true
  | .wakeFirstClear _ => true
  | .pnSuspend n _ => decide (n < 16)
  | .pnSuspendEffect n => decide (n < 16)
  | .nmEnable k _ => decide (k < 8)
  | .nmWakeRequest k _ index => decide (k < 8) && decide (index < 65536)
  | .nmMessageRx k ident _ => decide (k < 8) && decide (ident < 2048)
  | .nmRingSend k => decide (k < 8)
  | .nmMsgComplete k => decide (k < 8)
  | .nmTmaxTimeout k => decide (k < 8)
  | .nmTerrTimeout k => decide (k < 8)
  | .nmWbsExpiry k => decide (k < 8)
  | .nmAddressTimeout k address => decide (k < 8) && decide (address < 256)
  | .caskCheckpoint => true
  | .hrecGo _ => true
  | .caskRecordWrite _ => true
  | .caskPageProgram fails => decide (fails < 4)
  | .caskFlushTimeout fails => decide (fails < 4)
  | .flush fails => decide (fails < 4)
  | .free => true
  | .caskEraseAll => true
  | .read => true
  | .caskCommandDone _ ecc fails _ => decide (ecc < 4) && decide (fails < 4)
  | .caskScan => true
  | .caskScanDone _ => true
  | .snap _ => true
  | .perfAt _ => true
  | .perfTimedRun => true
  | .perfClr _ => true
  | .tapPop _ => true
  | .hcmd _ => true
  | .hcmdDone _ ecc _ => decide (ecc < 4)
  | .bootStart _ ident _ _ _ => decide (ident < 256)
  | .bootFirmwareStart _ => true
  | .getInfo => true
  | .mbxRestart => true
  | .openSlot => true
  | .writeBlock _ => true
  | .closeSlot => true
  | .abortSlot => true
  | .readCert _ => true
  | .rackPrepare _ => true
  | .rackConfirm => true
  | .rackRevert => true
  | .rackUnit => true
  | .applyRecipe _ => true
  | .fuse => true
  | .mbxUnknownOp op => decide (op < 256)
  | .xferRx _ _ _ => true
  | .xferAckRx _ => true
  | .xferTimeout => true
  | .prepareRx _ _ => true
  | .rackPreparationDone _ => true
  | .readyRx _ _ => true
  | .goRx _ => true
  | .abortRx _ => true
  | .doneRx _ _ => true
  | .confirmRx _ => true
  | .revertRx _ => true
  | .rackReadyDeadline => true
  | .rackGuardDeadline => true
  | .rackActivation => true
  | .rackCheckDeadline => true
  | .rackRevertDeadline => true
  | .rackRevertApply => true
  | .degradeRequest _ => true
  | .degradeGrant => true
  | .degradeExit _ => true
  | .cellarerCycle _ => true
  | .cellarerLog => true
  | .cellarerEvent => true
  | .cellarerMeter => true
  | .cellarerListen _ => true
  | .cellarerPin => true
  | .cellarerReseed _ => true
  | .cellarerBatch _ => true
  | .cellarerBlock _ => true
  | .cellarerDegrade _ => true
  | .ruleClear r => decide (r < 256)
  | .resetNAssert _ => true
  | .resetNRelease => true
  | .testPinHigh levels => decide (levels < 4)
  | .perstRelease h => decide (h < 2)
  | .pcieLinkChange h _ gen width => decide (h < 2) && decide (gen < 16) && decide (width < 32)
  | .extest balls shift => decide (balls < 2 ^ 345) && decide (shift < 2 ^ 345)
  | .samplePreload balls shift => decide (balls < 2 ^ 345) && decide (shift < 2 ^ 345)
  | .idcode => true
  | .highz => true
  | .clamp => true
  | .bypass code => decide (code < 256)
  | .dbgReq value => decide (value < 0x100000000)
  | .dbgAccess op addr data _ => decide (op < 3) && decide (addr < 0x100000000) && decide (data < 0x100000000)
  | .mailboxCommandDone _ _ => true
  | .supervisorLockstepMismatch => true
  | .transceiverFaultClear channel bit => decide (channel < 16) && decide (bit < 4)
  | .plcaBeaconReceived segment => decide (segment < 8)
  | .thermalWarning tj => decide (tj < 256)
  | .vsupOvervoltageEnd => true
  | .tapTestLogicReset => true

end Sys2Proof
end

