-- ==== Sys2Proof/Safety.lean ====
section
/-! DEFINITION. The terms in which claims are made: the canonical form of the stores, a command that runs to a next state,
and what a next state leaves as it was. -/

namespace Sys2Proof.Machine

/-- Every store of the state is in its canonical form: register words, the bytes of BAR2, of LPDDR4X and of flash, and
the page states. -/
def Memory.wf (s : State) : Bool :=
  storeWf (resetWord s.grade) s.regs && storeWf (fun _ => (0 : Byte)) s.bar2 && storeWf (fun _ => (0 : Byte)) s.ddr
    && storeWf (fun _ => (0xFF : Byte)) s.flash && storeWf (fun _ => PageState.off) s.pages

/-- The state that each block keeps by port, slice, channel, queue, slot and the like is in canonical form too; every
core has its 16 registers, a PC of 14 bits and at most 2 KiB in its transmit window. -/
def Blocks.wf (s : State) : Bool :=
  storeWf (fun _ => Ingress.new) s.fab.inputs
    && storeWf (fun _ => Slice.new) s.fab.slices
    && storeWf (fun _ => Egress.new) s.egress
    && storeWf (fun _ => HostQueue.new) s.hostQ
    && storeWf (fun _ => EPort.new) s.ports
    && storeWf (fun _ => Segment.new) s.segs
    && storeWf (fun _ => CanCh.new) s.can
    && storeWf (fun _ => LinCh.new) s.lin
    && storeWf (fun _ => ([] : List CanFrame)) s.brg.queues
    && storeWf (fun _ => (⟨[], none⟩ : Tunnel)) s.brg.tunnels
    && storeWf (fun _ => JlLane.new) s.jal.lanes
    && storeWf (fun _ => none) s.sig.nodes
    && storeWf s.sig.lastRxBase s.sig.lastRx
    && storeWf (fun _ => 0) s.sig.sentAt
    && storeWf (fun _ => 0) s.sig.seqs
    && storeWf (fun _ => (⟨[], [], []⟩ : Cluster)) s.clusters
    && storeWf (fun _ => KCore.new) s.cores
    && storeWf (fun _ => CrcUnit.idle) s.units
    && storeWf (fun _ => KeySlot.new) s.kiln.slots
    && storeWf (fun _ => (⟨none, none, false, none⟩ : NmInst)) s.nm
    && storeWf (fun _ => Pipe.new) s.fwd.pipes
    && storeWf (fun _ => (⟨0, 0, 0, false⟩ : Meter)) s.fwd.meters
    && storeWf (fun _ => (⟨0, 0, 0, none, none⟩ : PpsOut)) s.timed.outs
    && storeWf (fun _ => PdPort.new) s.timed.pd
    && storeWf (fun _ => 0) s.timed.syncSeq
    && storeWf (fun _ => []) s.timed.caps
    && storeWf (fun _ => 0) s.timed.capSeq
    && storeWf (fun _ => RuleSt.new) s.guard.rules
    && s.cores.all fun x => x.2.regs.length == 16 && decide (x.2.pc < 16384) && decide (x.2.tx.length ≤ 2048)

/-- The state is canonical: memories, registers, pages and the blocks' own stores. -/
def State.sound (s : State) : Bool := Memory.wf s && Blocks.wf s

/-- A run is safe while the stores keep their canonical form. -/
def Safe (s : State) : Prop := s.sound = true

/-- The command answers a next state, of which `P` holds. -/
def Runs (i : Instr) (s : State) (P : State → Prop) : Prop := ∃ t, exec i s = .next t ∧ P t

/-- The command changes nothing. -/
def Idle (i : Instr) (s : State) : Prop := exec i s = .next s

/-- The memories behind BAR2, LPDDR4X and the flash are as they were. -/
def SameMem (s t : State) : Prop := t.bar2 = s.bar2 ∧ t.ddr = s.ddr ∧ t.flash = s.flash

/-- What no command but those that say so changes: the grade, the queue of waiting commands, the memories. -/
def SameBase (s t : State) : Prop := t.grade = s.grade ∧ t.pending = s.pending ∧ SameMem s t

/-- Every register outside the listed BAR0 pages (by page number) is as it was. -/
def OnlyPages (pages : List Nat) (s t : State) : Prop := ∀ off, ¬ off / 0x1000 ∈ pages → t.rd off = s.rd off

/-- Every register but those at the listed BAR0 offsets is as it was. -/
def OnlyRegs (offs : List Nat) (s t : State) : Prop := ∀ off, ¬ off ∈ offs → t.rd off = s.rd off

/-- The pages that the reporting of events writes, beside the page of the source: SYS, EVT, and the Cask's recorder and
counter pages. -/
def evPages : List Nat := [0x000, 0x010, 0x240, 0x241]

/-- Nothing but register words, the event log, the armed groups, the pending messages, the Cask and the outputs has
changed. -/
def Beside (s t : State) : Prop :=
  { t with regs := s.regs, log := s.log, cask := s.cask, armed := s.armed, msixPend := s.msixPend, out := s.out } = s

/-- What a command leaves as it was: the registers outside the listed pages and those of event reporting, and all else
of the state. -/
def Frame (pages : List Nat) (s t : State) : Prop := OnlyPages (pages ++ evPages) s t ∧ Beside s t

/-- Registers of which a rule beside the access codes decides what a write leaves in them: the pinning seed and the FRER
halves (R112, R516), seeds and masks of a bank (R171, R250), the data words of a LIN frame table (R237). -/
abbrev ruledReg (k : PageKind) (o : Nat) : Bool :=
  (k == .fabGlobal && (o == 0x050 || o == 0x084)) || (k == .pipeShared && decide (0x050 ≤ o) && decide (o < 0x060))
    || (k == .brgGlobal && (o == 0x050 || o == 0x054)) || (k == .lin && decide (0x400 ≤ o) && decide (o < 0x800))

/-- An offset is that of a word of a block register that the host can write, with no rule of its own: its page, page
number and description; PD3 is on. -/
abbrev State.reaches (s : State) (off : Nat) (k : PageKind) (i : Nat) (d : RegDesc) : Prop :=
  s.domOn 3 = true ∧ pageOf (off / 0x1000) = some (k, i) ∧ s.alive k i = true ∧ (s.dieLost && lineDiePage k) = false ∧
    k ≠ .caskUser ∧ ruledReg k (off % 0x1000) = false ∧ off % 4 = 0 ∧ 0x40 ≤ off % 0x1000 ∧ absentReg s.grade k i (off % 0x1000) = false ∧ descAt k (off % 0x1000) = some d

/-- A page whose PAGE_CTL a write reaches: PD3 on, present, in a domain that is on, with a state, not locked (R53). -/
abbrev State.controls (s : State) (page : Nat) (k : PageKind) (i : Nat) : Prop :=
  s.domOn 3 = true ∧ pageOf page = some (k, i) ∧ s.alive k i = true ∧ (s.dieLost && lineDiePage k) = false ∧
    k.noState = false ∧ (s.on (pageBase k i) hdrLock && s.on (pageBase k i) hdrLockCtl) = false

/-- No ACTION record watches the word at an address (R428): a write of it enters no OVERRIDE record. -/
abbrev State.unwatched (s : State) (addr : Nat) : Prop := s.cask.watch.find? (fun w => w.2 == addr) = none

/-- Core Kk begins the instruction at its PC: its job is below the limit and the word is not known to be uncorrectable
(R319, R330). -/
abbrev State.coreBegins (s : State) (k : Nat) : Prop :=
  s.coreRuns k = true ∧ (s.kc k).cycles < s.jobLimit k ∧ (s.kc k).mid = none ∧ s.ktlBad.contains (s.pcOff k) = false

/-- It has operation code `op`. -/
abbrev State.coreAt (s : State) (k op : Nat) : Prop := s.coreBegins k ∧ opOf (s.recipeWord k) = op

/-- What a write of `n` bytes from `a` on leaves of the uncorrectable words: those that it does not cover whole (R330).
-/
abbrev Mended (s t : State) (a n : Nat) : Prop := t.ktlBad = s.ktlBad.filter fun x => !(a ≤ x && x + 4 ≤ a + n)

/-- What an instruction that leaves its job running does to the cores: rd of core Kk holds `v` (X0 stays 0), none of its
other registers changes, its PC is `pc`, `n` more cycles have passed, its transmit window is `tx`, and the rest of it
and every other core are as they were. -/
abbrev CoreDid (s t : State) (k rd : Nat) (v : BitVec 64) (pc n : Nat) (tx : Bytes) : Prop :=
  t.cores = (s.setKc k { s.kc k with
    regs := if rd = 0 then (s.kc k).regs else (s.kc k).regs.set rd v
    pc := pc % 16384, cycles := (s.kc k).cycles + n, tx := tx }).cores ∧
  t.gf (ktB (k / 8)) (F.ktl_BUSY_CYC_COUNT.at (0x20 * (k % 8)))
    = (s.gf (ktB (k / 8)) (F.ktl_BUSY_CYC_COUNT.at (0x20 * (k % 8))) + n) % 2 ^ 32

/-- The instruction at the PC of core Kk: its fields' register values, extended immediates and descriptor. -/
abbrev State.rdN (s : State) (k : Nat) : Nat := rdOf (s.recipeWord k)
abbrev State.rdV (s : State) (k : Nat) : BitVec 64 := s.xr k (rdOf (s.recipeWord k))
abbrev State.raV (s : State) (k : Nat) : BitVec 64 := s.xr k (raOf (s.recipeWord k))
abbrev State.rbV (s : State) (k : Nat) : BitVec 64 := s.xr k (rbOf (s.recipeWord k))
abbrev State.immSV (s : State) (k : Nat) : BitVec 64 := immS (s.recipeWord k)
abbrev State.immZV (s : State) (k : Nat) : BitVec 64 := immZ (s.recipeWord k)

/-- An instruction that leaves its job running and the transmit window as it was, at the next instruction after `n`
cycles with `v` in its rd. -/
abbrev CoreNext (s t : State) (k : Nat) (v : BitVec 64) (n : Nat) : Prop :=
  CoreDid s t k (s.rdN k) v ((s.kc k).pc + 1) n (s.kc k).tx

/-- What a fault does: after some cycles the job ends, the core stands at the instruction and halts where HALT_ON_FAULT
asks, and its FAULT registers hold the code, the PC and the INFO (R330, R331). -/
abbrev CoreFaulted (s t : State) (k code info : Nat) : Prop :=
  t.cores = (s.setKc k { s.kc k with
    job := none, mid := none, cycles := (t.kc k).cycles
    halted := (s.kc k).halted || s.on (ktB (k / 8)) F.ktl_CTL_HALT_ON_FAULT }).cores ∧
  (s.kc k).cycles ≤ (t.kc k).cycles ∧
  t.gf (ktB (k / 8)) (F.ktl_FAULT_VALID.at (0x20 * (k % 8))) = 1 ∧
  t.gf (ktB (k / 8)) (F.ktl_FAULT_CODE.at (0x20 * (k % 8))) = code ∧
  t.gf (ktB (k / 8)) (F.ktl_FAULT_PC.at (0x20 * (k % 8))) = (s.kc k).pc ∧
  t.gf (ktB (k / 8)) (F.ktl_FAULT_INFO_INFO.at (0x20 * (k % 8))) = info % 2 ^ 32 ∧
  t.gf (ktB (k / 8)) F.ktl_FAULTS_COUNT = min 0xFFFFFFFF (s.gf (ktB (k / 8)) F.ktl_FAULTS_COUNT + 1) ∧
  t.evPend (352 + 8 * (k / 8)) = true

/-- A Kiln command has ended with a result and the KCV it reports (R370, R371). -/
abbrev KilnDone (t : State) (result kcv : Nat) : Prop :=
  t.kiln.cmd = none ∧ t.kf F.kilnMain_CMD_STS_BUSY = 0 ∧ t.kf F.kilnMain_CMD_STS_DONE = 1 ∧
  t.kf F.kilnMain_CMD_STS_RESULT = result ∧ t.kf F.kilnMain_CMD_STS_KCV = kcv ∧
  t.kiln.stage = List.replicate 8 0 ∧ t.kf F.kilnMain_STAGE_STS_WORDS = 0 ∧ t.evPend 417 = true

/-- A Kiln command refused with a result: it changes no slot and counts in REFUSED (R371). -/
abbrev KilnRefused (s t : State) (result : Nat) : Prop :=
  KilnDone t result 0 ∧ t.kiln.slots = s.kiln.slots ∧
  t.kf F.kilnMain_REFUSED_COUNT = min 0xFFFFFFFF (s.kf F.kilnMain_REFUSED_COUNT + 1)

/-- Steps 3 and 4 of R372 with a key: a KCV equal to KCV_EXP puts it into the shadow of its slot, with TYPE and USAGE,
counted; another ends with RESULT 4, counted in KCV_FAIL, and changes no slot. -/
abbrev KilnChecked (s t : State) (c : KilnCmd) (key : Bytes) (count : Fld) : Prop :=
  (kcvOf c.typ key = c.kcv → KilnDone t 0 c.kcv ∧
    (t.slot c.slot).shadow.map (fun x => (x.key.value, x.typ, x.usage)) = some (key, c.typ, c.usage) ∧
    (t.slot c.slot).key = (s.slot c.slot).key ∧ (t.slot c.slot).aux = (s.slot c.slot).aux ∧
    t.slotF c.slot F.kilnSlot_SLOT_ATTR_SHADOW = 1 ∧ t.kf count = min 0xFFFFFFFF (s.kf count + 1)) ∧
  (kcvOf c.typ key ≠ c.kcv → KilnDone t 4 0 ∧ t.kiln.slots = s.kiln.slots ∧
    t.kf F.kilnMain_KCV_FAIL_COUNT = min 0xFFFFFFFF (s.kf F.kilnMain_KCV_FAIL_COUNT + 1))

/-- The shadow of slot i has become its active key (R373). -/
abbrev KeyCommitted (s t : State) (i : Nat) (x : ShadowKey) : Prop :=
  t.slot i = ⟨some x.key, none, (s.slot i).aux⟩ ∧ t.slotF i F.kilnSlot_SLOT_ATTR_VALID = 1 ∧
  t.slotF i F.kilnSlot_SLOT_ATTR_SHADOW = 0 ∧ t.slotF i F.kilnSlot_SLOT_ATTR_TYPE = x.typ % 4 ∧
  t.slotF i F.kilnSlot_SLOT_ATTR_USAGE = x.usage % 256 ∧
  t.slotF i F.kilnSlot_SLOT_ATTR_GEN = (s.slotF i F.kilnSlot_SLOT_ATTR_GEN + 1) % 256 ∧
  t.kf F.kilnMain_COMMITS_COUNT = min 0xFFFFFFFF (s.kf F.kilnMain_COMMITS_COUNT + 1)

/-- The first `n` words of BLK_OUT as bytes. -/
abbrev State.blkOut (s : State) (n : Nat) : Bytes :=
  (List.range n).flatMap fun k => beBytes 4 (s.bf (F.ciphBlock_BLK_OUT_DATA.at (4 * k)))

/-- The Logic die has lost its power (R394, R500): no domain but PD1 and PD2 is on; every register outside AON is as
after reset, and so are the log and the cores; the wake page, the other registers of the PWR main page than RAW, PEND,
PSTATE, DOM_STS, DOM_BUSY and SUPPLY_STS, and the memories that need no power of it keep what they hold. -/
abbrev LogicDown (s t : State) : Prop :=
  t.domSts = natAnd s.domSts 6 ∧ t.domBusy = none ∧ t.log = [] ∧ t.cores = [] ∧
  (∀ off k i, pageOf (off / 0x1000) = some (k, i) → pageDomain k i ≠ 0 → t.rd off = resetWord s.grade off) ∧
  (∀ off, (off / 0x1000 = 0x21 ∨ (off / 0x1000 = 0x20 ∧
    ¬ off ∈ [0x20018, 0x2001C, 0x20040, 0x2004C, 0x20050, 0x20058])) → t.rd off = s.rd off) ∧
  t.ddr = s.ddr ∧ t.flash = s.flash ∧ t.kiln.fuses = s.kiln.fuses ∧ t.out = s.out ∧ t.pending = s.pending ∧
  t.grade = s.grade

/-- The registers of the pages of domain n are as after reset and its pages are OFF (R51). -/
abbrev DomainReset (t : State) (n : Nat) : Prop :=
  ∀ off k i, pageOf (off / 0x1000) = some (k, i) → pageDomain k i = n →
    t.rd off = resetWord t.grade off ∧ t.pst k i = .off

/-- The transmit object of ring instance k. -/
abbrev State.nmObj (s : State) (k : Nat) : Nat := s.nf k F.pwrRing_NM_CTL_OBJ

/-- Ring instance k has sent message `m` (R415): its object, requested, holds the identifier, 8 bytes and those bytes;
no other byte of BAR2 has changed than W1, W4, W7 and those of its data. -/
abbrev NmSent (s t : State) (k : Nat) (m : NmMsg) : Prop :=
  (t.nmOf k).msg = some m ∧ (t.nmOf k).next = none ∧
  t.objRd (s.nmObj k) 1 = s.nf k F.pwrRing_NM_CTL_BASE * 256 + s.nf k F.pwrRing_NM_CTL_ADDR ∧
  t.objRd (s.nmObj k) 4 = 8 ∧ t.objReq (s.nmObj k) = true ∧
  t.b2Bytes (s.objData (s.nmObj k)) 8 = t.nmBytes k m ∧
  (∀ a, ¬ (objW (s.nmObj k) 1 ≤ a ∧ a < objW (s.nmObj k) 2) → ¬ (objW (s.nmObj k) 4 ≤ a ∧ a < objW (s.nmObj k) 5) →
    ¬ (objW (s.nmObj k) 7 ≤ a ∧ a < objW (s.nmObj k) 8) →
    ¬ (s.objData (s.nmObj k) ≤ a ∧ a < s.objData (s.nmObj k) + 8) → t.b2Bytes a 1 = s.b2Bytes a 1)

/-- The object of ring instance k is free to take a message. -/
abbrev State.nmFree (s : State) (k : Nat) : Prop :=
  s.objReq (s.nmObj k) = false ∧ s.objOneShot (s.nmObj k) = false

/-- Of the wake sources, the one numbered `b` has been latched besides those of before; WAKE_FIRST names it where it
names none yet, or a higher-numbered one of the same 32 kHz cycle (R408; log entry 123). -/
abbrev WakeLatched (s t : State) (b : Nat) : Prop :=
  (∀ j, j < 32 → bitOf (t.gf wkB F.pwrWake_WAKE_SRC_SRC) j = (j == b || bitOf (s.gf wkB F.pwrWake_WAKE_SRC_SRC) j)) ∧
  t.gf wkB F.pwrWake_WAKE_FIRST_VALID = 1 ∧
  t.gf wkB F.pwrWake_WAKE_FIRST_SRC
    = (if s.on wkB F.pwrWake_WAKE_FIRST_VALID = true ∧
        ¬ (s.power.first = s.cycles / 6250 ∧ b < s.gf wkB F.pwrWake_WAKE_FIRST_SRC)
      then s.gf wkB F.pwrWake_WAKE_FIRST_SRC else b)

/-- The Cask, scanned, has room for a record of a kind with `n` payload bytes, and none has been discarded (R427). -/
abbrev State.takes (s : State) (kind n : Nat) : Prop :=
  s.domOn 3 = true ∧ s.on caB0 F.caskRec_STS_SCANNED = true ∧ s.cask.lost = 0 ∧
  s.cask.bytes + 28 + (n + 3) / 4 * 4 ≤ (if caskReserved kind then 65536 else 61440)

/-- A record has entered the Cask's buffer with the next SEQ, OPSEC, PWRCYC and STAMP (R425, R426). -/
abbrev Recorded (s t : State) (kind source : Nat) (payload : Bytes) : Prop :=
  t.cask.buf = s.cask.buf ++ [⟨kind, source, false, s.gf caB0 F.caskRec_NEXT_SEQ_VALUE, s.cask.opsec,
    s.gf caB0 F.caskRec_PWRCYC_VALUE, s.stamp, payload, none⟩] ∧
  t.gf caB0 F.caskRec_NEXT_SEQ_VALUE = (s.gf caB0 F.caskRec_NEXT_SEQ_VALUE + 1) % 2 ^ 32 ∧
  t.gf caB0 F.caskRec_BUF_LEVEL_BYTES = t.cask.bytes

/-- The flash holds the bytes at `a`, and every other byte is as it was. -/
abbrev FlashHolds (s t : State) (a : Nat) (b : Bytes) : Prop :=
  t.flashBytes a b.length = b ∧ ∀ x, (x < a ∨ a + b.length ≤ x) → t.flashBytes x 1 = s.flashBytes x 1

/-- The flash position at which the Cask writes next. -/
abbrev State.caskPos (s : State) (u : Nat) : Nat := s.unitAt u + s.cask.off

/-- The valid unit headers of the Cask's region, with their units. -/
abbrev State.headers (s : State) : List (Nat × CaskHeader) :=
  (List.range s.caskUnits).filterMap fun u => (s.unitHeader u).map fun h => (u, h)

/-- What the scan of the newest unit `u` with header `h` finds on SPI NOR (Table 14-5). -/
abbrev State.walked (s : State) (u : Nat) (h : CaskHeader) : Walk :=
  s.walkNor (s.unitAt u) (s.caskUnitBytes / 28) 64 { Walk.new h with
    pwrcyc := s.headers.foldl (fun a x => max a x.2.pwrcyc) 0, opsec := s.headers.foldl (fun a x => max a x.2.opsec) 0 }

/-- The Supervisor's firmware runs and the mailbox waits for a command (R451). -/
abbrev State.mbxReady (s : State) : Prop :=
  s.run .svc 0 = true ∧ s.sup.phase = .firmware ∧ s.gf svcB F.svc_MBX_STS_BUSY = 0 ∧ s.sup.job = none ∧
  s.unwatched (svcB + 0x048)

/-- A word of MBX_ARG, and the arguments of a command. -/
abbrev State.mbxArg (s : State) (k : Nat) : Nat := s.gf svcB (F.svc_MBX_ARG_DATA.at (4 * k))
abbrev State.mbxArgs (s : State) : List Nat := (List.range 8).map fun k => s.gf svcB (F.svc_MBX_ARG_DATA.at (4 * k))

/-- A mailbox command of the host has ended (R451). -/
abbrev MbxEnded (t : State) (result : Nat) : Prop :=
  t.gf svcB F.svc_MBX_STS_BUSY = 0 ∧ t.gf svcB F.svc_MBX_STS_DONE = 1 ∧ t.gf svcB F.svc_MBX_STS_RESULT = result % 256 ∧
  t.evPend 41 = true ∧ t.sup.job = none

/-- The host's command runs on: the job that MAILBOX_COMMAND_DONE ends. -/
abbrev MbxRuns (s t : State) (op : Nat) (data : Bytes) : Prop :=
  t.sup.job = some ⟨op, s.mbxArgs, data, none⟩ ∧ t.gf svcB F.svc_MBX_STS_BUSY = 1

/-- The Racking state has changed (R456): coordinator, participant, RACK_STS.STATE, EV42. -/
abbrev RackAt (t : State) (coord part shown : Nat) : Prop :=
  t.rack.coord = coord ∧ t.rack.part = part ∧ t.gf updB F.upd_RACK_STS_STATE = shown ∧ t.evPend 42 = true

/-- A message for this unit and for the Racking in progress. -/
abbrev State.isOurs (s : State) (m : UpdMsg) : Prop :=
  m.target = s.unitPath ∧ m.manifest = s.gf updB F.upd_MANIFEST_ID_ID

/-- A participant that is no part of the unit that coordinates: its messages leave over a lane. -/
abbrev State.farOrigin (s : State) : Prop := s.rack.origin ≠ s.unitPath

/-- No participant of this coordinator is the unit itself. -/
abbrev State.farUnits (s : State) : Prop := s.rack.units.all (fun u => u.path != s.unitPath) = true

/-- An update message has been sent, or waits, on every lane toward its target. -/
abbrev UpdSent (s t : State) (typ : Nat) (m : UpdMsg) : Prop :=
  ∀ n ∈ s.updLanes m.target,
    (∃ q a p np w, Out.jalden n (wireTyp typ) 0 q a p np (updBytes m) w ∈ t.out) ∨
    (∃ f ∈ (t.jl n).wait, f.typ = wireTyp typ ∧ f.cls = 0 ∧ f.payload = updBytes m)

/-- Page kinds of which no block does anything more when they enter RUN. -/
def plainPages : List PageKind :=
  [.timeGptp, .macsec, .canGlobal, .brgGlobal, .sigNode, .crc, .ciphGlobal, .kilnSlot, .kilnId, .upd, .qspi, .guardRule]

/-- Payload of an ACTION record (R481, Table 14-3). -/
abbrev actionBytes (a : GuardAct) (code value before : Nat) : Bytes :=
  leBytes 2 a.rule ++ leBytes 1 code ++ [0] ++ leBytes 4 a.target ++ leBytes 4 value ++ leBytes 4 before

/-- The oldest action has left the queue, is counted, and its ACTION record is in the Cask's buffer or counted as
lost (R425, R480, R482). -/
abbrev Acted (s t : State) (a : GuardAct) (rest : List GuardAct) (failed : Bool) (value before : Nat) : Prop :=
  t.guard.queue = rest ∧
  t.gf guB F.guardGlobal_ACTIONS_COUNT = (s.gf guB F.guardGlobal_ACTIONS_COUNT + b2n (!failed)) % 2 ^ 32 ∧
  t.gf guB F.guardGlobal_ACTION_FAIL_COUNT = min 0xFFFFFFFF (s.gf guB F.guardGlobal_ACTION_FAIL_COUNT + b2n failed) ∧
  ((∃ r ∈ t.cask.buf, r.kind = 1 ∧ r.source = a.rule ∧
      r.payload = actionBytes a (a.code + 0x80 * b2n failed) value before) ∨
    s.gf caB0 F.caskRec_LOST_COUNT < t.gf caB0 F.caskRec_LOST_COUNT ∨ t.gf caB0 F.caskRec_LOST_COUNT = 0xFFFFFFFF)

/-- v of rule r, whose source is a register (R477). -/
def State.ruleSample (s : State) (r : Nat) : Nat :=
  natAnd (s.peekReg (s.ruleF r F.guardRule_SRC_ADDR / 4 * 4)) (s.ruleF r F.guardRule_MASK_MASK)

/-- Whether the next cycle's sample of rule r starts a window (R478). -/
def State.ruleWindow (s : State) (r : Nat) : Bool := s.ruleF r F.guardRule_WINDOW_CYCLES ≤ (s.ruleSt r).win + 1

/-- The quantity of rule r that the next cycle compares (R478). -/
def State.ruleQuantity (s : State) (r : Nat) : Nat :=
  if s.ruleF r F.guardRule_RULE_CTL_KIND = 1 then (s.ruleSample r + 2 ^ 32 - (s.ruleSt r).prev) % 2 ^ 32
  else if s.ruleF r F.guardRule_RULE_CTL_KIND = 2 then
    (if s.ruleWindow r then 0 else (s.ruleSample r + 2 ^ 32 - (s.ruleSt r).ref) % 2 ^ 32)
  else s.ruleSample r

/-- Whether the condition of rule r holds in the next cycle's sample (R478). -/
def State.ruleTrue (s : State) (r : Nat) : Bool :=
  let q := s.ruleQuantity r
  let t := s.ruleF r F.guardRule_THRESH_VALUE
  if s.ruleF r F.guardRule_RULE_CTL_CMP = 0 then t < q
  else if s.ruleF r F.guardRule_RULE_CTL_CMP = 1 then q < t
  else if s.ruleF r F.guardRule_RULE_CTL_CMP = 2 then q = t
  else q ≠ t

/-- The state in which DBG_ACCESS has captured its last access and is selected (R510). -/
abbrev State.dbgCaptured (s : State) : State :=
  { s with
    out := s.out ++ [.tdo 8 1, .tdo 66 (s.jtag.dbgStatus * 2 ^ 64 + s.jtag.dbgAddr * 2 ^ 32 + s.jtag.dbgData)]
    jtag := { s.jtag with ir := 0x41 } }

/-- The state in which Capture-DR of DBG_ACCESS returns this STATUS, address and data (R510). -/
abbrev State.dbgShows (s : State) (status addr data : Nat) : State :=
  { s with jtag := { s.jtag with dbgStatus := status, dbgAddr := addr, dbgData := data } }

end Sys2Proof.Machine
end

