-- ==== Sys2Proof/Certificates/Slice0/Obligations.lean ====
section
/-! DEFINITION. The statements for the provers. -/

open Sys2Proof Sys2Proof.Machine

/-- A step runs the command at the front of the queue, and on an empty queue it is a clock tick (design choice, log entry
7). For every command c and state s: the step of s with c at the front of its queue is exec c on s with the queue's
rest. The model's choice (log entry 7): on an empty queue a step answers the state after one CLK_SYS tick. Its clock
part adds 1 to the cycles since reset. -/
def Obligations.StepRunsFrontCommand : Prop :=
  (∀ (s : State) (c : Instr) (rest : List Instr),
    step { s with pending := c :: rest } = exec c { s with pending := rest }) ∧
  (∀ (s : State),
    s.pending = [] →
    step s = .next s.tick) ∧
  (∀ (s : State),
    s.clockTick.cycles = s.cycles + 1)

/-- No command stops the block (log entry 1). Every command answers a next state from every state: no meaning ends in a
fault or a refusal. That a command whose condition does not hold is answered so too is the model's reading of R11
(DEDUCED, log entry 1). -/
def Obligations.EveryCommandAnswersNext : Prop :=
  (∀ (c : Instr) (s : State),
    ∃ t, exec c s = .next t)

/-- What the state after reset holds. After reset the event log is empty, every group is armed, no command waits, nothing
has been sent, and every page is OFF. Every page has EVT_MASK 1 in each source bit, and EVT_PEND and EVT_RAW 0. TMO_CYC
is 0x320, THRESH 0x300 and LOG_EN 0. -/
def Obligations.ResetState : Prop :=
  (State.reset.log = [] ∧ State.reset.armed = 0xFFFF ∧ State.reset.pending = [] ∧ State.reset.out = [] ∧ (∀ k i,
    State.reset.pst k i = .off)) ∧
  (∀ (k : PageKind) (i : Nat),
    i < k.count →
    (State.reset.gf (pageBase k i) hdrMask = sourceBits k ∧ State.reset.gf (pageBase k i) hdrPend = 0 ∧ State.reset.gf
      (pageBase k i) hdrRaw = 0)) ∧
  (State.reset.gf (pageBase .sys 0) F.sys_BUS_TMO_TMO_CYC = 0x320 ∧ State.reset.gf (pageBase .evt 0) F.evt_LOG_CTL_THRESH
    = 0x300 ∧ State.reset.gf (pageBase .evt 0) F.evt_LOG_CTL_LOG_EN = 0)

/-- The stores are canonical after reset. The register words, the BAR2 bytes, LPDDR4X, flash, the page states and the
blocks' own stores are in canonical form after reset. -/
def Obligations.ResetKeepsCanonicalStores : Prop :=
  (State.reset.sound = true)

/-- Every step keeps the stores canonical. From every state whose register words, BAR2 bytes, LPDDR4X, flash, page states
and blocks' own stores are in canonical form (keys strictly rising, no entry equal to what an unlisted one reads as), a
step, whatever command is at the front, leads to such a state. -/
def Obligations.EveryStepKeepsCanonicalStores : Prop :=
  (∀ (s t : State),
    s.sound = true → step s = .next t →
    t.sound = true)

/-- PAGE_ID shows the block code, bits [23:16] of the block's base. For every page of every block of Table 2-1 that the
grade has, in a state whose registers hold their reset words, BLOCK of PAGE_ID equals bits [23:16] of the block's base
address. -/
def Obligations.BlockCodeIsBaseByte : Prop :=
  (∀ (s : State) (base size page : Nat) (k : PageKind) (i : Nat),
    (base, size) ∈ ([(0x000000, 0x10000), (0x010000, 0x10000), (0x020000, 0x20000), (0x040000, 0x40000), (0x080000,
      0x40000), (0x0C0000, 0x40000), (0x100000, 0x40000), (0x140000, 0x10000), (0x150000, 0x20000), (0x170000, 0x10000),
      (0x180000, 0x20000), (0x1A0000, 0x20000), (0x1C0000, 0x40000), (0x200000, 0x10000), (0x210000, 0x10000), (0x220000,
      0x20000), (0x240000, 0x20000), (0x260000, 0x20000), (0x280000, 0x10000), (0x290000, 0x10000), (0x2A0000, 0x20000),
      (0x2C0000, 0x20000), (0x2E0000, 0x20000)] : List (Nat × Nat)) → base ≤ 0x1000 * page → 0x1000 * page < base + size
      → pageOf page = some (k, i) → s.grade.hasPage k i = true → (s.dieLost && lineDiePage k) = false → s.regs = [] →
    s.peekReg (0x1000 * page) / 2 ^ 24 = base / 2 ^ 16 % 2 ^ 8)

/-- Each rejected write increments REJ_CNT and raises EV1. In canonical states with PD3 on: a BAR0 write that is not one
word with byte enables 0xF adds 1 to REJ_CNT (saturating at 255), puts its offset into BUS_ERR_ADDR and leaves EV1
pending; nothing else changes but what event reporting writes. The same for a write of a reserved page. The same for a
write of a page whose domain is off, or of a Line-die page while the die-to-die link is lost. The same for a write by
any writer at a 32-bit address in no space. -/
def Obligations.RejectedWriteCounts : Prop :=
  (∀ (s : State) (off : Nat) (w : Word) (be ndw : Nat),
    Memory.wf s = true → s.domOn 3 = true → (be ≠ 15 ∨ ndw ≠ 1) →
    Runs (.registerWrite off w be ndw) s fun t =>
      (t.gf (pageBase .sys 0) F.sys_BUS_ERR_REJ_CNT = min 255 (s.gf (pageBase .sys 0) F.sys_BUS_ERR_REJ_CNT + 1)) ∧
      (t.gf (pageBase .sys 0) F.sys_BUS_ERR_ADDR_OFFSET = off % 2 ^ 26) ∧
      (t.evPend 1 = true) ∧
      Frame [] s t) ∧
  (∀ (s : State) (off : Nat) (w : Word),
    Memory.wf s = true → s.domOn 3 = true → pageOf (off % 2 ^ 26 / 0x1000) = none →
    Runs (.registerWrite off w 15 1) s fun t =>
      (t.gf (pageBase .sys 0) F.sys_BUS_ERR_REJ_CNT = min 255 (s.gf (pageBase .sys 0) F.sys_BUS_ERR_REJ_CNT + 1)) ∧
      (t.gf (pageBase .sys 0) F.sys_BUS_ERR_ADDR_OFFSET = off % 2 ^ 26 / 4 * 4) ∧
      (t.evPend 1 = true) ∧
      Frame [] s t) ∧
  (∀ (s : State) (off : Nat) (w : Word) (k : PageKind) (i : Nat),
    Memory.wf s = true → s.domOn 3 = true → pageOf (off % 2 ^ 26 / 0x1000) = some (k, i) → s.grade.hasPage k i = true →
      ((s.dieLost && lineDiePage k) = true ∨ s.domOn (pageDomain k i) = false) →
    Runs (.registerWrite off w 15 1) s fun t =>
      (t.gf (pageBase .sys 0) F.sys_BUS_ERR_REJ_CNT = min 255 (s.gf (pageBase .sys 0) F.sys_BUS_ERR_REJ_CNT + 1)) ∧
      (t.gf (pageBase .sys 0) F.sys_BUS_ERR_ADDR_OFFSET = off % 2 ^ 26 / 4 * 4) ∧
      (t.evPend 1 = true) ∧
      Frame [] s t) ∧
  (∀ (who : Writer) (addr : Nat) (w : Word) (s : State),
    Memory.wf s = true → s.domOn 3 = true → placeOf addr = .nowhere →
    (State.busWrite who addr w s).2 = true ∧ (State.busWrite who addr w s).1.gf (pageBase .sys 0) F.sys_BUS_ERR_REJ_CNT =
      min 255 (s.gf (pageBase .sys 0) F.sys_BUS_ERR_REJ_CNT + 1) ∧ (State.busWrite who addr w s).1.gf (pageBase .sys 0)
      F.sys_BUS_ERR_ADDR_OFFSET = bitsOf addr 25 0 ∧ (State.busWrite who addr w s).1.evPend 1 = true)

/-- A register write stores each field by its access code, lock and Clamp entry. For a write that reaches a block
register of a page (by any writer, in a canonical state, the register none of which a rule of its own decides what is
stored: R112, R171, R237, R250, R516): a RW field, and a WL field of an unlocked page, takes the nearest legal value. A
RO, RC or WO field, and a WL field of a locked page, keeps its value. A W1C field loses the bits written 1. A write
that clamps some field adds 1 to COUNT of CLAMP_CNT, saturating, and sets LAST_OFF. A write that the lock keeps from
some field adds 1 to VIOL, saturating. -/
def Obligations.WriteObeysAccessCodes : Prop :=
  (∀ (s : State) (off : Nat) (k : PageKind) (i : Nat) (d : RegDesc) (w : Word) (f : FieldDesc),
    Memory.wf s = true → s.reaches off k i d → f ∈ d.fields → (f.acc = .rw ∨ f.acc = .wl ∧ s.on (pageBase k i) hdrLock =
      false) →
    bitsOf ((s.regWrite off w).1.rd off).toNat f.hi f.lo = clampTo s (pageBase k i) (off % 0x1000) w.toNat f.clamp
      (bitsOf w.toNat f.hi f.lo) % 2 ^ (f.hi + 1 - f.lo)) ∧
  (∀ (s : State) (off : Nat) (k : PageKind) (i : Nat) (d : RegDesc) (w : Word) (f : FieldDesc),
    Memory.wf s = true → s.reaches off k i d → f ∈ d.fields → (f.acc = .ro ∨ f.acc = .rc ∨ f.acc = .wo ∨ f.acc = .wl ∧
      s.on (pageBase k i) hdrLock = true) →
    bitsOf ((s.regWrite off w).1.rd off).toNat f.hi f.lo = bitsOf (s.rd off).toNat f.hi f.lo) ∧
  (∀ (s : State) (off : Nat) (k : PageKind) (i : Nat) (d : RegDesc) (w : Word) (f : FieldDesc),
    Memory.wf s = true → s.reaches off k i d → f ∈ d.fields → f.acc = .w1c →
    bitsOf ((s.regWrite off w).1.rd off).toNat f.hi f.lo = bitsOf (s.rd off).toNat f.hi f.lo - natAnd (bitsOf (s.rd
      off).toNat f.hi f.lo) (bitsOf w.toNat f.hi f.lo)) ∧
  (∀ (s : State) (off : Nat) (k : PageKind) (i : Nat) (d : RegDesc) (w : Word),
    Memory.wf s = true → s.reaches off k i d → (∃ f ∈ d.fields, (f.acc = .rw ∨ f.acc = .wl ∧ s.on (pageBase k i) hdrLock
      = false) ∧ clampTo s (pageBase k i) (off % 0x1000) w.toNat f.clamp (bitsOf w.toNat f.hi f.lo) ≠ bitsOf w.toNat f.hi
      f.lo) →
    (s.regWrite off w).1.gf (pageBase k i) hdrClampCount = min 0xFFFF (s.gf (pageBase k i) hdrClampCount + 1) ∧
      (s.regWrite off w).1.gf (pageBase k i) hdrClampOff = off % 0x1000) ∧
  (∀ (s : State) (off : Nat) (k : PageKind) (i : Nat) (d : RegDesc) (w : Word),
    Memory.wf s = true → s.reaches off k i d → (∃ f ∈ d.fields, f.acc = .wl ∧ s.on (pageBase k i) hdrLock = true ∧ bitsOf
      w.toNat f.hi f.lo ≠ bitsOf (s.rd off).toNat f.hi f.lo) →
    (s.regWrite off w).1.gf (pageBase k i) hdrViol = min 0xFF (s.gf (pageBase k i) hdrViol + 1))

/-- An accepted PAGE_CTL write follows the rows of Table 2-4. For a page that the write reaches, and without an SRST that
the page ignores (R48, R105, R519): the next state is that of Table 2-4 by SRST, EN and QUIESCE as written. EN and
QUIESCE hold the bits written. In QUIESCING, PEND_EN becomes the EN written, and 0 with SRST. With LOCK and LOCK_CTL
set the write changes no page state. Where the page ignores SRST, a write by any writer is the one with SRST 0. -/
def Obligations.PageControlFollowsTable : Prop :=
  (∀ (s : State) (page : Nat) (k : PageKind) (i : Nat) (w : Word),
    Memory.wf s = true → s.controls page k i → (s.srstIgnored k i && w.getLsbD 1) = false →
    (s.regWrite (0x1000 * page + 0x00C) w).1.pst k i =
        (match s.pst k i with
          | .off => if w.getLsbD 1 then .resetting else if w.getLsbD 0 then (if w.getLsbD 2 then .held else .run) else
          .off
          | .run => if w.getLsbD 1 then .resetting else if w.getLsbD 0 && !w.getLsbD 2 then .run else .quiescing
          | .quiescing => if w.getLsbD 1 then .resetting else .quiescing
          | .held => if w.getLsbD 1 then .resetting else if !w.getLsbD 0 then .off else if w.getLsbD 2 then .held else
          .run
          | .resetting => .resetting : PageState)) ∧
  (∀ (s : State) (page : Nat) (k : PageKind) (i : Nat) (w : Word),
    Memory.wf s = true → s.controls page k i →
    (s.regWrite (0x1000 * page + 0x00C) w).1.gf (pageBase k i) hdrEn = b2n (w.getLsbD 0) ∧ (s.regWrite (0x1000 * page +
      0x00C) w).1.gf (pageBase k i) hdrQuiesce = b2n (w.getLsbD 2)) ∧
  (∀ (s : State) (page : Nat) (k : PageKind) (i : Nat) (w : Word),
    Memory.wf s = true → s.controls page k i → s.pst k i = .quiescing →
    (s.regWrite (0x1000 * page + 0x00C) w).1.gf (pageBase k i) hdrPendEn = b2n (w.getLsbD 0 && !w.getLsbD 1)) ∧
  (∀ (s : State) (page : Nat) (k : PageKind) (i : Nat) (w : Word),
    pageOf page = some (k, i) → s.alive k i = true → (s.dieLost && lineDiePage k) = false → k.noState = false → s.on
      (pageBase k i) hdrLock = true → s.on (pageBase k i) hdrLockCtl = true →
    (s.regWrite (0x1000 * page + 0x00C) w).1.pages = s.pages ∧ (s.regWrite (0x1000 * page + 0x00C) w).1.gf (pageBase k i)
      hdrPendEn = s.gf (pageBase k i) hdrPendEn) ∧
  (∀ (s : State) (page : Nat) (k : PageKind) (i : Nat) (who : Writer) (w : Word),
    Memory.wf s = true → s.controls page k i → s.srstIgnored k i = true → s.unwatched (0x1000 * page + 0x00C) →
    State.busReg who (0x1000 * page + 0x00C) w s = State.busReg who (0x1000 * page + 0x00C) (w &&& ~~~(2#32)) s)

/-- What the page commands do on a page of a plain kind. In a canonical state, for a page that the host can control and
of a kind that starts nothing on its own: PAGE_ENABLE takes an OFF page with QUIESCE 0 to RUN and sets EN. PAGE_QUIESCE
takes a RUN page to QUIESCING. PAGE_SRST takes it to RESETTING. QUIESCE_DRAINED takes QUIESCING to OFF, HELD or RUN by
EN and QUIESCE. PAGE_RESET_COMPLETE takes RESETTING to OFF, HELD or RUN and clears FAULT, EVT_RAW and EVT_PEND.
PAGE_LOCK_WRITE sets LOCK and LOCK_CTL of any page with a state but never clears them. CNT_CLR zeroes every counter
word that the page layout puts under it (fabric port, tunnel, node, CRC unit and DDR pages). -/
def Obligations.PageCommandsRun : Prop :=
  (∀ (s : State) (page : Nat) (k : PageKind) (i : Nat),
    Memory.wf s = true → k ∈ plainPages → s.controls page k i → s.pst k i = .off → s.gf (pageBase k i) hdrQuiesce = 0 →
    Runs (.pageEnable page true) s fun t =>
      (t.pst k i = .run) ∧
      (t.gf (pageBase k i) hdrEn = 1)) ∧
  (∀ (s : State) (page : Nat) (k : PageKind) (i : Nat),
    Memory.wf s = true → k ∈ plainPages → s.controls page k i → s.pst k i = .run → s.gf (pageBase k i) hdrEn = 1 →
    Runs (.pageQuiesce page true) s fun t =>
      (t.pst k i = .quiescing) ∧
      (t.gf (pageBase k i) hdrQuiesce = 1)) ∧
  (∀ (s : State) (page : Nat) (k : PageKind) (i : Nat),
    Memory.wf s = true → k ∈ plainPages → s.controls page k i →
    Runs (.pageSrst page) s fun t =>
      t.pst k i = .resetting) ∧
  (∀ (s : State) (page : Nat) (k : PageKind) (i : Nat),
    Memory.wf s = true → k ∈ plainPages → s.controls page k i → s.pst k i = .quiescing → s.workInFlight k i = false →
    Runs (.quiesceDrained page) s fun t =>
      t.pst k i = (if s.gf (pageBase k i) hdrEn = 0 then .off else if s.gf (pageBase k i) hdrQuiesce = 1 then .held else
        .run)) ∧
  (∀ (s : State) (page : Nat) (k : PageKind) (i : Nat),
    Memory.wf s = true → k ∈ plainPages → s.controls page k i → s.pst k i = .resetting →
    Runs (.pageResetComplete page) s fun t =>
      (t.pst k i = (if s.gf (pageBase k i) hdrEn = 0 then .off else if s.gf (pageBase k i) hdrQuiesce = 1 then .held else
        .run)) ∧
      (t.gf (pageBase k i) hdrFault = 0) ∧
      (t.gf (pageBase k i) hdrRaw = 0) ∧
      (t.gf (pageBase k i) hdrPend = 0)) ∧
  (∀ (s : State) (page : Nat) (k : PageKind) (i : Nat) (w : Word),
    Memory.wf s = true → s.controls page k i → k ≠ .caskRec →
    Runs (.pageLockWrite page w) s fun t =>
      (t.gf (pageBase k i) hdrLock = max (s.gf (pageBase k i) hdrLock) (bitsOf w.toNat 0 0)) ∧
      (t.gf (pageBase k i) hdrLockCtl = max (s.gf (pageBase k i) hdrLockCtl) (bitsOf w.toNat 1 1)) ∧
      Frame [page] s t) ∧
  (∀ (s : State) (page : Nat) (k : PageKind) (i c : Nat) (rs : List (Nat × Nat)) (r : Nat × Nat) (o : Nat) (w : Word),
    Memory.wf s = true → k ∈ [.fabPort, .brgTunnel, .sigNode, .crc, .ddr] → pageOf page = some (k, i) → s.alive k i =
      true → (s.dieLost && lineDiePage k) = false → clearRanges k i = some (c, rs) → r ∈ rs → r.1 ≤ o → o ≤ r.2 → o % 4 =
      0 → w.getLsbD 0 = true →
    Runs (.cntClr (0x1000 * page + c) w) s fun t =>
      (t.rd (0x1000 * page + o) = 0) ∧
      Frame [page] s t)

/-- What an occurrence, its clearing, its message and its log record do. An occurrence of a pulse source sets its PEND
bit; masked it adds no record of that source; unmasked, with logging on, room and, for a Line-die page, the die-to-die
link up, its record follows those held. A level source reads 1 in EVT_RAW after it, and a rise sets PEND.
EVT_PEND_CLEAR clears the bits written 1 (of a word that no ACTION record watches). A source that occurs in the same
cycle stays pending. GRP_EOI arms the group; with its summary 1 and a route to an H port the message is sent instead.
LOG_POP returns VALID, detail and source of the oldest record, removes it, and keeps the word and the stamp in the
shadow registers. On an empty log it returns 0 and changes nothing. LOG_OVF_CLEAR, with EV3 true to the level, clears
OVF, LOG_LOST and EV2. -/
def Obligations.EventsAreRecorded : Prop :=
  (∀ (s : State) (n detail : Nat) (k : PageKind) (i b : Nat),
    Memory.wf s = true → sourceHome n = some (k, i, b) → s.alive k i = true → levelSource n = false →
    Runs (.eventOccurrence n detail) s fun t =>
      (t.evPend n = true) ∧
      ((s.evMasked n = true → t.log.filter (fun r => r.source == n) = s.log.filter (fun r => r.source == n))) ∧
      (((s.dieLost && lineDiePage k) = false → s.evMasked n = false → s.domOn 3 = true → s.on (pageBase .evt 0)
        F.evt_LOG_CTL_LOG_EN = true → s.log.length < 1024 → (s.log ++ [⟨n, detail % 256, s.stamp⟩]) <+: t.log)) ∧
      Frame [pageBase k i / 0x1000] s t) ∧
  (∀ (s : State) (n detail : Nat) (k : PageKind) (i b : Nat),
    Memory.wf s = true → sourceHome n = some (k, i, b) → s.alive k i = true → levelSource n = true → n ≠ 2 → n ≠ 3 →
    Runs (.eventOccurrence n detail) s fun t =>
      (bitOf (t.gf (pageBase k i) hdrRaw) b = true) ∧
      ((bitOf (s.gf (pageBase k i) hdrRaw) b = false → t.evPend n = true)) ∧
      Frame [pageBase k i / 0x1000] s t) ∧
  (∀ (s : State) (page : Nat) (k : PageKind) (i : Nat) (w : Word),
    Memory.wf s = true → pageOf page = some (k, i) → s.alive k i = true → (s.dieLost && lineDiePage k) = false → k ≠
      .caskUser → s.unwatched (0x1000 * page + 0x01C) →
    Runs (.evtPendClear page w []) s fun t =>
      (t.gf (pageBase k i) hdrPend = s.gf (pageBase k i) hdrPend - natAnd (s.gf (pageBase k i) hdrPend) w.toNat) ∧
      Frame [page] s t) ∧
  (∀ (s : State) (page : Nat) (k : PageKind) (i : Nat) (w : Word) (again : List (Nat × Nat)) (x : Nat × Nat) (b : Nat),
    Memory.wf s = true → pageOf page = some (k, i) → s.alive k i = true → x ∈ again → sourceHome x.1 = some (k, i, b) →
    Runs (.evtPendClear page w again) s fun t =>
      t.evPend x.1 = true) ∧
  (∀ (s : State) (w : Word) (g : Nat),
    s.domOn 3 = true → g < 16 → w.getLsbD g = true → s.unwatched 0x10084 →
    Runs (.grpEoi w) s fun t =>
      (bitOf t.armed g = !(bitOf (s.gf (pageBase .evt 0) F.evt_GRP_SUM_SUM) g && (s.gf (pageBase .evt 0)
        (F.evt_GRP_ROUTE_TARGET.at (4 * g)) == 1 || s.gf (pageBase .evt 0) (F.evt_GRP_ROUTE_TARGET.at (4 * g)) == 2))) ∧
      ((bitOf t.armed g = false → 64 * (s.gf (pageBase .evt 0) (F.evt_GRP_ROUTE_TARGET.at (4 * g)) - 1) + s.gf (pageBase
        .evt 0) (F.evt_GRP_ROUTE_VECTOR.at (4 * g)) ∈ s.msixMask → 64 * (s.gf (pageBase .evt 0)
        (F.evt_GRP_ROUTE_TARGET.at (4 * g)) - 1) + s.gf (pageBase .evt 0) (F.evt_GRP_ROUTE_VECTOR.at (4 * g)) ∈
        t.msixPend)) ∧
      ((bitOf t.armed g = false → ¬ 64 * (s.gf (pageBase .evt 0) (F.evt_GRP_ROUTE_TARGET.at (4 * g)) - 1) + s.gf
        (pageBase .evt 0) (F.evt_GRP_ROUTE_VECTOR.at (4 * g)) ∈ s.msixMask → .msix (s.gf (pageBase .evt 0)
        (F.evt_GRP_ROUTE_TARGET.at (4 * g)) - 1) (s.gf (pageBase .evt 0) (F.evt_GRP_ROUTE_VECTOR.at (4 * g))) ∈ t.out)) ∧
      Frame [] s t) ∧
  (∀ (s : State) (r : LogRec) (rest : List LogRec),
    Memory.wf s = true → s.domOn 3 = true → s.log = r :: rest →
    Runs (.logPop 1) s fun t =>
      (.readData [0x80000000 + r.detail % 256 * 0x10000 + r.source % 512] ∈ t.out) ∧
      (rest <+: t.log) ∧
      (t.gf (pageBase .evt 0) F.evt_LOG_LAST_LAST = 0x80000000 + r.detail % 256 * 0x10000 + r.source % 512) ∧
      (t.gf (pageBase .evt 0) F.evt_LOG_STAMP_STAMP = r.stamp % 2 ^ 32) ∧
      Frame [] s t) ∧
  (∀ (s : State),
    s.domOn 3 = true → s.log = [] →
    Runs (.logPop 1) s fun t =>
      t = s.emit (.readData [0])) ∧
  (∀ (s : State),
    Memory.wf s = true → s.domOn 3 = true → s.unwatched 0x1008C → bitOf (s.gf (pageBase .sys 0) hdrRaw) 3 = decide (s.gf
      (pageBase .evt 0) F.evt_LOG_CTL_THRESH ≤ s.log.length) →
    Runs (.logOvfClear) s fun t =>
      (t.gf (pageBase .evt 0) F.evt_LOG_STS_OVF = 0) ∧
      (t.gf (pageBase .evt 0) F.evt_LOG_LOST_LOST = 0) ∧
      (bitOf (t.gf (pageBase .sys 0) hdrRaw) 2 = false) ∧
      (t.log = s.log) ∧
      Frame [] s t)

/-- What the HSPI commands do. With the register bus available and nothing buffered: HSPI_READ of one word in BAR2 space
returns that word. Of one register without side effect it returns what the register holds. At an address in no space it
returns 0 and sets ADDR_ERR. A word whose access times out is sent as 0xFFFFFFFF, sets TMO and raises EV0. HSPI_WRITE
of one word appends it to the buffer of 16, or drops it and sets WR_DROP. An incomplete word of a transaction in some
space sets PARTIAL. HSPI_WRITE_APPLY applies the oldest buffered word, here one for BUS_TMO. For an address in no space
the write is rejected. READ_STATUS returns UP, WR_PEND, TMO, PARTIAL, ADDR_ERR and WR_DROP in their bits. CLEAR_STATUS
clears bits [3:0]. A command byte alone with any other code changes nothing. -/
def Obligations.HspiTransactions : Prop :=
  (∀ (s : State) (addr off : Nat),
    s.hspiUp = true → s.hspi.buf = [] → addr < 2 ^ 32 → placeOf addr = .bar2 off →
    Runs (.hspiRead addr 1 [] 0) s fun t =>
      t = (s.bar2Read off).2.emit (.readData [(s.bar2Read off).1])) ∧
  (∀ (s : State) (addr off : Nat) (k : PageKind) (i : Nat),
    s.hspiUp = true → s.hspi.buf = [] → addr < 2 ^ 32 → placeOf addr = .bar0 off → off % 4 = 0 → pageOf (off / 0x1000) =
      some (k, i) → popAt k i (off % 0x1000) = none →
    Runs (.hspiRead addr 1 [] 0) s fun t =>
      t = s.emit (.readData [s.peekReg off])) ∧
  (∀ (s : State) (addr ecc : Nat),
    s.hspiUp = true → s.hspi.buf = [] → addr < 2 ^ 32 → placeOf addr = .nowhere →
    Runs (.hspiRead addr 1 [] ecc) s fun t =>
      (t.out = s.out ++ [.readData [0]]) ∧
      (t.hspi.addrErr = true) ∧
      ({ t with out := s.out, hspi := s.hspi } = s)) ∧
  (∀ (s : State) (addr off : Nat),
    s.hspiUp = true → s.hspi.buf = [] → addr < 2 ^ 32 → placeOf addr = .bar0 off →
    Runs (.hspiRead addr 1 [0] 0) s fun t =>
      (t.hspi.tmo = true) ∧
      (.readData [0xFFFFFFFF] ∈ t.out) ∧
      (t.evPend 0 = true) ∧
      Frame [] s ({ t with hspi := s.hspi })) ∧
  (∀ (s : State) (addr d : Nat),
    s.hspiUp = true → addr < 2 ^ 32 → d < 2 ^ 32 → placeOf addr ≠ .nowhere →
    Runs (.hspiWrite addr [(0, d)] 0) s fun t =>
      ((s.hspi.buf.length < 16 → t = s.setHspi { s.hspi with buf := s.hspi.buf ++ [(addr, d, false)] })) ∧
      ((16 ≤ s.hspi.buf.length → t = s.setHspi { s.hspi with wrDrop := true }))) ∧
  (∀ (s : State) (addr n : Nat),
    s.hspiUp = true → n % 8 ≠ 0 → addr < 2 ^ 32 → placeOf addr ≠ .nowhere →
    Runs (.hspiWrite addr [] n) s fun t =>
      t = s.setHspi { s.hspi with partialWord := true }) ∧
  (∀ (s : State) (d : Nat) (h : Bool) (rest : List (Nat × Nat × Bool)),
    Memory.wf s = true → s.hspiUp = true → s.hspi.buf = (0x40, d, h) :: rest → d < 2 ^ 32 →
    Runs (.hspiWriteApply false) s fun t =>
      (t.hspi.buf = rest) ∧
      (t.gf (pageBase .sys 0) F.sys_BUS_TMO_TMO_CYC = max 0x64 (d % 65536)) ∧
      Frame [] s ({ t with hspi := s.hspi })) ∧
  (∀ (s : State) (a d : Nat) (h : Bool) (rest : List (Nat × Nat × Bool)),
    Memory.wf s = true → s.hspiUp = true → s.hspi.buf = (a, d, h) :: rest → placeOf a = .nowhere →
    Runs (.hspiWriteApply false) s fun t =>
      (t.hspi.buf = rest) ∧
      (t.evPend 1 = true) ∧
      Frame [] s ({ t with hspi := s.hspi })) ∧
  (∀ (s : State),
    Runs (.readStatus) s fun t =>
      t = s.emit (.hspiStatus (128 * b2n (s.domOn 3 && s.domOn 13) + 16 * b2n (s.hspi.buf != []) + 8 * b2n s.hspi.tmo + 4
        * b2n s.hspi.partialWord + 2 * b2n s.hspi.addrErr + b2n s.hspi.wrDrop))) ∧
  (∀ (s : State),
    Runs (.clearStatus) s fun t =>
      t = s.setHspi ⟨s.hspi.buf, false, false, false, false⟩) ∧
  (∀ (s : State) (code : Nat),
    code % 256 ≠ 5 → code % 256 ≠ 6 →
    Runs (.hspiUnknownCommand code) s fun t =>
      t = s)

/-- Reads, table writes and timeouts of the register bus. REGISTER_WRITE of BUS_TMO stores TMO_CYC, at least 0x64. A BAR0
read of more than 2 words is answered with Unsupported Request and reads nothing. A BAR0 read of one word without side
effect returns what its BAR2 alias shows. A BAR2 read of any length is completed, here in the alias of BAR0, which it
reads without side effect. TABLE_WORD_WRITE ignores the BAR0 alias. A word of a cluster's instruction memory is stored,
and every other byte of BAR2 stays. A write of two words stores both. A read that times out returns 0xFFFFFFFF, is
counted and raises EV0. A write of BUS_TMO that times out has or has not taken effect, and raises EV0. -/
def Obligations.RegisterAndTableAccess : Prop :=
  (∀ (s : State) (w : Word),
    Memory.wf s = true → s.domOn 3 = true →
    Runs (.registerWrite 0x40 w 15 1) s fun t =>
      (t.gf (pageBase .sys 0) F.sys_BUS_TMO_TMO_CYC = max 0x64 (w.toNat % 65536)) ∧
      Frame [] s t) ∧
  (∀ (s : State) (off ndw ecc : Nat),
    s.domOn 3 = true → 2 < ndw →
    Runs (.bar0LongRead off ndw false ecc) s fun t =>
      t = s.emit .unsupportedRequest) ∧
  (∀ (s : State) (off ecc : Nat) (k : PageKind) (i : Nat),
    s.domOn 3 = true → off < 2 ^ 26 → off % 4 = 0 → pageOf (off / 0x1000) = some (k, i) → popAt k i (off % 0x1000) = none
      →
    Runs (.bar0LongRead off 1 false ecc) s fun t =>
      t = s.emit (.readData [s.peekReg off])) ∧
  (∀ (s : State) (off ndw : Nat),
    s.domOn 3 = true → off % 4 = 0 → off + 4 * ndw ≤ 0x04000000 →
    Runs (.bar0LongRead off ndw true 0) s fun t =>
      t = s.emit (.readData ((List.range ndw).map fun i => s.peekReg (off + 4 * i)))) ∧
  (∀ (s : State) (off be last ecc : Nat) (w : Word),
    off < 0x04000000 →
    Runs (.tableWordWrite off w be [] last ecc) s fun t =>
      t = s) ∧
  (∀ (s : State) (c o last : Nat) (w : Word),
    Memory.wf s = true → s.domOn 3 = true → c < s.grade.clusters → s.domOn (pageDomain .ktl c) = true → o < 0x10000 → o %
      4 = 0 →
    Runs (.tableWordWrite (0x0A000000 + 0x400000 * c + o) w 15 [] last 0) s fun t =>
      (t.b2w (0x0A000000 + 0x400000 * c + o) = w.toNat) ∧
      (∀ a, (a < 0x0A000000 + 0x400000 * c + o ∨ 0x0A000000 + 0x400000 * c + o + 4 ≤ a) → t.b2 a = s.b2 a) ∧
      Frame [] s ({ t with bar2 := s.bar2, ktlBad := s.ktlBad })) ∧
  (∀ (s : State) (c o : Nat) (w v : Word),
    Memory.wf s = true → s.domOn 3 = true → c < s.grade.clusters → s.domOn (pageDomain .ktl c) = true → o + 8 ≤ 0x10000 →
      o % 4 = 0 →
    Runs (.tableWordWrite (0x0A000000 + 0x400000 * c + o) w 15 [v] 15 0) s fun t =>
      (t.b2w (0x0A000000 + 0x400000 * c + o) = w.toNat) ∧
      (t.b2w (0x0A000000 + 0x400000 * c + o + 4) = v.toNat) ∧
      Frame [] s ({ t with bar2 := s.bar2, ktlBad := s.ktlBad })) ∧
  (∀ (s : State) (off : Nat),
    Memory.wf s = true → s.domOn 3 = true →
    Runs (.registerAccessTimeout off none) s fun t =>
      (t.gf (pageBase .sys 0) F.sys_BUS_ERR_TMO_CNT = min 255 (s.gf (pageBase .sys 0) F.sys_BUS_ERR_TMO_CNT + 1)) ∧
      (t.gf (pageBase .sys 0) F.sys_BUS_ERR_ADDR_OFFSET = off % 2 ^ 26) ∧
      (t.evPend 0 = true) ∧
      (.readData [0xFFFFFFFF] ∈ t.out) ∧
      Frame [] s t) ∧
  (∀ (s : State) (w : Word),
    Memory.wf s = true → s.domOn 3 = true →
    Runs (.registerAccessTimeout 0x40 (some w)) s fun t =>
      (t.evPend 0 = true) ∧
      (t.gf (pageBase .sys 0) F.sys_BUS_ERR_ADDR_OFFSET = 0x40) ∧
      ((t.gf (pageBase .sys 0) F.sys_BUS_TMO_TMO_CYC = s.gf (pageBase .sys 0) F.sys_BUS_TMO_TMO_CYC ∨ t.gf (pageBase .sys
        0) F.sys_BUS_TMO_TMO_CYC = max 0x64 (w.toNat % 65536))) ∧
      Frame [] s ({ t with freeCount := s.freeCount }))

/-- What the commands of a fabric round do. In canonical states. FRAME_ADMISSION of a good frame with a fixed result and
one target that admits it, with room in the store: its cells count in OUT_OCC and STORE_OCC, and it is on its way.
ROUND_START sets PHASE to 0 and plans a group of G cells from a buffer that holds G or more. FLUSH_TIMER_EXPIRY marks
the buffer expired. CELL_ARRIVAL of a planned cell takes a cell buffer and entry of the slice that the input meets,
here the lowest unused ones (the model's choice of order, log entry 11), and counts it. ROUND_END with nothing on its
way moves ROUND on to the next round's slot 0 and takes OUT_OCC for the next admissions. With one stored group set
aside it is appended to its list and its output's group list. OUTPUT_CELL_TAKE of a good cell that is not its frame's
last: OUT_OCC falls, CELLS_OUT, FREE_CELLS and FREE_ENTRIES rise. HOT_POSITION of a position above THRESH, once in a
run and without AUTO, is shown in HOT_POS and raises EV67. -/
def Obligations.FabricRoundCommands : Prop :=
  (∀ (s : State) (p o : Nat) (f : FabFrame),
    s.sound = true → p < 24 → o < 24 → f.info.tc < 8 → s.fab.entering.find? (fun x => x.info.src == p) = some f → f.bad =
      false → f.info.fixed = true → onesOf 24 f.info.targets = [o] → s.cutOk f = false → s.admits p o f.info.tc (max 1
      (cellsOf f.bytes.length)) = true → s.gf (ptB p) F.fabPort_STORE_OCC_LEVEL + max 1 (cellsOf f.bytes.length) ≤ 4096 →
      s.outOcc o f.info.tc + max 1 (cellsOf f.bytes.length) < 2 ^ 19 →
    Runs (.frameAdmission p) s fun t =>
      (t.outOcc o f.info.tc = s.outOcc o f.info.tc + max 1 (cellsOf f.bytes.length)) ∧
      (t.gf (ptB p) F.fabPort_STORE_OCC_LEVEL = s.gf (ptB p) F.fabPort_STORE_OCC_LEVEL + max 1 (cellsOf f.bytes.length)) ∧
      (t.fab.entering = s.fab.entering.erase f) ∧
      (t.fab.flights.length = s.fab.flights.length + 1) ∧
      Frame [0x89 + p, 0x89 + o] s ({ t with fab := s.fab, ports := s.ports, jal := s.jal })) ∧
  (∀ (s : State) (i : Nat) (g : Ingress) (b : SpreadBuf),
    s.sound = true → i < 24 → b.out < 24 → b.tc < 8 → s.fab.inputs = [(i, g)] → g.spread = [b] → g.mcast = [] → g.pins =
      [] → 0 < s.groupSize → s.groupSize ≤ b.cells.length →
    Runs (.roundStart) s fun t =>
      (t.gf fabB F.fabGlobal_PHASE_PHASE = 0) ∧
      ((t.ing i).plan.length = s.groupSize) ∧
      (t.round = s.round) ∧
      Frame [0x80, 0x89 + i] s ({ t with fab := s.fab })) ∧
  (∀ (s : State) (i o c : Nat) (b : SpreadBuf),
    s.sound = true → b ∈ (s.ing i).spread → b.out = o → b.tc = c →
    Runs (.flushTimerExpiry i o c) s fun t =>
      ({ b with expired := true } ∈ (t.ing i).spread) ∧
      ((t.ing i).spread.length = (s.ing i).spread.length) ∧
      (t.regs = s.regs) ∧
      Frame [] s ({ t with fab := s.fab })) ∧
  (∀ (s : State) (i phase o : Nat) (p : Planned),
    s.sound = true → i < 24 → phase < 24 → bitOf s.pattern ((i + phase) % 24 / 3) = true → (s.ing i).plan.find? (fun x =>
      x.phase == phase) = some p → p.group ≠ 0 → p.cell.info.outs = [o] → (s.tun ((i + phase) % 24 / 3)).fresh < 32768 →
      (s.tun ((i + phase) % 24 / 3)).freshE < 65536 →
    Runs (.cellArrival i phase) s fun t =>
      (t.fab.aside = s.fab.aside ++ [⟨i, p.group, (i + phase) % 24 / 3, (i + phase) % 24, p.cell, some ((s.tun ((i +
        phase) % 24 / 3)).fresh, [(o, (s.tun ((i + phase) % 24 / 3)).freshE)])⟩]) ∧
      (t.gf (slB ((i + phase) % 24 / 3)) F.fabSlice_FREE_CELLS_COUNT = s.gf (slB ((i + phase) % 24 / 3))
        F.fabSlice_FREE_CELLS_COUNT - 1) ∧
      (t.gf (slB ((i + phase) % 24 / 3)) F.fabSlice_FREE_ENTRIES_COUNT = s.gf (slB ((i + phase) % 24 / 3))
        F.fabSlice_FREE_ENTRIES_COUNT - 1) ∧
      (t.gf (ptB i) F.fabPort_CELLS_IN_COUNT = (s.gf (ptB i) F.fabPort_CELLS_IN_COUNT + 1) % 2 ^ 32) ∧
      Frame [0x80, 0x89 + i, 0x81 + (i + phase) % 24 / 3] s ({ t with fab := s.fab })) ∧
  (∀ (s : State),
    s.sound = true → s.atBoundary = true →
    Runs (.roundEnd) s fun t =>
      (t.round = (s.round + 1) % 2 ^ 32) ∧
      (t.gf fabB F.fabGlobal_PHASE_PHASE = 0) ∧
      (t.fab.aside = []) ∧
      (t.fab.occ = s.occSnapshot) ∧
      Frame [0x80] s ({ t with fab := s.fab })) ∧
  (∀ (s : State) (i no n m o b e : Nat) (x : FabCell),
    s.sound = true → i < 24 → n < 8 → o < 24 → x.info.tc < 8 → (∀ y ∈ s.fab.inputs, y.2.plan = []) → s.fab.aside = [⟨i,
      no, n, m, x, some (b, [(o, e)])⟩] → x.idx = 0 → x.info.outs = [o] → s.gf (ptB o) (F.fabPort_OUT_GROUPS_COUNT.at (4
      * x.info.tc)) + 1 < 2 ^ 12 →
    Runs (.roundEnd) s fun t =>
      (t.fab.groups.length = s.fab.groups.length + 1) ∧
      (t.gf (ptB o) (F.fabPort_OUT_GROUPS_COUNT.at (4 * x.info.tc)) = s.gf (ptB o) (F.fabPort_OUT_GROUPS_COUNT.at (4 *
        x.info.tc)) + 1) ∧
      ((t.tun n).lists = ((s.tun n).append o x.info.tc ⟨e, b, s.fab.nextGroup⟩).lists) ∧
      Frame [0x80, 0x89 + o] s ({ t with fab := s.fab })) ∧
  (∀ (s : State) (o phase c : Nat) (e : ListEntry) (b : CellBuf) (f : Flight),
    s.sound = true → o < 24 → phase < 24 → c < 8 → bitOf s.pattern ((o + 24 - phase) % 24 / 3) = true → s.outRoom o =
      true → s.eligible o ((o + 24 - phase) % 24) = some (c, e, b) → e.group = 0 → b.refs = 1 → b.lost = false →
      b.cell.bad = false → b.cell.info.cut = false → s.flightOf o b.cell.info = some f → f.gone = false → f.handed =
      false → 1 < f.left →
    Runs (.outputCellTake o phase 0) s fun t =>
      (t.outOcc o c = s.outOcc o c - 1) ∧
      (t.gf (ptB o) F.fabPort_CELLS_OUT_COUNT = (s.gf (ptB o) F.fabPort_CELLS_OUT_COUNT + 1) % 2 ^ 32) ∧
      (t.gf (slB ((o + 24 - phase) % 24 / 3)) F.fabSlice_FREE_CELLS_COUNT = (s.gf (slB ((o + 24 - phase) % 24 / 3))
        F.fabSlice_FREE_CELLS_COUNT + 1) % 2 ^ 16) ∧
      (t.gf (slB ((o + 24 - phase) % 24 / 3)) F.fabSlice_FREE_ENTRIES_COUNT = (s.gf (slB ((o + 24 - phase) % 24 / 3))
        F.fabSlice_FREE_ENTRIES_COUNT + 1) % 2 ^ 17) ∧
      Frame [0x80, 0x89 + o, 0x81 + (o + 24 - phase) % 24 / 3, 0x268 + o] s ({ t with fab := s.fab, egress := s.egress })) ∧
  (∀ (s : State) (m : Nat),
    Memory.wf s = true → s.alive .fabGlobal 0 = true → m < 24 → s.gf fabB F.fabGlobal_HOT_CTL_THRESH < s.gf (slB (m / 3))
      (F.fabSlice_POS_OCC_COUNT.at (4 * (m % 3))) → bitOf s.fab.hot m = false → s.gf fabB F.fabGlobal_RESEED_CTL_AUTO = 0
      →
    Runs (.hotPosition m) s fun t =>
      (t.gf fabB F.fabGlobal_HOT_POS_VALID = 1) ∧
      (t.gf fabB F.fabGlobal_HOT_POS_POS = m) ∧
      (t.evPend 67 = true) ∧
      (bitOf t.fab.hot m = true) ∧
      Frame [0x80] s ({ t with fab := s.fab }))

/-- What the commands of slice removal and re-admission do. In canonical states, for a slice present whose domain is on.
SLICE_LEAVE_PATTERN of an ACTIVE slice with SKIP, at a round boundary (here with no frame in flight): REMOVING, out of
ACTIVE, with the group size of the rest. PURGE_COMPLETE: OUT, every buffer and entry free, LOST_CELLS the cells lost,
EV64; the cells found to hold a single-bit error count in ECC_CORR. A purge that finds an uncorrectable cell counts it
in ECC_UNCORR, with EV66. SLICE_REBUILD_START of a slice in OUT with SKIP and FAULT 0: REBUILD, nothing in it.
REBUILD_COMPLETE with good memory waits for the boundary. With a memory error: OUT with FAULT and SKIP, EV64.
SLICE_JOIN_PATTERN at a round boundary: READMIT, in ACTIVE again. SLICE_READMIT_DONE with every pair moved: ACTIVE,
EV65. -/
def Obligations.SliceLifeCycle : Prop :=
  (∀ (s : State) (n : Nat),
    s.sound = true → s.alive .fabSlice n = true → s.sliceState n = 0 → s.gf (slB n) F.fabSlice_SLICE_CTL_SKIP = 1 →
      s.atBoundary = true → s.fab.flights = [] → s.fab.groups = [] →
    Runs (.sliceLeavePattern n) s fun t =>
      (t.sliceState n = 1) ∧
      (t.gf fabB F.fabGlobal_ACTIVE_SLICES = putBits s.pattern n n 0) ∧
      (t.gf fabB F.fabGlobal_ACTIVE_GROUP_SIZE = 3 * popCount 8 (putBits s.pattern n n 0))) ∧
  (∀ (s : State) (n corr : Nat),
    s.sound = true → s.alive .fabSlice n = true → s.alive .fabGlobal 0 = true → s.sliceState n = 1 → s.fab.flights = [] →
    Runs (.purgeComplete n corr 0) s fun t =>
      (t.sliceState n = 2) ∧
      (t.gf (slB n) F.fabSlice_ECC_CORR_COUNT = min (2 ^ 32 - 1) (s.gf (slB n) F.fabSlice_ECC_CORR_COUNT + min corr
        (s.tun n).bufs.length)) ∧
      (t.gf (slB n) F.fabSlice_FREE_CELLS_COUNT = 32768) ∧
      (t.gf (slB n) F.fabSlice_FREE_ENTRIES_COUNT = 65536) ∧
      (t.gf (slB n) F.fabSlice_LOST_CELLS_COUNT = (s.tun n).lost % 2 ^ 32) ∧
      (t.evPend 64 = true)) ∧
  (∀ (s : State) (n : Nat),
    s.sound = true → s.alive .fabSlice n = true → s.alive .fabGlobal 0 = true → s.sliceState n = 1 → s.fab.flights = [] →
      (s.tun n).bufs ≠ [] → (s.tun n).errors = [] → 2 ≤ s.gf (slB n) F.fabSlice_ESC_CTL_LIMIT → s.gf (slB n)
      F.fabSlice_ECC_UNCORR_COUNT < 0xFFFF →
    Runs (.purgeComplete n 0 1) s fun t =>
      (t.sliceState n = 2) ∧
      (t.gf (slB n) F.fabSlice_ECC_UNCORR_COUNT = s.gf (slB n) F.fabSlice_ECC_UNCORR_COUNT + 1) ∧
      (t.evPend 66 = true) ∧
      (t.evPend 64 = true)) ∧
  (∀ (s : State) (n : Nat),
    s.sound = true → s.alive .fabSlice n = true → s.sliceState n = 2 → s.gf (slB n) F.fabSlice_SLICE_CTL_SKIP = 0 → s.gf
      (slB n) hdrFault = 0 →
    Runs (.sliceRebuildStart n) s fun t =>
      (t.sliceState n = 3) ∧
      (t.tun n = Slice.new) ∧
      Frame [0x81 + n] s ({ t with fab := s.fab })) ∧
  (∀ (s : State) (n : Nat),
    s.sound = true → s.alive .fabSlice n = true → s.sliceState n = 3 → (s.tun n).rebuilt = false →
    Runs (.rebuildComplete n true) s fun t =>
      ((t.tun n).rebuilt = true) ∧
      (t.sliceState n = 3) ∧
      Frame [] s ({ t with fab := s.fab })) ∧
  (∀ (s : State) (n : Nat),
    s.sound = true → s.alive .fabSlice n = true → s.alive .fabGlobal 0 = true → s.sliceState n = 3 → (s.tun n).rebuilt =
      false →
    Runs (.rebuildComplete n false) s fun t =>
      (t.sliceState n = 2) ∧
      (t.gf (slB n) hdrFault = 1) ∧
      (t.gf (slB n) F.fabSlice_SLICE_CTL_SKIP = 1) ∧
      (t.evPend 64 = true) ∧
      Frame [0x81 + n, 0x80] s t) ∧
  (∀ (s : State) (n : Nat),
    s.sound = true → s.alive .fabSlice n = true → s.sliceState n = 3 → (s.tun n).rebuilt = true → s.atBoundary = true →
    Runs (.sliceJoinPattern n) s fun t =>
      (t.sliceState n = 4) ∧
      (t.gf fabB F.fabGlobal_ACTIVE_SLICES = putBits s.pattern n n 1) ∧
      (t.gf fabB F.fabGlobal_ACTIVE_GROUP_SIZE = 3 * popCount 8 (putBits s.pattern n n 1)) ∧
      ((t.tun n).rebuilt = false) ∧
      Frame [0x81 + n, 0x80] s ({ t with fab := s.fab })) ∧
  (∀ (s : State) (n : Nat),
    s.sound = true → s.alive .fabSlice n = true → s.alive .fabGlobal 0 = true → s.sliceState n = 4 → (∀ x ∈
      s.fab.pairSlices, bitOf x.2 n = true) →
    Runs (.sliceReadmitDone n) s fun t =>
      (t.sliceState n = 0) ∧
      (t.evPend 65 = true) ∧
      Frame [0x81 + n, 0x80] s t)

/-- What the seed, pinning and half commands do. In canonical states with the FAB global page on. RESEED_REQ with REQ 1
while the random bit generator runs: PIN_SEED takes one 32-bit request of it. While it does not run, the seed change
waits and PIN_SEED stays. With REQ 0 only the fields are stored. PIN_SEED_WRITE: PIN_SEED is the word, and every pair
of a pinned class on another seed is held. PIN_CLASS_WRITE on an unlocked page: the mask is stored, and every pair of a
changed class that is not yet in the new mode is held. FRER_HALF_WRITE of two disjoint nonempty halves of present
slices stores both. SEED_PAIR_MOVE of a held pair with nothing in flight but what is held: it is released on the seed
and mode in force. SEED_PAIR_ABANDON of a held pair with cells in flight: released, counted, EV69. SEED_HOLD_RETRY of
an abandoned pair: it is held again. -/
def Obligations.SeedAndPinningCommands : Prop :=
  (∀ (s : State) (w : Word),
    Memory.wf s = true → s.alive .fabGlobal 0 = true → w.getLsbD 1 = true → s.rngRuns = true →
    Runs (.reseedReq w) s fun t =>
      (t.gf fabB F.fabGlobal_PIN_SEED_SEED = (s.draw 32).1.toNat) ∧
      (t.kiln.drbg = (s.draw 32).2.kiln.drbg) ∧
      (t.kiln.draws = s.kiln.draws + 1) ∧
      Frame [0x80] s ({ t with fab := s.fab, kiln := s.kiln })) ∧
  (∀ (s : State) (w : Word),
    Memory.wf s = true → s.alive .fabGlobal 0 = true → w.getLsbD 1 = true → s.rngRuns = false →
    Runs (.reseedReq w) s fun t =>
      (t.fab.seedWait = true) ∧
      (t.gf fabB F.fabGlobal_PIN_SEED_SEED = s.gf fabB F.fabGlobal_PIN_SEED_SEED) ∧
      Frame [0x80] s ({ t with fab := s.fab })) ∧
  (∀ (s : State) (w : Word),
    Memory.wf s = true → s.alive .fabGlobal 0 = true → w.getLsbD 1 = false →
    Runs (.reseedReq w) s fun t =>
      (t.gf fabB F.fabGlobal_RESEED_CTL_AUTO = w.toNat % 2) ∧
      (t.gf fabB F.fabGlobal_PIN_SEED_SEED = s.gf fabB F.fabGlobal_PIN_SEED_SEED) ∧
      Frame [0x80] s t) ∧
  (∀ (s : State) (w : Word),
    Memory.wf s = true → s.alive .fabGlobal 0 = true →
    Runs (.pinSeedWrite w) s fun t =>
      (t.gf fabB F.fabGlobal_PIN_SEED_SEED = w.toNat) ∧
      (∀ c o, c < 8 → o ∈ s.outs → bitOf (s.gf fabB F.fabGlobal_PIN_CLASS_MASK) c = true → s.pairSeedOf o c ≠ w.toNat →
        t.heldPair o c = true) ∧
      Frame [0x80] s ({ t with fab := s.fab })) ∧
  (∀ (s : State) (w : Word),
    Memory.wf s = true → s.alive .fabGlobal 0 = true → s.gf fabB hdrLock = 0 →
    Runs (.pinClassWrite w) s fun t =>
      (t.gf fabB F.fabGlobal_PIN_CLASS_MASK = w.toNat % 256) ∧
      (∀ c o, c < 8 → o ∈ s.outs → bitOf (s.gf fabB F.fabGlobal_PIN_CLASS_MASK) c ≠ w.getLsbD c → s.pinnedPair o c ≠
        w.getLsbD c → t.heldPair o c = true) ∧
      Frame [0x80] s ({ t with fab := s.fab })) ∧
  (∀ (s : State) (w : Word),
    Memory.wf s = true → s.alive .fabGlobal 0 = true → s.gf fabB hdrLock = 0 → natAnd (bitsOf w.toNat 7 0) (bitsOf
      w.toNat 15 8) = 0 → bitsOf w.toNat 7 0 ≠ 0 → bitsOf w.toNat 15 8 ≠ 0 → bitsOf w.toNat 7 0 < 2 ^ s.grade.slices →
      bitsOf w.toNat 15 8 < 2 ^ s.grade.slices →
    Runs (.frerHalfWrite w) s fun t =>
      (t.gf fabB F.fabGlobal_FRER_HALF_HALF_A = bitsOf w.toNat 7 0) ∧
      (t.gf fabB F.fabGlobal_FRER_HALF_HALF_B = bitsOf w.toNat 15 8) ∧
      Frame [0x80] s t) ∧
  (∀ (s : State) (o c : Nat),
    Memory.wf s = true → o < 24 → c < 8 → s.heldPair o c = true → s.outOcc o c ≤ s.heldCells o c →
    Runs (.seedPairMove o c) s fun t =>
      (t.heldPair o c = false) ∧
      (t.pairSeedOf o c = s.gf fabB F.fabGlobal_PIN_SEED_SEED) ∧
      (t.pinnedPair o c = bitOf (s.gf fabB F.fabGlobal_PIN_CLASS_MASK) c) ∧
      Frame [0x80] s ({ t with fab := s.fab })) ∧
  (∀ (s : State) (o c : Nat),
    Memory.wf s = true → s.alive .fabGlobal 0 = true → o < 24 → c < 8 → s.heldPair o c = true → s.heldCells o c <
      s.outOcc o c →
    Runs (.seedPairAbandon o c) s fun t =>
      (t.heldPair o c = false) ∧
      (s.gf fabB F.fabGlobal_RESEED_CNT_ABANDON < 0xFFFF → t.gf fabB F.fabGlobal_RESEED_CNT_ABANDON = s.gf fabB
        F.fabGlobal_RESEED_CNT_ABANDON + 1) ∧
      (t.evPend 69 = true) ∧
      Frame [0x80] s ({ t with fab := s.fab })) ∧
  (∀ (s : State) (o c : Nat),
    (⟨o, c, true⟩ : Hold) ∈ s.fab.holds →
    Runs (.seedHoldRetry o c) s fun t =>
      (t.heldPair o c = true) ∧
      Frame [] s ({ t with fab := s.fab }))

/-- What the commands of the egress side of an E port do. In canonical states, for an E port n. E_TX_SELECT with one
whole frame queued and nothing sending, on a port in Ethernet mode that may transmit with its link up, gates open, no
shaper, no tag to add, no MACsec and a legal length: the frame starts. With a whole frame sending and nothing queued it
has left: its bytes are on the wire and TX_GOOD has counted it. CT_UNDERRUN of an unprotected frame not yet whole ends
it and is counted. GATE_ENTRY_CHANGE shows the gate states and entry of TIME_NS, all open with GATE_EN 0. CONFIG_CHANGE
makes the administrative values pending for ADMIN_BASE or, where that has passed, for the earliest instant a whole
number of cycles after it that is not in the past. GATE_CONFIG_APPLY at the change time: the pending set is
operational, EV459. EGRESS_QUIESCE_TIMEOUT drops every queued frame of a quiescing output. POINTER_FLUSH of a single
wrong bit under CODE is corrected and counted. One of a host queue that is not corrected stops it under reason 4 with
EV456 and EV458. -/
def Obligations.EgressCommands : Prop :=
  (∀ (s : State) (n : Nat) (f : EgFrame),
    s.sound = true → n < 16 → s.mayTransmit n = true → (s.eg n).sending = none → (s.eg n).queue = [f] → f.whole = true →
      f.info.tc < 8 → f.info.ctx % 4096 = 0 → f.info.src ≠ 22 → (s.port n).mode ≠ 5 → s.gf (egBase n)
      F.hostEgress_CBS_EN_MASK = 0 → s.gf (egBase n) F.hostEgress_GATE_CTL_GATE_EN = 0 → bitOf (s.gf (egBase n)
      F.hostEgress_GATE_STS_GATES) f.info.tc = true → s.gf (pageBase .emac n) F.emac_LINK_STS_LINK = 1 → f.bytes.length ≤
      s.maxLen n → s.gf (pageBase .macsec n) F.macsec_SECY_CTL_TX_EN = 0 → s.gf (pageBase .macsec n)
      F.macsec_SECY_CTL_RX_EN = 0 →
    Runs (.eTxSelect n 0) s fun t =>
      (((t.eg n).sending.map fun x => x.frame) = some f) ∧
      ((t.eg n).queue = [])) ∧
  (∀ (s : State) (n : Nat) (x : Sending),
    s.sound = true → n < 16 → s.alive .hostEgress n = true → s.alive .emac n = true → (s.eg n).queue = [] → (s.eg
      n).sending = some x → x.frame.whole = true → (s.port n).mode ≠ 5 →
    Runs (.eTxSelect n 0) s fun t =>
      (.ethTx n x.wireWhole.1 x.stamp ∈ t.out) ∧
      ((t.eg n).sending = none) ∧
      (t.gf (pageBase .emac n) F.emac_TX_GOOD_COUNT = (s.gf (pageBase .emac n) F.emac_TX_GOOD_COUNT + 1) % 2 ^ 32) ∧
      Frame [0x100 + 2 * n, 0x268 + n] s ({ t with egress := s.egress })) ∧
  (∀ (s : State) (n : Nat) (x : Sending),
    s.sound = true → n < 16 → (s.eg n).sending = some x → x.frame.whole = false → x.prot = none →
    Runs (.ctUnderrun n) s fun t =>
      ((t.eg n).sending = none) ∧
      (t.gf (egBase n) F.hostEgress_CT_END_UNDERRUN = min 0xFFFF (s.gf (egBase n) F.hostEgress_CT_END_UNDERRUN + 1)) ∧
      Frame [0x268 + n] s ({ t with egress := s.egress })) ∧
  (∀ (s : State) (n : Nat),
    s.sound = true → n < 16 →
    Runs (.gateEntryChange n) s fun t =>
      (t.gf (egBase n) F.hostEgress_GATE_STS_GATES = (if s.gf (egBase n) F.hostEgress_GATE_CTL_GATE_EN = 1 then ((s.eg
        n).gatesAt s.now).1 % 256 else 0xFF)) ∧
      (t.gf (egBase n) F.hostEgress_GATE_STS_ENTRY = ((s.eg n).gatesAt s.now).2 % 256) ∧
      Frame [0x268 + n] s ({ t with egress := s.egress })) ∧
  (∀ (s : State) (n : Nat) (w : Word),
    s.sound = true → n < 16 → s.alive .hostEgress n = true → w.getLsbD 1 = true → 0 < s.gf (egBase n)
      F.hostEgress_ADMIN_CYCLE_NS →
    Runs (.configChange n w) s fun t =>
      (t.gf (egBase n) F.hostEgress_GATE_STS_PEND = 1) ∧
      ((t.eg n).pend.isSome = true) ∧
      (s.now ≤ (t.eg n).changeAt) ∧
      (s.g64 (egBase n) F.hostEgress_ADMIN_BASE_LO_NS F.hostEgress_ADMIN_BASE_HI_NS ≤ (t.eg n).changeAt) ∧
      (((t.eg n).changeAt - s.g64 (egBase n) F.hostEgress_ADMIN_BASE_LO_NS F.hostEgress_ADMIN_BASE_HI_NS) % s.gf (egBase
        n) F.hostEgress_ADMIN_CYCLE_NS = 0) ∧
      (((t.eg n).changeAt = s.g64 (egBase n) F.hostEgress_ADMIN_BASE_LO_NS F.hostEgress_ADMIN_BASE_HI_NS ∨ (t.eg
        n).changeAt < s.now + s.gf (egBase n) F.hostEgress_ADMIN_CYCLE_NS)) ∧
      Frame [0x268 + n] s ({ t with egress := s.egress })) ∧
  (∀ (s : State) (n : Nat) (q : GateList),
    s.sound = true → n < 16 → s.alive .hostEgress n = true → s.alive .hostGlobal 0 = true → (s.eg n).pend = some q →
      (s.eg n).changeAt ≤ s.now →
    Runs (.gateConfigApply n) s fun t =>
      ((t.eg n).pend = none) ∧
      (t.gf (egBase n) F.hostEgress_GATE_STS_PEND = 0) ∧
      (t.gf (egBase n) F.hostEgress_GATE_STS_OPER = 1) ∧
      (t.gf (egBase n) F.hostEgress_OPER_CYCLE_NS = q.cycle % 2 ^ 32) ∧
      (t.evPend 459 = true) ∧
      Frame [0x268 + n, 0x260] s ({ t with egress := s.egress })) ∧
  (∀ (s : State) (p : Nat),
    s.sound = true → s.alive .hostEgress p = true → s.pst .hostEgress p = .quiescing → (∀ f ∈ (s.eg p).queue, f.info.tc <
      8) →
    Runs (.egressQuiesceTimeout p) s fun t =>
      ((t.eg p).queue = []) ∧
      Frame [0x268 + p, 0x260] s ({ t with egress := s.egress })) ∧
  (∀ (s : State) (queue : Bool) (n tc : Nat),
    Memory.wf s = true → s.gf hgB F.hostGlobal_PROT_MODE = 0 →
    Runs (.pointerFlush queue n tc true) s fun t =>
      (t.gf hgB F.hostGlobal_PTR_ERR_CORR = min (F.hostGlobal_PTR_ERR_CORR).top (s.gf hgB F.hostGlobal_PTR_ERR_CORR + 1)) ∧
      Frame [0x260] s t) ∧
  (∀ (s : State) (n tc : Nat),
    Memory.wf s = true → s.alive .hostGlobal 0 = true → n < 64 →
    Runs (.pointerFlush true n tc false) s fun t =>
      (t.gf (qB n) F.hostQueue_STS_STOPPED = 1) ∧
      (t.gf (qB n) F.hostQueue_STS_REASON = 4) ∧
      (t.evPend 456 = true) ∧
      (t.evPend 458 = true) ∧
      Frame [0x260, 0x261 + n / 16] s t)

/-- What the host queue commands do. In canonical states, for queue n with its page's domain and PD3 on. QUEUE_RUN_START
from RUN 0: RUN 1, not stopped, HEAD 0, BASE and BUF_LEN latched. QUEUE_RUN_STOP from RUN 1: stopped under reason 1.
QUEUE_FLUSH with RUN 0: HEAD and TAIL 0. QUEUE_TAIL_WRITE stores a ring index within the ring; in a FIFO a multiple of
16 within it. HOST_RX_PUBLISH of a good frame that fits one buffer of its running ring: the bytes without FCS go to the
posted buffer, HEAD moves on, FRAMES counts. QUEUE_IRQ_TIME_EXPIRY with frames not yet signalled sends the queue's
message, which is pending while its vector is masked. HOST_TX_FETCH of a one-descriptor frame with a destination port
that the grade has: the frame waits to enter the fabric, its descriptor is written back done, HEAD moves on.
DMA_COMPLETION_TIMEOUT stops a running queue of a page in RUN or QUIESCING under reason 2 with EV456.
DMA_COMPLETION_ERROR does so under reason 3. -/
def Obligations.HostQueueCommands : Prop :=
  (∀ (s : State) (n : Nat),
    s.sound = true → s.domOn 3 = true → n < 64 → s.alive .hostQueue (n / 16) = true → s.qf n F.hostQueue_Q_CTL_RUN = 0 →
    Runs (.queueRunStart n) s fun t =>
      (t.qf n F.hostQueue_Q_CTL_RUN = 1) ∧
      (t.qf n F.hostQueue_STS_STOPPED = 0) ∧
      (t.qf n F.hostQueue_STS_REASON = 0) ∧
      (t.qf n F.hostQueue_HEAD_INDEX = 0) ∧
      ((t.hq n).base = s.g64 (qB n) F.hostQueue_BASE_LO_ADDR F.hostQueue_BASE_HI_ADDR) ∧
      ((t.hq n).bufLen = s.qf n F.hostQueue_BUF_LEN_LEN) ∧
      Frame [0x261 + n / 16] s ({ t with hostQ := s.hostQ })) ∧
  (∀ (s : State) (n : Nat),
    s.sound = true → s.domOn 3 = true → n < 64 → s.alive .hostQueue (n / 16) = true → s.qf n F.hostQueue_Q_CTL_RUN = 1 →
    Runs (.queueRunStop n) s fun t =>
      (t.qf n F.hostQueue_Q_CTL_RUN = 0) ∧
      (t.qf n F.hostQueue_STS_STOPPED = 1) ∧
      (t.qf n F.hostQueue_STS_REASON = 1) ∧
      Frame [0x261 + n / 16] s t) ∧
  (∀ (s : State) (n : Nat),
    s.sound = true → n < 64 → s.alive .hostQueue (n / 16) = true → s.qf n F.hostQueue_Q_CTL_RUN = 0 →
    Runs (.queueFlush n) s fun t =>
      (t.qf n F.hostQueue_HEAD_INDEX = 0) ∧
      (t.qf n F.hostQueue_TAIL_INDEX = 0) ∧
      Frame [0x261 + n / 16] s t) ∧
  (∀ (s : State) (n : Nat) (w : Word),
    s.sound = true → s.domOn 3 = true → n < 64 → s.alive .hostQueue (n / 16) = true →
    Runs (.queueTailWrite n w) s fun t =>
      ((s.qf n F.hostQueue_Q_CFG_FORMAT = 0 → t.qf n F.hostQueue_TAIL_INDEX = min w.toNat (2 ^ s.qf n
        F.hostQueue_Q_CFG_SIZE_LOG2 - 1))) ∧
      ((s.qf n F.hostQueue_Q_CFG_FORMAT = 1 → t.qf n F.hostQueue_TAIL_INDEX % 16 = 0 ∧ t.qf n F.hostQueue_TAIL_INDEX < 2
        ^ s.qf n F.hostQueue_Q_CFG_SIZE_LOG2)) ∧
      Frame [0x261 + n / 16] s t) ∧
  (∀ (s : State) (p n : Nat) (f : EgFrame) (posted : Bytes),
    s.sound = true → 16 ≤ p → p < 20 → s.alive .hostEgress p = true → s.pst .hostEgress p = .run → (s.eg p).queue = [f] →
      (s.eg p).writing = none → s.queueBusy n = false → f.whole = true → f.bad = false → f.info.tc < 8 → f.info.queue =
      some n → n < 64 → s.queueRuns n = true → s.run .hostGlobal 0 = true → (s.hq n).tx = false → (s.hq n).fifo = false →
      (s.hq n).hport = (p - 16) / 2 → 0 < (withoutFcs f.bytes).length → (withoutFcs f.bytes).length ≤ (s.hq n).bufLen →
      s.qf n F.hostQueue_HEAD_INDEX < (s.hq n).size → s.qf n F.hostQueue_TAIL_INDEX < (s.hq n).size → s.qf n
      F.hostQueue_TAIL_INDEX ≠ s.qf n F.hostQueue_HEAD_INDEX →
    Runs (.hostRxPublish p 0 posted) s fun t =>
      (.hostWrite (s.hq n).hport (leAt posted 0 8) (withoutFcs f.bytes) ∈ t.out) ∧
      (t.qf n F.hostQueue_HEAD_INDEX = (s.qf n F.hostQueue_HEAD_INDEX + 1) % (s.hq n).size) ∧
      (t.qf n F.hostQueue_FRAMES_COUNT = (s.qf n F.hostQueue_FRAMES_COUNT + 1) % 2 ^ 32) ∧
      ((t.eg p).queue = []) ∧
      Frame [0x261 + n / 16, 0x268 + p] s ({ t with egress := s.egress, hostQ := s.hostQ })) ∧
  (∀ (s : State) (n : Nat),
    s.sound = true → (s.hq n).unsignalled ≠ 0 →
    Runs (.queueIrqTimeExpiry n) s fun t =>
      ((¬ 64 * (s.hq n).hport + (s.hq n).vector ∈ s.msixMask → t.out = s.out ++ [.msix (s.hq n).hport (s.hq n).vector] ∧
        t.msixPend = s.msixPend)) ∧
      ((64 * (s.hq n).hport + (s.hq n).vector ∈ s.msixMask → t.out = s.out ∧ 64 * (s.hq n).hport + (s.hq n).vector ∈
        t.msixPend)) ∧
      ((t.hq n).unsignalled = 0) ∧
      (t.regs = s.regs) ∧
      Frame [] s ({ t with hostQ := s.hostQ })) ∧
  (∀ (s : State) (n : Nat) (d b : Bytes),
    s.sound = true → n < 64 → s.queueRuns n = true → (s.hq n).tx = true → (s.hq n).fifo = false → s.alive .hostEgress (16
      + 2 * (s.hq n).hport) = true → d.length = 16 → bitOf (byteAt d 15) 5 = true → leAt d 8 2 ≤ 9212 → 0 < byteAt d 11 →
      byteAt d 11 ≤ 24 → s.grade.fPort (byteAt d 11 - 1) = true → s.qf n F.hostQueue_HEAD_INDEX < (s.hq n).size → s.qf n
      F.hostQueue_TAIL_INDEX < (s.hq n).size → s.qf n F.hostQueue_TAIL_INDEX ≠ s.qf n F.hostQueue_HEAD_INDEX →
    Runs (.hostTxFetch n 0 [(d, b)]) s fun t =>
      (t.fab.entering.length = s.fab.entering.length + 1) ∧
      (t.qf n F.hostQueue_HEAD_INDEX = (s.qf n F.hostQueue_HEAD_INDEX + 1) % (s.hq n).size) ∧
      (.hostWrite (s.hq n).hport ((s.hq n).base + 16 * s.qf n F.hostQueue_HEAD_INDEX) (putBytes (putBytes d 14 [0]) 15
        (leBytes 1 (0x80 ||| byteAt d 15))) ∈ t.out) ∧
      Frame [0x261 + n / 16] s ({ t with fab := s.fab })) ∧
  (∀ (s : State) (n : Nat),
    s.sound = true → n < 64 → s.queueServes n = true → s.alive .hostGlobal 0 = true →
    Runs (.dmaCompletionTimeout n) s fun t =>
      (t.qf n F.hostQueue_STS_STOPPED = 1) ∧
      (t.qf n F.hostQueue_STS_REASON = 2) ∧
      (t.evPend 456 = true) ∧
      Frame [0x260, 0x261 + n / 16] s t) ∧
  (∀ (s : State) (n : Nat),
    s.sound = true → n < 64 → s.queueServes n = true → s.alive .hostGlobal 0 = true →
    Runs (.dmaCompletionError n) s fun t =>
      (t.qf n F.hostQueue_STS_STOPPED = 1) ∧
      (t.qf n F.hostQueue_STS_REASON = 3) ∧
      (t.evPend 456 = true) ∧
      Frame [0x260, 0x261 + n / 16] s t)

/-- What the forwarding commands do. In canonical states. FRAME_LOOKUP of a good frame to a trapped reserved group
address, its pipe in RUN and its port next in turn: target F22 in class TRAP.TC, counted in LOOKUPS. One to a reserved
address that is not trapped is dropped under reason 3. GRIST_EDIT of a frame without edits hands it to the fabric as it
came. LEARN_COMMIT of an unknown station writes it into the first free place of its key and counts it; no other byte of
BAR2 changes. SPARGE_VISIT with ageing on, of a dynamic entry that no lookup hits in that cycle: HIT is cleared, else
STALE is set, else the entry goes and is counted in AGED; the next visit is the next entry. Of one that a lookup hits
in the same cycle, as the command's operand says (R160; DESIGN CHOICE, log entry 130): HIT 1 and STALE 0, and the entry
stays. With PD3 on FDB_FLUSH with GO while not BUSY starts a flush. FDB_FLUSH_COMPLETE ends it: every entry still to be
visited that the latched conditions name is gone. SRF_RESET_TIMEOUT of a function whose timer has run out sets
TAKE_ANY, zeroes HISTORY, counts the reset, names it, raises EV105 and stops the timer. -/
def Obligations.ForwardingCommands : Prop :=
  (∀ (s : State) (p : Nat) (f : RxFrame),
    s.sound = true → p < 24 → s.run .pipe (pipeFor p) = true → s.inTurn p = true → s.fwd.waiting.find? (fun x => x.src ==
      p) = some f → f.capture = none → f.bad = false → beNat (slice f.bytes 0 6) / 16 = 0x0180C200000 → bitOf (s.gf shB
      F.pipeShared_TRAP_MASK) (beNat (slice f.bytes 0 6) % 16) = true →
    Runs (.frameLookup p false 0) s fun t =>
      ((t.fwd.looked.map fun x => (x.targets, x.tc)) = (s.fwd.looked.map fun x => (x.targets, x.tc)) ++ [(2 ^ 22, s.gf
        shB F.pipeShared_TRAP_TC)]) ∧
      (t.fwd.waiting = s.fwd.waiting.erase f) ∧
      (t.gf (ppB (pipeFor p)) F.pipe_LOOKUPS_COUNT = (s.gf (ppB (pipeFor p)) F.pipe_LOOKUPS_COUNT + 1) % 2 ^ 32) ∧
      Frame [0xC0 + pipeFor p] s ({ t with fwd := s.fwd })) ∧
  (∀ (s : State) (p : Nat) (f : RxFrame),
    s.sound = true → p < 24 → s.run .pipe (pipeFor p) = true → s.inTurn p = true → s.fwd.waiting.find? (fun x => x.src ==
      p) = some f → f.capture = none → f.bad = false → beNat (slice f.bytes 0 6) / 16 = 0x0180C200000 → bitOf (s.gf shB
      F.pipeShared_TRAP_MASK) (beNat (slice f.bytes 0 6) % 16) = false →
    Runs (.frameLookup p false 0) s fun t =>
      (t.fwd.looked = s.fwd.looked) ∧
      (t.gf (ppB (pipeFor p)) (F.pipe_DROP_COUNT.at 12) = min 0xFFFFFFFF (s.gf (ppB (pipeFor p)) (F.pipe_DROP_COUNT.at
        12) + 1)) ∧
      Frame [0xC0 + pipeFor p] s ({ t with fwd := s.fwd, ports := s.ports, jal := s.jal })) ∧
  (∀ (s : State) (p : Nat) (x : Looked),
    s.fwd.looked.find? (fun x => x.frame.src == p) = some x → x.strip = false → x.insert = none → x.dei = false → x.split
      = false → x.targets ≠ 0 →
    Runs (.gristEdit p) s fun t =>
      (t.fab.entering = s.fab.entering ++ [⟨x.info x.targets x.member, x.frame.bytes, x.frame.bad, x.frame.held⟩]) ∧
      (t.fwd.looked = s.fwd.looked.erase x) ∧
      (t.regs = s.regs) ∧
      Frame [] s ({ t with fab := s.fab, fwd := s.fwd })) ∧
  (∀ (s : State) (k : Nat) (r : LearnReq) (rest : List LearnReq) (e : FdbEntry),
    s.sound = true → k < 2 → (s.pipeSt k).learn = r :: rest → r.mac < 2 ^ 48 → r.fid < 4096 → r.port < 16 → s.fdbFind k
      r.fid (beBytes 6 r.mac) = none → ((s.fdbPlaces k r.fid (beBytes 6 r.mac)).map s.fdbAt).find? (fun e => !e.valid) =
      some e →
    Runs (.learnCommit k) s fun t =>
      ((t.fdbAt e.off).valid = true) ∧
      ((t.fdbAt e.off).mac = beBytes 6 r.mac) ∧
      ((t.fdbAt e.off).fid = r.fid) ∧
      ((t.fdbAt e.off).port = r.port) ∧
      (t.gf (ppB k) F.pipe_LEARNED_COUNT = min 0xFFFFFFFF (s.gf (ppB k) F.pipe_LEARNED_COUNT + 1)) ∧
      ((t.pipeSt k).learn = rest) ∧
      (∀ a, (a < e.off ∨ e.off + 16 ≤ a) → t.b2 a = s.b2 a) ∧
      Frame [0xC0 + k] s ({ t with fwd := s.fwd, bar2 := s.bar2 })) ∧
  (∀ (s : State) (k : Nat),
    s.sound = true → k < 2 → s.gf (ppB k) F.pipe_AGE_CTL_AGE_EN = 1 → (s.pipeSt k).sparge < 16448 → (s.fdbAt (spargeOff k
      (s.pipeSt k).sparge)).valid = true → (s.fdbAt (spargeOff k (s.pipeSt k).sparge)).static = false → (s.fdbAt
      (spargeOff k (s.pipeSt k).sparge)).pinned = false →
    Runs (.spargeVisit k false) s fun t =>
      (((s.fdbAt (spargeOff k (s.pipeSt k).sparge)).hit = true → (t.fdbAt (spargeOff k (s.pipeSt k).sparge)).hit = false
        ∧ (t.fdbAt (spargeOff k (s.pipeSt k).sparge)).stale = false ∧ (t.fdbAt (spargeOff k (s.pipeSt k).sparge)).valid =
        true)) ∧
      (((s.fdbAt (spargeOff k (s.pipeSt k).sparge)).hit = false → (s.fdbAt (spargeOff k (s.pipeSt k).sparge)).stale =
        false → (t.fdbAt (spargeOff k (s.pipeSt k).sparge)).stale = true)) ∧
      (((s.fdbAt (spargeOff k (s.pipeSt k).sparge)).hit = false → (s.fdbAt (spargeOff k (s.pipeSt k).sparge)).stale =
        true → (t.fdbAt (spargeOff k (s.pipeSt k).sparge)).valid = false ∧ t.gf (ppB k) F.pipe_AGED_COUNT = min
        0xFFFFFFFF (s.gf (ppB k) F.pipe_AGED_COUNT + 1))) ∧
      ((t.pipeSt k).sparge = ((s.pipeSt k).sparge + 1) % 16448) ∧
      Frame [0xC0 + k] s ({ t with fwd := s.fwd, bar2 := s.bar2 })) ∧
  (∀ (s : State) (k : Nat),
    s.sound = true → k < 2 → s.gf (ppB k) F.pipe_AGE_CTL_AGE_EN = 1 → (s.pipeSt k).sparge < 16448 → (s.fdbAt (spargeOff k
      (s.pipeSt k).sparge)).valid = true → (s.fdbAt (spargeOff k (s.pipeSt k).sparge)).static = false → (s.fdbAt
      (spargeOff k (s.pipeSt k).sparge)).pinned = false →
    Runs (.spargeVisit k true) s fun t =>
      ((t.fdbAt (spargeOff k (s.pipeSt k).sparge)).hit = true) ∧
      ((t.fdbAt (spargeOff k (s.pipeSt k).sparge)).stale = false) ∧
      ((t.fdbAt (spargeOff k (s.pipeSt k).sparge)).valid = true) ∧
      ((t.pipeSt k).sparge = ((s.pipeSt k).sparge + 1) % 16448) ∧
      Frame [0xC0 + k] s ({ t with fwd := s.fwd, bar2 := s.bar2 })) ∧
  (∀ (s : State) (k : Nat) (w : Word),
    s.sound = true → s.domOn 3 = true → k < 2 → s.alive .pipe k = true → w.getLsbD 31 = true → s.gf (ppB k)
      F.pipe_FDB_FLUSH_BUSY = 0 →
    Runs (.fdbFlush k w) s fun t =>
      (t.gf (ppB k) F.pipe_FDB_FLUSH_BUSY = 1) ∧
      ((t.pipeSt k).flush.isSome = true) ∧
      (t.bar2 = s.bar2) ∧
      Frame [0xC0 + k] s ({ t with fwd := s.fwd })) ∧
  (∀ (s : State) (k i : Nat) (st bp bf : Bool) (port fid : Nat),
    s.sound = true → k < 2 → (s.pipeSt k).flush = some (st, bp, port, bf, fid) → (s.pipeSt k).visited ≤ i → i < 16448 →
      (st = true ∨ (s.fdbAt (spargeOff k i)).static = false) → (bp = false ∨ (s.fdbAt (spargeOff k i)).mcast = false ∧
      (s.fdbAt (spargeOff k i)).port = normPort port) → (bf = false ∨ (s.fdbAt (spargeOff k i)).fid = fid) →
    Runs (.fdbFlushComplete k) s fun t =>
      (t.gf (ppB k) F.pipe_FDB_FLUSH_BUSY = 0) ∧
      ((t.fdbAt (spargeOff k i)).valid = false) ∧
      Frame [0xC0 + k] s ({ t with fwd := s.fwd, bar2 := s.bar2 })) ∧
  (∀ (s : State) (i : Nat),
    s.sound = true → s.alive .pipeShared 0 = true → i < 1024 → s.srfDue i = true →
    Runs (.srfResetTimeout i) s fun t =>
      (bitOf (t.b2 (0x05200000 + 16 * i)).toNat 5 = true) ∧
      (t.b2w (0x05200000 + 16 * i + 8) = 0) ∧
      (t.b2w (srfCnt i 5) = (s.b2w (srfCnt i 5) + 1) % 2 ^ 32) ∧
      (t.gf shB F.pipeShared_EVT_IDX_B_LAST_RESET = i) ∧
      (t.evPend 105 = true) ∧
      (t.srfDue i = false) ∧
      Frame [0xC2] s ({ t with bar2 := s.bar2, fwd := s.fwd }))

/-- What the flips of the stream tables do, and how a table entry is committed. In canonical states. STREAM_FLIP_NOW with
the page in RUN and nothing draining: the banks change places, EPOCH moves on, DRAINING starts, EV101. While DRAINING
it stays pending. STREAM_FLIP_AT for an instant not past is pending for it. STREAM_FLIP_CANCEL removes the pending
request. STREAM_FLIP_DUE at its instant carries it out. STREAM_DRAIN_END with the old epoch gone and no request waiting
ends DRAINING. A VLAN entry written word by word through BAR2 takes effect as a whole with its last word, and not
before. -/
def Obligations.StreamFlipCommands : Prop :=
  (∀ (s : State),
    Memory.wf s = true → s.run .pipeShared 0 = true → s.gf shB F.pipeShared_STREAM_BANK_DRAINING = 0 →
    Runs (.streamFlipNow) s fun t =>
      (t.gf shB F.pipeShared_STREAM_BANK_FG = 1 - s.gf shB F.pipeShared_STREAM_BANK_FG) ∧
      (t.gf shB F.pipeShared_STREAM_BANK_EPOCH = (s.gf shB F.pipeShared_STREAM_BANK_EPOCH + 1) % 8) ∧
      (t.gf shB F.pipeShared_STREAM_BANK_DRAINING = 1) ∧
      (t.gf shB F.pipeShared_STREAM_BANK_FLIP_PEND = 0) ∧
      (t.evPend 101 = true) ∧
      Frame [0xC2] s ({ t with fwd := s.fwd })) ∧
  (∀ (s : State),
    Memory.wf s = true → s.run .pipeShared 0 = true → s.gf shB F.pipeShared_STREAM_BANK_DRAINING = 1 →
    Runs (.streamFlipNow) s fun t =>
      (t.gf shB F.pipeShared_STREAM_BANK_FLIP_PEND = 1) ∧
      (t.gf shB F.pipeShared_STREAM_BANK_FG = s.gf shB F.pipeShared_STREAM_BANK_FG) ∧
      (t.fwd.flip = .now) ∧
      Frame [0xC2] s ({ t with fwd := s.fwd })) ∧
  (∀ (s : State),
    Memory.wf s = true → s.alive .pipeShared 0 = true → s.now ≤ s.streamAt →
    Runs (.streamFlipAt) s fun t =>
      (t.gf shB F.pipeShared_STREAM_BANK_FLIP_PEND = 1) ∧
      (t.fwd.flip = .at_) ∧
      Frame [0xC2] s ({ t with fwd := s.fwd })) ∧
  (∀ (s : State),
    Memory.wf s = true → s.alive .pipeShared 0 = true →
    Runs (.streamFlipCancel) s fun t =>
      (t.gf shB F.pipeShared_STREAM_BANK_FLIP_PEND = 0) ∧
      (t.fwd.flip = .none) ∧
      Frame [0xC2] s ({ t with fwd := s.fwd })) ∧
  (∀ (s : State),
    Memory.wf s = true → s.run .pipeShared 0 = true → s.gf shB F.pipeShared_STREAM_BANK_DRAINING = 0 → s.fwd.flip = .at_
      → s.streamAt ≤ s.now →
    Runs (.streamFlipDue) s fun t =>
      (t.gf shB F.pipeShared_STREAM_BANK_FG = 1 - s.gf shB F.pipeShared_STREAM_BANK_FG) ∧
      (t.gf shB F.pipeShared_STREAM_BANK_EPOCH = (s.gf shB F.pipeShared_STREAM_BANK_EPOCH + 1) % 8) ∧
      (t.gf shB F.pipeShared_STREAM_BANK_DRAINING = 1) ∧
      (t.gf shB F.pipeShared_STREAM_BANK_FLIP_PEND = 0) ∧
      (t.evPend 101 = true) ∧
      (t.gf shB F.pipeShared_STREAM_BANK_LATE = s.gf shB F.pipeShared_STREAM_BANK_LATE) ∧
      Frame [0xC2] s ({ t with fwd := s.fwd })) ∧
  (∀ (s : State),
    Memory.wf s = true → s.gf shB F.pipeShared_STREAM_BANK_DRAINING = 1 → s.streamDrained = true → s.fwd.flip = .none →
    Runs (.streamDrainEnd) s fun t =>
      (t.gf shB F.pipeShared_STREAM_BANK_DRAINING = 0) ∧
      (t.gf shB F.pipeShared_STREAM_BANK_FG = s.gf shB F.pipeShared_STREAM_BANK_FG) ∧
      Frame [0xC2] s t) ∧
  (∀ (s : State) (vid : Nat) (w0 w1 w2 w3 : Word),
    s.sound = true → vid < 4096 → s.domOn 3 = true → s.cask.watch = [] →
    (State.bar2Write .host (0x05000000 + 16 * vid + 0) w0 (s)).bar2 = s.bar2 ∧ (State.bar2Write .host (0x05000000 + 16 *
      vid + 4) w1 (State.bar2Write .host (0x05000000 + 16 * vid + 0) w0 (s))).bar2 = s.bar2 ∧ (State.bar2Write .host
      (0x05000000 + 16 * vid + 8) w2 (State.bar2Write .host (0x05000000 + 16 * vid + 4) w1 (State.bar2Write .host
      (0x05000000 + 16 * vid + 0) w0 (s)))).bar2 = s.bar2 ∧
        (let t := State.bar2Write .host (0x05000000 + 16 * vid + 12) w3 (State.bar2Write .host (0x05000000 + 16 * vid +
          8) w2 (State.bar2Write .host (0x05000000 + 16 * vid + 4) w1 (State.bar2Write .host (0x05000000 + 16 * vid + 0)
          w0 (s)))); t.b2w (0x05000000 + 16 * vid) = w0.toNat ∧ t.b2w (0x05000000 + 16 * vid + 4) = w1.toNat ∧ t.b2w
          (0x05000000 + 16 * vid + 8) = w2.toNat ∧ t.b2w (0x05000000 + 16 * vid + 12) = w3.toNat))

/-- What the commands of an E port do. In canonical states, for an E port n of the grade whose domain is on. LINK_UP in
an Ethernet mode without auto-negotiation: LINK and BLOCK_LOCK 1, SPEED the speed of the mode nearest to FORCE_SPEED,
the link-loss level 0. With it, SPEED is the speed negotiated, where the mode has it. LINK_DOWN, with no protected
frame in transmission: LINK 0, the link-loss level 1, and no frame is in transmission any more. ETH_RX_FRAME of a good
frame on a port in RUN, without MACsec, with room in the receive buffer: counted in RX_GOOD, it waits for its lookup as
it came. A runt is counted, and discarded unless frames of the port may be cut through, when it goes on as bad. TS_POP
of an E port returns and removes its oldest transmit stamp and keeps it in the shadow registers. With PD3 on TS_FLUSH
empties the FIFO. LPI_ENTRY of an idle port in RUN that supports and enables it: TX_LPI 1, counted. LPI_WAKE_END lets
the scheduler select again. LPI_ENTRY by the partner on a lane that holds synchronisation, in a mode and speed that has
low-power idle: RX_LPI 1. LPI_WAKE_END by the partner: RX_LPI 0. -/
def Obligations.EthernetPortCommands : Prop :=
  (∀ (s : State) (n code : Nat),
    s.sound = true → n < 16 → s.alive .emac n = true → 1 ≤ (s.port n).mode → (s.port n).mode ≤ 4 → (s.gf (emB n)
      F.emac_LANE_CFG_AN_EN = 0 ∨ (s.port n).mode = 2 ∨ (s.port n).mode = 4) →
    Runs (.linkUp n code) s fun t =>
      (t.gf (emB n) F.emac_LINK_STS_LINK = 1) ∧
      (t.gf (emB n) F.emac_LINK_STS_BLOCK_LOCK = 1) ∧
      (t.gf (emB n) F.emac_LINK_STS_SPEED = nearestOf (modeSpeeds (s.port n).mode) (s.gf (emB n)
        F.emac_LANE_CFG_FORCE_SPEED)) ∧
      (bitOf (t.gf (emB n) hdrRaw) 0 = false) ∧
      Frame [0x100 + 2 * n, 0x268 + n] s ({ t with egress := s.egress, ports := s.ports })) ∧
  (∀ (s : State) (n code : Nat),
    s.sound = true → n < 16 → s.alive .emac n = true → ((s.port n).mode = 1 ∨ (s.port n).mode = 3) → s.gf (emB n)
      F.emac_LANE_CFG_AN_EN = 1 → code ∈ modeSpeeds (s.port n).mode →
    Runs (.linkUp n code) s fun t =>
      (t.gf (emB n) F.emac_LINK_STS_LINK = 1) ∧
      (t.gf (emB n) F.emac_LINK_STS_AN_DONE = 1) ∧
      (t.gf (emB n) F.emac_LINK_STS_SPEED = code) ∧
      Frame [0x100 + 2 * n, 0x268 + n] s ({ t with egress := s.egress, ports := s.ports })) ∧
  (∀ (s : State) (n : Nat) (lock : Bool),
    s.sound = true → n < 16 → s.alive .emac n = true → 1 ≤ (s.port n).mode → (s.port n).mode ≤ 4 → s.gf (emB n)
      F.emac_LINK_STS_LINK = 1 → (s.eg n).sending.bind (fun x => x.prot) = none →
    Runs (.linkDown n lock) s fun t =>
      (t.gf (emB n) F.emac_LINK_STS_LINK = 0) ∧
      (t.gf (emB n) F.emac_LINK_STS_BLOCK_LOCK = b2n (lock && ((s.port n).mode == 4 || s.laneAn n))) ∧
      (bitOf (t.gf (emB n) hdrRaw) 0 = true) ∧
      ((t.eg n).sending = none) ∧
      Frame [0x100 + 2 * n, 0x268 + n] s ({ t with egress := s.egress, ports := s.ports })) ∧
  (∀ (s : State) (n ago : Nat) (b : Bytes),
    s.sound = true → n < 16 → s.run .emac n = true → s.gf (emB n) F.emac_LINK_STS_LINK = 1 → (s.port n).mode ≠ 5 →
      (s.port n).rxBytes + s.maxLen n ≤ 65536 → 64 ≤ b.length → b.length ≤ s.maxLen n → fcsGood b = true → s.gf (pageBase
      .macsec n) F.macsec_SECY_CTL_RX_EN = 0 → s.gf (pageBase .macsec n) F.macsec_SECY_CTL_TX_EN = 0 →
    Runs (.ethRxFrame n b false ago) s fun t =>
      (t.gf (emB n) F.emac_RX_GOOD_COUNT = (s.gf (emB n) F.emac_RX_GOOD_COUNT + 1) % 2 ^ 32) ∧
      ((t.fwd.waiting.map fun x => (x.src, x.bytes, x.bad)) = (s.fwd.waiting.map fun x => (x.src, x.bytes, x.bad)) ++
        [(n, b, false)]) ∧
      ((t.port n).rxBytes = (s.port n).rxBytes + b.length) ∧
      Frame [0x100 + 2 * n] s ({ t with fwd := s.fwd, ports := s.ports })) ∧
  (∀ (s : State) (n ago : Nat) (b : Bytes),
    s.sound = true → n < 16 → s.run .emac n = true → s.gf (emB n) F.emac_LINK_STS_LINK = 1 → (s.port n).mode ≠ 5 →
      (s.port n).rxBytes + s.maxLen n ≤ 65536 → b.length < 64 → 64 ≤ s.maxLen n → s.gf (emB n) F.emac_RX_CTL_CAPTURE = 0
      →
    Runs (.ethRxFrame n b false ago) s fun t =>
      (t.gf (emB n) F.emac_RX_RUNT_COUNT = min 0xFFFFFFFF (s.gf (emB n) F.emac_RX_RUNT_COUNT + 1)) ∧
      ((s.mayCut n = false → t.fwd = s.fwd ∧ (t.port n).rxBytes = (s.port n).rxBytes)) ∧
      ((s.mayCut n = true → (t.fwd.waiting.map fun x => (x.src, x.bytes, x.bad)) = (s.fwd.waiting.map fun x => (x.src,
        x.bytes, x.bad)) ++ [(n, b, true)])) ∧
      Frame [0x100 + 2 * n] s ({ t with fwd := s.fwd, ports := s.ports })) ∧
  (∀ (s : State) (n : Nat) (r : StampRec) (rest : List StampRec),
    s.sound = true → n < 16 → s.alive .emac n = true → (s.port n).stamps = r :: rest →
    Runs (.tsPop false n 1) s fun t =>
      (.readData [r.word] ∈ t.out) ∧
      ((t.port n).stamps = rest) ∧
      (t.gf (emB n) F.emac_TS_POP_LAST_LAST = r.word % 2 ^ 32) ∧
      (t.gf (emB n) F.emac_TS_STAMP_STAMP = r.stamp % 2 ^ 32) ∧
      (t.gf (emB n) F.emac_TS_LEVEL_LEVEL = rest.length % 32) ∧
      Frame [0x100 + 2 * n] s ({ t with ports := s.ports })) ∧
  (∀ (s : State) (n : Nat) (w : Word),
    s.sound = true → s.domOn 3 = true → n < 16 → s.alive .emac n = true → w.getLsbD 1 = true →
    Runs (.tsFlush n w) s fun t =>
      ((t.port n).stamps = []) ∧
      (t.gf (emB n) F.emac_TS_LEVEL_LEVEL = 0) ∧
      Frame [0x100 + 2 * n] s ({ t with ports := s.ports })) ∧
  (∀ (s : State) (n : Nat),
    s.sound = true → n < 16 → s.run .emac n = true → (s.eg n).sending = none → (s.eg n).queue = [] → (s.eg n).lpi = false
      → (s.eg n).waking = false → s.gf (emB n) F.emac_EEE_CTL_LPI_EN = 1 → eeeSupported (s.port n).mode (s.gf (emB n)
      F.emac_LINK_STS_SPEED) = true → s.gf (egBase n) F.hostEgress_GATE_CTL_GATE_EN = 0 →
    Runs (.lpiEntry n false) s fun t =>
      ((t.eg n).lpi = true) ∧
      (t.gf (emB n) F.emac_LINK_STS_TX_LPI = 1) ∧
      (t.gf (emB n) F.emac_LPI_ENTRIES_COUNT = min 0xFFFFFFFF (s.gf (emB n) F.emac_LPI_ENTRIES_COUNT + 1)) ∧
      Frame [0x100 + 2 * n] s ({ t with egress := s.egress })) ∧
  (∀ (s : State) (n : Nat),
    s.sound = true → n < 16 →
    Runs (.lpiWakeEnd n false) s fun t =>
      ((t.eg n).waking = false) ∧
      (t.regs = s.regs) ∧
      Frame [] s ({ t with egress := s.egress })) ∧
  (∀ (s : State) (n : Nat),
    s.sound = true → n < 16 → s.alive .emac n = true → s.gf (emB n) F.emac_LINK_STS_BLOCK_LOCK = 1 → eeeSupported (s.port
      n).mode (s.gf (emB n) F.emac_LINK_STS_SPEED) = true →
    Runs (.lpiEntry n true) s fun t =>
      (t.gf (emB n) F.emac_LINK_STS_RX_LPI = 1) ∧
      Frame [0x100 + 2 * n] s t) ∧
  (∀ (s : State) (n : Nat),
    s.sound = true → n < 16 → s.alive .emac n = true →
    Runs (.lpiWakeEnd n true) s fun t =>
      (t.gf (emB n) F.emac_LINK_STS_RX_LPI = 0) ∧
      Frame [0x100 + 2 * n] s t)

/-- What the commands of a 10BASE-T1S segment do. In canonical states, for a segment n. T1S_RX_FRAME of a good frame on a
working segment without discovery: counted, it enters at F20 with its tag. A runt is only counted. TS_POP of a segment
returns and removes its oldest transmit stamp. T1S_NODE_DEPART of a discovery entry (here without the node directory):
the entry goes, with its event. PLCA_BEACON of the coordinator: COORD and PLCA_OK 1, and its own opportunity, of one
frame and MAX_BC further ones, follows the BEACON at once (PRESUMED, log entry 61). PLCA_BEACON_RECEIVED by a follower:
COORD 0, PLCA_OK 1. PLCA_BEACON_LOST of a follower: PLCA_OK 0, counted, its level 1. T1S_COLLISION is counted; before
the sixteenth the frame stays for another attempt after an open backoff. At the sixteenth it is discarded and counted
in TX_ABORT. -/
def Obligations.T1sCommands : Prop :=
  (∀ (s : State) (n opp ago : Nat) (b : Bytes),
    s.sound = true → n < 8 → s.segRuns n = true → 64 ≤ b.length → b.length ≤ s.gf (t1B n) F.t1s_MAX_LEN_BYTES → fcsGood b
      = true → s.gf (t1B n) F.t1s_DISC_CTL_DISC_EN = 0 →
    Runs (.t1sRxFrame n opp b false ago) s fun t =>
      (t.gf (t1B n) F.t1s_RX_GOOD_COUNT = (s.gf (t1B n) F.t1s_RX_GOOD_COUNT + 1) % 2 ^ 32) ∧
      ((t.fwd.waiting.map fun x => (x.src, x.bytes)) = (s.fwd.waiting.map fun x => (x.src, x.bytes)) ++ [(20, s.segTag n
        b)]) ∧
      Frame [0x140 + n] s ({ t with fwd := s.fwd })) ∧
  (∀ (s : State) (n opp ago : Nat) (b : Bytes),
    s.sound = true → n < 8 → s.segRuns n = true → b.length < 64 →
    Runs (.t1sRxFrame n opp b false ago) s fun t =>
      (t.gf (t1B n) F.t1s_RX_RUNT_COUNT = min 0xFFFFFFFF (s.gf (t1B n) F.t1s_RX_RUNT_COUNT + 1)) ∧
      (t.fwd = s.fwd) ∧
      Frame [0x140 + n] s t) ∧
  (∀ (s : State) (n : Nat) (r : StampRec) (rest : List StampRec),
    s.sound = true → n < 8 → s.alive .t1s n = true → (s.seg n).stamps = r :: rest →
    Runs (.tsPop true n 1) s fun t =>
      (.readData [r.word] ∈ t.out) ∧
      ((t.seg n).stamps = rest) ∧
      (t.gf (t1B n) F.t1s_TS_POP_LAST_LAST = r.word % 2 ^ 32) ∧
      Frame [0x140 + n] s ({ t with segs := s.segs })) ∧
  (∀ (s : State) (n e : Nat),
    s.sound = true → n < 8 → e < 8 → s.alive .t1s n = true → s.gf (t1B n) F.t1s_DISC_CTL_DISC_EN = 1 → s.gf (t1B n)
      (F.t1s_DISC_VALID.at (16 * e)) = 1 → s.run .sigNode 0 = false →
    Runs (.t1sNodeDepart n e) s fun t =>
      (t.gf (t1B n) (F.t1s_DISC_VALID.at (16 * e)) = 0) ∧
      (t.evPend (192 + 2 * n) = true) ∧
      Frame [0x140 + n] s t) ∧
  (∀ (s : State) (n : Nat),
    s.sound = true → n < 8 → s.segRuns n = true → s.gf (t1B n) F.t1s_SEG_CTL_PLCA_EN = 1 → s.gf (t1B n)
      F.t1s_SEG_CTL_LOCAL_ID = 0 → (s.seg n).busyTo = 0 →
    Runs (.plcaBeacon n) s fun t =>
      (t.gf (t1B n) F.t1s_SEG_STS_COORD = 1) ∧
      (t.gf (t1B n) F.t1s_SEG_STS_PLCA_OK = 1) ∧
      ((t.seg n).tx = (s.seg n).tx) ∧
      ((t.seg n).burst = 1 + s.gf (t1B n) F.t1s_PLCA_TMR_MAX_BC) ∧
      ((t.seg n).waitTo = s.ps + 2000000) ∧
      Frame [0x140 + n] s ({ t with segs := s.segs })) ∧
  (∀ (s : State) (n : Nat),
    s.sound = true → n < 8 → s.segRuns n = true → s.gf (t1B n) F.t1s_SEG_CTL_PLCA_EN = 1 → 1 ≤ s.gf (t1B n)
      F.t1s_SEG_CTL_LOCAL_ID → s.gf (t1B n) F.t1s_SEG_CTL_LOCAL_ID ≤ 254 →
    Runs (.plcaBeaconReceived n) s fun t =>
      (t.gf (t1B n) F.t1s_SEG_STS_COORD = 0) ∧
      (t.gf (t1B n) F.t1s_SEG_STS_PLCA_OK = 1) ∧
      Frame [0x140 + n] s ({ t with segs := s.segs })) ∧
  (∀ (s : State) (n : Nat),
    s.sound = true → n < 8 → s.segRuns n = true → s.plca n = true → s.gf (t1B n) F.t1s_SEG_CTL_LOCAL_ID ≠ 0 →
    Runs (.plcaBeaconLost n) s fun t =>
      (t.gf (t1B n) F.t1s_SEG_STS_PLCA_OK = 0) ∧
      (t.gf (t1B n) F.t1s_BEACON_LOST_COUNT = min 0xFFFFFFFF (s.gf (t1B n) F.t1s_BEACON_LOST_COUNT + 1)) ∧
      (bitOf (t.gf (t1B n) hdrRaw) 1 = true) ∧
      Frame [0x140 + n] s ({ t with segs := s.segs })) ∧
  (∀ (s : State) (n : Nat) (b : Bytes) (rest : List Bytes),
    s.sound = true → n < 8 → s.alive .t1s n = true → (s.seg n).tx = b :: rest → (s.seg n).busyTo ≠ 0 → (s.seg
      n).collisions < 15 →
    Runs (.t1sCollision n false) s fun t =>
      (t.gf (t1B n) F.t1s_COLLISIONS_COUNT = min 0xFFFFFFFF (s.gf (t1B n) F.t1s_COLLISIONS_COUNT + 1)) ∧
      ((t.seg n).tx = b :: rest) ∧
      ((t.seg n).collisions = (s.seg n).collisions + 1) ∧
      (t.freeCount = s.freeCount + 1) ∧
      Frame [0x140 + n] s ({ t with segs := s.segs, freeCount := s.freeCount })) ∧
  (∀ (s : State) (n : Nat) (b : Bytes) (rest : List Bytes),
    s.sound = true → n < 8 → s.alive .t1s n = true → (s.seg n).tx = b :: rest → (s.seg n).busyTo ≠ 0 → 15 ≤ (s.seg
      n).collisions →
    Runs (.t1sCollision n false) s fun t =>
      ((t.seg n).tx = rest) ∧
      (t.gf (t1B n) F.t1s_TX_ABORT_COUNT = min 0xFFFFFFFF (s.gf (t1B n) F.t1s_TX_ABORT_COUNT + 1)) ∧
      Frame [0x140 + n] s ({ t with segs := s.segs }))

/-- What a host write to W7 of a message object does. In canonical states, for object k. A write with TX_REQ and ABORT 0:
NEW_DATA and LOST written 1 clear, SEC is stored, every other bit and every other byte is ignored. TX_REQ written 1 on
a transmit object with TX_REQ 0 (usable and well configured) sets it and sets TX_RESULT to 0. One whose data exceed its
area, or with IDE 1 and XLF 1, completes at once with BAD_CFG. ABORT of a pending object that is not on the wire
completes it with ABORTED. ABORT of the object on the wire is noted and the frame goes on. -/
def Obligations.MessageObjectWrites : Prop :=
  (∀ (s : State) (k : Nat) (w : Word),
    s.sound = true → k < 8192 → w.getLsbD 29 = false → w.getLsbD 28 = false →
    Runs (.objectW7Write k w) s fun t =>
      (bitOf (t.objRd k 7) 31 = (bitOf (s.objRd k 7) 31 && !w.getLsbD 31)) ∧
      (bitOf (t.objRd k 7) 30 = (bitOf (s.objRd k 7) 30 && !w.getLsbD 30)) ∧
      (bitsOf (t.objRd k 7) 29 28 = bitsOf (s.objRd k 7) 29 28) ∧
      (bitOf (t.objRd k 7) 27 = w.getLsbD 27) ∧
      (bitsOf (t.objRd k 7) 26 0 = bitsOf (s.objRd k 7) 26 0) ∧
      (∀ a, (a < objW k 7 ∨ objW k 7 + 4 ≤ a) → t.b2 a = s.b2 a) ∧
      Frame [] s ({ t with bar2 := s.bar2 })) ∧
  (∀ (s : State) (k n a : Nat) (w : Word),
    s.sound = true → k < 8192 → w.getLsbD 29 = true → w.getLsbD 28 = false → s.objTx k = true → s.objReq k = false →
      s.objOwner k = some n → s.objArea k = some a → w4Length (s.objRd k 4) ≤ a → (bitOf (s.objRd k 0) 27 && w4Xlf
      (s.objRd k 4)) = false → (s.objOneShot k = false ∨ (s.canState n ≠ 4 ∧ s.canState n ≠ 5)) →
    Runs (.objectW7Write k w) s fun t =>
      (bitOf (t.objRd k 7) 29 = true) ∧
      (bitsOf (t.objRd k 7) 23 20 = 0) ∧
      (∀ a, (a < objW k 7 ∨ objW k 7 + 4 ≤ a) → t.b2 a = s.b2 a) ∧
      Frame [] s ({ t with bar2 := s.bar2 })) ∧
  (∀ (s : State) (k n a : Nat) (w : Word),
    s.sound = true → k < 8192 → w.getLsbD 29 = true → w.getLsbD 28 = false → s.objTx k = true → s.objReq k = false →
      s.objOwner k = some n → s.canOnWire n ≠ some k → s.objArea k = some a → (a < w4Length (s.objRd k 4) ∨ bitOf
      (s.objRd k 0) 27 = true ∧ w4Xlf (s.objRd k 4) = true) →
    Runs (.objectW7Write k w) s fun t =>
      (bitOf (t.objRd k 7) 29 = false) ∧
      (bitsOf (t.objRd k 7) 23 20 = 6) ∧
      (∀ a, (a < objW k 7 ∨ objW k 7 + 4 ≤ a) → t.b2 a = s.b2 a) ∧
      Frame [0x150 + n] s ({ t with bar2 := s.bar2 })) ∧
  (∀ (s : State) (k n : Nat) (w : Word),
    s.sound = true → k < 8192 → w.getLsbD 29 = false → w.getLsbD 28 = true → s.objReq k = true → s.objOwner k = some n →
      s.canOnWire n ≠ some k →
    Runs (.objectW7Write k w) s fun t =>
      (bitOf (t.objRd k 7) 29 = false) ∧
      (bitOf (t.objRd k 7) 28 = false) ∧
      (bitsOf (t.objRd k 7) 23 20 = 5) ∧
      (∀ a, (a < objW k 7 ∨ objW k 7 + 4 ≤ a) → t.b2 a = s.b2 a) ∧
      Frame [0x150 + n] s ({ t with bar2 := s.bar2 })) ∧
  (∀ (s : State) (k n : Nat) (w : Word),
    s.sound = true → k < 8192 → n < 24 → w.getLsbD 29 = false → w.getLsbD 28 = true → s.objReq k = true → s.objOwner k =
      some n → s.canOnWire n = some k →
    Runs (.objectW7Write k w) s fun t =>
      (bitOf (t.objRd k 7) 29 = true) ∧
      (bitOf (t.objRd k 7) 28 = true) ∧
      (∀ a, (a < objW k 7 ∨ objW k 7 + 4 ≤ a) → t.b2 a = s.b2 a) ∧
      Frame [] s ({ t with bar2 := s.bar2 }))

/-- What sending and receiving frames on a CAN channel does. The steps of TEC and REC (PRESUMED, log entry 32), RX_OK of
an unmatched frame (log entry 33), the start-of-frame stamp and suspension after a frame that an error ended (log
entries 34, 124) are the model's choice. In canonical states, for a channel Cn that takes part in traffic with both
error counters at most 127. CAN_RX_STORE of a frame that no object matches counts it in RX_OK and RX_NO_OBJ and stores
nothing. One that a usable object with room matches (without BRIDGE) is stored in it, with its stamp, NEW_DATA and,
over an unread frame, LOST; no other byte changes. One longer than the object's data area is counted in RX_TOO_LONG and
not stored. CAN_TX_COMPLETE of the object on the wire of an error-active channel: TX_REQ 0, TX_RESULT OK, the stamp of
its start of frame, TX_OK counted, TEC one lower, the frame sent. CAN_ARB_LOST of an object that is neither one-shot
nor aborted: counted, off the wire, still pending. A one-shot object completes with ARB_LOST (with ABORTED where an
abort waits) and the attention event. CAN_ERROR in a frame received by an error-active channel: LEC, ERR_DETECT, REC
one higher. In a frame that it sends: TEC eight higher, off the wire, still pending. One that takes TEC past 255 puts
the channel into BUS_OFF, counted, with its event (here with nothing pending). In an error-passive channel it also
starts suspend transmission, 8 bit times. -/
def Obligations.CanTraffic : Prop :=
  (∀ (s : State) (n ago : Nat) (f : CanFrame),
    s.sound = true → s.canReceives n = true → s.canFormatOn n (w4Format (canNorm f).w4) = true → s.gf (caB n)
      F.can_ERR_CNT_TEC ≤ 127 → s.gf (caB n) F.can_ERR_CNT_REC ≤ 127 → s.canMatch n (canNorm f) = (none, 0) →
    Runs (.canRxStore n f ago 0) s fun t =>
      (t.gf (caB n) F.can_RX_NO_OBJ_COUNT = min 0xFFFFFFFF (s.gf (caB n) F.can_RX_NO_OBJ_COUNT + 1)) ∧
      (t.gf (caB n) F.can_RX_OK_COUNT = (s.gf (caB n) F.can_RX_OK_COUNT + 1) % 2 ^ 32) ∧
      (t.gf (caB n) F.can_STS_LEC = 0) ∧
      Frame [0x168, 0x150 + n] s t) ∧
  (∀ (s : State) (n ago k a : Nat) (f : CanFrame),
    s.sound = true → s.canReceives n = true → s.canFormatOn n (w4Format (canNorm f).w4) = true → s.gf (caB n)
      F.can_ERR_CNT_TEC ≤ 127 → s.gf (caB n) F.can_ERR_CNT_REC ≤ 127 → k < 8192 → s.canMatch n (canNorm f) = (some k, 0)
      → s.objArea k = some a → (canNorm f).data.length ≤ a → s.objBridge k = false →
    Runs (.canRxStore n f ago 0) s fun t =>
      (t.b2Bytes (s.objData k) (canNorm f).data.length = (canNorm f).data) ∧
      (t.objRd k 1 = (canNorm f).id) ∧
      (t.objRd k 4 = (canNorm f).w4) ∧
      (t.objRd k 5 = (canNorm f).af) ∧
      (t.objRd k 6 = s.stampAgo ago % 2 ^ 32) ∧
      (bitOf (t.objRd k 7) 31 = true) ∧
      (bitOf (t.objRd k 7) 30 = (bitOf (s.objRd k 7) 30 || bitOf (s.objRd k 7) 31)) ∧
      (bitOf (t.objRd k 7) 27 = (canNorm f).sec) ∧
      (∀ x, (x < objW k 1 ∨ objW k 8 ≤ x) → (x < s.objData k ∨ s.objData k + (canNorm f).data.length ≤ x) → t.b2 x = s.b2
        x) ∧
      (t.gf (caB n) F.can_RX_LOST_COUNT = min 0xFFFFFFFF (s.gf (caB n) F.can_RX_LOST_COUNT + b2n (bitOf (s.objRd k 7)
        31))) ∧
      Frame [0x168, 0x150 + n] s ({ t with bar2 := s.bar2 })) ∧
  (∀ (s : State) (n ago k a : Nat) (f : CanFrame),
    s.sound = true → s.canReceives n = true → s.canFormatOn n (w4Format (canNorm f).w4) = true → s.gf (caB n)
      F.can_ERR_CNT_TEC ≤ 127 → s.gf (caB n) F.can_ERR_CNT_REC ≤ 127 → s.canMatch n (canNorm f) = (some k, 0) → s.objArea
      k = some a → a < (canNorm f).data.length →
    Runs (.canRxStore n f ago 0) s fun t =>
      (t.gf (caB n) F.can_RX_TOO_LONG_COUNT = min 0xFFFFFFFF (s.gf (caB n) F.can_RX_TOO_LONG_COUNT + 1)) ∧
      Frame [0x168, 0x150 + n] s t) ∧
  (∀ (s : State) (n k tdcv ago : Nat),
    s.sound = true → n < 24 → s.alive .can n = true → s.canOnWire n = some k → s.canFault n = none → (s.canState n = 2 ∨
      s.canState n = 3) → s.canState n ≠ 3 → s.canTrcv n ≠ 1 → s.gf (caB n) F.can_ERR_CNT_TEC ≤ 127 → s.gf (caB n)
      F.can_ERR_CNT_REC ≤ 127 →
    Runs (.canTxComplete n tdcv 0 ago) s fun t =>
      (bitOf (t.objRd k 7) 29 = false) ∧
      (bitsOf (t.objRd k 7) 23 20 = 1) ∧
      (t.objRd k 6 = s.stampAgo ago % 2 ^ 32) ∧
      (t.gf (caB n) F.can_CUR_TX_VALID = 0) ∧
      (t.gf (caB n) F.can_STS_LEC = 0) ∧
      (t.gf (caB n) F.can_TX_OK_COUNT = (s.gf (caB n) F.can_TX_OK_COUNT + 1) % 2 ^ 32) ∧
      (t.gf (caB n) F.can_ERR_CNT_TEC = s.gf (caB n) F.can_ERR_CNT_TEC - 1) ∧
      (.canTx n k (s.objFrame k) ∈ t.out) ∧
      (∀ x, (x < objW k 6 ∨ objW k 8 ≤ x) → t.b2 x = s.b2 x) ∧
      Frame [0x150 + n] s ({ t with bar2 := s.bar2, can := s.can })) ∧
  (∀ (s : State) (n k : Nat),
    s.sound = true → n < 24 → s.alive .can n = true → s.canOnWire n = some k → s.objOneShot k = false → bitOf (s.objRd k
      7) 28 = false →
    Runs (.canArbLost n) s fun t =>
      (t.gf (caB n) F.can_ARB_LOST_COUNT = min 0xFFFFFFFF (s.gf (caB n) F.can_ARB_LOST_COUNT + 1)) ∧
      (t.gf (caB n) F.can_CUR_TX_VALID = 0) ∧
      Frame [0x150 + n] s t) ∧
  (∀ (s : State) (n k : Nat),
    s.sound = true → n < 24 → s.alive .can n = true → s.canOnWire n = some k → s.objOneShot k = true →
    Runs (.canArbLost n) s fun t =>
      (t.gf (caB n) F.can_ARB_LOST_COUNT = min 0xFFFFFFFF (s.gf (caB n) F.can_ARB_LOST_COUNT + 1)) ∧
      (t.gf (caB n) F.can_CUR_TX_VALID = 0) ∧
      (bitOf (t.objRd k 7) 29 = false) ∧
      (bitsOf (t.objRd k 7) 23 20 = (if bitOf (s.objRd k 7) 28 then 5 else 3)) ∧
      (t.evPend (225 + 2 * n) = true) ∧
      Frame [0x150 + n] s ({ t with bar2 := s.bar2 })) ∧
  (∀ (s : State) (n lec : Nat) (v : Option Nat),
    s.sound = true → s.canReceives n = true → s.canTrcv n = 0 → lec < 8 → s.canState n = 2 → s.gf (caB n)
      F.can_ERR_CNT_TEC ≤ 127 → s.gf (caB n) F.can_ERR_CNT_REC < 127 →
    Runs (.canError n lec false 0 v) s fun t =>
      (t.gf (caB n) F.can_STS_LEC = lec) ∧
      (t.gf (caB n) F.can_ERR_DETECT_COUNT = min 0xFFFFFFFF (s.gf (caB n) F.can_ERR_DETECT_COUNT + 1)) ∧
      (t.gf (caB n) F.can_ERR_CNT_REC = s.gf (caB n) F.can_ERR_CNT_REC + 1) ∧
      (t.canState n = 2) ∧
      Frame [0x150 + n] s t) ∧
  (∀ (s : State) (n k lec : Nat) (v : Option Nat),
    s.sound = true → n < 24 → s.alive .can n = true → s.canOnWire n = some k → s.objOneShot k = false → bitOf (s.objRd k
      7) 28 = false → lec < 8 → s.canTrcv n ≠ 1 → s.canState n = 2 → s.gf (caB n) F.can_ERR_CNT_TEC ≤ 119 → s.gf (caB n)
      F.can_ERR_CNT_REC ≤ 127 →
    Runs (.canError n lec true 0 v) s fun t =>
      (t.gf (caB n) F.can_STS_LEC = lec) ∧
      (t.gf (caB n) F.can_ERR_CNT_TEC = s.gf (caB n) F.can_ERR_CNT_TEC + 8) ∧
      (t.gf (caB n) F.can_CUR_TX_VALID = 0) ∧
      (t.canState n = 2) ∧
      Frame [0x150 + n] s t) ∧
  (∀ (s : State) (n k lec : Nat) (v : Option Nat),
    s.sound = true → n < 24 → s.alive .can n = true → s.canOnWire n = some k → s.objOneShot k = false → bitOf (s.objRd k
      7) 28 = false → lec < 8 → s.canTrcv n ≠ 1 → s.canState n = 3 → 247 < s.gf (caB n) F.can_ERR_CNT_TEC → s.gf (caB n)
      F.can_CTL_AUTO_RECOVER = 0 → s.canPending n = [] →
    Runs (.canError n lec true 0 v) s fun t =>
      (t.canState n = 4) ∧
      (t.gf (caB n) F.can_BUS_OFF_COUNT = min 0xFFFFFFFF (s.gf (caB n) F.can_BUS_OFF_COUNT + 1)) ∧
      (t.evPend (224 + 2 * n) = true) ∧
      Frame [0x150 + n] s t) ∧
  (∀ (s : State) (n k lec : Nat) (v : Option Nat),
    s.sound = true → n < 24 → s.alive .can n = true → s.canOnWire n = some k → s.objOneShot k = false → bitOf (s.objRd k
      7) 28 = false → lec < 8 → s.canTrcv n ≠ 1 → s.canState n = 3 → 120 ≤ s.gf (caB n) F.can_ERR_CNT_TEC → s.gf (caB n)
      F.can_ERR_CNT_TEC ≤ 247 →
    Runs (.canError n lec true 0 v) s fun t =>
      (t.canState n = 3) ∧
      (t.gf (caB n) F.can_ERR_CNT_TEC = s.gf (caB n) F.can_ERR_CNT_TEC + 8) ∧
      ((t.canCh n).holdTo = s.ps + 8 * s.canBit n) ∧
      Frame [0x150 + n] s ({ t with can := s.can }))

/-- What the channel state and transceiver commands of a CAN channel do. REC one higher after the form error is the
model's choice (PRESUMED, log entry 32). In canonical states, for a channel Cn. CAN_PROTOCOL_EXCEPTION with PEX_EN:
counted, the attention event, INTEGRATING again. Without PEX_EN the frame is a form error. CAN_INTEGRATED: INTEGRATING
to ERROR_ACTIVE. CAN_RECOVER with RECOVER 1 in BUS_OFF: RECOVERING. CAN_RECOVERY_COMPLETE: ERROR_ACTIVE with both
counters 0. TRCV_STATE_REQUEST stores the request; the state in force stays. TRCV_STATE_REACHED: the requested state is
in force (here not out of Standby or Sleep). Out of Standby or Sleep the channel integrates again. For n below 16:
TXD_TMO sets its bit, is counted and raises the attention event. So does BUS_DOM. So does THERMAL.
TRANSCEIVER_FAULT_CLEAR clears its bit. -/
def Obligations.CanChannelStates : Prop :=
  (∀ (s : State) (n : Nat),
    s.sound = true → s.canReceives n = true → s.gf (caB n) F.can_CTL_PEX_EN = 1 → s.canRateOk n = true →
    Runs (.canProtocolException n) s fun t =>
      (t.canState n = 1) ∧
      (t.gf (caB n) F.can_ERR_DETECT_COUNT = min 0xFFFFFFFF (s.gf (caB n) F.can_ERR_DETECT_COUNT + 1)) ∧
      (t.evPend (225 + 2 * n) = true) ∧
      Frame [0x150 + n] s t) ∧
  (∀ (s : State) (n : Nat),
    s.sound = true → s.canReceives n = true → s.gf (caB n) F.can_CTL_PEX_EN = 0 → s.canTrcv n = 0 → s.canState n = 2 →
      s.gf (caB n) F.can_ERR_CNT_TEC ≤ 127 → s.gf (caB n) F.can_ERR_CNT_REC < 127 →
    Runs (.canProtocolException n) s fun t =>
      (t.canState n = 2) ∧
      (t.gf (caB n) F.can_STS_LEC = 2) ∧
      (t.gf (caB n) F.can_ERR_CNT_REC = s.gf (caB n) F.can_ERR_CNT_REC + 1) ∧
      Frame [0x150 + n] s t) ∧
  (∀ (s : State) (n : Nat),
    s.sound = true → n < 24 → s.run .can n = true → s.canState n = 1 → s.gf (caB n) F.can_ERR_CNT_TEC ≤ 127 → s.gf (caB
      n) F.can_ERR_CNT_REC ≤ 127 →
    Runs (.canIntegrated n) s fun t =>
      (t.canState n = 2) ∧
      (t.evPend (224 + 2 * n) = true) ∧
      Frame [0x150 + n] s t) ∧
  (∀ (s : State) (n : Nat) (w : Word),
    s.sound = true → n < 24 → s.alive .can n = true → s.canState n = 4 → w.getLsbD 7 = true →
    Runs (.canRecover n w) s fun t =>
      (t.canState n = 5) ∧
      (t.evPend (224 + 2 * n) = true) ∧
      Frame [0x150 + n] s t) ∧
  (∀ (s : State) (n : Nat),
    s.sound = true → n < 24 → s.run .can n = true → s.canState n = 5 →
    Runs (.canRecoveryComplete n) s fun t =>
      (t.canState n = 2) ∧
      (t.gf (caB n) F.can_ERR_CNT_TEC = 0) ∧
      (t.gf (caB n) F.can_ERR_CNT_REC = 0) ∧
      Frame [0x150 + n] s t) ∧
  (∀ (s : State) (n : Nat) (w : Word),
    s.sound = true → n < 24 → s.alive .can n = true →
    Runs (.trcvStateRequest n w) s fun t =>
      (t.gf (caB n) F.can_TRCV_CTL_STATE = w.toNat % 4) ∧
      ((t.canCh n).trcv = (if w.toNat % 4 = s.canTrcv n then none else some (w.toNat % 4))) ∧
      (t.canTrcv n = s.canTrcv n) ∧
      Frame [0x150 + n] s ({ t with can := s.can })) ∧
  (∀ (s : State) (n v : Nat),
    s.sound = true → n < 24 → s.alive .can n = true → (s.canCh n).trcv = some v → v < 4 → (s.canTrcv n ≠ 0 ∨ s.canOnWire
      n = none) → (s.canTrcv n < 2 ∨ 2 ≤ v) →
    Runs (.trcvStateReached n) s fun t =>
      (t.canTrcv n = v) ∧
      ((t.canCh n).trcv = none) ∧
      (t.canState n = s.canState n) ∧
      Frame [0x150 + n, 0x21] s ({ t with can := s.can })) ∧
  (∀ (s : State) (n v : Nat),
    s.sound = true → n < 24 → s.run .can n = true → (s.canCh n).trcv = some v → v < 2 → 2 ≤ s.canTrcv n → 1 ≤ s.canState
      n → s.canState n ≤ 3 → s.canRateOk n = true →
    Runs (.trcvStateReached n) s fun t =>
      (t.canTrcv n = v) ∧
      (t.canState n = 1) ∧
      Frame [0x150 + n] s ({ t with can := s.can })) ∧
  (∀ (s : State) (n : Nat),
    s.sound = true → n < 16 → s.alive .can n = true → s.gf (caB n) F.can_TRCV_STS_TXD_TMO = 0 →
    Runs (.txdTmo n) s fun t =>
      (t.gf (caB n) F.can_TRCV_STS_TXD_TMO = 1) ∧
      (t.gf (caB n) F.can_TRCV_FAULT_COUNT = min 0xFFFFFFFF (s.gf (caB n) F.can_TRCV_FAULT_COUNT + 1)) ∧
      (t.evPend (225 + 2 * n) = true) ∧
      Frame [0x150 + n] s t) ∧
  (∀ (s : State) (n : Nat),
    s.sound = true → n < 16 → s.alive .can n = true → s.gf (caB n) F.can_TRCV_STS_BUS_DOM = 0 →
    Runs (.busDom n) s fun t =>
      (t.gf (caB n) F.can_TRCV_STS_BUS_DOM = 1) ∧
      (t.gf (caB n) F.can_TRCV_FAULT_COUNT = min 0xFFFFFFFF (s.gf (caB n) F.can_TRCV_FAULT_COUNT + 1)) ∧
      (t.evPend (225 + 2 * n) = true) ∧
      Frame [0x150 + n] s t) ∧
  (∀ (s : State) (n : Nat),
    s.sound = true → n < 16 → s.alive .can n = true → s.gf (caB n) F.can_TRCV_STS_THERMAL = 0 →
    Runs (.thermal n) s fun t =>
      (t.gf (caB n) F.can_TRCV_STS_THERMAL = 1) ∧
      (t.gf (caB n) F.can_TRCV_FAULT_COUNT = min 0xFFFFFFFF (s.gf (caB n) F.can_TRCV_FAULT_COUNT + 1)) ∧
      (t.evPend (225 + 2 * n) = true) ∧
      Frame [0x150 + n] s t) ∧
  (∀ (s : State) (n b : Nat),
    Memory.wf s = true → n < 16 → s.alive .can n = true → b < 3 →
    Runs (.transceiverFaultClear n b) s fun t =>
      (t.gf (caB n) F.can_TRCV_STS = putBits (s.gf (caB n) F.can_TRCV_STS) b b 0) ∧
      Frame [0x150 + n] s t)

/-- What frames on a LIN channel do. That a header with wrong parity leaves no frame in progress, and how a header and
its response follow each other, are the model's choice (DEDUCED, log entry 36). In canonical states, for a channel Ln.
LIN_SLOT_START of a commander (one unconditional entry, subscribed): the header goes out, and the response is awaited
behind it. While a frame still runs the header waits, counted in SLOT_OVERRUN. LIN_HEADER_RX of a subscribed identifier
with right parity by a responder: the response is awaited. One with wrong parity is counted and ignored.
LIN_RESPONSE_RX of a subscribed response with the right checksum is stored with its stamp and NEW_DATA, and LOST over
an unread one. One with a wrong checksum is counted and not stored. LIN_RESPONSE_TIMEOUT counts NO_RESPONSE, or
INCOMPLETE after some bytes. LIN_DATA_STAGE of a publish entry is held back. LIN_DATA_COMMIT takes both words at once
and sets UPDATED. SCHED_SWITCH with RUN 1 waits for the end of the slot. With RUN 0 table NEXT becomes active at once,
from entry 0, with its event. WAKE_TX with WAKE_TX 1 in RUN, with VSUP not below 4.0 V, sends the wake-up signal. -/
def Obligations.LinTraffic : Prop :=
  (∀ (s : State) (n id : Nat),
    s.sound = true → s.linRuns n = true → s.power.linLow = false → s.gf (liB n) F.lin_LIN_CFG_ROLE = 0 → s.gf (liB n)
      F.lin_SCHED_CTL_RUN = 1 → (s.linCh n).frame = none → (s.linCh n).tx = none → (s.linCh n).coll = none → (s.linCh
      n).switch = none → (s.linCh n).pos = 0 → s.linLen n = 1 → id < 64 → s.gf (liB n) (F.lin_SCHED_ID.at (0x80 * s.gf
      (liB n) F.lin_SCHED_CTL_ACTIVE)) = id → s.gf (liB n) (F.lin_SCHED_TYPE.at (0x80 * s.gf (liB n)
      F.lin_SCHED_CTL_ACTIVE)) = 0 → s.ftIs n id 2 = true →
    Runs (.linSlotStart n 0) s fun t =>
      (.linTx n [BitVec.ofNat 8 (pidOf id)] ∈ t.out) ∧
      (t.gf (liB n) F.lin_LIN_STS_LAST_ID = id) ∧
      (t.gf (liB n) F.lin_LIN_STS_STATE = 2) ∧
      ((t.linCh n).frame = some ⟨id, s.now, none⟩) ∧
      Frame [0x170 + n] s ({ t with lin := s.lin })) ∧
  (∀ (s : State) (n : Nat),
    s.sound = true → s.linRuns n = true → s.gf (liB n) F.lin_LIN_CFG_ROLE = 0 → s.gf (liB n) F.lin_SCHED_CTL_RUN = 1 →
      (s.linCh n).frame.isSome = true → (s.linCh n).due = none →
    Runs (.linSlotStart n 0) s fun t =>
      ((t.linCh n).due = some 0) ∧
      (t.gf (liB n) F.lin_SLOT_OVERRUN_COUNT = min 0xFFFFFFFF (s.gf (liB n) F.lin_SLOT_OVERRUN_COUNT + 1)) ∧
      Frame [0x170 + n] s ({ t with lin := s.lin })) ∧
  (∀ (s : State) (n id ago rate : Nat),
    s.sound = true → s.linRuns n = true → s.gf (liB n) F.lin_LIN_CFG_ROLE = 1 → s.gf (liB n) F.lin_LIN_CFG_AUTOBAUD = 0 →
      id < 64 → s.ftIs n id 2 = true →
    Runs (.linHeaderRx n rate (pidOf id) ago false) s fun t =>
      (t.gf (liB n) F.lin_LIN_STS_LAST_ID = id) ∧
      (t.gf (liB n) F.lin_LIN_STS_STATE = 3) ∧
      ((t.linCh n).frame = some ⟨id, (s.now + 2 ^ 64 - ago) % 2 ^ 64, none⟩) ∧
      Frame [0x170 + n] s ({ t with lin := s.lin })) ∧
  (∀ (s : State) (n ago rate pid : Nat),
    s.sound = true → s.linRuns n = true → s.gf (liB n) F.lin_LIN_CFG_ROLE = 1 → s.gf (liB n) F.lin_LIN_CFG_AUTOBAUD = 0 →
      pid < 256 → pid ≠ pidOf (pid % 64) →
    Runs (.linHeaderRx n rate pid ago false) s fun t =>
      (t.gf (liB n) F.lin_PARITY_ERR_COUNT = min 0xFFFFFFFF (s.gf (liB n) F.lin_PARITY_ERR_COUNT + 1)) ∧
      ((t.linCh n).frame = none) ∧
      Frame [0x170 + n] s ({ t with lin := s.lin })) ∧
  (∀ (s : State) (n id time : Nat) (d : Bytes),
    s.sound = true → n < 8 → s.alive .lin n = true → s.lineOn 2 = true → (s.linCh n).frame = some ⟨id, time, none⟩ → id <
      64 → (s.linCh n).due = none → s.ft n id F.lin_FT_CTL_LEN = d.length → d.length ≤ 8 → s.ft n id F.lin_FT_CTL_BRIDGE
      = 0 → (s.gf (pageBase .pwrWake 0) (F.pwrWake_LINW_CTL_GTS_EN.at (4 * n)) = 0 ∨ id ≠ 0x3C) →
    Runs (.linResponseRx n (d ++ [s.linChecksum n id d]) false) s fun t =>
      (t.gf (liB n) F.lin_RX_OK_COUNT = (s.gf (liB n) F.lin_RX_OK_COUNT + 1) % 2 ^ 32) ∧
      (t.ft n id F.lin_FT_STAMP_STAMP = time % 2 ^ 32) ∧
      (t.ft n id F.lin_FT_DATA_LO_DATA = leAt d 0 4) ∧
      (t.ft n id F.lin_FT_DATA_HI_DATA = leAt d 4 4) ∧
      (t.ft n id F.lin_FT_CTL_NEW_DATA = 1) ∧
      (t.ft n id F.lin_FT_CTL_LOST = max (s.ft n id F.lin_FT_CTL_LOST) (s.ft n id F.lin_FT_CTL_NEW_DATA)) ∧
      ((t.linCh n).frame = none) ∧
      ((s.run .lin n = true → t.gf (liB n) F.lin_LIN_STS_STATE = 1)) ∧
      Frame [0x170 + n] s ({ t with lin := s.lin })) ∧
  (∀ (s : State) (n id time : Nat) (d : Bytes) (c : Byte),
    s.sound = true → n < 8 → s.alive .lin n = true → s.lineOn 2 = true → (s.linCh n).frame = some ⟨id, time, none⟩ →
      (s.linCh n).due = none → s.ft n id F.lin_FT_CTL_LEN = d.length → c ≠ s.linChecksum n id d →
    Runs (.linResponseRx n (d ++ [c]) false) s fun t =>
      (t.gf (liB n) F.lin_CHECKSUM_ERR_COUNT = min 0xFFFFFFFF (s.gf (liB n) F.lin_CHECKSUM_ERR_COUNT + 1)) ∧
      (t.ft n id F.lin_FT_CTL_NEW_DATA = s.ft n id F.lin_FT_CTL_NEW_DATA) ∧
      ((t.linCh n).frame = none) ∧
      Frame [0x170 + n] s ({ t with lin := s.lin })) ∧
  (∀ (s : State) (n got : Nat),
    s.sound = true → n < 8 → s.alive .lin n = true → (s.linCh n).frame.isSome = true → (s.linCh n).due = none →
    Runs (.linResponseTimeout n got) s fun t =>
      ((t.linCh n).frame = none) ∧
      ((got = 0 → t.gf (liB n) F.lin_NO_RESPONSE_COUNT = min 0xFFFFFFFF (s.gf (liB n) F.lin_NO_RESPONSE_COUNT + 1))) ∧
      ((got ≠ 0 → t.gf (liB n) F.lin_INCOMPLETE_COUNT = min 0xFFFFFFFF (s.gf (liB n) F.lin_INCOMPLETE_COUNT + 1))) ∧
      Frame [0x170 + n] s ({ t with lin := s.lin })) ∧
  (∀ (s : State) (n id : Nat) (w : Word),
    s.sound = true → n < 8 → s.alive .lin n = true → id < 64 → s.ft n id F.lin_FT_CTL_DIR = 1 →
    Runs (.linDataStage n id w) s fun t =>
      (t.ft n id F.lin_FT_DATA_LO_DATA = s.ft n id F.lin_FT_DATA_LO_DATA) ∧
      (look (fun _ => 2 ^ 32) (t.linCh n).staged id = w.toNat) ∧
      Frame [0x170 + n] s ({ t with lin := s.lin })) ∧
  (∀ (s : State) (n id v : Nat) (w : Word),
    s.sound = true → n < 8 → s.alive .lin n = true → id < 64 → s.ft n id F.lin_FT_CTL_DIR = 1 → look (fun _ => 2 ^ 32)
      (s.linCh n).staged id = v → v < 2 ^ 32 →
    Runs (.linDataCommit n id w) s fun t =>
      (t.ft n id F.lin_FT_DATA_LO_DATA = v) ∧
      (t.ft n id F.lin_FT_DATA_HI_DATA = w.toNat) ∧
      (t.ft n id F.lin_FT_CTL_UPDATED = 1) ∧
      Frame [0x170 + n] s ({ t with lin := s.lin })) ∧
  (∀ (s : State) (n : Nat) (w : Word),
    s.sound = true → n < 8 → s.alive .lin n = true → w.getLsbD 8 = true → w.getLsbD 0 = true →
    Runs (.schedSwitch n w) s fun t =>
      ((t.linCh n).switch = some (bitsOf w.toNat 17 16)) ∧
      (t.gf (liB n) F.lin_SCHED_CTL_ACTIVE = s.gf (liB n) F.lin_SCHED_CTL_ACTIVE) ∧
      Frame [0x170 + n] s ({ t with lin := s.lin })) ∧
  (∀ (s : State) (n : Nat) (w : Word),
    s.sound = true → n < 8 → s.alive .lin n = true → w.getLsbD 8 = true → w.getLsbD 0 = false →
    Runs (.schedSwitch n w) s fun t =>
      (t.gf (liB n) F.lin_SCHED_CTL_ACTIVE = bitsOf w.toNat 17 16) ∧
      ((t.linCh n).pos = 0) ∧
      ((t.linCh n).switch = none) ∧
      (t.evPend (209 + 2 * n) = true) ∧
      Frame [0x170 + n] s ({ t with lin := s.lin })) ∧
  (∀ (s : State) (n : Nat) (w : Word),
    s.sound = true → n < 8 → s.run .lin n = true → s.lineOn 2 = true → s.power.linLow = false → w.getLsbD 1 = true →
    Runs (.wakeTx n w) s fun t =>
      (.linWake n ∈ t.out) ∧
      (t.gf (liB n) F.lin_LIN_TRCV_STATE = w.toNat % 2) ∧
      Frame [0x170 + n] s ({ t with lin := s.lin }))

/-- What routing, flips and copies of the bus bridge do. In canonical states, the bridge in RUN. ROUTE_LOOKUP of the
oldest stored frame where no valid entry is found: counted in NO_ROUTE, not routed. With one other CAN channel as
target: counted in BRIDGED, its copy in the output format waits in the channel's queue. A copy that finds the queue
full of copies that cannot be placed is dropped and counted in CH_DROP. With a LIN target whose entry publishes: both
data words take the frame's bytes 0 to 7, padded, and UPDATED is set. BRIDGE_COPY_PLACE writes the first copy that can
be placed into its pool object, W0.IDE included (both the model's choice, log entry 38), and requests it; no other byte
changes. RT_FLIP_NOW with nothing draining: the banks change places, DRAINING starts, EV288. RT_FLIP_AT for an instant
not past is pending. RT_FLIP_CANCEL withdraws the request. RT_FLIP_DUE at FLIP_AT carries it out and keeps the instant
for the stamps that R251 compares. RT_DRAIN_END with no request waiting ends DRAINING. -/
def Obligations.BridgeRouting : Prop :=
  (∀ (s : State) (x : BridgeIn) (rest : List BridgeIn),
    s.sound = true → s.brg.waiting = x :: rest → s.run .brgGlobal 0 = true → (s.routeOff x.msg (s.rtBank (x.time % 2 ^
      32))).bind s.routeAt = none →
    Runs (.routeLookup) s fun t =>
      (t.gf bgB F.brgGlobal_NO_ROUTE_COUNT = min 0xFFFFFFFF (s.gf bgB F.brgGlobal_NO_ROUTE_COUNT + 1)) ∧
      (t.brg.waiting = rest) ∧
      Frame [0x180] s ({ t with brg := s.brg })) ∧
  (∀ (s : State) (n m time : Nat) (f c : CanFrame) (r : Route) (rest : List BridgeIn),
    s.sound = true → s.brg.waiting = ⟨.can n f, time⟩ :: rest → s.run .brgGlobal 0 = true → (s.routeOff (.can n f)
      (s.rtBank (time % 2 ^ 32))).bind s.routeAt = some r → r.kettle = none → r.tunnel = none → r.lin = 0 → onesOf 24
      r.can = [m] → m ≠ n → copyCan f (if r.xlate then r.ide else f.ide) (if r.xlate then r.id else f.id) r.fmt r.pad
      r.sdt r.vcid = some c → m < s.grade.canChannels → s.canFormatOn m (w4Format c.w4) = true → (s.copies m).length < 32
      →
    Runs (.routeLookup) s fun t =>
      (t.copies m = s.copies m ++ [c]) ∧
      (t.gf bgB F.brgGlobal_BRIDGED_COUNT = (s.gf bgB F.brgGlobal_BRIDGED_COUNT + 1) % 2 ^ 32) ∧
      (t.brg.waiting = rest) ∧
      Frame [0x180] s ({ t with brg := s.brg })) ∧
  (∀ (s : State) (n m time : Nat) (f c : CanFrame) (r : Route) (rest : List BridgeIn),
    s.sound = true → s.brg.waiting = ⟨.can n f, time⟩ :: rest → s.run .brgGlobal 0 = true → (s.routeOff (.can n f)
      (s.rtBank (time % 2 ^ 32))).bind s.routeAt = some r → r.kettle = none → r.tunnel = none → r.lin = 0 → onesOf 24
      r.can = [m] → m ≠ n → copyCan f (if r.xlate then r.ide else f.ide) (if r.xlate then r.id else f.id) r.fmt r.pad
      r.sdt r.vcid = some c → 32 ≤ (s.copies m).length → s.placeable m [] (s.copies m ++ [c]) = none →
    Runs (.routeLookup) s fun t =>
      (t.copies m = s.copies m) ∧
      (t.gf bgB (F.brgGlobal_CH_DROP_COUNT.at (4 * m)) = min 0xFFFFFFFF (s.gf bgB (F.brgGlobal_CH_DROP_COUNT.at (4 * m))
        + 1)) ∧
      Frame [0x180] s ({ t with brg := s.brg })) ∧
  (∀ (s : State) (n m time : Nat) (f : CanFrame) (r : Route) (rest : List BridgeIn),
    s.sound = true → s.brg.waiting = ⟨.can n f, time⟩ :: rest → s.run .brgGlobal 0 = true → (s.routeOff (.can n f)
      (s.rtBank (time % 2 ^ 32))).bind s.routeAt = some r → r.kettle = none → r.tunnel = none → r.can = 0 → onesOf 8
      r.lin = [m] → s.alive .lin m = true → r.linId < 64 → s.ftIs m r.linId 1 = true →
    Runs (.routeLookup) s fun t =>
      (t.ft m r.linId F.lin_FT_DATA_LO_DATA = leAt (f.data ++ List.replicate (8 - f.data.length) r.pad) 0 4) ∧
      (t.ft m r.linId F.lin_FT_DATA_HI_DATA = leAt (f.data ++ List.replicate (8 - f.data.length) r.pad) 4 4) ∧
      (t.ft m r.linId F.lin_FT_CTL_UPDATED = 1) ∧
      Frame [0x180, 0x170 + m] s ({ t with brg := s.brg, lin := s.lin })) ∧
  (∀ (s : State) (m k a : Nat) (c : CanFrame),
    s.sound = true → m < 24 → s.run .brgGlobal 0 = true → s.placeable m [] (s.copies m) = some (c, k) → s.objArea k =
      some a → c.data.length = w4Length c.w4 → (c.ide && w4Xlf c.w4) = false → c.id < 2 ^ 29 → c.w4 < 2 ^ 32 → c.af < 2 ^
      32 → s.objOneShot k = false →
    Runs (.bridgeCopyPlace m) s fun t =>
      (t.copies m = (s.copies m).erase c) ∧
      (t.b2Bytes (s.objData k) c.data.length = c.data) ∧
      (t.objRd k 1 = c.id) ∧
      (t.objRd k 4 = c.w4) ∧
      (t.objRd k 5 = c.af) ∧
      (bitOf (t.objRd k 0) 27 = c.ide) ∧
      (bitOf (t.objRd k 7) 29 = true) ∧
      (∀ x, (x < objW k 0 ∨ objW k 8 ≤ x) → (x < s.objData k ∨ s.objData k + c.data.length ≤ x) → t.b2 x = s.b2 x) ∧
      Frame [] s ({ t with brg := s.brg, bar2 := s.bar2 })) ∧
  (∀ (s : State),
    Memory.wf s = true → s.alive .brgGlobal 0 = true → s.gf bgB F.brgGlobal_RT_BANK_DRAINING = 0 →
    Runs (.rtFlipNow) s fun t =>
      (t.gf bgB F.brgGlobal_RT_BANK_FG = 1 - s.gf bgB F.brgGlobal_RT_BANK_FG) ∧
      (t.gf bgB F.brgGlobal_RT_BANK_DRAINING = 1) ∧
      (t.gf bgB F.brgGlobal_RT_BANK_FLIP_PEND = 0) ∧
      (t.evPend 288 = true) ∧
      Frame [0x180] s ({ t with brg := s.brg })) ∧
  (∀ (s : State),
    Memory.wf s = true → s.alive .brgGlobal 0 = true → s.now ≤ s.rtAt →
    Runs (.rtFlipAt) s fun t =>
      (t.gf bgB F.brgGlobal_RT_BANK_FLIP_PEND = 1) ∧
      (t.brg.flip = .at_) ∧
      Frame [0x180] s ({ t with brg := s.brg })) ∧
  (∀ (s : State),
    Memory.wf s = true → s.alive .brgGlobal 0 = true →
    Runs (.rtFlipCancel) s fun t =>
      (t.gf bgB F.brgGlobal_RT_BANK_FLIP_PEND = 0) ∧
      (t.brg.flip = .none) ∧
      Frame [0x180] s ({ t with brg := s.brg })) ∧
  (∀ (s : State),
    Memory.wf s = true → s.alive .brgGlobal 0 = true → s.gf bgB F.brgGlobal_RT_BANK_DRAINING = 0 → s.brg.flip = .at_ →
      s.rtAt ≤ s.now →
    Runs (.rtFlipDue) s fun t =>
      (t.gf bgB F.brgGlobal_RT_BANK_FG = 1 - s.gf bgB F.brgGlobal_RT_BANK_FG) ∧
      (t.gf bgB F.brgGlobal_RT_BANK_DRAINING = 1) ∧
      (t.gf bgB F.brgGlobal_RT_BANK_FLIP_PEND = 0) ∧
      (t.evPend 288 = true) ∧
      (t.brg.bound = some (s.rtAt % 2 ^ 32)) ∧
      (t.gf bgB F.brgGlobal_RT_BANK_LATE = s.gf bgB F.brgGlobal_RT_BANK_LATE) ∧
      Frame [0x180] s ({ t with brg := s.brg })) ∧
  (∀ (s : State),
    Memory.wf s = true → s.alive .brgGlobal 0 = true → s.gf bgB F.brgGlobal_RT_BANK_DRAINING = 1 → s.brg.flip = .none →
    Runs (.rtDrainEnd) s fun t =>
      (t.gf bgB F.brgGlobal_RT_BANK_DRAINING = 0) ∧
      (t.brg.bound = none) ∧
      (t.gf bgB F.brgGlobal_RT_BANK_FG = s.gf bgB F.brgGlobal_RT_BANK_FG) ∧
      Frame [0x180] s ({ t with brg := s.brg }))

/-- What the tunnels and frames at F20 do. The bus and stamp in the KIND 1 header and what counts toward the 64 KiB of
unsent frames are the model's choice (DEDUCED, log entry 40). In canonical states. A routed Classical or FD frame opens
a frame of its transmit tunnel (no tag, ACF CAN, batching). TUNNEL_FRAME_SEND of an untagged tunnel: the oldest full
frame enters at F20 behind its bus-frame header in the layout of R259; SEQ and TX_FRAMES move on. TUNNEL_HOLD_EXPIRY
sends the open frame. TUNNEL_FRAG_TIMEOUT discards the context, counted in FRAG_ERR. F20_FRAME_RX of an AVTP frame that
is not NTSCF: dropped, counted in RX_NO_TUN. A frame as a tunnel sends it, with one Classical data frame in ACF CAN,
for a matching receive tunnel whose CHAN_MASK has its bus: counted in FRAMES, and the same CAN frame waits for its
channel. Any other frame for one segment that leaves tags in place joins that segment's queue. One for no segment is
counted in T1S_NO_SEG. -/
def Obligations.TunnelCommands : Prop :=
  (∀ (s : State) (n k time : Nat) (f : CanFrame) (r : Route) (rest : List BridgeIn),
    s.sound = true → s.brg.waiting = ⟨.can n f, time⟩ :: rest → s.run .brgGlobal 0 = true → (s.routeOff (.can n f)
      (s.rtBank (time % 2 ^ 32))).bind s.routeAt = some r → r.kettle = none → r.tunnel = some k → k < 64 → r.can = 0 →
      r.lin = 0 → s.run .brgTunnel 0 = true → s.gf btB (F.brgTunnel_TUN_TX_VALID.at (32 * k)) = 1 → s.gf btB
      (F.brgTunnel_TUN_TX_TAG_EN.at (32 * k)) = 0 → s.gf btB (F.brgTunnel_TUN_TX_BRIEF.at (32 * k)) = 0 → s.gf btB
      (F.brgTunnel_TUN_TX_4_HOLD_US.at (32 * k)) ≠ 0 → 1 < s.gf btB (F.brgTunnel_TUN_TX_8_MAX_MSGS.at (32 * k)) → w4Xlf
      f.w4 = false → s.f20Bytes + tunBytes false [acfCan false n time f] ≤ 65536 → (s.txTun k).opened = none →
    Runs (.routeLookup) s fun t =>
      ((t.txTun k).opened = some ⟨[acfCan false n time f], n, time⟩) ∧
      ((t.txTun k).ready = (s.txTun k).ready) ∧
      Frame [0x180] s ({ t with brg := s.brg })) ∧
  (∀ (s : State) (k : Nat) (o : TunOpen) (rest : List TunOpen),
    s.sound = true → k < 64 → s.run .brgTunnel 0 = true → (s.txTun k).ready = o :: rest → s.gf btB
      (F.brgTunnel_TUN_TX_TAG_EN.at (32 * k)) = 0 →
    Runs (.tunnelFrameSend k) s fun t =>
      ((t.fwd.waiting.map fun x => (x.src, x.hdr, x.bytes)) = (s.fwd.waiting.map fun x => (x.src, x.hdr, x.bytes)) ++
        [(20, busHdr 1 o.src 0 (o.time % 2 ^ 32), ntscfFrame (s.macOf (btB + 32 * k) F.brgTunnel_TUN_TX_DA_HI_DA_HI
        F.brgTunnel_TUN_TX_DA_LO_DA_LO) s.srcMac none (s.gf btB (F.brgTunnel_TUN_TX_8_SEQ.at (32 * k))) (beBytes 4 (s.gf
        btB (F.brgTunnel_TUN_TX_STREAM_ID_HI_STREAM_ID_HI.at (32 * k))) ++ beBytes 4 (s.gf btB
        (F.brgTunnel_TUN_TX_STREAM_ID_LO_STREAM_ID_LO.at (32 * k)))) o.msgs.flatten)]) ∧
      (t.gf btB (F.brgTunnel_TUN_TX_8_SEQ.at (32 * k)) = (s.gf btB (F.brgTunnel_TUN_TX_8_SEQ.at (32 * k)) + 1) % 256) ∧
      (t.gf btB (F.brgTunnel_TX_FRAMES_COUNT.at (8 * k)) = (s.gf btB (F.brgTunnel_TX_FRAMES_COUNT.at (8 * k)) + 1) % 2 ^
        32) ∧
      ((t.txTun k).ready = rest) ∧
      Frame [0x181] s ({ t with brg := s.brg, fwd := s.fwd })) ∧
  (∀ (s : State) (k : Nat) (o : TunOpen),
    s.sound = true → k < 64 → s.run .brgTunnel 0 = true → s.txTun k = ⟨[], some o⟩ → s.gf btB
      (F.brgTunnel_TUN_TX_TAG_EN.at (32 * k)) = 0 →
    Runs (.tunnelHoldExpiry k) s fun t =>
      ((t.fwd.waiting.map fun x => (x.src, x.hdr, x.bytes)) = (s.fwd.waiting.map fun x => (x.src, x.hdr, x.bytes)) ++
        [(20, busHdr 1 o.src 0 (o.time % 2 ^ 32), ntscfFrame (s.macOf (btB + 32 * k) F.brgTunnel_TUN_TX_DA_HI_DA_HI
        F.brgTunnel_TUN_TX_DA_LO_DA_LO) s.srcMac none (s.gf btB (F.brgTunnel_TUN_TX_8_SEQ.at (32 * k))) (beBytes 4 (s.gf
        btB (F.brgTunnel_TUN_TX_STREAM_ID_HI_STREAM_ID_HI.at (32 * k))) ++ beBytes 4 (s.gf btB
        (F.brgTunnel_TUN_TX_STREAM_ID_LO_STREAM_ID_LO.at (32 * k)))) o.msgs.flatten)]) ∧
      (t.gf btB (F.brgTunnel_TUN_TX_8_SEQ.at (32 * k)) = (s.gf btB (F.brgTunnel_TUN_TX_8_SEQ.at (32 * k)) + 1) % 256) ∧
      (t.gf btB (F.brgTunnel_TX_FRAMES_COUNT.at (8 * k)) = (s.gf btB (F.brgTunnel_TX_FRAMES_COUNT.at (8 * k)) + 1) % 2 ^
        32) ∧
      (t.txTun k = ⟨[], none⟩) ∧
      Frame [0x181] s ({ t with brg := s.brg, fwd := s.fwd })) ∧
  (∀ (s : State) (r : Nat) (c : TunCtx),
    s.sound = true → r < 32 → (r, c) ∈ s.brg.ctx → s.alive .brgTunnel 0 = true →
    Runs (.tunnelFragTimeout r) s fun t =>
      (∀ x ∈ t.brg.ctx, x.1 ≠ r) ∧
      (t.gf btB (F.brgTunnel_FRAG_ERR_COUNT.at (16 * r)) = min 0xFFFFFFFF (s.gf btB (F.brgTunnel_FRAG_ERR_COUNT.at (16 *
        r)) + 1)) ∧
      Frame [0x180, 0x181] s ({ t with brg := s.brg })) ∧
  (∀ (s u : State) (f : EgFrame),
    s.sound = true → s.takeOutput 20 0 = (u, some f) → u.run .brgGlobal 0 = true → beAt (withoutFcs f.bytes) 12 2 =
      0x22F0 → s.gf shB F.pipeShared_TPID_ALT_TPID ≠ 0x22F0 → byteAt (withoutFcs f.bytes) 14 ≠ 0x82 →
    Runs (.f20FrameRx 0) s fun t =>
      (t.gf btB F.brgTunnel_RX_NO_TUN_COUNT = min 0xFFFFFFFF (u.gf btB F.brgTunnel_RX_NO_TUN_COUNT + 1)) ∧
      Frame [0x260, 0x27C, 0x180, 0x181] s ({ t with egress := s.egress, brg := s.brg, segs := s.segs })) ∧
  (∀ (s u : State) (f : EgFrame) (r bus time id seq : Nat) (ide : Bool) (d da sa stream : Bytes),
    s.sound = true → s.takeOutput 20 0 = (u, some f) → u.run .brgGlobal 0 = true → u.run .brgTunnel 0 = true → da.length
      = 6 → sa.length = 6 → stream.length = 8 → d.length ≤ 8 → seq < 256 → id < (if ide then 2 ^ 29 else 2 ^ 11) →
      f.bytes = ntscfFrame da sa none seq stream (acfCan false bus time ⟨ide, id, d.length, 0, false, d⟩) → s.gf shB
      F.pipeShared_TPID_ALT_TPID ≠ 0x22F0 → u.rtunFor stream = some r → bus < s.grade.canChannels → bitOf (u.rtunF r
      F.brgTunnel_TUN_RX_CHAN_MASK) bus = true → (s.copies bus).length < 32 →
    Runs (.f20FrameRx 0) s fun t =>
      (t.copies bus = s.copies bus ++ [⟨ide, id, d.length, 0, false, d⟩]) ∧
      (t.gf btB (F.brgTunnel_FRAMES_COUNT.at (16 * r)) = (u.gf btB (F.brgTunnel_FRAMES_COUNT.at (16 * r)) + 1) % 2 ^ 32) ∧
      (t.rtunF r F.brgTunnel_TUN_RX_4_EXP_SEQ = (seq + 1) % 256) ∧
      Frame [0x260, 0x27C, 0x180, 0x181] s ({ t with egress := s.egress, brg := s.brg, segs := s.segs })) ∧
  (∀ (s u : State) (f : EgFrame) (n : Nat),
    s.sound = true → s.takeOutput 20 0 = (u, some f) → u.run .brgGlobal 0 = true → beAt (withoutFcs f.bytes) (tagsEnd
      (u.gf shB F.pipeShared_TPID_ALT_TPID) (withoutFcs f.bytes) 4 12) 2 ≠ 0x22F0 → u.segsFor f = [n] → u.gf (t1B n)
      F.t1s_SEG_VLAN_UNTAG_TX = 0 → f.bytes.length ≤ u.gf (t1B n) F.t1s_MAX_LEN_BYTES →
    Runs (.f20FrameRx 0) s fun t =>
      ((t.seg n).tx = (u.seg n).tx ++ [(⟨f, ⟨false, none, []⟩, none, 0, 0⟩ : Sending).wireWhole.1]) ∧
      Frame [0x260, 0x27C, 0x180, 0x181] s ({ t with egress := s.egress, brg := s.brg, segs := s.segs })) ∧
  (∀ (s u : State) (f : EgFrame),
    s.sound = true → s.takeOutput 20 0 = (u, some f) → u.run .brgGlobal 0 = true → beAt (withoutFcs f.bytes) (tagsEnd
      (u.gf shB F.pipeShared_TPID_ALT_TPID) (withoutFcs f.bytes) 4 12) 2 ≠ 0x22F0 → u.segsFor f = [] →
    Runs (.f20FrameRx 0) s fun t =>
      (t.gf bgB F.brgGlobal_T1S_NO_SEG_COUNT = min 0xFFFFFFFF (u.gf bgB F.brgGlobal_T1S_NO_SEG_COUNT + 1)) ∧
      Frame [0x260, 0x27C, 0x180, 0x181] s ({ t with egress := s.egress, brg := s.brg, segs := s.segs }))

/-- What lanes of Jalden Link do. The credits 2,048 and 16 that a DISCOVER carries and LINK 1 of a lane in UP are the
model's choice (DEDUCED, log entry 43). In canonical states, for a lane n in mode 5 with both pages in RUN.
JL_BLOCK_LOCK in DOWN: DISCOVER, EV294. JL_BLOCK_LOCK_LOST in UP (no child, nothing outstanding): DOWN, unacknowledged
frames counted in REPLAY_LOST. DISCOVER_SEND in DISCOVER sends the payload of R271 with its ACCEPT. DISCOVER_RX that
passes every check: ACCEPT is to be sent, PEER_ID and the credits taken. Once both ends send ACCEPT (no twin lane): UP,
SEQ 0. In UP its ACK and credits are taken as those of any frame. One that fails a check: FAILED with the check's
number in REASON, EV295. JALDEN_FRAME_RX with a bad CRC in UP: discarded, NAK with the last good SEQ. A good DATA frame
with the next SEQ enters as a frame of port n; credits are taken and acknowledged frames leave the replay buffer.
JALDEN_REPLAY_TIMEOUT sends the unacknowledged frame again, counted in RESENDS. The fourth time without progress:
FAILED, REASON 8. JALDEN_IDLE_ACK sends IDLE_ACK with the credits to return. JL_RETRY in FAILED without block lock:
DOWN. -/
def Obligations.JaldenLaneCommands : Prop :=
  (∀ (s : State) (n : Nat),
    s.sound = true → s.laneOn n = true → s.jlState n = 0 →
    Runs (.jlBlockLock n) s fun t =>
      (t.jlState n = 1) ∧
      (t.gf (emB n) F.emac_LINK_STS_BLOCK_LOCK = 1) ∧
      (t.evPend 294 = true) ∧
      Frame [0x182, 0x180, 0x100 + 2 * n, 0x268 + n] s ({ t with jal := s.jal, egress := s.egress })) ∧
  (∀ (s : State) (n : Nat),
    s.sound = true → s.laneOn n = true → s.jlUp n = true → s.jlRole n ≠ 1 → (s.jl n).outst = [] → (s.jl n).wait = [] →
    Runs (.jlBlockLockLost n) s fun t =>
      (t.jlState n = 0) ∧
      (t.gf (emB n) F.emac_LINK_STS_BLOCK_LOCK = 0) ∧
      (t.gf jlB (F.brgJalden_REPLAY_LOST_COUNT.at (16 * n)) = min 0xFFFFFFFF (s.gf jlB (F.brgJalden_REPLAY_LOST_COUNT.at
        (16 * n)) + (s.jl n).replay.length)) ∧
      (t.jl n = JlLane.new) ∧
      Frame [0x182, 0x180, 0x100 + 2 * n, 0x268 + n] s ({ t with jal := s.jal, egress := s.egress })) ∧
  (∀ (s : State) (n : Nat),
    s.sound = true → s.laneOn n = true → s.jlState n = 1 → (s.jl n).peer = false →
    Runs (.discoverSend n) s fun t =>
      (s.jalden n 4 3 0 (((s.jl n).exp + 65535) % 65536) 2048 16 (s.discover n (s.jl n).mine) ∈ t.out) ∧
      (t.gf jlB (F.brgJalden_TX_FRAMES_COUNT.at (16 * n)) = (s.gf jlB (F.brgJalden_TX_FRAMES_COUNT.at (16 * n)) + 1) % 2
        ^ 32) ∧
      ((t.jl n).sent = ((s.jl n).sent || (s.jl n).mine)) ∧
      Frame [0x182, 0x180] s ({ t with jal := s.jal })) ∧
  (∀ (s : State) (n a cp cn : Nat) (b : Bytes),
    s.sound = true → s.laneOn n = true → s.jlState n = 1 → s.discoverCheck n b = 0 → (s.jl n).sent = false →
    Runs (.discoverRx n a cp cn b) s fun t =>
      (t.gf jlB (F.brgJalden_JL_STS_PEER_ID.at (4 * n)) = beAt b 2 2 % 1024) ∧
      ((t.jl n).mine = true) ∧
      ((t.jl n).peer = ((s.jl n).peer || byteAt b 9 != 0)) ∧
      ((t.jl n).credP = cp) ∧
      ((t.jl n).credNP = cn) ∧
      (t.jlState n = 1) ∧
      (t.gf jlB (F.brgJalden_RX_FRAMES_COUNT.at (16 * n)) = (s.gf jlB (F.brgJalden_RX_FRAMES_COUNT.at (16 * n)) + 1) % 2
        ^ 32) ∧
      Frame [0x182, 0x180] s ({ t with jal := s.jal })) ∧
  (∀ (s : State) (n a cp cn : Nat) (b : Bytes),
    s.sound = true → s.laneOn n = true → s.jlState n = 1 → s.discoverCheck n b = 0 → (s.jl n).sent = true → byteAt b 9 ≠
      0 → s.jlRole n ≠ 2 →
    Runs (.discoverRx n a cp cn b) s fun t =>
      (t.jlState n = 2) ∧
      (t.gf (emB n) F.emac_LINK_STS_LINK = 1) ∧
      ((t.jl n).seq = 0) ∧
      ((t.jl n).exp = 0) ∧
      (t.evPend 294 = true) ∧
      Frame [0x182, 0x180, 0x100 + 2 * n, 0x268 + n] s ({ t with jal := s.jal, egress := s.egress })) ∧
  (∀ (s : State) (n a cp cn : Nat) (b : Bytes),
    s.sound = true → s.laneOn n = true → s.jlUp n = true → s.discoverCheck n b = 0 → (s.jl n).wait = [] →
    Runs (.discoverRx n a cp cn b) s fun t =>
      ((t.jl n).credP = (s.jl n).credP + cp) ∧
      ((t.jl n).credNP = (s.jl n).credNP + cn) ∧
      ((t.jl n).replay = (s.jl n).replay.filter fun x => !decide ((a + 65536 - x.seq) % 65536 < 32768)) ∧
      (t.jlState n = 2) ∧
      Frame [0x182, 0x180] s ({ t with jal := s.jal })) ∧
  (∀ (s : State) (n a cp cn : Nat) (b : Bytes),
    s.sound = true → s.laneOn n = true → s.jlState n = 1 → s.discoverCheck n b ≠ 0 →
    Runs (.discoverRx n a cp cn b) s fun t =>
      (t.jlState n = 3) ∧
      (t.gf jlB (F.brgJalden_JL_STS_REASON.at (4 * n)) = s.discoverCheck n b) ∧
      (t.evPend 295 = true) ∧
      Frame [0x182, 0x180, 0x100 + 2 * n, 0x268 + n] s ({ t with jal := s.jal, egress := s.egress })) ∧
  (∀ (s : State) (n typ cls seq a cp cn : Nat) (b : Bytes),
    s.sound = true → s.laneOn n = true → s.jlUp n = true →
    Runs (.jaldenFrameRx n typ cls seq a cp cn b false) s fun t =>
      (s.jalden n 8 3 0 (((s.jl n).exp + 65535) % 65536) (s.jl n).retP (s.jl n).retNP [] ∈ t.out) ∧
      ((t.jl n).exp = (s.jl n).exp) ∧
      (t.fwd = s.fwd) ∧
      Frame [0x182, 0x180] s ({ t with jal := s.jal })) ∧
  (∀ (s : State) (n seq a cp cn : Nat) (b : Bytes),
    s.sound = true → s.laneOn n = true → s.jlUp n = true → (s.jl n).wait = [] → seq = (s.jl n).exp →
    Runs (.jaldenFrameRx n 1 0 seq a cp cn b true) s fun t =>
      ((t.fwd.waiting.map fun x => (x.src, x.bytes)) = (s.fwd.waiting.map fun x => (x.src, x.bytes)) ++ [(n, b)]) ∧
      ((t.jl n).exp = (seq + 1) % 65536) ∧
      ((t.jl n).credP = (s.jl n).credP + cp) ∧
      ((t.jl n).credNP = (s.jl n).credNP + cn) ∧
      (t.gf jlB (F.brgJalden_RX_FRAMES_COUNT.at (16 * n)) = (s.gf jlB (F.brgJalden_RX_FRAMES_COUNT.at (16 * n)) + 1) % 2
        ^ 32) ∧
      ((t.jl n).replay = (s.jl n).replay.filter fun x => !decide ((a + 65536 - x.seq) % 65536 < 32768)) ∧
      Frame [0x182] s ({ t with jal := s.jal, fwd := s.fwd, ports := s.ports })) ∧
  (∀ (s : State) (n : Nat) (g : JlFrame),
    s.sound = true → s.laneOn n = true → s.jlUp n = true → (s.jl n).replay = [g] → (s.jl n).stalls < 3 →
    Runs (.jaldenReplayTimeout n) s fun t =>
      (s.jalden n g.typ g.cls g.seq (((s.jl n).exp + 65535) % 65536) (s.jl n).retP (s.jl n).retNP g.payload ∈ t.out) ∧
      (t.gf jlB (F.brgJalden_RESENDS_COUNT.at (16 * n)) = min 0xFFFFFFFF (s.gf jlB (F.brgJalden_RESENDS_COUNT.at (16 *
        n)) + 1)) ∧
      ((t.jl n).stalls = (s.jl n).stalls + 1) ∧
      (t.jlState n = 2) ∧
      Frame [0x182, 0x180] s ({ t with jal := s.jal })) ∧
  (∀ (s : State) (n : Nat) (g : JlFrame),
    s.sound = true → s.laneOn n = true → s.jlUp n = true → s.jlRole n ≠ 1 → (s.jl n).outst = [] → (s.jl n).wait = [] →
      (s.jl n).replay = [g] → (s.jl n).stalls = 3 →
    Runs (.jaldenReplayTimeout n) s fun t =>
      (t.jlState n = 3) ∧
      (t.gf jlB (F.brgJalden_JL_STS_REASON.at (4 * n)) = 8) ∧
      Frame [0x182, 0x180, 0x100 + 2 * n, 0x268 + n] s ({ t with jal := s.jal, egress := s.egress })) ∧
  (∀ (s : State) (n : Nat),
    s.sound = true → s.laneOn n = true → s.jlUp n = true →
    Runs (.jaldenIdleAck n) s fun t =>
      (s.jalden n 7 3 0 (((s.jl n).exp + 65535) % 65536) (s.jl n).retP (s.jl n).retNP [] ∈ t.out) ∧
      ((t.jl n).retP = 0) ∧
      ((t.jl n).retNP = 0) ∧
      (t.gf jlB (F.brgJalden_TX_FRAMES_COUNT.at (16 * n)) = (s.gf jlB (F.brgJalden_TX_FRAMES_COUNT.at (16 * n)) + 1) % 2
        ^ 32) ∧
      Frame [0x182, 0x180] s ({ t with jal := s.jal })) ∧
  (∀ (s : State) (n : Nat) (w : Word),
    s.sound = true → s.laneOn n = true → s.jlState n = 3 → w.getLsbD 4 = true → s.gf (emB n) F.emac_LINK_STS_BLOCK_LOCK =
      0 →
    Runs (.jlRetry n w) s fun t =>
      (t.jlState n = 0) ∧
      (t.jl n = JlLane.new) ∧
      Frame [0x182, 0x180, 0x100 + 2 * n, 0x268 + n] s ({ t with jal := s.jal, egress := s.egress }))

/-- What remote access and the twin pair do. The bytes of requests and twin records (DESIGN CHOICE, log entry 44) and the
later execution of a unit's access to itself (log entry 46) are the model's choice. In canonical states. RACC_GO while
not BUSY for this unit itself: BUSY, and the request waits to be executed. For a unit that no lane leads to: DONE with
STATUS 3. A posted write for which a lane has credit is sent on it, DONE with STATUS 0. RACC_REQUEST_RX of this unit's
own read (of a register whose read changes nothing) is executed on its register bus: DONE, RDATA the value. A posted
write that arrives on a lane for this unit is a host write on its register bus. RACC_COMPLETION_RX ends this unit's
access with the STATUS it carries. One after the time-out is discarded, counted in LATE_CPL, EV293. RACC_TIMEOUT: DONE
with STATUS 4; on its lane the request is one whose completion will be late. TWIN_PEER_TIMEOUT (without automatic
degraded request): PEER_LOST and EV296. In a twin profile. TWIN_STATE_SEND sends what TWIN_CTL shares and has changed,
here one record. TWIN_STATE_RX of a shared SRF state writes RECOV_SEQ and HISTORY of the SRF of its index. A shared FDB
entry not yet there becomes a dynamic entry on the lane's port. -/
def Obligations.RemoteAndTwinCommands : Prop :=
  (∀ (s : State) (w : Word) (r : RaccReq),
    s.sound = true → s.alive .brgJalden 0 = true → w.getLsbD 31 = true → bitsOf w.toNat 9 8 ≤ 2 → s.gf jlB
      F.brgJalden_RACC_STS_BUSY = 0 → r = ⟨[s.gf jlB F.brgJalden_RACC_DST01_L0, s.gf jlB F.brgJalden_RACC_DST01_L1, s.gf
      jlB F.brgJalden_RACC_DST23_L2, s.gf jlB F.brgJalden_RACC_DST23_L3], bitsOf w.toNat 17 16, bitsOf w.toNat 0 0,
      bitsOf w.toNat 9 8, s.gf jlB F.brgJalden_RACC_ADDR_ADDR, s.gf jlB F.brgJalden_RACC_WDATA_DATA⟩ → s.raccHop r =
      .here →
    Runs (.raccGo w) s fun t =>
      (t.jal.own = some r) ∧
      (t.gf jlB F.brgJalden_RACC_STS_BUSY = 1) ∧
      Frame [0x182, 0x180] s ({ t with jal := s.jal })) ∧
  (∀ (s : State) (w : Word) (r : RaccReq),
    s.sound = true → s.alive .brgJalden 0 = true → w.getLsbD 31 = true → bitsOf w.toNat 9 8 ≤ 2 → s.gf jlB
      F.brgJalden_RACC_STS_BUSY = 0 → r = ⟨[s.gf jlB F.brgJalden_RACC_DST01_L0, s.gf jlB F.brgJalden_RACC_DST01_L1, s.gf
      jlB F.brgJalden_RACC_DST23_L2, s.gf jlB F.brgJalden_RACC_DST23_L3], bitsOf w.toNat 17 16, bitsOf w.toNat 0 0,
      bitsOf w.toNat 9 8, s.gf jlB F.brgJalden_RACC_ADDR_ADDR, s.gf jlB F.brgJalden_RACC_WDATA_DATA⟩ → s.raccHop r =
      .nowhere →
    Runs (.raccGo w) s fun t =>
      (t.gf jlB F.brgJalden_RACC_STS_BUSY = 0) ∧
      (t.gf jlB F.brgJalden_RACC_STS_DONE = 1) ∧
      (t.gf jlB F.brgJalden_RACC_STS_STATUS = 3) ∧
      (t.evPend 292 = true) ∧
      Frame [0x182, 0x180] s ({ t with jal := s.jal })) ∧
  (∀ (s : State) (w : Word) (r : RaccReq) (n : Nat),
    s.sound = true → s.alive .brgJalden 0 = true → w.getLsbD 31 = true → bitsOf w.toNat 9 8 ≤ 2 → s.gf jlB
      F.brgJalden_RACC_STS_BUSY = 0 → r = ⟨[s.gf jlB F.brgJalden_RACC_DST01_L0, s.gf jlB F.brgJalden_RACC_DST01_L1, s.gf
      jlB F.brgJalden_RACC_DST23_L2, s.gf jlB F.brgJalden_RACC_DST23_L3], bitsOf w.toNat 17 16, bitsOf w.toNat 0 0,
      bitsOf w.toNat 9 8, s.gf jlB F.brgJalden_RACC_ADDR_ADDR, s.gf jlB F.brgJalden_RACC_WDATA_DATA⟩ → s.raccHop r =
      .lane n → r.op = 1 → n < 16 → (s.jl n).wait = [] → (s.jl n).may ⟨0, 2, 0, r.bytes, 16⟩ = true →
    Runs (.raccGo w) s fun t =>
      (t.gf jlB F.brgJalden_RACC_STS_BUSY = 0) ∧
      (t.gf jlB F.brgJalden_RACC_STS_DONE = 1) ∧
      (t.gf jlB F.brgJalden_RACC_STS_STATUS = 0) ∧
      (t.evPend 292 = true) ∧
      (s.jalden n 2 0 (s.jl n).seq (((s.jl n).exp + 65535) % 65536) (s.jl n).retP (s.jl n).retNP r.bytes ∈ t.out) ∧
      Frame [0x182, 0x180] s ({ t with jal := s.jal })) ∧
  (∀ (s : State) (r : RaccReq) (v : Nat),
    s.sound = true → s.alive .brgJalden 0 = true → s.jal.own = some r → s.raccHop r = .here → r.op = 0 → v < 2 ^ 32 →
      s.gf jlB F.brgJalden_RACC_STS_BUSY = 1 → State.busRead ({ s with jal := { s.jal with own := none } }) r.addr true =
      (v, true, { s with jal := { s.jal with own := none } }) →
    Runs (.raccRequestRx 16 [] 0 0 0 0 0 false) s fun t =>
      (t.gf jlB F.brgJalden_RACC_STS_BUSY = 0) ∧
      (t.gf jlB F.brgJalden_RACC_STS_DONE = 1) ∧
      (t.gf jlB F.brgJalden_RACC_STS_STATUS = 0) ∧
      (t.evPend 292 = true) ∧
      (t.gf jlB F.brgJalden_RACC_RDATA_DATA = v) ∧
      (t.jal.own = none) ∧
      Frame [0x182, 0x180] s ({ t with jal := s.jal })) ∧
  (∀ (s : State) (n : Nat) (r : RaccReq),
    s.laneOn n = true → s.jlUp n = true → s.raccHop r = .here → r.op = 1 →
    Runs (.raccRequestRx n r.path r.depth r.twin r.op r.addr r.wdata false) s fun t =>
      t = (State.busWrite .host r.addr (BitVec.ofNat 32 r.wdata) s).1) ∧
  (∀ (s : State) (n st v : Nat),
    s.sound = true → s.laneOn n = true → s.jlUp n = true → 16 ∈ (s.jl n).outst → (s.jl n).wait = [] → 1 ≤ st → st < 6 →
      s.gf jlB F.brgJalden_RACC_STS_BUSY = 1 →
    Runs (.raccCompletionRx n 16 st v) s fun t =>
      (t.gf jlB F.brgJalden_RACC_STS_BUSY = 0) ∧
      (t.gf jlB F.brgJalden_RACC_STS_DONE = 1) ∧
      (t.gf jlB F.brgJalden_RACC_STS_STATUS = st) ∧
      (t.evPend 292 = true) ∧
      ((t.jl n).outst = (s.jl n).outst.erase 16) ∧
      Frame [0x182, 0x180] s ({ t with jal := s.jal })) ∧
  (∀ (s : State) (n st v : Nat),
    s.sound = true → s.laneOn n = true → s.jlUp n = true → 16 ∈ (s.jl n).outst → (s.jl n).wait = [] → s.gf jlB
      F.brgJalden_RACC_STS_BUSY = 0 →
    Runs (.raccCompletionRx n 16 st v) s fun t =>
      (t.gf jlB F.brgJalden_LATE_CPL_COUNT = min 0xFFFFFFFF (s.gf jlB F.brgJalden_LATE_CPL_COUNT + 1)) ∧
      (t.evPend 293 = true) ∧
      (t.gf jlB F.brgJalden_RACC_STS = s.gf jlB F.brgJalden_RACC_STS) ∧
      Frame [0x182, 0x180] s ({ t with jal := s.jal })) ∧
  (∀ (s : State) (n : Nat),
    s.sound = true → n < 16 → s.alive .brgJalden 0 = true → s.gf jlB F.brgJalden_RACC_STS_BUSY = 1 → s.jal.own = none →
    Runs (.raccTimeout) s fun t =>
      (t.gf jlB F.brgJalden_RACC_STS_BUSY = 0) ∧
      (t.gf jlB F.brgJalden_RACC_STS_DONE = 1) ∧
      (t.gf jlB F.brgJalden_RACC_STS_STATUS = 4) ∧
      (t.evPend 292 = true) ∧
      ((t.jl n).outst = (s.jl n).outst.map fun o => if o = 16 then 17 else o) ∧
      Frame [0x182, 0x180] s ({ t with jal := s.jal })) ∧
  (∀ (s : State) (n : Nat),
    s.sound = true → n < 16 → s.alive .brgJalden 0 = true → s.jlRole n = 2 → s.gf jlB F.brgJalden_TWIN_STS_PEER_LOST = 0
      → bitOf (s.gf (pageBase .guardGlobal 0) F.guardGlobal_AUTO_DEG_CAUSE) 4 = false → s.alive .brgGlobal 0 = true →
    Runs (.twinPeerTimeout) s fun t =>
      (t.gf jlB F.brgJalden_TWIN_STS_PEER_LOST = 1) ∧
      (bitOf (t.gf bgB hdrRaw) 8 = true)) ∧
  (∀ (s : State) (n : Nat) (x : TwinRec) (l : List Nat),
    s.sound = true → n < 16 → s.twinPair = true → s.twinLanes = n :: l → s.jal.shared = [] → s.sig.twinChanges = [] →
      s.twinNow = [x] → (s.jl n).wait = [] → (s.jl n).may ⟨0, 5, 0, twinRecBytes x, 16⟩ = true →
    Runs (.twinStateSend) s fun t =>
      (s.jalden n 5 0 (s.jl n).seq (((s.jl n).exp + 65535) % 65536) (s.jl n).retP (s.jl n).retNP (twinRecBytes x) ∈
        t.out) ∧
      (t.jal.shared = [x]) ∧
      Frame [0x182] s ({ t with jal := s.jal, sig := s.sig })) ∧
  (∀ (s : State) (n i a h : Nat),
    s.sound = true → n < 16 → s.twinPair = true → s.jlRole n = 2 → s.jlUp n = true → i < 1024 → a < 2 ^ 16 → h < 2 ^ 32 →
    Runs (.twinStateRx n [.srf i a h]) s fun t =>
      (leNat (t.b2Bytes (0x05200000 + 16 * i + 4) 2) = a) ∧
      (t.b2w (0x05200000 + 16 * i + 8) = h) ∧
      (∀ x, (x < 0x05200000 + 16 * i + 4 ∨ (0x05200000 + 16 * i + 6 ≤ x ∧ x < 0x05200000 + 16 * i + 8) ∨ 0x05200000 + 16
        * i + 12 ≤ x) → t.b2 x = s.b2 x) ∧
      Frame [] s ({ t with bar2 := s.bar2 })) ∧
  (∀ (s : State) (n k fid port : Nat) (mac : Nat) (e : FdbEntry),
    s.sound = true → n < 16 → s.twinPair = true → s.jlRole n = 2 → s.jlUp n = true → k < 2 → fid < 4096 → mac < 2 ^ 48 →
      s.fdbFind k fid (beBytes 6 mac) = none → ((s.fdbPlaces k fid (beBytes 6 mac)).map s.fdbAt).find? (fun e =>
      !e.valid) = some e →
    Runs (.twinStateRx n [.fdb k mac fid port false]) s fun t =>
      ((t.fdbAt e.off).valid = true) ∧
      ((t.fdbAt e.off).mac = beBytes 6 mac) ∧
      ((t.fdbAt e.off).fid = fid) ∧
      ((t.fdbAt e.off).port = n) ∧
      ((t.fdbAt e.off).static = false) ∧
      Frame [0xC0 + k] s ({ t with bar2 := s.bar2 }))

/-- What the deadline scanner, the transmit scheduler and the timeout FIFO do. In canonical states with the SIG global
page in RUN. DEADLINE_VISIT of a valid source past its deadline: TIMED_OUT, the substitute where TMO_ACT is 1,
TIMEOUTS, a timeout record; its job is deferred where the cluster does not run. Else it joins the cluster's queue.
Before the deadline the visit changes nothing. TX_SCHEDULER_VISIT of a cyclic PDU whose instant has come: its transmit
job joins the cluster's queue; the next instant lies ahead. So does that of an on-change PDU with a changed sink that
has not been sent yet. TMO_POP returns and removes the oldest record and keeps its stamp. -/
def Obligations.SignalScannerCommands : Prop :=
  (∀ (s : State) (i : Nat),
    s.sound = true → s.run .sigGlobal 0 = true → s.gf sgB F.sigGlobal_TMO_CTL_SCAN_EN = 1 → i < (s.bank s.fg).sigs →
      s.sig.deferred.contains i = false → (s.sigRec s.fg i).valid = true → (s.sigRec s.fg i).sink = false → (s.sigRec
      s.fg i).tmoMs ≠ 0 → bitOf (s.sigFlags s.fg i) 1 = false → (s.sigRec s.fg i).tmoMs * 1000000 + s.gf sgB
      F.sigGlobal_TMO_CTL_GRACE_US * 1000 ≤ (s.stamp + 2 ^ 32 - s.lastRx s.fg i) % 2 ^ 32 → s.sig.tmo.length < 256 →
      s.run .ktl ((s.pduRec s.fg (s.pduIx s.fg (s.sigRec s.fg i).pdu)).cluster) = false →
    Runs (.deadlineVisit i) s fun t =>
      (bitOf (t.sigFlags s.fg i) 1 = true) ∧
      (((s.sigRec s.fg i).tmoAct = 1 → t.sigVal s.fg i = (s.sigRec s.fg i).init ∧ bitOf (t.sigFlags s.fg i) 2 = true)) ∧
      (((s.sigRec s.fg i).tmoAct ≠ 1 → t.sigVal s.fg i = s.sigVal s.fg i)) ∧
      (t.gf sgB F.sigGlobal_TIMEOUTS_COUNT = min 0xFFFFFFFF (s.gf sgB F.sigGlobal_TIMEOUTS_COUNT + 1)) ∧
      (t.sig.tmo = s.sig.tmo ++ [⟨0x80000000 + i, s.stamp⟩]) ∧
      (i ∈ t.sig.deferred) ∧
      Frame [0x1A0] s ({ t with sig := s.sig, bar2 := s.bar2 })) ∧
  (∀ (s : State) (i : Nat),
    s.sound = true → s.run .sigGlobal 0 = true → s.gf sgB F.sigGlobal_TMO_CTL_SCAN_EN = 1 → i < (s.bank s.fg).sigs →
      s.sig.deferred.contains i = false → (s.sigRec s.fg i).valid = true → (s.sigRec s.fg i).sink = false → (s.sigRec
      s.fg i).tmoMs ≠ 0 → bitOf (s.sigFlags s.fg i) 1 = false → (s.sigRec s.fg i).tmoMs * 1000000 + s.gf sgB
      F.sigGlobal_TMO_CTL_GRACE_US * 1000 ≤ (s.stamp + 2 ^ 32 - s.lastRx s.fg i) % 2 ^ 32 → s.sig.tmo.length < 256 →
      s.run .ktl ((s.pduRec s.fg (s.pduIx s.fg (s.sigRec s.fg i).pdu)).cluster) = true → (s.cl ((s.pduRec s.fg (s.pduIx
      s.fg (s.sigRec s.fg i).pdu)).cluster)).queue.length < 64 →
    Runs (.deadlineVisit i) s fun t =>
      (bitOf (t.sigFlags s.fg i) 1 = true) ∧
      (((s.sigRec s.fg i).tmoAct = 1 → t.sigVal s.fg i = (s.sigRec s.fg i).init ∧ bitOf (t.sigFlags s.fg i) 2 = true)) ∧
      (((s.sigRec s.fg i).tmoAct ≠ 1 → t.sigVal s.fg i = s.sigVal s.fg i)) ∧
      (t.gf sgB F.sigGlobal_TIMEOUTS_COUNT = min 0xFFFFFFFF (s.gf sgB F.sigGlobal_TIMEOUTS_COUNT + 1)) ∧
      (t.sig.tmo = s.sig.tmo ++ [⟨0x80000000 + i, s.stamp⟩]) ∧
      ((t.cl ((s.pduRec s.fg (s.pduIx s.fg (s.sigRec s.fg i).pdu)).cluster)).queue = (s.cl ((s.pduRec s.fg (s.pduIx s.fg
        (s.sigRec s.fg i).pdu)).cluster)).queue ++ [Job.plain 1 (s.pduIx s.fg (s.sigRec s.fg i).pdu) s.fg s.sigEpoch
        s.stamp i]) ∧
      Frame [0x1A0, 0x1C0 + (s.pduRec s.fg (s.pduIx s.fg (s.sigRec s.fg i).pdu)).cluster] s
        ({ t with sig := s.sig, bar2 := s.bar2, clusters := s.clusters })) ∧
  (∀ (s : State) (i : Nat),
    s.sound = true → s.run .sigGlobal 0 = true → s.gf sgB F.sigGlobal_TMO_CTL_SCAN_EN = 1 → i < (s.bank s.fg).sigs →
      s.sig.deferred.contains i = false → (s.sigRec s.fg i).valid = true → (s.sigRec s.fg i).sink = false → (s.sigRec
      s.fg i).tmoMs ≠ 0 → bitOf (s.sigFlags s.fg i) 1 = false → (s.stamp + 2 ^ 32 - s.lastRx s.fg i) % 2 ^ 32 < (s.sigRec
      s.fg i).tmoMs * 1000000 + s.gf sgB F.sigGlobal_TMO_CTL_GRACE_US * 1000 →
    Runs (.deadlineVisit i) s fun t =>
      t = s) ∧
  (∀ (s : State) (j : Nat) (p : PduRec),
    s.sound = true → s.run .sigGlobal 0 = true → j < (s.bank s.fg).pdus → s.pduRec s.fg j = p → p.valid = true → p.tx =
      true → p.mode ≠ 1 → p.period ≠ 0 → s.sig.instant.isSome = true → s.nextCyclic j p.period ≤ s.now → s.txQueued j =
      false → s.run .ktl p.cluster = true → (s.cl p.cluster).queue.length < 64 →
    Runs (.txSchedulerVisit j) s fun t =>
      ((t.cl p.cluster).queue = (s.cl p.cluster).queue ++ [Job.plain 2 j s.fg s.sigEpoch s.stamp 0]) ∧
      (s.now < t.nextCyclic j p.period) ∧
      (t.sig.owed.contains j = (s.sig.owed.erase j).contains j) ∧
      Frame [0x1A0, 0x1C0 + p.cluster] s ({ t with sig := s.sig, bar2 := s.bar2, clusters := s.clusters })) ∧
  (∀ (s : State) (j : Nat) (p : PduRec),
    s.sound = true → s.run .sigGlobal 0 = true → j < (s.bank s.fg).pdus → s.pduRec s.fg j = p → p.valid = true → p.tx =
      true → p.mode = 1 → s.pduChanged s.fg j = true → look (fun _ => 0) s.sig.sentAt (32768 * s.fg + j) = 0 →
      s.txStarted j = false → s.txQueued j = false → s.run .ktl p.cluster = true → (s.cl p.cluster).queue.length < 64 →
    Runs (.txSchedulerVisit j) s fun t =>
      ((t.cl p.cluster).queue = (s.cl p.cluster).queue ++ [Job.plain 2 j s.fg s.sigEpoch s.stamp 0]) ∧
      Frame [0x1C0 + p.cluster] s ({ t with sig := s.sig, clusters := s.clusters })) ∧
  (∀ (s : State) (r : StampRec) (rest : List StampRec),
    s.sound = true → s.alive .sigGlobal 0 = true → s.sig.tmo = r :: rest →
    Runs (.tmoPop 1) s fun t =>
      (.readData [r.word] ∈ t.out) ∧
      (t.sig.tmo = rest) ∧
      (t.gf sgB F.sigGlobal_TMO_POP_LAST_LAST = r.word % 2 ^ 32) ∧
      (t.gf sgB F.sigGlobal_TMO_STAMP_STAMP = r.stamp % 2 ^ 32) ∧
      (t.gf sgB F.sigGlobal_TMO_LEVEL_LEVEL = rest.length % 512) ∧
      Frame [0x1A0] s ({ t with sig := s.sig }))

/-- What builds, flips and the LPDDR4X training do. In canonical states. BUILD_GO while neither BUSY nor DRAINING starts
a build of the Batch. HOST_READY marks the background bank ready for the Batch, every signal of it at its initial
value. BUILD_DONE of a build while LPDDR4X is not ready: RESULT 5, counted, not ready. RESULT is that of the checks;
with 0 the background bank holds the image's counts and seed and is ready, every signal at its initial value.
SIG_FLIP_NOW with a ready background bank and nothing draining: the banks change places, EPOCH moves on, LAST_RX of
every signal is the instant, EV320. Without a ready one it is refused with EV321. SIG_FLIP_AT for an instant not past
is pending. SIG_FLIP_CANCEL withdraws it. SIG_FLIP_DUE flips with FLIP_AT as the instant. SIG_DRAIN_END once DRAIN_MS
has passed and no old-epoch work remains: DRAINING 0. DDR_TRAINING_DONE sets READY and TRAINED, or TRAIN_FAIL; the
level of EV463 is what remains. -/
def Obligations.BatchCommands : Prop :=
  (∀ (s : State) (b : Nat) (v : Bool),
    s.sound = true → s.alive .sigGlobal 0 = true → s.gf sgB F.sigGlobal_BUILD_STS_BUSY = 0 → s.gf sgB
      F.sigGlobal_BANK_STS_DRAINING = 0 →
    Runs (.buildGo b v) s fun t =>
      (t.gf sgB F.sigGlobal_BUILD_STS_BUSY = 1) ∧
      (t.gf sgB F.sigGlobal_BANK_STS_BG_READY = 0) ∧
      (t.sig.build = some ⟨b % 256, v⟩) ∧
      Frame [0x1A0] s ({ t with sig := s.sig })) ∧
  (∀ (s : State) (b : Nat),
    s.sound = true → s.alive .sigGlobal 0 = true → s.gf sgB F.sigGlobal_BUILD_STS_BUSY = 0 → s.gf sgB
      F.sigGlobal_BANK_STS_DRAINING = 0 →
    Runs (.hostReady b) s fun t =>
      (t.gf sgB F.sigGlobal_BUILD_STS_RESULT = 0) ∧
      (t.gf sgB F.sigGlobal_BANK_STS_BG_READY = 1) ∧
      (t.gf sgB F.sigGlobal_BANK_STS_BG_BATCH = b % 256) ∧
      (t.evPend 322 = true) ∧
      (∀ i, i < (s.bank (1 - s.fg)).sigs → t.sigVal (1 - s.fg) i = (s.sigRec (1 - s.fg) i).init ∧ t.sigFlags (1 - s.fg) i
        = 0 ∧ t.lastRx (1 - s.fg) i = 0) ∧
      Frame [0x1A0] s ({ t with sig := s.sig, bar2 := s.bar2 })) ∧
  (∀ (s : State) (j : BuildJob) (corr : Nat),
    s.sound = true → s.alive .sigGlobal 0 = true → s.sig.build = some j → j.batch < 256 → j.byVariant = false →
      s.guard.batch = none → s.gf ddB F.ddr_DDR_STS_READY = 0 →
    Runs (.buildDone none corr) s fun t =>
      (t.gf sgB F.sigGlobal_BUILD_STS_BUSY = 0) ∧
      (t.gf sgB F.sigGlobal_BUILD_STS_RESULT = 5) ∧
      (t.gf sgB F.sigGlobal_BANK_STS_BG_READY = 0) ∧
      (t.gf sgB F.sigGlobal_BANK_STS_BG_BATCH = j.batch) ∧
      (t.gf sgB F.sigGlobal_BUILD_FAIL_COUNT = min 0xFFFFFFFF (s.gf sgB F.sigGlobal_BUILD_FAIL_COUNT + 1)) ∧
      (t.sig.build = none) ∧
      (t.evPend 322 = true) ∧
      Frame [0x1A0, 0x2A0] s ({ t with sig := s.sig })) ∧
  (∀ (s : State) (j : BuildJob) (b corr : Nat),
    s.sound = true → s.alive .sigGlobal 0 = true → s.sig.build = some j → b < 256 → s.buildBatch j = some b →
      s.guard.batch = none →
    Runs (.buildDone none corr) s fun t =>
      (t.gf sgB F.sigGlobal_BUILD_STS_BUSY = 0) ∧
      (t.gf sgB F.sigGlobal_BANK_STS_BG_BATCH = b) ∧
      (t.sig.build = none) ∧
      (t.evPend 322 = true) ∧
      (∀ r, r = (s.buildCheck (some b)).1 → t.gf sgB F.sigGlobal_BUILD_STS_RESULT = r ∧ t.gf sgB
        F.sigGlobal_BANK_STS_BG_READY = b2n (r == 0)) ∧
      (((s.buildCheck (some b)).1 = 0 → (t.bank (1 - s.fg)).sigs = leAt (s.ddrBytes (s.dbBase + (s.dirEntry b).1) 64) 12
        4 ∧ (t.bank (1 - s.fg)).pdus = leAt (s.ddrBytes (s.dbBase + (s.dirEntry b).1) 64) 16 2 ∧ (t.bank (1 - s.fg)).seed
        = leAt (s.ddrBytes (s.dbBase + (s.dirEntry b).1) 64) 20 4 ∧ ∀ i, i < leAt (s.ddrBytes (s.dbBase + (s.dirEntry
        b).1) 64) 12 4 → t.sigVal (1 - s.fg) i = (t.sigRec (1 - s.fg) i).init)) ∧
      Frame [0x1A0, 0x2A0] s ({ t with sig := s.sig, bar2 := s.bar2 })) ∧
  (∀ (s : State),
    s.sound = true → s.run .sigGlobal 0 = true → s.gf sgB F.sigGlobal_BANK_STS_DRAINING = 0 → s.gf sgB
      F.sigGlobal_BANK_STS_BG_READY = 1 →
    Runs (.sigFlipNow) s fun t =>
      (t.gf sgB F.sigGlobal_BANK_STS_FG = 1 - s.gf sgB F.sigGlobal_BANK_STS_FG) ∧
      (t.gf sgB F.sigGlobal_BANK_STS_EPOCH = (s.gf sgB F.sigGlobal_BANK_STS_EPOCH + 1) % 8) ∧
      (t.gf sgB F.sigGlobal_BANK_STS_FG_BATCH = s.gf sgB F.sigGlobal_BANK_STS_BG_BATCH) ∧
      (t.gf sgB F.sigGlobal_BANK_STS_BG_BATCH = s.gf sgB F.sigGlobal_BANK_STS_FG_BATCH) ∧
      (t.gf sgB F.sigGlobal_BANK_STS_BG_READY = 0) ∧
      (t.gf sgB F.sigGlobal_BANK_STS_DRAINING = 1) ∧
      (t.gf sgB F.sigGlobal_BANK_STS_FLIP_PEND = 0) ∧
      (t.sig.instant = some (s.now)) ∧
      (∀ i, i < 131072 → t.lastRx (1 - s.fg) i = s.now % 2 ^ 32) ∧
      (t.evPend 320 = true) ∧
      Frame [0x1A0] s ({ t with sig := s.sig })) ∧
  (∀ (s : State),
    s.sound = true → s.run .sigGlobal 0 = true → s.gf sgB F.sigGlobal_BANK_STS_DRAINING = 0 → s.gf sgB
      F.sigGlobal_BANK_STS_BG_READY = 0 →
    Runs (.sigFlipNow) s fun t =>
      (t.gf sgB F.sigGlobal_BANK_STS_REFUSED = 1) ∧
      (t.gf sgB F.sigGlobal_BANK_STS_FG = s.gf sgB F.sigGlobal_BANK_STS_FG) ∧
      (t.gf sgB F.sigGlobal_BANK_STS_FLIP_PEND = 0) ∧
      (t.evPend 321 = true) ∧
      Frame [0x1A0] s ({ t with sig := s.sig })) ∧
  (∀ (s : State),
    s.sound = true → s.alive .sigGlobal 0 = true → s.now ≤ s.sigAt →
    Runs (.sigFlipAt) s fun t =>
      (t.gf sgB F.sigGlobal_BANK_STS_FLIP_PEND = 1) ∧
      (t.sig.flip = .at_) ∧
      Frame [0x1A0] s ({ t with sig := s.sig })) ∧
  (∀ (s : State),
    s.sound = true → s.alive .sigGlobal 0 = true →
    Runs (.sigFlipCancel) s fun t =>
      (t.gf sgB F.sigGlobal_BANK_STS_FLIP_PEND = 0) ∧
      (t.sig.flip = .none) ∧
      Frame [0x1A0] s ({ t with sig := s.sig })) ∧
  (∀ (s : State),
    s.sound = true → s.run .sigGlobal 0 = true → s.gf sgB F.sigGlobal_BANK_STS_DRAINING = 0 → s.gf sgB
      F.sigGlobal_BANK_STS_BG_READY = 1 → s.sig.flip = .at_ → s.sigAt ≤ s.now →
    Runs (.sigFlipDue) s fun t =>
      (t.gf sgB F.sigGlobal_BANK_STS_FG = 1 - s.gf sgB F.sigGlobal_BANK_STS_FG) ∧
      (t.gf sgB F.sigGlobal_BANK_STS_EPOCH = (s.gf sgB F.sigGlobal_BANK_STS_EPOCH + 1) % 8) ∧
      (t.gf sgB F.sigGlobal_BANK_STS_FG_BATCH = s.gf sgB F.sigGlobal_BANK_STS_BG_BATCH) ∧
      (t.gf sgB F.sigGlobal_BANK_STS_BG_BATCH = s.gf sgB F.sigGlobal_BANK_STS_FG_BATCH) ∧
      (t.gf sgB F.sigGlobal_BANK_STS_BG_READY = 0) ∧
      (t.gf sgB F.sigGlobal_BANK_STS_DRAINING = 1) ∧
      (t.gf sgB F.sigGlobal_BANK_STS_FLIP_PEND = 0) ∧
      (t.sig.instant = some (s.sigAt)) ∧
      (∀ i, i < 131072 → t.lastRx (1 - s.fg) i = s.sigAt % 2 ^ 32) ∧
      (t.evPend 320 = true) ∧
      Frame [0x1A0] s ({ t with sig := s.sig })) ∧
  (∀ (s : State),
    s.sound = true → s.alive .sigGlobal 0 = true → s.gf sgB F.sigGlobal_BANK_STS_DRAINING = 1 → s.sig.instant.getD 0 +
      s.gf sgB F.sigGlobal_TMO_CTL_DRAIN_MS * 1000000 ≤ s.now → s.epochBusy ((s.sigEpoch + 7) % 8) = false → s.sig.flip =
      .none →
    Runs (.sigDrainEnd) s fun t =>
      (t.gf sgB F.sigGlobal_BANK_STS_DRAINING = 0) ∧
      (t.gf sgB F.sigGlobal_BANK_STS_FG = s.gf sgB F.sigGlobal_BANK_STS_FG) ∧
      Frame [0x1A0] s ({ t with sig := s.sig })) ∧
  (∀ (s : State) (ok : Bool),
    s.sound = true → s.run .ddr 0 = true → s.gf ddB F.ddr_DDR_STS_READY = 0 →
    Runs (.ddrTrainingDone ok) s fun t =>
      (t.gf ddB F.ddr_DDR_STS_READY = b2n ok) ∧
      (t.gf ddB F.ddr_DDR_STS_TRAINED = b2n ok) ∧
      (t.gf ddB F.ddr_DDR_STS_TRAIN_FAIL = b2n (!ok)) ∧
      (bitOf (t.gf ddB hdrRaw) 1 = !ok) ∧
      Frame [0x2A0] s t)

/-- What the commands of the node directory do. Which free entry is taken (log entry 51) and the byte order of the count
of records (log entry 55) are the model's choice. In canonical states with the node page in RUN. NODE_DEPART_TIMEOUT of
a local CAN or LIN entry removes it, counted, with a record. NODE_POP returns and removes the oldest record.
NODE_SUMMARY_SEND of a snapshot (one entry, one lane toward the parent): a frame with START and END and the entry under
this unit's own ID. Of changes: the change, in a frame with neither, and it waits no longer. NODE_SUMMARY_RX of a
present node not yet listed: it is listed under the sender's ID as REMOTE in the lowest free entry, with a record.
CHILD_HOLD_EXPIRY removes exactly the child's entries. TWIN_NODE_HOLD_EXPIRY removes exactly the TWIN entries that have
not come again. -/
def Obligations.NodeDirectoryCommands : Prop :=
  (∀ (s : State) (i : Nat) (e : NodeEntry),
    s.sound = true → s.run .sigNode 0 = true → s.alive .sigGlobal 0 = true → i < 4096 → look (fun _ => none) s.sig.nodes
      i = some e → e.remote = false → e.twin = false → e.kind < 2 → s.sig.nodeFifo.length < 64 →
    Runs (.nodeDepartTimeout i) s fun t =>
      (look (fun _ => none) t.sig.nodes i = none) ∧
      (t.gf ndB F.sigNode_DEPARTS_COUNT = (s.gf ndB F.sigNode_DEPARTS_COUNT + 1) % 2 ^ 32) ∧
      (t.sig.nodeFifo = s.sig.nodeFifo ++ [0xC0000000 + i]) ∧
      Frame [0x1A1, 0x1A0] s ({ t with sig := s.sig })) ∧
  (∀ (s : State) (r : Nat) (rest : List Nat),
    s.sound = true → s.alive .sigNode 0 = true → s.sig.nodeFifo = r :: rest →
    Runs (.nodePop 1) s fun t =>
      (.readData [r] ∈ t.out) ∧
      (t.sig.nodeFifo = rest) ∧
      (t.gf ndB F.sigNode_NODE_POP_LAST_LAST = r % 2 ^ 32) ∧
      (t.gf ndB F.sigNode_NODE_LEVEL_LEVEL = rest.length % 128) ∧
      Frame [0x1A1, 0x1A0] s ({ t with sig := s.sig })) ∧
  (∀ (s : State) (n i : Nat) (x : NodeEntry),
    s.sound = true → s.run .sigNode 0 = true → s.gf ndB F.sigNode_SUM_CTL_SEND_EN = 1 → ((List.range 16).filter fun n =>
      s.jlUp n && s.jlRole n == 0) = [n] → s.nodeList = [(i, x)] → (s.jl n).wait = [] → (s.jl n).may ⟨0, 6, 0, ([1, 0, 3,
      0] ++ ({ x with owner := s.unitId } : NodeEntry).bytes true), 16⟩ = true →
    Runs (.nodeSummarySend true) s fun t =>
      (s.jalden n 6 0 (s.jl n).seq (((s.jl n).exp + 65535) % 65536) (s.jl n).retP (s.jl n).retNP ([1, 0, 3, 0] ++
        ({ x with owner := s.unitId } : NodeEntry).bytes true) ∈ t.out) ∧
      (t.sig = s.sig) ∧
      Frame [0x182] s ({ t with jal := s.jal })) ∧
  (∀ (s : State) (n : Nat) (x : NodeEntry) (p : Bool),
    s.sound = true → s.run .sigNode 0 = true → s.gf ndB F.sigNode_SUM_CTL_SEND_EN = 1 → ((List.range 16).filter fun n =>
      s.jlUp n && s.jlRole n == 0) = [n] → s.sig.changes = [(x, p)] → (s.jl n).wait = [] → (s.jl n).may ⟨0, 6, 0, ([1, 0,
      0, 0] ++ ({ x with owner := s.unitId } : NodeEntry).bytes p), 16⟩ = true →
    Runs (.nodeSummarySend false) s fun t =>
      (s.jalden n 6 0 (s.jl n).seq (((s.jl n).exp + 65535) % 65536) (s.jl n).retP (s.jl n).retNP ([1, 0, 0, 0] ++
        ({ x with owner := s.unitId } : NodeEntry).bytes p) ∈ t.out) ∧
      (t.sig.changes = []) ∧
      Frame [0x182] s ({ t with jal := s.jal, sig := s.sig })) ∧
  (∀ (s : State) (n src : Nat) (r : Bytes),
    s.sound = true → s.jlUp n = true → s.jlRole n = 1 → s.run .sigNode 0 = true → r.length = 16 → bitOf (leAt r 0 4) 31 =
      true → s.nodeFind (childNode (src % 1024) r) = none → freeNode 0 s.sig.nodes < 4096 → s.sig.nodeFifo.length < 64 →
    Runs (.nodeSummaryRx n src ([1, 0, 0, 0] ++ r)) s fun t =>
      (look (fun _ => none) t.sig.nodes (freeNode 0 s.sig.nodes) = some
        { childNode (src % 1024) r with seen := s.msCount % 2 ^ 32 }) ∧
      (t.gf ndB F.sigNode_SUM_RX_COUNT = (s.gf ndB F.sigNode_SUM_RX_COUNT + 1) % 2 ^ 32) ∧
      (t.gf ndB F.sigNode_ATTACHES_COUNT = (s.gf ndB F.sigNode_ATTACHES_COUNT + 1) % 2 ^ 32) ∧
      (t.sig.nodeFifo = s.sig.nodeFifo ++ [0x80000000 + freeNode 0 s.sig.nodes]) ∧
      Frame [0x1A1, 0x1A0] s ({ t with sig := s.sig })) ∧
  (∀ (s : State) (o : Nat),
    s.sound = true → s.run .sigNode 0 = true → s.sig.holds.contains o = true →
    Runs (.childHoldExpiry o) s fun t =>
      (∀ x ∈ t.nodeList, ¬ (x.2.remote = true ∧ x.2.owner = o)) ∧
      (∀ x ∈ s.nodeList, ¬ (x.2.remote = true ∧ x.2.owner = o) → x ∈ t.nodeList) ∧
      (t.sig.holds = s.sig.holds.erase o) ∧
      Frame [0x1A1, 0x1A0] s ({ t with sig := s.sig })) ∧
  (∀ (s : State),
    s.sound = true → s.run .sigNode 0 = true →
    Runs (.twinNodeHoldExpiry) s fun t =>
      (∀ x ∈ t.nodeList, ¬ (x.2.twin = true ∧ s.sig.twinHold.any (fun y => y.same x.2) = true)) ∧
      (∀ x ∈ s.nodeList, ¬ (x.2.twin = true ∧ s.sig.twinHold.any (fun y => y.same x.2) = true) → x ∈ t.nodeList) ∧
      (t.sig.twinHold = []) ∧
      Frame [0x1A1, 0x1A0] s ({ t with sig := s.sig }))

/-- What the arithmetic and logic instructions of the cores do. In canonical states, for a core whose job runs below its
limit at an instruction with that operation code (Table 10-7), its word not uncorrectable: rd takes the value (X0 stays
0), the PC moves to the next word (mod 16,384), the cycles (1 where not said) are added to the job's and to BUSY_CYC,
and nothing else changes but the sampling of the Tap and the counters of performance and of corrected words. ADD: rd =
ra + rb. SUB: ra - rb. AND,  OR,  XOR bitwise. SHL, SHR, SAR:  ra shifted by rb[5:0],  SAR keeping the sign. MUL: the
low 64 bits of the product, 3 cycles. SLT: 1 if ra < rb signed, else 0. SLTU: unsigned. MIN,  MAX: signed. ADDI: with
imm18 sign-extended. ANDI,  ORI,  XORI: with imm18 zero-extended. SHLI,  SHRI,  SARI: by imm18[5:0]. SHIN: ra shifted
left 18, OR imm18. -/
def Obligations.RecipeArithmetic : Prop :=
  (∀ (s : State) (k wait mem : Nat),
    s.sound = true → s.coreAt k 0x01 → mem ≠ 2 →
    Runs (.opAdd k wait mem) s fun t =>
      (CoreNext s t k (s.raV k + s.rbV k) (1)) ∧
      Frame [0x1C0 + k / 8, 0x243] s ({ t with cores := s.cores, tap := s.tap, freeCount := s.freeCount })) ∧
  (∀ (s : State) (k wait mem : Nat),
    s.sound = true → s.coreAt k 0x02 → mem ≠ 2 →
    Runs (.opSub k wait mem) s fun t =>
      (CoreNext s t k (s.raV k - s.rbV k) (1)) ∧
      Frame [0x1C0 + k / 8, 0x243] s ({ t with cores := s.cores, tap := s.tap, freeCount := s.freeCount })) ∧
  (∀ (s : State) (k wait mem : Nat),
    s.sound = true → s.coreAt k 0x03 → mem ≠ 2 →
    Runs (.opAnd k wait mem) s fun t =>
      (CoreNext s t k (s.raV k &&& s.rbV k) (1)) ∧
      Frame [0x1C0 + k / 8, 0x243] s ({ t with cores := s.cores, tap := s.tap, freeCount := s.freeCount })) ∧
  (∀ (s : State) (k wait mem : Nat),
    s.sound = true → s.coreAt k 0x04 → mem ≠ 2 →
    Runs (.opOr k wait mem) s fun t =>
      (CoreNext s t k (s.raV k ||| s.rbV k) (1)) ∧
      Frame [0x1C0 + k / 8, 0x243] s ({ t with cores := s.cores, tap := s.tap, freeCount := s.freeCount })) ∧
  (∀ (s : State) (k wait mem : Nat),
    s.sound = true → s.coreAt k 0x05 → mem ≠ 2 →
    Runs (.opXor k wait mem) s fun t =>
      (CoreNext s t k (s.raV k ^^^ s.rbV k) (1)) ∧
      Frame [0x1C0 + k / 8, 0x243] s ({ t with cores := s.cores, tap := s.tap, freeCount := s.freeCount })) ∧
  (∀ (s : State) (k wait mem : Nat),
    s.sound = true → s.coreAt k 0x06 → mem ≠ 2 →
    Runs (.opShl k wait mem) s fun t =>
      (CoreNext s t k (s.raV k <<< ((s.rbV k).toNat % 64)) (1)) ∧
      Frame [0x1C0 + k / 8, 0x243] s ({ t with cores := s.cores, tap := s.tap, freeCount := s.freeCount })) ∧
  (∀ (s : State) (k wait mem : Nat),
    s.sound = true → s.coreAt k 0x07 → mem ≠ 2 →
    Runs (.opShr k wait mem) s fun t =>
      (CoreNext s t k (s.raV k >>> ((s.rbV k).toNat % 64)) (1)) ∧
      Frame [0x1C0 + k / 8, 0x243] s ({ t with cores := s.cores, tap := s.tap, freeCount := s.freeCount })) ∧
  (∀ (s : State) (k wait mem : Nat),
    s.sound = true → s.coreAt k 0x08 → mem ≠ 2 →
    Runs (.opSar k wait mem) s fun t =>
      (CoreNext s t k ((s.raV k).sshiftRight ((s.rbV k).toNat % 64)) (1)) ∧
      Frame [0x1C0 + k / 8, 0x243] s ({ t with cores := s.cores, tap := s.tap, freeCount := s.freeCount })) ∧
  (∀ (s : State) (k wait mem : Nat),
    s.sound = true → s.coreAt k 0x09 → mem ≠ 2 →
    Runs (.opMul k wait mem) s fun t =>
      (CoreNext s t k (s.raV k * s.rbV k) (3)) ∧
      Frame [0x1C0 + k / 8, 0x243] s ({ t with cores := s.cores, tap := s.tap, freeCount := s.freeCount })) ∧
  (∀ (s : State) (k wait mem : Nat),
    s.sound = true → s.coreAt k 0x0A → mem ≠ 2 →
    Runs (.opSlt k wait mem) s fun t =>
      (CoreNext s t k (if (s.raV k).toInt < (s.rbV k).toInt then 1 else 0) (1)) ∧
      Frame [0x1C0 + k / 8, 0x243] s ({ t with cores := s.cores, tap := s.tap, freeCount := s.freeCount })) ∧
  (∀ (s : State) (k wait mem : Nat),
    s.sound = true → s.coreAt k 0x0B → mem ≠ 2 →
    Runs (.opSltu k wait mem) s fun t =>
      (CoreNext s t k (if (s.raV k).toNat < (s.rbV k).toNat then 1 else 0) (1)) ∧
      Frame [0x1C0 + k / 8, 0x243] s ({ t with cores := s.cores, tap := s.tap, freeCount := s.freeCount })) ∧
  (∀ (s : State) (k wait mem : Nat),
    s.sound = true → s.coreAt k 0x0C → mem ≠ 2 →
    Runs (.opMin k wait mem) s fun t =>
      (CoreNext s t k (if (s.raV k).toInt ≤ (s.rbV k).toInt then s.raV k else s.rbV k) (1)) ∧
      Frame [0x1C0 + k / 8, 0x243] s ({ t with cores := s.cores, tap := s.tap, freeCount := s.freeCount })) ∧
  (∀ (s : State) (k wait mem : Nat),
    s.sound = true → s.coreAt k 0x0D → mem ≠ 2 →
    Runs (.opMax k wait mem) s fun t =>
      (CoreNext s t k (if (s.raV k).toInt ≤ (s.rbV k).toInt then s.rbV k else s.raV k) (1)) ∧
      Frame [0x1C0 + k / 8, 0x243] s ({ t with cores := s.cores, tap := s.tap, freeCount := s.freeCount })) ∧
  (∀ (s : State) (k wait mem : Nat),
    s.sound = true → s.coreAt k 0x10 → mem ≠ 2 →
    Runs (.opAddi k wait mem) s fun t =>
      (CoreNext s t k (s.raV k + s.immSV k) (1)) ∧
      Frame [0x1C0 + k / 8, 0x243] s ({ t with cores := s.cores, tap := s.tap, freeCount := s.freeCount })) ∧
  (∀ (s : State) (k wait mem : Nat),
    s.sound = true → s.coreAt k 0x11 → mem ≠ 2 →
    Runs (.opAndi k wait mem) s fun t =>
      (CoreNext s t k (s.raV k &&& s.immZV k) (1)) ∧
      Frame [0x1C0 + k / 8, 0x243] s ({ t with cores := s.cores, tap := s.tap, freeCount := s.freeCount })) ∧
  (∀ (s : State) (k wait mem : Nat),
    s.sound = true → s.coreAt k 0x12 → mem ≠ 2 →
    Runs (.opOri k wait mem) s fun t =>
      (CoreNext s t k (s.raV k ||| s.immZV k) (1)) ∧
      Frame [0x1C0 + k / 8, 0x243] s ({ t with cores := s.cores, tap := s.tap, freeCount := s.freeCount })) ∧
  (∀ (s : State) (k wait mem : Nat),
    s.sound = true → s.coreAt k 0x13 → mem ≠ 2 →
    Runs (.opXori k wait mem) s fun t =>
      (CoreNext s t k (s.raV k ^^^ s.immZV k) (1)) ∧
      Frame [0x1C0 + k / 8, 0x243] s ({ t with cores := s.cores, tap := s.tap, freeCount := s.freeCount })) ∧
  (∀ (s : State) (k wait mem : Nat),
    s.sound = true → s.coreAt k 0x14 → mem ≠ 2 →
    Runs (.opShli k wait mem) s fun t =>
      (CoreNext s t k (s.raV k <<< ((s.immZV k).toNat % 64)) (1)) ∧
      Frame [0x1C0 + k / 8, 0x243] s ({ t with cores := s.cores, tap := s.tap, freeCount := s.freeCount })) ∧
  (∀ (s : State) (k wait mem : Nat),
    s.sound = true → s.coreAt k 0x15 → mem ≠ 2 →
    Runs (.opShri k wait mem) s fun t =>
      (CoreNext s t k (s.raV k >>> ((s.immZV k).toNat % 64)) (1)) ∧
      Frame [0x1C0 + k / 8, 0x243] s ({ t with cores := s.cores, tap := s.tap, freeCount := s.freeCount })) ∧
  (∀ (s : State) (k wait mem : Nat),
    s.sound = true → s.coreAt k 0x16 → mem ≠ 2 →
    Runs (.opSari k wait mem) s fun t =>
      (CoreNext s t k ((s.raV k).sshiftRight ((s.immZV k).toNat % 64)) (1)) ∧
      Frame [0x1C0 + k / 8, 0x243] s ({ t with cores := s.cores, tap := s.tap, freeCount := s.freeCount })) ∧
  (∀ (s : State) (k wait mem : Nat),
    s.sound = true → s.coreAt k 0x17 → mem ≠ 2 →
    Runs (.opShin k wait mem) s fun t =>
      (CoreNext s t k ((s.raV k <<< 18) ||| s.immZV k) (1)) ∧
      Frame [0x1C0 + k / 8, 0x243] s ({ t with cores := s.cores, tap := s.tap, freeCount := s.freeCount }))

/-- What loads, stores, AADD, branches and jumps of the cores do. In canonical states, for a core whose job runs below
its limit at an instruction with that operation code (Table 10-7), its word not uncorrectable; the PC moves to the next
word where not said otherwise. LD8,  LD16,  LD32,  LD64: rd is the zero-extended little-endian value at ra + imm18, in
a region of Table 10-4 and aligned; 2 cycles, 4 and the wait from scratch. ST8,  ST16,  ST32,  ST64: the low bytes of
rd, little-endian, in data memory, scratch or the transmit window, and no other byte; 1 cycle, 2 and the wait to
scratch. AADD: rd takes the scratch word at ra, which takes the sum of its old value and rb; 6 cycles and the wait.
BEQ,  BNE,  BLT,  BGE (signed),  BLTU,  BGEU (unsigned): on the condition the PC becomes that of the next word plus the
signed offset, 2 cycles; else it moves on, 1 cycle. JAL: rd = PC + 1, PC = imm18[13:0]. JR: PC = ra[13:0]. -/
def Obligations.RecipeMemoryAndBranches : Prop :=
  (∀ (s : State) (k wait mem : Nat) (r : Region) (o : Nat),
    s.sound = true → s.coreAt k 0x18 → mem ≠ 2 → regionOf (s.raV k + s.immSV k).toNat 1 = some (r, o) → (s.raV k +
      s.immSV k).toNat % 1 = 0 → s.badWord k r o 1 (mem == 4) = none →
    Runs (.opLd8 k wait mem) s fun t =>
      (CoreNext s t k (BitVec.ofNat 64 (leNat (s.regionRead k r o 1))) (if r = .scratch then 4 + wait else 2)) ∧
      Frame [0x1C0 + k / 8, 0x243] s ({ t with cores := s.cores, tap := s.tap, freeCount := s.freeCount })) ∧
  (∀ (s : State) (k wait mem : Nat) (r : Region) (o : Nat),
    s.sound = true → s.coreAt k 0x19 → mem ≠ 2 → regionOf (s.raV k + s.immSV k).toNat 2 = some (r, o) → (s.raV k +
      s.immSV k).toNat % 2 = 0 → s.badWord k r o 2 (mem == 4) = none →
    Runs (.opLd16 k wait mem) s fun t =>
      (CoreNext s t k (BitVec.ofNat 64 (leNat (s.regionRead k r o 2))) (if r = .scratch then 4 + wait else 2)) ∧
      Frame [0x1C0 + k / 8, 0x243] s ({ t with cores := s.cores, tap := s.tap, freeCount := s.freeCount })) ∧
  (∀ (s : State) (k wait mem : Nat) (r : Region) (o : Nat),
    s.sound = true → s.coreAt k 0x1A → mem ≠ 2 → regionOf (s.raV k + s.immSV k).toNat 4 = some (r, o) → (s.raV k +
      s.immSV k).toNat % 4 = 0 → s.badWord k r o 4 (mem == 4) = none →
    Runs (.opLd32 k wait mem) s fun t =>
      (CoreNext s t k (BitVec.ofNat 64 (leNat (s.regionRead k r o 4))) (if r = .scratch then 4 + wait else 2)) ∧
      Frame [0x1C0 + k / 8, 0x243] s ({ t with cores := s.cores, tap := s.tap, freeCount := s.freeCount })) ∧
  (∀ (s : State) (k wait mem : Nat) (r : Region) (o : Nat),
    s.sound = true → s.coreAt k 0x1B → mem ≠ 2 → regionOf (s.raV k + s.immSV k).toNat 8 = some (r, o) → (s.raV k +
      s.immSV k).toNat % 8 = 0 → s.badWord k r o 8 (mem == 4) = none →
    Runs (.opLd64 k wait mem) s fun t =>
      (CoreNext s t k (BitVec.ofNat 64 (leNat (s.regionRead k r o 8))) (if r = .scratch then 4 + wait else 2)) ∧
      Frame [0x1C0 + k / 8, 0x243] s ({ t with cores := s.cores, tap := s.tap, freeCount := s.freeCount })) ∧
  (∀ (s : State) (k wait mem : Nat) (r : Region) (o : Nat),
    s.sound = true → s.coreAt k 0x1C → mem ≠ 2 → regionOf (s.raV k + s.immSV k).toNat 1 = some (r, o) → s.badWord k r o 1
      (mem == 4) = none → r ≠ .rx → r ≠ .ctx → (s.raV k + s.immSV k).toNat % 1 = 0 →
    Runs (.opSt8 k wait mem) s fun t =>
      (CoreDid s t k 0 0 ((s.kc k).pc + 1) (if r = .scratch then 2 + wait else 1) (if r = .tx then putBytes (s.txWin k) o
        (leBytes 1 (s.rdV k).toNat) else (s.kc k).tx)) ∧
      (∀ a, t.b2 a = if r.coded = true ∧ regionBase k r + o ≤ a ∧ a < regionBase k r + o + 1 then (leBytes 1 (s.rdV
        k).toNat).getD (a - (regionBase k r + o)) 0 else s.b2 a) ∧
      (Mended s t (regionBase k r + o) (if r.coded = true then 1 else 0)) ∧
      Frame [0x1C0 + k / 8, 0x243] s ({ t with
        cores := s.cores, tap := s.tap, freeCount := s.freeCount, bar2 := s.bar2, ktlBad := s.ktlBad })) ∧
  (∀ (s : State) (k wait mem : Nat) (r : Region) (o : Nat),
    s.sound = true → s.coreAt k 0x1D → mem ≠ 2 → regionOf (s.raV k + s.immSV k).toNat 2 = some (r, o) → s.badWord k r o 2
      (mem == 4) = none → r ≠ .rx → r ≠ .ctx → (s.raV k + s.immSV k).toNat % 2 = 0 →
    Runs (.opSt16 k wait mem) s fun t =>
      (CoreDid s t k 0 0 ((s.kc k).pc + 1) (if r = .scratch then 2 + wait else 1) (if r = .tx then putBytes (s.txWin k) o
        (leBytes 2 (s.rdV k).toNat) else (s.kc k).tx)) ∧
      (∀ a, t.b2 a = if r.coded = true ∧ regionBase k r + o ≤ a ∧ a < regionBase k r + o + 2 then (leBytes 2 (s.rdV
        k).toNat).getD (a - (regionBase k r + o)) 0 else s.b2 a) ∧
      (Mended s t (regionBase k r + o) (if r.coded = true then 2 else 0)) ∧
      Frame [0x1C0 + k / 8, 0x243] s ({ t with
        cores := s.cores, tap := s.tap, freeCount := s.freeCount, bar2 := s.bar2, ktlBad := s.ktlBad })) ∧
  (∀ (s : State) (k wait mem : Nat) (r : Region) (o : Nat),
    s.sound = true → s.coreAt k 0x1E → mem ≠ 2 → regionOf (s.raV k + s.immSV k).toNat 4 = some (r, o) → r ≠ .rx → r ≠
      .ctx → (s.raV k + s.immSV k).toNat % 4 = 0 →
    Runs (.opSt32 k wait mem) s fun t =>
      (CoreDid s t k 0 0 ((s.kc k).pc + 1) (if r = .scratch then 2 + wait else 1) (if r = .tx then putBytes (s.txWin k) o
        (leBytes 4 (s.rdV k).toNat) else (s.kc k).tx)) ∧
      (∀ a, t.b2 a = if r.coded = true ∧ regionBase k r + o ≤ a ∧ a < regionBase k r + o + 4 then (leBytes 4 (s.rdV
        k).toNat).getD (a - (regionBase k r + o)) 0 else s.b2 a) ∧
      (Mended s t (regionBase k r + o) (if r.coded = true then 4 else 0)) ∧
      Frame [0x1C0 + k / 8, 0x243] s ({ t with
        cores := s.cores, tap := s.tap, freeCount := s.freeCount, bar2 := s.bar2, ktlBad := s.ktlBad })) ∧
  (∀ (s : State) (k wait mem : Nat) (r : Region) (o : Nat),
    s.sound = true → s.coreAt k 0x1F → mem ≠ 2 → regionOf (s.raV k + s.immSV k).toNat 8 = some (r, o) → r ≠ .rx → r ≠
      .ctx → (s.raV k + s.immSV k).toNat % 8 = 0 →
    Runs (.opSt64 k wait mem) s fun t =>
      (CoreDid s t k 0 0 ((s.kc k).pc + 1) (if r = .scratch then 2 + wait else 1) (if r = .tx then putBytes (s.txWin k) o
        (leBytes 8 (s.rdV k).toNat) else (s.kc k).tx)) ∧
      (∀ a, t.b2 a = if r.coded = true ∧ regionBase k r + o ≤ a ∧ a < regionBase k r + o + 8 then (leBytes 8 (s.rdV
        k).toNat).getD (a - (regionBase k r + o)) 0 else s.b2 a) ∧
      (Mended s t (regionBase k r + o) (if r.coded = true then 8 else 0)) ∧
      Frame [0x1C0 + k / 8, 0x243] s ({ t with
        cores := s.cores, tap := s.tap, freeCount := s.freeCount, bar2 := s.bar2, ktlBad := s.ktlBad })) ∧
  (∀ (s : State) (k wait mem : Nat) (o : Nat),
    s.sound = true → s.coreAt k 0x2C → mem ≠ 2 → regionOf (s.raV k).toNat 8 = some (.scratch, o) → (s.raV k).toNat % 8 =
      0 → s.badWord k .scratch o 8 (mem == 4) = none →
    Runs (.opAadd k wait mem) s fun t =>
      (CoreNext s t k (BitVec.ofNat 64 (leNat (s.regionRead k .scratch o 8))) (6 + wait)) ∧
      (∀ a, t.b2 a = if regionBase k .scratch + o ≤ a ∧ a < regionBase k .scratch + o + 8 then (leBytes 8 (BitVec.ofNat
        64 (leNat (s.regionRead k .scratch o 8)) + s.rbV k).toNat).getD (a - (regionBase k .scratch + o)) 0 else s.b2 a) ∧
      Frame [0x1C0 + k / 8, 0x243] s ({ t with
        cores := s.cores, tap := s.tap, freeCount := s.freeCount, bar2 := s.bar2, ktlBad := s.ktlBad })) ∧
  (∀ (s : State) (k wait mem : Nat),
    s.sound = true → s.coreAt k 0x20 → mem ≠ 2 →
    Runs (.opBeq k wait mem) s fun t =>
      (CoreDid s t k 0 0 (if s.rdV k = s.raV k then ofSigned 14 (((s.kc k).pc + 1) % 16384 + toSigned 18 (immOf
        (s.recipeWord k))) else (s.kc k).pc + 1) (if s.rdV k = s.raV k then 2 else 1) (s.kc k).tx) ∧
      Frame [0x1C0 + k / 8, 0x243] s ({ t with cores := s.cores, tap := s.tap, freeCount := s.freeCount })) ∧
  (∀ (s : State) (k wait mem : Nat),
    s.sound = true → s.coreAt k 0x21 → mem ≠ 2 →
    Runs (.opBne k wait mem) s fun t =>
      (CoreDid s t k 0 0 (if s.rdV k ≠ s.raV k then ofSigned 14 (((s.kc k).pc + 1) % 16384 + toSigned 18 (immOf
        (s.recipeWord k))) else (s.kc k).pc + 1) (if s.rdV k ≠ s.raV k then 2 else 1) (s.kc k).tx) ∧
      Frame [0x1C0 + k / 8, 0x243] s ({ t with cores := s.cores, tap := s.tap, freeCount := s.freeCount })) ∧
  (∀ (s : State) (k wait mem : Nat),
    s.sound = true → s.coreAt k 0x22 → mem ≠ 2 →
    Runs (.opBlt k wait mem) s fun t =>
      (CoreDid s t k 0 0 (if (s.rdV k).toInt < (s.raV k).toInt then ofSigned 14 (((s.kc k).pc + 1) % 16384 + toSigned 18
        (immOf (s.recipeWord k))) else (s.kc k).pc + 1) (if (s.rdV k).toInt < (s.raV k).toInt then 2 else 1) (s.kc k).tx) ∧
      Frame [0x1C0 + k / 8, 0x243] s ({ t with cores := s.cores, tap := s.tap, freeCount := s.freeCount })) ∧
  (∀ (s : State) (k wait mem : Nat),
    s.sound = true → s.coreAt k 0x23 → mem ≠ 2 →
    Runs (.opBge k wait mem) s fun t =>
      (CoreDid s t k 0 0 (if (s.raV k).toInt ≤ (s.rdV k).toInt then ofSigned 14 (((s.kc k).pc + 1) % 16384 + toSigned 18
        (immOf (s.recipeWord k))) else (s.kc k).pc + 1) (if (s.raV k).toInt ≤ (s.rdV k).toInt then 2 else 1) (s.kc k).tx) ∧
      Frame [0x1C0 + k / 8, 0x243] s ({ t with cores := s.cores, tap := s.tap, freeCount := s.freeCount })) ∧
  (∀ (s : State) (k wait mem : Nat),
    s.sound = true → s.coreAt k 0x24 → mem ≠ 2 →
    Runs (.opBltu k wait mem) s fun t =>
      (CoreDid s t k 0 0 (if (s.rdV k).toNat < (s.raV k).toNat then ofSigned 14 (((s.kc k).pc + 1) % 16384 + toSigned 18
        (immOf (s.recipeWord k))) else (s.kc k).pc + 1) (if (s.rdV k).toNat < (s.raV k).toNat then 2 else 1) (s.kc k).tx) ∧
      Frame [0x1C0 + k / 8, 0x243] s ({ t with cores := s.cores, tap := s.tap, freeCount := s.freeCount })) ∧
  (∀ (s : State) (k wait mem : Nat),
    s.sound = true → s.coreAt k 0x25 → mem ≠ 2 →
    Runs (.opBgeu k wait mem) s fun t =>
      (CoreDid s t k 0 0 (if (s.raV k).toNat ≤ (s.rdV k).toNat then ofSigned 14 (((s.kc k).pc + 1) % 16384 + toSigned 18
        (immOf (s.recipeWord k))) else (s.kc k).pc + 1) (if (s.raV k).toNat ≤ (s.rdV k).toNat then 2 else 1) (s.kc k).tx) ∧
      Frame [0x1C0 + k / 8, 0x243] s ({ t with cores := s.cores, tap := s.tap, freeCount := s.freeCount })) ∧
  (∀ (s : State) (k wait mem : Nat),
    s.sound = true → s.coreAt k 0x26 → mem ≠ 2 →
    Runs (.opJal k wait mem) s fun t =>
      (CoreDid s t k (s.rdN k) (BitVec.ofNat 64 (((s.kc k).pc + 1) % 16384)) (immOf (s.recipeWord k)) 2 (s.kc k).tx) ∧
      Frame [0x1C0 + k / 8, 0x243] s ({ t with cores := s.cores, tap := s.tap, freeCount := s.freeCount })) ∧
  (∀ (s : State) (k wait mem : Nat),
    s.sound = true → s.coreAt k 0x27 → mem ≠ 2 →
    Runs (.opJr k wait mem) s fun t =>
      (CoreDid s t k 0 0 (s.raV k).toNat 2 (s.kc k).tx) ∧
      Frame [0x1C0 + k / 8, 0x243] s ({ t with cores := s.cores, tap := s.tap, freeCount := s.freeCount }))

/-- What the field and Signal Cache instructions of the cores do. In canonical states, for a core whose job runs below
its limit at an instruction with that operation code (Table 10-7), its word not uncorrectable; the PC moves to the next
word where not said otherwise. The signed operand of XFM and the 2 cycles of an SRCV beyond the bytes received are the
model's choice (log entry 56). EXTI,  EXT (descriptor in ra): rd is the field of the receive window, extended by S.
INSI,  INS: the field of the transmit window takes the low bits of rd; the window's other bits keep their values. SREC,
 PREC: rd is the word of the record that ra names (within its section, in the bank of the job); 3 cycles and the wait.
SVAL: its VALUE. PGET: a word of its PDU state. XFM: the low 64 bits of the transform entry rb applied to ra. PCNT:
LAST_CNT = rb[7:0], SEEN = 1. SSET of a source: its VALUE is rb in its format, nothing else of its state changes;  of a
sink with a new value also CHANGED of its PDU. SRCV of a source with no sink that has not timed out, within the bytes
received: VALUE is the field, LAST_RX the stamp, RECEIVED 1, UPDATES one more; the job's first counts PDU_RX; 6 cycles
and the wait. With VALID 0 or beyond the bytes received it does nothing. SFWD to one sink without a transform: it takes
the source's VALUE, and CHANGED of its PDU where that differs; 7 cycles and the wait. -/
def Obligations.RecipeFieldsAndSignals : Prop :=
  (∀ (s : State) (k wait mem : Nat),
    s.sound = true → s.coreAt k 0x28 → mem ≠ 2 → (fieldSpec (s.recipeWord k % 2 ^ 22)).outside = false →
    Runs (.opExti k wait mem) s fun t =>
      (CoreNext s t k (BitVec.ofNat 64 (extend (fieldSpec (s.recipeWord k % 2 ^ 22)).len (fieldSpec (s.recipeWord k % 2 ^
        22)).signed (fieldGet (s.rxWin k) (fieldSpec (s.recipeWord k % 2 ^ 22)).be (fieldSpec (s.recipeWord k % 2 ^
        22)).start (fieldSpec (s.recipeWord k % 2 ^ 22)).len))) (2)) ∧
      Frame [0x1C0 + k / 8, 0x243] s ({ t with cores := s.cores, tap := s.tap, freeCount := s.freeCount })) ∧
  (∀ (s : State) (k wait mem : Nat),
    s.sound = true → s.coreAt k 0x2A → mem ≠ 2 → (fieldSpec ((s.raV k).toNat % 2 ^ 22)).outside = false →
    Runs (.opExt k wait mem) s fun t =>
      (CoreNext s t k (BitVec.ofNat 64 (extend (fieldSpec ((s.raV k).toNat % 2 ^ 22)).len (fieldSpec ((s.raV k).toNat % 2
        ^ 22)).signed (fieldGet (s.rxWin k) (fieldSpec ((s.raV k).toNat % 2 ^ 22)).be (fieldSpec ((s.raV k).toNat % 2 ^
        22)).start (fieldSpec ((s.raV k).toNat % 2 ^ 22)).len))) (2)) ∧
      Frame [0x1C0 + k / 8, 0x243] s ({ t with cores := s.cores, tap := s.tap, freeCount := s.freeCount })) ∧
  (∀ (s : State) (k wait mem : Nat),
    s.sound = true → s.coreAt k 0x29 → mem ≠ 2 → (fieldSpec (s.recipeWord k % 2 ^ 22)).outside = false →
    Runs (.opInsi k wait mem) s fun t =>
      (CoreDid s t k 0 0 ((s.kc k).pc + 1) 2 (fieldPut (s.txWin k) (fieldSpec (s.recipeWord k % 2 ^ 22)).be (fieldSpec
        (s.recipeWord k % 2 ^ 22)).start (fieldSpec (s.recipeWord k % 2 ^ 22)).len (s.rdV k).toNat)) ∧
      Frame [0x1C0 + k / 8, 0x243] s ({ t with cores := s.cores, tap := s.tap, freeCount := s.freeCount })) ∧
  (∀ (s : State) (k wait mem : Nat),
    s.sound = true → s.coreAt k 0x2B → mem ≠ 2 → (fieldSpec ((s.raV k).toNat % 2 ^ 22)).outside = false →
    Runs (.opIns k wait mem) s fun t =>
      (CoreDid s t k 0 0 ((s.kc k).pc + 1) 2 (fieldPut (s.txWin k) (fieldSpec ((s.raV k).toNat % 2 ^ 22)).be (fieldSpec
        ((s.raV k).toNat % 2 ^ 22)).start (fieldSpec ((s.raV k).toNat % 2 ^ 22)).len (s.rdV k).toNat)) ∧
      Frame [0x1C0 + k / 8, 0x243] s ({ t with cores := s.cores, tap := s.tap, freeCount := s.freeCount })) ∧
  (∀ (s : State) (k wait mem : Nat),
    s.sound = true → s.coreAt k 0x30 → mem ≠ 2 →
    Runs (.opSrec k wait mem) s fun t =>
      (CoreNext s t k (BitVec.ofNat 64 (s.b2w (bankB (s.jobBank k) + 16 * (s.sigArg k (raOf (s.recipeWord k))) + 4 *
        (immOf (s.recipeWord k) % 4)))) (3 + wait)) ∧
      Frame [0x1C0 + k / 8, 0x243] s ({ t with cores := s.cores, tap := s.tap, freeCount := s.freeCount })) ∧
  (∀ (s : State) (k wait mem : Nat),
    s.sound = true → s.coreAt k 0x31 → mem ≠ 2 →
    Runs (.opPrec k wait mem) s fun t =>
      (CoreNext s t k (BitVec.ofNat 64 (s.b2w (pduOff (s.jobBank k) (s.pduArg k (raOf (s.recipeWord k))) + 4 * (immOf
        (s.recipeWord k) % 8)))) (3 + wait)) ∧
      Frame [0x1C0 + k / 8, 0x243] s ({ t with cores := s.cores, tap := s.tap, freeCount := s.freeCount })) ∧
  (∀ (s : State) (k wait mem : Nat),
    s.sound = true → s.coreAt k 0x34 → mem ≠ 2 →
    Runs (.opSval k wait mem) s fun t =>
      (CoreNext s t k (BitVec.ofNat 64 (s.sigVal (s.jobBank k) (s.sigArg k (raOf (s.recipeWord k))))) (3 + wait)) ∧
      Frame [0x1C0 + k / 8, 0x243] s ({ t with cores := s.cores, tap := s.tap, freeCount := s.freeCount })) ∧
  (∀ (s : State) (k wait mem : Nat),
    s.sound = true → s.coreAt k 0x37 → mem ≠ 2 →
    Runs (.opPget k wait mem) s fun t =>
      (CoreNext s t k (BitVec.ofNat 64 (s.b2w (pduSt (s.jobBank k) (s.pduArg k (raOf (s.recipeWord k))) + 4 * (immOf
        (s.recipeWord k) % 4)))) (3 + wait)) ∧
      Frame [0x1C0 + k / 8, 0x243] s ({ t with cores := s.cores, tap := s.tap, freeCount := s.freeCount })) ∧
  (∀ (s : State) (k wait mem : Nat),
    s.sound = true → s.coreAt k 0x36 → mem ≠ 2 →
    Runs (.opXfm k wait mem) s fun t =>
      (CoreNext s t k (BitVec.ofInt 64 (s.transform (s.jobBank k) (s.rbV k).toNat (s.raV k).toInt)) (4)) ∧
      Frame [0x1C0 + k / 8, 0x243] s ({ t with cores := s.cores, tap := s.tap, freeCount := s.freeCount })) ∧
  (∀ (s : State) (k wait mem : Nat) (b j : Nat),
    s.sound = true → s.coreAt k 0x38 → mem ≠ 2 → s.jobBank k = b → s.pduArg k (raOf (s.recipeWord k)) = j →
    Runs (.opPcnt k wait mem) s fun t =>
      (CoreDid s t k 0 0 ((s.kc k).pc + 1) (2 + wait) (s.kc k).tx) ∧
      (t.b2 (pduSt b j + 8) = BitVec.ofNat 8 ((s.rbV k).toNat % 256)) ∧
      (bitOf (t.b2 (pduSt b j + 9)).toNat 1 = true) ∧
      (bitOf (t.b2 (pduSt b j + 9)).toNat 0 = bitOf (s.b2 (pduSt b j + 9)).toNat 0) ∧
      (∀ a, (a < pduSt b j + 8 ∨ pduSt b j + 8 + 2 ≤ a) → t.b2 a = s.b2 a) ∧
      Frame [0x1C0 + k / 8, 0x243] s
        ({ t with cores := s.cores, tap := s.tap, freeCount := s.freeCount, bar2 := s.bar2 })) ∧
  (∀ (s : State) (k wait mem : Nat) (i : Nat),
    s.sound = true → s.coreAt k 0x35 → mem ≠ 2 → s.sigArg k (raOf (s.recipeWord k)) = i → (s.sigRec (s.jobBank k) i).sink
      = false →
    Runs (.opSset k wait mem) s fun t =>
      (CoreDid s t k 0 0 ((s.kc k).pc + 1) (2 + wait) (s.kc k).tx) ∧
      (t.sigVal (s.jobBank k) i = extend (s.sigRec (s.jobBank k) i).len (s.sigRec (s.jobBank k) i).signed (s.rbV
        k).toNat) ∧
      (∀ a, (a < sigSt (s.jobBank k) i ∨ sigSt (s.jobBank k) i + 8 ≤ a) → t.b2 a = s.b2 a) ∧
      Frame [0x1C0 + k / 8, 0x243] s
        ({ t with cores := s.cores, tap := s.tap, freeCount := s.freeCount, bar2 := s.bar2 })) ∧
  (∀ (s : State) (k wait mem : Nat) (i j : Nat),
    s.sound = true → s.coreAt k 0x35 → mem ≠ 2 → s.sigArg k (raOf (s.recipeWord k)) = i → (s.sigRec (s.jobBank k) i).sink
      = true → s.pduIx (s.jobBank k) (s.sigRec (s.jobBank k) i).pdu = j → extend (s.sigRec (s.jobBank k) i).len (s.sigRec
      (s.jobBank k) i).signed (s.rbV k).toNat ≠ s.sigVal (s.jobBank k) i →
    Runs (.opSset k wait mem) s fun t =>
      (CoreDid s t k 0 0 ((s.kc k).pc + 1) (2 + wait) (s.kc k).tx) ∧
      (t.sigVal (s.jobBank k) i = extend (s.sigRec (s.jobBank k) i).len (s.sigRec (s.jobBank k) i).signed (s.rbV
        k).toNat) ∧
      (t.pduChanged (s.jobBank k) j = true) ∧
      Frame [0x1C0 + k / 8, 0x243] s
        ({ t with cores := s.cores, tap := s.tap, freeCount := s.freeCount, bar2 := s.bar2 })) ∧
  (∀ (s : State) (k wait mem : Nat) (i : Nat),
    s.sound = true → s.coreAt k 0x32 → mem ≠ 2 → s.sigArg k (raOf (s.recipeWord k)) = i → (s.sigRec (s.jobBank k)
      i).valid = true → (s.sigRec (s.jobBank k) i).sink = false → (s.sigRec (s.jobBank k) i).next = 0x1FFFF → (fieldPos
      (s.sigRec (s.jobBank k) i).be (s.sigRec (s.jobBank k) i).start (s.sigRec (s.jobBank k) i).len).any (8 * (s.xr k
      3).toNat ≤ ·) = false → bitOf (s.sigFlags (s.jobBank k) i) 1 = false →
    Runs (.opSrcv k wait mem) s fun t =>
      (t.kc k = { s.kc k with
        pc := ((s.kc k).pc + 1) % 16384, cycles := (s.kc k).cycles + (6 + wait), counted := true }) ∧
      (t.sigVal (s.jobBank k) i = (extend (s.sigRec (s.jobBank k) i).len (s.sigRec (s.jobBank k) i).signed (fieldGet
        (s.rxWin k) (s.sigRec (s.jobBank k) i).be (s.sigRec (s.jobBank k) i).start (s.sigRec (s.jobBank k) i).len))) ∧
      (t.lastRx (s.jobBank k) i = (((s.kc k).job.map (·.stamp)).getD 0) % 2 ^ 32) ∧
      (bitOf (t.sigFlags (s.jobBank k) i) 0 = true) ∧
      (leNat (t.b2Bytes (sigSt (s.jobBank k) i + 14) 2) = (leNat (s.b2Bytes (sigSt (s.jobBank k) i + 14) 2) + 1) % 65536) ∧
      (t.gf sgB F.sigGlobal_PDU_RX_COUNT = (s.gf sgB F.sigGlobal_PDU_RX_COUNT + (if (s.kc k).counted then 0 else 1)) % 2
        ^ 32) ∧
      (∀ a, (a < sigSt (s.jobBank k) i ∨ sigSt (s.jobBank k) i + 16 ≤ a) → t.b2 a = s.b2 a) ∧
      Frame [0x1C0 + k / 8, 0x243, 0x1A0] s
        ({ t with cores := s.cores, tap := s.tap, freeCount := s.freeCount, bar2 := s.bar2, sig := s.sig })) ∧
  (∀ (s : State) (k wait mem : Nat) (i : Nat),
    s.sound = true → s.coreAt k 0x32 → mem ≠ 2 → s.sigArg k (raOf (s.recipeWord k)) = i → ((s.sigRec (s.jobBank k)
      i).valid = false ∨ ((s.sigRec (s.jobBank k) i).sink = false ∧ (fieldPos (s.sigRec (s.jobBank k) i).be (s.sigRec
      (s.jobBank k) i).start (s.sigRec (s.jobBank k) i).len).any (8 * (s.xr k 3).toNat ≤ ·) = true)) →
    Runs (.opSrcv k wait mem) s fun t =>
      (CoreDid s t k 0 0 ((s.kc k).pc + 1) (2 + wait) (s.kc k).tx) ∧
      Frame [0x1C0 + k / 8, 0x243] s ({ t with cores := s.cores, tap := s.tap, freeCount := s.freeCount })) ∧
  (∀ (s : State) (k wait mem : Nat) (i m : Nat),
    s.sound = true → s.coreAt k 0x33 → mem ≠ 2 → s.sigArg k (raOf (s.recipeWord k)) = i → (s.sigRec (s.jobBank k)
      i).valid = true → (s.sigRec (s.jobBank k) i).next ≠ 0x1FFFF → s.sigIx (s.jobBank k) (s.sigRec (s.jobBank k) i).next
      = m → (s.sigRec (s.jobBank k) m).next = 0x1FFFF → (s.sigRec (s.jobBank k) m).xform = 0 →
    Runs (.opSfwd k wait mem) s fun t =>
      (CoreDid s t k 0 0 ((s.kc k).pc + 1) (7 + wait) (s.kc k).tx) ∧
      (t.sigVal (s.jobBank k) m = extend (s.sigRec (s.jobBank k) m).len (s.sigRec (s.jobBank k) m).signed (ofSigned
        (s.sigRec (s.jobBank k) m).len (s.sigNum (s.jobBank k) i))) ∧
      ((t.sigVal (s.jobBank k) m ≠ s.sigVal (s.jobBank k) m → t.pduChanged (s.jobBank k) (s.pduIx (s.jobBank k) (s.sigRec
        (s.jobBank k) m).pdu) = true)) ∧
      Frame [0x1C0 + k / 8, 0x243] s
        ({ t with cores := s.cores, tap := s.tap, freeCount := s.freeCount, bar2 := s.bar2 }))

/-- What the check, transmit and closing instructions of the cores do. In canonical states, for a core whose job runs
below its limit at an instruction with that operation code (Table 10-7), its word not uncorrectable; the PC moves to
the next word where not said otherwise. E2EC of a PDU without E2E_EN: rd = 0.  With a right check value and a counter
that R287 takes (or SEEN 0): rd = 0, LAST_CNT the counter, SEEN 1; with a repeated counter rd = 1, counted in
E2E_CNT_ERR; with a wrong check value rd = 1, counted in E2E_CRC_ERR, the PDU state as it was. E2EP of a PDU without a
counter puts the check value of its coverage into the field;  with one, the next counter goes in first, and LAST_CNT
takes it. PASM: the window holds FILL and the valid sinks of the PDU, CHANGED is 0. SEND: the frames of the PDU (R289)
enter at F21 with their header, LAST_STAMP, COUNT and PDU_TX follow; while the output buffer is too full it waits a
cycle, counted in SEND_STALL; with its OUT_STREAM entry not valid it sends nothing. CVU CALC: rd is the check value of
the range,  FEED the context after it,  FINAL the value of a context,  STRIP 0 on a match, 1 otherwise,  APPEND writes
it behind the range. TIME: rd = TIME_NS. END: the job ends. An unlisted operation code raises the BADOP fault: the job
ends, CODE, PC and INFO are recorded. -/
def Obligations.RecipeChecksAndTransmit : Prop :=
  (∀ (s : State) (k wait uwait mem : Nat) (j : Nat),
    s.sound = true → s.coreAt k 0x39 → mem ≠ 2 → s.pduArg k (raOf (s.recipeWord k)) = j → (s.pduRec (s.jobBank k) j).e2e
      = false →
    Runs (.opE2ec k wait uwait mem) s fun t =>
      (CoreNext s t k (0) (2 + wait)) ∧
      Frame [0x1C0 + k / 8, 0x243] s ({ t with cores := s.cores, tap := s.tap, freeCount := s.freeCount })) ∧
  (∀ (s : State) (k wait uwait mem : Nat) (j cnt : Nat),
    s.sound = true → s.coreAt k 0x39 → mem ≠ 2 → mem ≠ 5 → mem ≠ 6 → s.pduArg k (raOf (s.recipeWord k)) = j → (s.pduRec
      (s.jobBank k) j).e2e = true → s.run .crc (s.pduRec (s.jobBank k) j).unit = true → s.crcUnit (s.pduRec (s.jobBank k)
      j).unit = .idle → (s.pduRec (s.jobBank k) j).crcPos + (s.crcCfg (s.pduRec (s.jobBank k) j).unit).bytes ≤ s.rxLen k
      → (s.crcCfg (s.pduRec (s.jobBank k) j).unit).unfield (slice (s.rxWin k) (s.pduRec (s.jobBank k) j).crcPos (s.crcCfg
      (s.pduRec (s.jobBank k) j).unit).bytes) = (s.crcCfg (s.pduRec (s.jobBank k) j).unit).calc (e2eCover (s.crcCfg
      (s.pduRec (s.jobBank k) j).unit) (s.pduRec (s.jobBank k) j) (s.rxWin k)) → fieldGet (s.rxWin k) false (s.pduRec
      (s.jobBank k) j).cntPos (s.pduRec (s.jobBank k) j).cntBits = cnt → (bitOf (s.b2 (pduSt (s.jobBank k) j + 9)).toNat
      1 = false ∨ (s.pduRec (s.jobBank k) j).cntBits = 0 ∨ ((cnt + 2 ^ 15 - (s.b2 (pduSt (s.jobBank k) j + 8)).toNat % 2
      ^ (s.pduRec (s.jobBank k) j).cntBits) % 2 ^ (s.pduRec (s.jobBank k) j).cntBits ≠ 0 ∧ (cnt + 2 ^ 15 - (s.b2 (pduSt
      (s.jobBank k) j + 8)).toNat % 2 ^ (s.pduRec (s.jobBank k) j).cntBits) % 2 ^ (s.pduRec (s.jobBank k) j).cntBits ≤
      (s.pduRec (s.jobBank k) j).maxDelta)) →
    Runs (.opE2ec k wait uwait mem) s fun t =>
      (CoreDid s t k (s.rdN k) (0) ((s.kc k).pc + 1) (5 + (s.crcCfg (s.pduRec (s.jobBank k) j).unit).cycles (e2eCover
        (s.crcCfg (s.pduRec (s.jobBank k) j).unit) (s.pduRec (s.jobBank k) j) (s.rxWin k)).length + wait) (s.kc k).tx) ∧
      (t.b2 (pduSt (s.jobBank k) j + 8) = BitVec.ofNat 8 cnt) ∧
      (bitOf (t.b2 (pduSt (s.jobBank k) j + 9)).toNat 1 = true) ∧
      (∀ a, (a < pduSt (s.jobBank k) j + 8 ∨ pduSt (s.jobBank k) j + 8 + 2 ≤ a) → t.b2 a = s.b2 a) ∧
      Frame [0x1C0 + k / 8, 0x243, 0x1A0, 0x200 + (s.pduRec (s.jobBank k) j).unit] s
        ({ t with cores := s.cores, tap := s.tap, freeCount := s.freeCount, bar2 := s.bar2 })) ∧
  (∀ (s : State) (k wait uwait mem : Nat) (j cnt : Nat),
    s.sound = true → s.coreAt k 0x39 → mem ≠ 2 → mem ≠ 5 → mem ≠ 6 → s.pduArg k (raOf (s.recipeWord k)) = j → (s.pduRec
      (s.jobBank k) j).e2e = true → s.run .crc (s.pduRec (s.jobBank k) j).unit = true → s.crcUnit (s.pduRec (s.jobBank k)
      j).unit = .idle → (s.pduRec (s.jobBank k) j).crcPos + (s.crcCfg (s.pduRec (s.jobBank k) j).unit).bytes ≤ s.rxLen k
      → (s.crcCfg (s.pduRec (s.jobBank k) j).unit).unfield (slice (s.rxWin k) (s.pduRec (s.jobBank k) j).crcPos (s.crcCfg
      (s.pduRec (s.jobBank k) j).unit).bytes) = (s.crcCfg (s.pduRec (s.jobBank k) j).unit).calc (e2eCover (s.crcCfg
      (s.pduRec (s.jobBank k) j).unit) (s.pduRec (s.jobBank k) j) (s.rxWin k)) → fieldGet (s.rxWin k) false (s.pduRec
      (s.jobBank k) j).cntPos (s.pduRec (s.jobBank k) j).cntBits = cnt → bitOf (s.b2 (pduSt (s.jobBank k) j + 9)).toNat 1
      = true → (s.pduRec (s.jobBank k) j).cntBits ≠ 0 → (cnt + 2 ^ 15 - (s.b2 (pduSt (s.jobBank k) j + 8)).toNat % 2 ^
      (s.pduRec (s.jobBank k) j).cntBits) % 2 ^ (s.pduRec (s.jobBank k) j).cntBits = 0 →
    Runs (.opE2ec k wait uwait mem) s fun t =>
      (CoreDid s t k (s.rdN k) (1) ((s.kc k).pc + 1) (5 + (s.crcCfg (s.pduRec (s.jobBank k) j).unit).cycles (e2eCover
        (s.crcCfg (s.pduRec (s.jobBank k) j).unit) (s.pduRec (s.jobBank k) j) (s.rxWin k)).length + wait) (s.kc k).tx) ∧
      (t.gf sgB F.sigGlobal_E2E_CNT_ERR_COUNT = min 0xFFFFFFFF (s.gf sgB F.sigGlobal_E2E_CNT_ERR_COUNT + 1)) ∧
      (∀ a, (a < pduSt (s.jobBank k) j + 8 ∨ pduSt (s.jobBank k) j + 8 + 2 ≤ a) → t.b2 a = s.b2 a) ∧
      Frame [0x1C0 + k / 8, 0x243, 0x1A0, 0x200 + (s.pduRec (s.jobBank k) j).unit] s
        ({ t with cores := s.cores, tap := s.tap, freeCount := s.freeCount, bar2 := s.bar2 })) ∧
  (∀ (s : State) (k wait uwait mem : Nat) (j : Nat),
    s.sound = true → s.coreAt k 0x39 → mem ≠ 2 → mem ≠ 5 → mem ≠ 6 → s.pduArg k (raOf (s.recipeWord k)) = j → (s.pduRec
      (s.jobBank k) j).e2e = true → s.run .crc (s.pduRec (s.jobBank k) j).unit = true → s.crcUnit (s.pduRec (s.jobBank k)
      j).unit = .idle → (s.pduRec (s.jobBank k) j).crcPos + (s.crcCfg (s.pduRec (s.jobBank k) j).unit).bytes ≤ s.rxLen k
      → ¬ ((s.crcCfg (s.pduRec (s.jobBank k) j).unit).unfield (slice (s.rxWin k) (s.pduRec (s.jobBank k) j).crcPos
      (s.crcCfg (s.pduRec (s.jobBank k) j).unit).bytes) = (s.crcCfg (s.pduRec (s.jobBank k) j).unit).calc (e2eCover
      (s.crcCfg (s.pduRec (s.jobBank k) j).unit) (s.pduRec (s.jobBank k) j) (s.rxWin k))) →
    Runs (.opE2ec k wait uwait mem) s fun t =>
      (CoreDid s t k (s.rdN k) (1) ((s.kc k).pc + 1) (5 + (s.crcCfg (s.pduRec (s.jobBank k) j).unit).cycles (e2eCover
        (s.crcCfg (s.pduRec (s.jobBank k) j).unit) (s.pduRec (s.jobBank k) j) (s.rxWin k)).length + wait) (s.kc k).tx) ∧
      (t.gf sgB F.sigGlobal_E2E_CRC_ERR_COUNT = min 0xFFFFFFFF (s.gf sgB F.sigGlobal_E2E_CRC_ERR_COUNT + 1)) ∧
      (∀ a, t.b2 a = s.b2 a) ∧
      Frame [0x1C0 + k / 8, 0x243, 0x1A0, 0x200 + (s.pduRec (s.jobBank k) j).unit] s
        ({ t with cores := s.cores, tap := s.tap, freeCount := s.freeCount, bar2 := s.bar2 })) ∧
  (∀ (s : State) (k wait uwait mem : Nat) (j : Nat),
    s.sound = true → s.coreAt k 0x3B → mem ≠ 2 → mem ≠ 5 → mem ≠ 6 → s.pduArg k (raOf (s.recipeWord k)) = j → (s.pduRec
      (s.jobBank k) j).e2e = true → s.run .crc (s.pduRec (s.jobBank k) j).unit = true → s.crcUnit (s.pduRec (s.jobBank k)
      j).unit = .idle → (s.pduRec (s.jobBank k) j).cntBits = 0 →
    Runs (.opE2ep k wait uwait mem) s fun t =>
      (CoreDid s t k 0 0 ((s.kc k).pc + 1) (5 + (s.crcCfg (s.pduRec (s.jobBank k) j).unit).cycles (e2eCover (s.crcCfg
        (s.pduRec (s.jobBank k) j).unit) (s.pduRec (s.jobBank k) j) (s.txWin k)).length + wait) (putBytes (s.txWin k)
        (s.pduRec (s.jobBank k) j).crcPos ((s.crcCfg (s.pduRec (s.jobBank k) j).unit).field ((s.crcCfg (s.pduRec
        (s.jobBank k) j).unit).calc (e2eCover (s.crcCfg (s.pduRec (s.jobBank k) j).unit) (s.pduRec (s.jobBank k) j)
        (s.txWin k)))))) ∧
      Frame [0x1C0 + k / 8, 0x243, 0x200 + (s.pduRec (s.jobBank k) j).unit] s
        ({ t with cores := s.cores, tap := s.tap, freeCount := s.freeCount })) ∧
  (∀ (s : State) (k wait uwait mem : Nat) (j c : Nat) (win : Bytes),
    s.sound = true → s.coreAt k 0x3B → mem ≠ 2 → mem ≠ 5 → mem ≠ 6 → s.pduArg k (raOf (s.recipeWord k)) = j → (s.pduRec
      (s.jobBank k) j).e2e = true → s.run .crc (s.pduRec (s.jobBank k) j).unit = true → s.crcUnit (s.pduRec (s.jobBank k)
      j).unit = .idle → (s.pduRec (s.jobBank k) j).cntBits ≠ 0 → ((s.b2 (pduSt (s.jobBank k) j + 8)).toNat + 1) % 2 ^
      (s.pduRec (s.jobBank k) j).cntBits = c → fieldPut (s.txWin k) false (s.pduRec (s.jobBank k) j).cntPos (s.pduRec
      (s.jobBank k) j).cntBits c = win →
    Runs (.opE2ep k wait uwait mem) s fun t =>
      (CoreDid s t k 0 0 ((s.kc k).pc + 1) (5 + (s.crcCfg (s.pduRec (s.jobBank k) j).unit).cycles (e2eCover (s.crcCfg
        (s.pduRec (s.jobBank k) j).unit) (s.pduRec (s.jobBank k) j) win).length + wait) (putBytes win (s.pduRec
        (s.jobBank k) j).crcPos ((s.crcCfg (s.pduRec (s.jobBank k) j).unit).field ((s.crcCfg (s.pduRec (s.jobBank k)
        j).unit).calc (e2eCover (s.crcCfg (s.pduRec (s.jobBank k) j).unit) (s.pduRec (s.jobBank k) j) win))))) ∧
      (t.b2 (pduSt (s.jobBank k) j + 8) = BitVec.ofNat 8 c) ∧
      (∀ a, (a < pduSt (s.jobBank k) j + 8 ∨ pduSt (s.jobBank k) j + 8 + 2 ≤ a) → t.b2 a = s.b2 a) ∧
      Frame [0x1C0 + k / 8, 0x243, 0x200 + (s.pduRec (s.jobBank k) j).unit] s
        ({ t with cores := s.cores, tap := s.tap, freeCount := s.freeCount, bar2 := s.bar2 })) ∧
  (∀ (s : State) (k wait mem : Nat) (j : Nat) (win : Bytes),
    s.sound = true → s.coreAt k 0x3A → mem ≠ 2 → s.pduArg k (raOf (s.recipeWord k)) = j → (s.pduSinks (s.jobBank k)
      (s.pduRec (s.jobBank k) j)).foldl (fun (x : Bytes) i => fieldPut x (s.sigRec (s.jobBank k) i).be (s.sigRec
      (s.jobBank k) i).start (s.sigRec (s.jobBank k) i).len (s.sigVal (s.jobBank k) i)) (putBytes (s.txWin k) 0
      (List.replicate (s.pduRec (s.jobBank k) j).len (s.pduRec (s.jobBank k) j).fill)) = win →
    Runs (.opPasm k wait mem) s fun t =>
      (t.kc k = { s.kc k with
        pc := ((s.kc k).pc + 1) % 16384, tx := win, cycles := (s.kc k).cycles + (4 + ((s.pduRec (s.jobBank k) j).len + 7)
        / 8 + 3 * (s.pduSinks (s.jobBank k) (s.pduRec (s.jobBank k) j)).length + wait), assembled := (s.kc k).assembled
        || ((((s.kc k).job.map (·.pdu)).getD 0) == j) }) ∧
      (t.pduChanged (s.jobBank k) j = false) ∧
      (∀ a, a ≠ pduSt (s.jobBank k) j + 9 → t.b2 a = s.b2 a) ∧
      Frame [0x1C0 + k / 8, 0x243] s
        ({ t with cores := s.cores, tap := s.tap, freeCount := s.freeCount, bar2 := s.bar2 })) ∧
  (∀ (s : State) (k wait mem : Nat) (j : Nat),
    s.sound = true → s.coreAt k 0x3C → mem ≠ 2 → s.pduArg k (raOf (s.recipeWord k)) = j → (s.pduRec (s.jobBank k) j).tx =
      true → s.on (sgB + 0x20 * (s.pduRec (s.jobBank k) j).stream) F.sigGlobal_OUT_STREAM_VALID = true → s.outBytes (k /
      8) + (s.streamFrames (s.pduRec (s.jobBank k) j).stream (pduMessages (s.pduRec (s.jobBank k) j) s.now ((s.txWin
      k).take (s.pduRec (s.jobBank k) j).len))).foldl (fun a f => a + 8 + f.length) 0 ≤ 32768 →
    Runs (.opSend k wait mem) s fun t =>
      (CoreDid s t k 0 0 ((s.kc k).pc + 1) 2 (s.kc k).tx) ∧
      ((t.fwd.waiting.map fun x => (x.src, x.hdr, x.bytes)) = (s.fwd.waiting.map fun x => (x.src, x.hdr, x.bytes)) ++
        (s.streamFrames (s.pduRec (s.jobBank k) j).stream (pduMessages (s.pduRec (s.jobBank k) j) s.now ((s.txWin k).take
        (s.pduRec (s.jobBank k) j).len))).map fun f => (21, busHdr 3 k 0 s.stamp, f)) ∧
      (t.b2w (pduSt (s.jobBank k) j) = s.stamp) ∧
      (t.b2w (pduSt (s.jobBank k) j + 12) = (s.b2w (pduSt (s.jobBank k) j + 12) + 1) % 2 ^ 32) ∧
      (t.gf sgB F.sigGlobal_PDU_TX_COUNT = (s.gf sgB F.sigGlobal_PDU_TX_COUNT + 1) % 2 ^ 32) ∧
      Frame [0x1C0 + k / 8, 0x243, 0x1A0] s ({ t with
        cores := s.cores, tap := s.tap, freeCount := s.freeCount, bar2 := s.bar2, sig := s.sig, fwd := s.fwd })) ∧
  (∀ (s : State) (k wait mem : Nat) (j : Nat),
    s.sound = true → s.coreAt k 0x3C → mem ≠ 2 → s.pduArg k (raOf (s.recipeWord k)) = j → (s.pduRec (s.jobBank k) j).tx =
      true → s.on (sgB + 0x20 * (s.pduRec (s.jobBank k) j).stream) F.sigGlobal_OUT_STREAM_VALID = true → 32768 <
      s.outBytes (k / 8) + (s.streamFrames (s.pduRec (s.jobBank k) j).stream (pduMessages (s.pduRec (s.jobBank k) j)
      s.now ((s.txWin k).take (s.pduRec (s.jobBank k) j).len))).foldl (fun a f => a + 8 + f.length) 0 →
    Runs (.opSend k wait mem) s fun t =>
      (t.cores = (s.setKc k { s.kc k with
        mid := some ⟨s.recipeWord k, s.stamp, (s.kc k).cycles⟩, cycles := (s.kc k).cycles + 1 }).cores) ∧
      (t.gf (ktB (k / 8)) F.ktl_SEND_STALL_COUNT = (s.gf (ktB (k / 8)) F.ktl_SEND_STALL_COUNT + 1) % 2 ^ 32) ∧
      Frame [0x1C0 + k / 8, 0x243] s ({ t with cores := s.cores, tap := s.tap, freeCount := s.freeCount })) ∧
  (∀ (s : State) (k wait mem : Nat) (j : Nat),
    s.sound = true → s.coreAt k 0x3C → mem ≠ 2 → s.pduArg k (raOf (s.recipeWord k)) = j → (s.pduRec (s.jobBank k) j).tx =
      true → s.on (sgB + 0x20 * (s.pduRec (s.jobBank k) j).stream) F.sigGlobal_OUT_STREAM_VALID = false →
    Runs (.opSend k wait mem) s fun t =>
      (CoreDid s t k 0 0 ((s.kc k).pc + 1) 2 (s.kc k).tx) ∧
      (t.fwd = s.fwd) ∧
      Frame [0x1C0 + k / 8, 0x243] s ({ t with cores := s.cores, tap := s.tap, freeCount := s.freeCount, sig := s.sig })) ∧
  (∀ (s : State) (k wait uwait mem : Nat) (u size base n : Nat) (r : Region),
    s.sound = true → s.coreAt k 0x3D → modeOf (s.recipeWord k) = 0 → mem ≠ 2 → mem ≠ 5 → mem ≠ 6 → bitsOf (s.recipeWord
      k) 13 10 = u → s.run .crc u = true → s.crcUnit u = .idle → cvuWindow (bitsOf (s.recipeWord k) 9 8) = (r, size,
      base) → (s.rbV k).toNat = n → (s.raV k).toNat + n ≤ size → s.badWord k r (s.raV k).toNat n (mem == 4) = none →
    Runs (.opCvuCalc k wait uwait mem) s fun t =>
      (CoreNext s t k (BitVec.ofNat 64 ((s.crcCfg u).calc (s.regionRead k r (s.raV k).toNat n))) (3 + (s.crcCfg u).cycles
        n + (if r = .scratch then wait else 0))) ∧
      Frame [0x1C0 + k / 8, 0x243, 0x200 + u] s ({ t with cores := s.cores, tap := s.tap, freeCount := s.freeCount })) ∧
  (∀ (s : State) (k wait uwait mem : Nat) (u size base n : Nat) (r : Region),
    s.sound = true → s.coreAt k 0x3D → modeOf (s.recipeWord k) = 1 → mem ≠ 2 → mem ≠ 5 → mem ≠ 6 → bitsOf (s.recipeWord
      k) 13 10 = u → s.run .crc u = true → s.crcUnit u = .idle → cvuWindow (bitsOf (s.recipeWord k) 9 8) = (r, size,
      base) → (s.rbV k).toNat = n → (s.raV k).toNat + n ≤ size → s.badWord k r (s.raV k).toNat n (mem == 4) = none →
    Runs (.opCvuFeed k wait uwait mem) s fun t =>
      (CoreNext s t k (BitVec.ofNat 64 ((s.crcCfg u).feedBytes ((s.rdV k).toNat % 2 ^ (s.crcCfg u).width) (s.regionRead k
        r (s.raV k).toNat n))) (3 + (s.crcCfg u).cycles n + (if r = .scratch then wait else 0))) ∧
      Frame [0x1C0 + k / 8, 0x243, 0x200 + u] s ({ t with cores := s.cores, tap := s.tap, freeCount := s.freeCount })) ∧
  (∀ (s : State) (k wait uwait mem : Nat) (u : Nat),
    s.sound = true → s.coreAt k 0x3D → modeOf (s.recipeWord k) = 2 → mem ≠ 2 → mem ≠ 5 → mem ≠ 6 → bitsOf (s.recipeWord
      k) 13 10 = u → s.run .crc u = true → s.crcUnit u = .idle →
    Runs (.opCvuFinal k wait uwait mem) s fun t =>
      (CoreNext s t k (BitVec.ofNat 64 ((s.crcCfg u).out (s.rdV k).toNat)) (2)) ∧
      Frame [0x1C0 + k / 8, 0x243, 0x200 + u] s ({ t with cores := s.cores, tap := s.tap, freeCount := s.freeCount })) ∧
  (∀ (s : State) (k wait uwait mem : Nat) (u size base n : Nat) (r : Region),
    s.sound = true → s.coreAt k 0x3D → modeOf (s.recipeWord k) = 3 → mem ≠ 2 → mem ≠ 5 → mem ≠ 6 → bitsOf (s.recipeWord
      k) 13 10 = u → s.run .crc u = true → s.crcUnit u = .idle → cvuWindow (bitsOf (s.recipeWord k) 9 8) = (r, size,
      base) → (s.rbV k).toNat = n → (s.raV k).toNat + n ≤ size → s.badWord k r (s.raV k).toNat n (mem == 4) = none →
      (s.crcCfg u).bytes ≤ n →
    Runs (.opCvuStrip k wait uwait mem) s fun t =>
      (CoreNext s t k (if (s.crcCfg u).unfield ((s.regionRead k r (s.raV k).toNat n).drop (n - (s.crcCfg u).bytes)) =
        (s.crcCfg u).calc ((s.regionRead k r (s.raV k).toNat n).take (n - (s.crcCfg u).bytes)) then 0 else 1) (3 +
        (s.crcCfg u).cycles (n - (s.crcCfg u).bytes) + (if r = .scratch then wait else 0))) ∧
      Frame [0x1C0 + k / 8, 0x243, 0x200 + u] s ({ t with cores := s.cores, tap := s.tap, freeCount := s.freeCount })) ∧
  (∀ (s : State) (k wait uwait mem : Nat) (u size base n : Nat) (r : Region),
    s.sound = true → s.coreAt k 0x3D → modeOf (s.recipeWord k) = 4 → mem ≠ 2 → mem ≠ 5 → mem ≠ 6 → bitsOf (s.recipeWord
      k) 13 10 = u → s.run .crc u = true → s.crcUnit u = .idle → cvuWindow (bitsOf (s.recipeWord k) 9 8) = (r, size,
      base) → (s.rbV k).toNat = n → (s.raV k).toNat + n + (s.crcCfg u).bytes ≤ size → s.badWord k r (s.raV k).toNat n
      (mem == 4) = none → r = .dmem ∨ r = .scratch → s.partBad k r ((s.raV k).toNat + n) (s.crcCfg u).bytes = none →
    Runs (.opCvuAppend k wait uwait mem) s fun t =>
      (CoreNext s t k (BitVec.ofNat 64 ((s.crcCfg u).calc (s.regionRead k r (s.raV k).toNat n))) (4 + (s.crcCfg u).cycles
        n + (if r = .scratch then wait else 0))) ∧
      (∀ a, t.b2 a = if regionBase k r + (s.raV k).toNat + n ≤ a ∧ a < regionBase k r + (s.raV k).toNat + n + (s.crcCfg
        u).bytes then ((s.crcCfg u).field ((s.crcCfg u).calc (s.regionRead k r (s.raV k).toNat n))).getD (a - (regionBase
        k r + (s.raV k).toNat + n)) 0 else s.b2 a) ∧
      (Mended s t (regionBase k r + (s.raV k).toNat + n) (s.crcCfg u).bytes) ∧
      Frame [0x1C0 + k / 8, 0x243, 0x200 + u] s ({ t with
        cores := s.cores, tap := s.tap, freeCount := s.freeCount, bar2 := s.bar2, ktlBad := s.ktlBad })) ∧
  (∀ (s : State) (k wait mem : Nat),
    s.sound = true → s.coreAt k 0x3E → mem ≠ 2 →
    Runs (.opTime k wait mem) s fun t =>
      (CoreNext s t k (BitVec.ofNat 64 s.now) (1)) ∧
      Frame [0x1C0 + k / 8, 0x243] s ({ t with cores := s.cores, tap := s.tap, freeCount := s.freeCount })) ∧
  (∀ (s : State) (k wait mem : Nat),
    s.sound = true → s.coreAt k 0x3F → mem ≠ 2 →
    Runs (.opEnd k wait mem) s fun t =>
      (t.cores = (s.setKc k
        { s.kc k with pc := ((s.kc k).pc + 1) % 16384, job := none, cycles := (s.kc k).cycles + 1 }).cores) ∧
      Frame [0x1C0 + k / 8, 0x243] s
        ({ t with cores := s.cores, tap := s.tap, freeCount := s.freeCount, units := s.units })) ∧
  (∀ (s : State) (k wait mem : Nat),
    s.sound = true → s.coreBegins k → unlisted (opOf (s.recipeWord k)) = true → mem ≠ 2 →
    Runs (.opBadop k wait mem) s fun t =>
      (CoreFaulted s t k 1 (s.recipeWord k)) ∧
      Frame [0x1C0 + k / 8, 0x243] s
        ({ t with cores := s.cores, tap := s.tap, freeCount := s.freeCount, units := s.units }))

/-- What a fault of an instruction of the cores does. In canonical states, for a core at the instruction named. The
instruction has no effect; after some cycles the job ends, CODE, PC and INFO are recorded with VALID, FAULTS counts,
the fault event is raised and the core is idle, or halted under HALT_ON_FAULT. An address in no region raises the ADDR
fault,  an unaligned one ALIGN.  A byte store into an uncorrectable word raises DMEM,  AADD outside scratch ADDR. A
field beyond position 16,383 raises the FIELD fault. SRCV of a sink raises ROLE,  SEND of a receive PDU the SEND fault.
CVU modes 5 to 7 raise UNIT,  as does a unit not in RUN. An uncorrectable instruction word raises IMEM. -/
def Obligations.RecipeFaults : Prop :=
  (∀ (s : State) (k wait mem : Nat),
    s.sound = true → s.coreAt k 0x1B → mem ≠ 2 → regionOf (s.raV k + s.immSV k).toNat 8 = none →
    Runs (.opLd64 k wait mem) s fun t =>
      (CoreFaulted s t k 3 (s.raV k + s.immSV k).toNat) ∧
      Frame [0x1C0 + k / 8, 0x243] s
        ({ t with cores := s.cores, tap := s.tap, freeCount := s.freeCount, units := s.units })) ∧
  (∀ (s : State) (k wait mem : Nat),
    s.sound = true → s.coreAt k 0x1F → mem ≠ 2 → (regionOf (s.raV k + s.immSV k).toNat 8).isSome = true → (regionOf
      (s.raV k + s.immSV k).toNat 8).map (·.1) ≠ some .rx → (regionOf (s.raV k + s.immSV k).toNat 8).map (·.1) ≠ some
      .ctx → (s.raV k + s.immSV k).toNat % 8 ≠ 0 →
    Runs (.opSt64 k wait mem) s fun t =>
      (CoreFaulted s t k 2 (s.raV k + s.immSV k).toNat) ∧
      Frame [0x1C0 + k / 8, 0x243] s
        ({ t with cores := s.cores, tap := s.tap, freeCount := s.freeCount, units := s.units })) ∧
  (∀ (s : State) (k wait mem : Nat) (o x : Nat),
    s.sound = true → s.coreAt k 0x1C → mem ≠ 2 → regionOf (s.raV k + s.immSV k).toNat 1 = some (.dmem, o) → s.badWord k
      .dmem o 1 (mem == 4) = some x →
    Runs (.opSt8 k wait mem) s fun t =>
      (CoreFaulted s t k 7 (s.raV k + s.immSV k).toNat) ∧
      (t.evPend (355 + 8 * (k / 8)) = true) ∧
      (x ∈ t.ktlBad) ∧
      Frame [0x1C0 + k / 8, 0x243] s ({ t with
        cores := s.cores, tap := s.tap, freeCount := s.freeCount, units := s.units, ktlBad := s.ktlBad })) ∧
  (∀ (s : State) (k wait mem : Nat),
    s.sound = true → s.coreAt k 0x2C → mem ≠ 2 → (regionOf (s.raV k).toNat 8).map (·.1) ≠ some .scratch →
    Runs (.opAadd k wait mem) s fun t =>
      (CoreFaulted s t k 3 (s.raV k).toNat) ∧
      Frame [0x1C0 + k / 8, 0x243] s
        ({ t with cores := s.cores, tap := s.tap, freeCount := s.freeCount, units := s.units })) ∧
  (∀ (s : State) (k wait mem : Nat),
    s.sound = true → s.coreAt k 0x2A → mem ≠ 2 → (fieldSpec ((s.raV k).toNat % 2 ^ 22)).outside = true →
    Runs (.opExt k wait mem) s fun t =>
      (CoreFaulted s t k 4 ((s.raV k).toNat % 2 ^ 22)) ∧
      Frame [0x1C0 + k / 8, 0x243] s
        ({ t with cores := s.cores, tap := s.tap, freeCount := s.freeCount, units := s.units })) ∧
  (∀ (s : State) (k wait mem : Nat) (i : Nat),
    s.sound = true → s.coreAt k 0x32 → mem ≠ 2 → s.sigArg k (raOf (s.recipeWord k)) = i → (s.sigRec (s.jobBank k)
      i).valid = true → (s.sigRec (s.jobBank k) i).sink = true →
    Runs (.opSrcv k wait mem) s fun t =>
      (CoreFaulted s t k 9 i) ∧
      Frame [0x1C0 + k / 8, 0x243] s
        ({ t with cores := s.cores, tap := s.tap, freeCount := s.freeCount, units := s.units })) ∧
  (∀ (s : State) (k wait mem : Nat) (j : Nat),
    s.sound = true → s.coreAt k 0x3C → mem ≠ 2 → s.pduArg k (raOf (s.recipeWord k)) = j → (s.pduRec (s.jobBank k) j).tx =
      false →
    Runs (.opSend k wait mem) s fun t =>
      (CoreFaulted s t k 11 j) ∧
      Frame [0x1C0 + k / 8, 0x243] s
        ({ t with cores := s.cores, tap := s.tap, freeCount := s.freeCount, units := s.units })) ∧
  (∀ (s : State) (k wait uwait mem : Nat) (u : Nat),
    s.sound = true → s.coreAt k 0x3D → 5 ≤ modeOf (s.recipeWord k) → mem ≠ 2 → bitsOf (s.recipeWord k) 13 10 = u →
    Runs (.opCvuCalc k wait uwait mem) s fun t =>
      (CoreFaulted s t k 8 u) ∧
      Frame [0x1C0 + k / 8, 0x243] s
        ({ t with cores := s.cores, tap := s.tap, freeCount := s.freeCount, units := s.units })) ∧
  (∀ (s : State) (k wait uwait mem : Nat) (u : Nat),
    s.sound = true → s.coreAt k 0x3D → modeOf (s.recipeWord k) = 2 → mem ≠ 2 → bitsOf (s.recipeWord k) 13 10 = u → s.run
      .crc u = false → s.crcUnit u = .idle →
    Runs (.opCvuFinal k wait uwait mem) s fun t =>
      (CoreFaulted s t k 8 u) ∧
      Frame [0x1C0 + k / 8, 0x243] s
        ({ t with cores := s.cores, tap := s.tap, freeCount := s.freeCount, units := s.units })) ∧
  (∀ (s : State) (k wait mem : Nat),
    s.sound = true → s.coreAt k 0x01 → mem = 2 →
    Runs (.opAdd k wait mem) s fun t =>
      (CoreFaulted s t k 6 (s.kc k).pc) ∧
      (t.evPend (355 + 8 * (k / 8)) = true) ∧
      Frame [0x1C0 + k / 8, 0x243] s ({ t with
        cores := s.cores, tap := s.tap, freeCount := s.freeCount, units := s.units, ktlBad := s.ktlBad }))

/-- What the dispatcher, job starts, the job limit and RESUME do. In canonical states. The bytes received beyond the
record's length (log entry 49), FRAG_ERR (log entry 54) and a job that has reached its limit (log entry 57) follow the
model's choices. KTL_DISPATCH_FRAME of a bridge frame (stream_id 0) with one Classical data frame, whose PDU the map of
its epoch's bank finds, of this cluster, with no rate limit, no node tracking and room: a receive job with the frame's
stamp, bus, identifier and bytes joins the queue; LAST_STAMP follows. A frame for another address is dropped, counted
in BAD_FRAME of cluster 0. KTL_FRAG_TIMEOUT discards the context, counted in FRAG_ERR. JOB_START: the oldest job whose
PDU no core runs starts on the lowest idle enabled core, at RECIPE + KIND, with the registers of Table 10-3 and 4
cycles counted. JOB_BUDGET_EXPIRY of a job that has run JOB_LIMIT cycles: the BUDGET fault. With PD3 on CORE_RESUME
returns a halted core to idle. -/
def Obligations.KettleCommands : Prop :=
  (∀ (s u : State) (f : EgFrame) (c bus time id seq b ep j : Nat) (ide : Bool) (d sa : Bytes),
    s.sound = true → s.takeOutput 21 0 = (u, some f) → c < 4 → u.run .ktl c = true → u.run .sigGlobal 0 = true →
      sa.length = 6 → d.length ≤ 8 → bus < 32 → seq < 256 → id < (if ide then 2 ^ 29 else 2 ^ 11) → 8 ≤ f.info.hdr.length
      → f.bytes = ntscfFrame ((u.macOf bgB F.brgGlobal_KTL_MAC_HI_MAC F.brgGlobal_KTL_MAC_LO_MAC).take 5 ++ [BitVec.ofNat
      8 c]) sa none seq [0, 0, 0, 0, 0, 0, 0, 0] (acfCan false bus time ⟨ide, id, d.length, 0, false, d⟩) → u.gf shB
      F.pipeShared_TPID_ALT_TPID ≠ 0x22F0 → u.epochOf (beAt f.info.hdr 4 4) = some (b, ep) → u.pduFind b 0 bus (b2n ide)
      id = some j → (u.pduRec b j).cluster = c → (u.pduRec b j).gapUs = 0 → (u.pduRec b j).nodeEn = false → ((u.cl
      c).queue.filter fun x => x.kind == 0).length < 48 → (u.cl c).queue.length < 64 →
    Runs (.ktlDispatchFrame 0) s fun t =>
      ((t.cl c).queue = (u.cl c).queue ++ [{ Job.plain 0 j b ep (beAt f.info.hdr 4 4) 0 with
        chan := bus, ident := id + 2 ^ 31 * b2n ide, data := d.take (u.pduRec b j).len }]) ∧
      (t.b2w (pduSt b j) = beAt f.info.hdr 4 4) ∧
      Frame [0x260, 0x27D, 0x1C0 + c, 0x1A0] s ({ t with egress := s.egress, clusters := s.clusters, bar2 := s.bar2 })) ∧
  (∀ (s u : State) (f : EgFrame) (c : Nat),
    s.sound = true → s.takeOutput 21 0 = (u, some f) → c = 0 → u.alive .ktl 0 = true → (withoutFcs f.bytes).take 5 ≠
      (u.macOf bgB F.brgGlobal_KTL_MAC_HI_MAC F.brgGlobal_KTL_MAC_LO_MAC).take 5 →
    Runs (.ktlDispatchFrame 0) s fun t =>
      (t.gf (ktB 0) F.ktl_BAD_FRAME_COUNT = min 0xFFFFFFFF (u.gf (ktB 0) F.ktl_BAD_FRAME_COUNT + 1)) ∧
      (t.clusters = u.clusters) ∧
      Frame [0x260, 0x27D, 0x1C0 + c, 0x1A0] s ({ t with egress := s.egress, clusters := s.clusters, bar2 := s.bar2 })) ∧
  (∀ (s : State) (c origin bus : Nat) (x : KtlCtx),
    s.sound = true → c < 4 → s.alive .ktl c = true → x ∈ (s.cl c).ctxs → x.origin = origin → x.ctx.bus = bus →
    Runs (.ktlFragTimeout c origin bus) s fun t =>
      ((t.cl c).ctxs = (s.cl c).ctxs.filter fun y => !(y.origin == origin && y.ctx.bus == bus)) ∧
      ((t.cl c).queue = (s.cl c).queue) ∧
      (t.gf (ktB c) F.ktl_FRAG_ERR_COUNT = min 0xFFFFFFFF (s.gf (ktB c) F.ktl_FRAG_ERR_COUNT + 1)) ∧
      Frame [0x1C0 + c] s ({ t with clusters := s.clusters })) ∧
  (∀ (s : State) (c n : Nat) (j : Job),
    s.sound = true → c < 4 → s.run .ktl c = true → s.nextJob c = some j → s.idleCore c = some n →
    Runs (.jobStart c) s fun t =>
      ((t.kc (8 * c + n)) = { s.kc (8 * c + n) with
        regs := j.regs, pc := ((s.pduRec j.bank j.pdu).recipe + j.kind) % 16384, job := some j, pdu := j.pdu, start :=
        s.now, cycles := 4, counted := false, assembled := false, began := s.ktlNow }) ∧
      (∀ m, m ≠ 8 * c + n → t.kc m = s.kc m) ∧
      ((t.cl c).queue = (s.cl c).queue.erase j) ∧
      ((j.kind = 0 → t.gf (ktB c) F.ktl_JOBS_RX_COUNT = (s.gf (ktB c) F.ktl_JOBS_RX_COUNT + 1) % 2 ^ 32)) ∧
      ((j.kind = 1 → t.gf (ktB c) F.ktl_JOBS_TMO_COUNT = (s.gf (ktB c) F.ktl_JOBS_TMO_COUNT + 1) % 2 ^ 32)) ∧
      ((j.kind = 2 → t.gf (ktB c) F.ktl_JOBS_TX_COUNT = (s.gf (ktB c) F.ktl_JOBS_TX_COUNT + 1) % 2 ^ 32)) ∧
      ((t.kc (8 * c + n)).regs = ([0, j.kind, j.pdu, if j.kind = 0 then j.data.length else 0, j.stamp, j.sig, j.epoch, 0,
        0, 0, 0, 0, 0, 0, 0, 0] : List Nat).map (BitVec.ofNat 64)) ∧
      Frame [0x1C0 + c] s ({ t with clusters := s.clusters, cores := s.cores })) ∧
  (∀ (s : State) (k : Nat),
    s.sound = true → s.coreRuns k = true → (s.kc k).mid = none → s.jobLimit k ≤ (s.kc k).cycles →
    Runs (.jobBudgetExpiry k) s fun t =>
      (CoreFaulted s t k 5 (s.kc k).pc) ∧
      Frame [0x1C0 + k / 8] s ({ t with cores := s.cores, units := s.units })) ∧
  (∀ (s : State) (k : Nat) (w : Word),
    s.sound = true → s.domOn 3 = true → k < 32 → s.alive .ktl (k / 8) = true → s.unwatched (ktB (k / 8) + 0x10C + 0x20 *
      (k % 8)) → w.getLsbD 0 = true → (s.kc k).halted = true →
    Runs (.coreResume k w) s fun t =>
      (t.cores = (s.setKc k { s.kc k with halted := false }).cores) ∧
      Frame [0x1C0 + k / 8] s ({ t with cores := s.cores }))

/-- A servo step applies −e to TIME_NS at one tick and nothing to INTEG and INCR. In canonical states with the clock page
in RUN. SERVO_SAMPLE of a sample e that steps (in ACQUIRE above STEP_THRESH; in TRACK or HOLDOVER above it, at most
STEP_MAX, with STEP_EN): TIME_NS with its fraction takes INCR − e, INTEG and INCR keep their values, STEP_CNT is one
more (wrapping), LAST_STEP is −e, and EV32 is pending. Beside this only what follows TIME_NS at a step tick changes:
gates, flips and pulse outputs. -/
def Obligations.ServoStep : Prop :=
  (∀ (s : State) (e : Int) (rest : List Int),
    s.sound = true → s.run .timeClock 0 = true → s.timed.samples = e :: rest → ((s.gf tcB F.timeClock_SERVO_STS_STATE = 1
      ∧ s.gf tcB F.timeClock_STEP_THRESH_NS < e.natAbs) ∨ (2 ≤ s.gf tcB F.timeClock_SERVO_STS_STATE ∧ s.gf tcB
      F.timeClock_STEP_THRESH_NS < e.natAbs ∧ e.natAbs ≤ s.gf tcB F.timeClock_STEP_MAX_NS ∧ s.gf tcB
      F.timeClock_SERVO_CTL_STEP_EN = 1)) →
    Runs (.servoSample) s fun t =>
      (t.time = BitVec.ofInt 92 ((s.time.toNat : Int) + s.gf tcB F.timeClock_INCR_INCR + (-e) * 2 ^ 28)) ∧
      (t.gf tcB F.timeClock_INTEG_LSB = s.gf tcB F.timeClock_INTEG_LSB) ∧
      (t.gf tcB F.timeClock_INCR_INCR = s.gf tcB F.timeClock_INCR_INCR) ∧
      (t.gf tcB F.timeClock_STEP_CNT_COUNT = (s.gf tcB F.timeClock_STEP_CNT_COUNT + 1) % 2 ^ 32) ∧
      (t.g64 tcB F.timeClock_LAST_STEP_LO_NS F.timeClock_LAST_STEP_HI_NS = ofSigned 64 ((-e))) ∧
      (t.evPend 32 = true) ∧
      Frame ([0x40, 0x42, 0xC2, 0x180, 0x1A0] ++ (List.range 16).map (0x268 + ·)) s ({ t with
        time := s.time, cycles := s.cycles, timed := s.timed, egress := s.egress, fwd := s.fwd, brg := s.brg, sig :=
        s.sig }))

/-- What the servo and host steps do. In canonical states with the clock page in RUN. SERVO_SAMPLE of a sample to which
the law applies: INTEG, INCR and LAST_E as R341 computes them, TIME_NS as it was, CONSEC 0; TRACK from TRACK or
HOLDOVER. In ACQUIRE the last of LOCK.CNT close samples leads to TRACK with EV34;  any other counts n, or zeroes it.
One above STEP_MAX in TRACK or HOLDOVER is refused: REFUSED, both counts and EV33; the state and INTEG stay, but at
REFUSE_LIM the servo goes to ACQUIRE with INTEG 0. SERVO_MODE_WRITE of MODE 1 in OFF leads to ACQUIRE with INTEG and n
0;  of MODE 0 to OFF, INCR as it stands. REACQUIRE leads to ACQUIRE with INTEG and n 0. CAPTURE_ABSENCE_TIMEOUT in
TRACK with SRC 1 or 2: HOLDOVER with INCR = 0x50000000 − INTEG, clamped. HOST_STEP_GO with FORCE, or of a STEP within
STEP_MAX, queues it;  a larger one without FORCE is refused. HOST_STEP_APPLY applies the oldest to TIME_NS at this
tick; counted, recorded, EV32. -/
def Obligations.ClockAndServo : Prop :=
  (∀ (s : State) (e : Int) (rest : List Int),
    s.sound = true → s.run .timeClock 0 = true → s.timed.samples = e :: rest → ((s.gf tcB F.timeClock_SERVO_STS_STATE = 1
      ∧ e.natAbs ≤ s.gf tcB F.timeClock_STEP_THRESH_NS) ∨ (2 ≤ s.gf tcB F.timeClock_SERVO_STS_STATE ∧ e.natAbs ≤ s.gf tcB
      F.timeClock_STEP_MAX_NS ∧ (e.natAbs ≤ s.gf tcB F.timeClock_STEP_THRESH_NS ∨ s.gf tcB F.timeClock_SERVO_CTL_STEP_EN
      = 0))) →
    Runs (.servoSample) s fun t =>
      (toSigned 32 (t.gf tcB F.timeClock_INTEG_LSB) = (max (-((s.gf tcB F.timeClock_INT_LIM_LSB : Nat) : Int)) (min
        ((s.gf tcB F.timeClock_INT_LIM_LSB : Nat) : Int) (toSigned 32 (s.gf tcB F.timeClock_INTEG_LSB) + Int.tdiv (e *
        (s.gf tcB F.timeClock_GAIN_KI : Nat)) 256)))) ∧
      (((t.gf tcB F.timeClock_INCR_INCR : Nat) : Int) = 0x50000000 + (max (-((s.gf tcB F.timeClock_ADJ_LIM_LSB : Nat) :
        Int)) (min ((s.gf tcB F.timeClock_ADJ_LIM_LSB : Nat) : Int) (-(Int.tdiv (e * (s.gf tcB F.timeClock_GAIN_KP :
        Nat)) 256 + toSigned 32 (t.gf tcB F.timeClock_INTEG_LSB)))))) ∧
      (t.g64 tcB F.timeClock_LAST_E_LO_NS F.timeClock_LAST_E_HI_NS = ofSigned 64 e) ∧
      (t.time = s.time) ∧
      (t.gf tcB F.timeClock_REFUSE_CNT_CONSEC = 0) ∧
      ((t.gf tcB F.timeClock_SERVO_STS_STATE = 1 ∨ t.gf tcB F.timeClock_SERVO_STS_STATE = 2)) ∧
      ((2 ≤ s.gf tcB F.timeClock_SERVO_STS_STATE → t.gf tcB F.timeClock_SERVO_STS_STATE = 2)) ∧
      Frame [0x40] s ({ t with timed := s.timed })) ∧
  (∀ (s : State) (e : Int) (rest : List Int),
    s.sound = true → s.run .timeClock 0 = true → s.timed.samples = e :: rest → s.gf tcB F.timeClock_SERVO_STS_STATE = 1 →
      e.natAbs ≤ s.gf tcB F.timeClock_STEP_THRESH_NS → e.natAbs ≤ s.gf tcB F.timeClock_LOCK_NS → s.timed.n + 1 = s.gf tcB
      F.timeClock_LOCK_CNT →
    Runs (.servoSample) s fun t =>
      (t.gf tcB F.timeClock_SERVO_STS_STATE = 2) ∧
      (t.evPend 34 = true) ∧
      Frame [0x40] s ({ t with timed := s.timed })) ∧
  (∀ (s : State) (e : Int) (rest : List Int),
    s.sound = true → s.run .timeClock 0 = true → s.timed.samples = e :: rest → s.gf tcB F.timeClock_SERVO_STS_STATE = 1 →
      e.natAbs ≤ s.gf tcB F.timeClock_STEP_THRESH_NS → (¬ e.natAbs ≤ s.gf tcB F.timeClock_LOCK_NS ∨ s.timed.n + 1 ≠ s.gf
      tcB F.timeClock_LOCK_CNT) →
    Runs (.servoSample) s fun t =>
      (t.gf tcB F.timeClock_SERVO_STS_STATE = 1) ∧
      (t.timed.n = if e.natAbs ≤ s.gf tcB F.timeClock_LOCK_NS then s.timed.n + 1 else 0) ∧
      Frame [0x40] s ({ t with timed := s.timed })) ∧
  (∀ (s : State) (e : Int) (rest : List Int) (a b : Nat),
    s.sound = true → s.run .timeClock 0 = true → s.timed.samples = e :: rest → 2 ≤ s.gf tcB F.timeClock_SERVO_STS_STATE →
      s.gf tcB F.timeClock_STEP_MAX_NS < e.natAbs → s.gf tcB F.timeClock_REFUSE_CNT_TOTAL = a → s.gf tcB
      F.timeClock_REFUSE_CNT_CONSEC = b →
    Runs (.servoSample) s fun t =>
      (t.gf tcB F.timeClock_SERVO_STS_REFUSED = 1) ∧
      (t.gf tcB F.timeClock_REFUSE_CNT_TOTAL = min 0xFFFF (a + 1)) ∧
      (t.gf tcB F.timeClock_REFUSE_CNT_CONSEC = min 0xFFFF (b + 1)) ∧
      (t.evPend 33 = true) ∧
      (t.time = s.time) ∧
      (t.gf tcB F.timeClock_INCR_INCR = s.gf tcB F.timeClock_INCR_INCR) ∧
      (((s.gf tcB F.timeClock_REFUSE_LIM_LIM = 0 ∨ min 0xFFFF (b + 1) < s.gf tcB F.timeClock_REFUSE_LIM_LIM) → t.gf tcB
        F.timeClock_SERVO_STS_STATE = s.gf tcB F.timeClock_SERVO_STS_STATE ∧ t.gf tcB F.timeClock_INTEG_LSB = s.gf tcB
        F.timeClock_INTEG_LSB)) ∧
      (((s.gf tcB F.timeClock_REFUSE_LIM_LIM ≠ 0 ∧ s.gf tcB F.timeClock_REFUSE_LIM_LIM ≤ min 0xFFFF (b + 1)) → t.gf tcB
        F.timeClock_SERVO_STS_STATE = 1 ∧ t.gf tcB F.timeClock_INTEG_LSB = 0)) ∧
      Frame [0x40] s ({ t with timed := s.timed })) ∧
  (∀ (s : State) (w : Word),
    s.sound = true → s.run .timeClock 0 = true → s.unwatched (tcB + 0x04C) → w.getLsbD 0 = true → w.getLsbD 16 = false →
      s.gf tcB F.timeClock_SERVO_STS_STATE = 0 → bitsOf w.toNat 2 1 ≤ 2 →
    Runs (.servoModeWrite w) s fun t =>
      (t.gf tcB F.timeClock_SERVO_CTL_MODE = 1) ∧
      (t.gf tcB F.timeClock_SERVO_STS_STATE = 1) ∧
      (t.gf tcB F.timeClock_INTEG_LSB = 0) ∧
      (t.timed.n = 0) ∧
      (t.gf tcB F.timeClock_SERVO_CTL_SRC = bitsOf w.toNat 2 1) ∧
      Frame [0x40] s ({ t with timed := s.timed })) ∧
  (∀ (s : State) (w : Word),
    s.sound = true → s.run .timeClock 0 = true → s.unwatched (tcB + 0x04C) → w.getLsbD 0 = false → s.gf tcB
      F.timeClock_SERVO_STS_STATE ≠ 0 →
    Runs (.servoModeWrite w) s fun t =>
      (t.gf tcB F.timeClock_SERVO_CTL_MODE = 0) ∧
      (t.gf tcB F.timeClock_SERVO_STS_STATE = 0) ∧
      (t.gf tcB F.timeClock_INCR_INCR = s.gf tcB F.timeClock_INCR_INCR) ∧
      Frame [0x40] s ({ t with timed := s.timed })) ∧
  (∀ (s : State) (w : Word),
    s.sound = true → s.run .timeClock 0 = true → s.unwatched (tcB + 0x04C) → w.getLsbD 0 = true → w.getLsbD 16 = true →
      s.gf tcB F.timeClock_SERVO_STS_STATE ≠ 0 →
    Runs (.reacquire w) s fun t =>
      (t.gf tcB F.timeClock_SERVO_STS_STATE = 1) ∧
      (t.gf tcB F.timeClock_INTEG_LSB = 0) ∧
      (t.timed.n = 0) ∧
      Frame [0x40] s ({ t with timed := s.timed })) ∧
  (∀ (s : State),
    s.sound = true → s.run .timeClock 0 = true → s.gf tcB F.timeClock_SERVO_STS_STATE = 2 → (s.gf tcB
      F.timeClock_SERVO_CTL_SRC = 1 ∨ s.gf tcB F.timeClock_SERVO_CTL_SRC = 2) → s.timed.samples = [] →
    Runs (.captureAbsenceTimeout) s fun t =>
      (t.gf tcB F.timeClock_SERVO_STS_STATE = 3) ∧
      (((t.gf tcB F.timeClock_INCR_INCR : Nat) : Int) = 0x50000000 + (max (-((s.gf tcB F.timeClock_ADJ_LIM_LSB : Nat) :
        Int)) (min ((s.gf tcB F.timeClock_ADJ_LIM_LSB : Nat) : Int) (-(toSigned 32 (s.gf tcB F.timeClock_INTEG_LSB)))))) ∧
      (t.evPend 34 = true) ∧
      Frame [0x40] s t) ∧
  (∀ (s : State) (w : Word),
    s.sound = true → s.run .timeClock 0 = true → s.unwatched (tcB + 0x070) → w.getLsbD 0 = true → (w.getLsbD 1 = true ∨
      (toSigned 64 (s.g64 tcB F.timeClock_STEP_LO_NS F.timeClock_STEP_HI_NS)).natAbs ≤ s.gf tcB F.timeClock_STEP_MAX_NS)
      →
    Runs (.hostStepGo w) s fun t =>
      (t.timed.steps = s.timed.steps ++ [(toSigned 64 (s.g64 tcB F.timeClock_STEP_LO_NS F.timeClock_STEP_HI_NS),
        w.getLsbD 1)]) ∧
      Frame [0x40] s ({ t with timed := s.timed })) ∧
  (∀ (s : State) (w : Word),
    s.sound = true → s.run .timeClock 0 = true → s.unwatched (tcB + 0x070) → w.getLsbD 0 = true → w.getLsbD 1 = false →
      s.gf tcB F.timeClock_STEP_MAX_NS < (toSigned 64 (s.g64 tcB F.timeClock_STEP_LO_NS F.timeClock_STEP_HI_NS)).natAbs →
    Runs (.hostStepGo w) s fun t =>
      (t.gf tcB F.timeClock_SERVO_STS_REFUSED = 1) ∧
      (t.gf tcB F.timeClock_REFUSE_CNT_TOTAL = min 0xFFFF (s.gf tcB F.timeClock_REFUSE_CNT_TOTAL + 1)) ∧
      (t.evPend 33 = true) ∧
      (t.timed = s.timed) ∧
      Frame [0x40] s ({ t with timed := s.timed })) ∧
  (∀ (s : State) (d : Int) (fo : Bool) (rest : List (Int × Bool)),
    s.sound = true → s.run .timeClock 0 = true → s.timed.steps = (d, fo) :: rest →
    Runs (.hostStepApply) s fun t =>
      (t.time = BitVec.ofInt 92 ((s.time.toNat : Int) + s.gf tcB F.timeClock_INCR_INCR + d * 2 ^ 28)) ∧
      (t.gf tcB F.timeClock_INTEG_LSB = s.gf tcB F.timeClock_INTEG_LSB) ∧
      (t.gf tcB F.timeClock_INCR_INCR = s.gf tcB F.timeClock_INCR_INCR) ∧
      (t.gf tcB F.timeClock_STEP_CNT_COUNT = (s.gf tcB F.timeClock_STEP_CNT_COUNT + 1) % 2 ^ 32) ∧
      (t.g64 tcB F.timeClock_LAST_STEP_LO_NS F.timeClock_LAST_STEP_HI_NS = ofSigned 64 (d)) ∧
      (t.evPend 32 = true) ∧
      (t.timed.steps = rest) ∧
      Frame ([0x40, 0x42, 0xC2, 0x180, 0x1A0] ++ (List.range 16).map (0x268 + ·)) s ({ t with
        time := s.time, cycles := s.cycles, timed := s.timed, egress := s.egress, fwd := s.fwd, brg := s.brg, sig :=
        s.sig }))

/-- What the gPTP engine does. Message layouts, averaging and units (PRESUMED, log entry 63), the way of frames not
consumed (log entry 64) and the sample that waits for the servo (log entry 65) are the model's choice. In canonical
states with the gPTP page in RUN and COPY 0 (message layouts of 802.1AS-2020: the model's, log entry 63).
PDELAY_REQ_RX: a Pdelay_Resp with the receive stamp enters at F22 for that port alone. PDELAY_REQ_SEND: the next
Pdelay_Req of an enabled port enters, counted in PDELAY_TX; an exchange still in progress counts in PDELAY_LOST.
PDELAY_RESP_RX of the Pdelay_Resp keeps its times;  of its Follow_Up it completes the exchange: LINK_DELAY from the
four times and the rate in NRR, which the first exchange leaves (log entry 63); PDELAY_OK follows its threshold. After
an earlier exchange NRR is the ratio of the times that have passed since it. SYNC_RX of a two-step Sync on the slave
port: SYNC_RX, SYNCED, its stamp kept, and a Sync to every master port with PDELAY_OK;  of its Follow_Up: LAST_OFFSET
and RATE, and a sample for the servo from instance SEL. Where the Sync it relays has left, the Follow_Up of that goes
out: the correction grown by the residence and the link delay at the rate, the rate in its TLV. SYNC_ORIGINATE of a
grandmaster instance: a Sync to each of its master ports with PDELAY_OK. SYNC_RECEIPT_TIMEOUT: SYNCED 0, SYNC_TMO
counted, EV36; for SEL with SRC 0 and no sample waiting TRACK goes to HOLDOVER. PTP_FRAME_TO_HOST: a frame that the
engine does not consume goes to the running ring HOST_Q. -/
def Obligations.GptpCommands : Prop :=
  (∀ (s u : State) (f : EgFrame) (m : Bytes),
    s.sound = true → s.takeOutput 22 0 = (u, some f) → s.run .timeGptp 0 = true → s.ptpOf f.bytes = some m → s.ptpKind
      f.info.src m = 1 → s.on tgB F.timeGptp_GPTP_CTL_COPY = false →
    Runs (.pdelayReqRx 0 []) s fun t =>
      ((t.fab.entering.map fun x => (x.info.fixed, x.info.targets, x.info.tc, x.bytes)) = (u.fab.entering.map fun x =>
        (x.info.fixed, x.info.targets, x.info.tc, x.bytes)) ++ [(true, 2 ^ f.info.src, s.gf tgB F.timeGptp_GPTP_CTL_TC,
        ptpFrame f.info.src (ptpMsg f.info.src 3 (byteAt m 4) 0x0208 0 (beAt m 30 2) 5 0x7F (ptpTime (s.extendStamp
        f.info.stamp) ++ slice m 20 10)))]) ∧
      Frame [0x260, 0x27E, 0x41] s ({ t with egress := s.egress, fab := s.fab })) ∧
  (∀ (s : State) (n : Nat),
    s.sound = true → n < 16 → s.alive .emac n = true → s.run .timeGptp 0 = true → bitOf (s.gf tgB
      F.timeGptp_PORT_EN_MASK) n = true →
    Runs (.pdelayReqSend n) s fun t =>
      ((t.fab.entering.map fun x => (x.info.fixed, x.info.targets, x.info.tc, x.bytes)) = (s.fab.entering.map fun x =>
        (x.info.fixed, x.info.targets, x.info.tc, x.bytes)) ++ [(true, 2 ^ n, s.gf tgB F.timeGptp_GPTP_CTL_TC, ptpFrame n
        (ptpMsg n 2 0 0x0008 0 (((s.pdPort n).seq + 1) % 65536) 5 (logInterval (s.gf tgB
        F.timeGptp_PDELAY_CTL_INTERVAL_MS)) (List.replicate 20 0)))]) ∧
      ((t.pdPort n).busy = true) ∧
      ((t.pdPort n).seq = ((s.pdPort n).seq + 1) % 65536) ∧
      (t.gf tgB (F.timeGptp_PDELAY_TX_COUNT.at (16 * n)) = (s.gf tgB (F.timeGptp_PDELAY_TX_COUNT.at (16 * n)) + 1) % 2 ^
        32) ∧
      (t.gf tgB (F.timeGptp_PDELAY_LOST_COUNT.at (16 * n)) = min 0xFFFFFFFF (s.gf tgB (F.timeGptp_PDELAY_LOST_COUNT.at
        (16 * n)) + b2n (s.pdPort n).busy)) ∧
      Frame [0x41] s ({ t with fab := s.fab, timed := s.timed })) ∧
  (∀ (s u : State) (f : EgFrame) (m : Bytes),
    s.sound = true → s.takeOutput 22 0 = (u, some f) → s.run .timeGptp 0 = true → s.ptpOf f.bytes = some m → s.ptpKind
      f.info.src m = 2 → s.on tgB F.timeGptp_GPTP_CTL_COPY = false → (s.pdPort f.info.src).busy = true → beAt m 30 2 =
      (s.pdPort f.info.src).seq → slice m 44 10 = portIdent f.info.src → byteAt m 0 % 16 = 3 →
    Runs (.pdelayRespRx 0 []) s fun t =>
      ((t.pdPort f.info.src) = { s.pdPort f.info.src with
        resp := some ((65536 * (ptpNs m 34 : Int) + toSigned 64 (beAt m 8 8)), s.extendStamp f.info.stamp) }) ∧
      Frame [0x260, 0x27E, 0x41] s ({ t with egress := s.egress, fab := s.fab, timed := s.timed })) ∧
  (∀ (s u : State) (f : EgFrame) (m : Bytes) (t1 t4 : Nat) (t2 : Int),
    s.sound = true → s.takeOutput 22 0 = (u, some f) → s.run .timeGptp 0 = true → s.ptpOf f.bytes = some m → s.ptpKind
      f.info.src m = 2 → s.on tgB F.timeGptp_GPTP_CTL_COPY = false → (s.pdPort f.info.src).busy = true → beAt m 30 2 =
      (s.pdPort f.info.src).seq → slice m 44 10 = portIdent f.info.src → byteAt m 0 % 16 = 10 → (s.pdPort f.info.src).t1
      = some t1 → (s.pdPort f.info.src).resp = some (t2, t4) → (s.pdPort f.info.src).last = none →
    Runs (.pdelayRespRx 0 []) s fun t =>
      ((t.pdPort f.info.src).busy = false) ∧
      ((t.pdPort f.info.src).missed = some 0) ∧
      ((t.pdPort f.info.src).last = some ((65536 * (ptpNs m 34 : Int) + toSigned 64 (beAt m 8 8)), t4)) ∧
      (t.gf tgB (F.timeGptp_NRR_RATE.at (16 * f.info.src)) = s.gf tgB (F.timeGptp_NRR_RATE.at (16 * f.info.src))) ∧
      (t.gf tgB (F.timeGptp_LINK_DELAY_NS.at (16 * f.info.src)) = (Int.tdiv (65536 * ((t4 : Int) - t1) + Int.tdiv ((65536
        * ((t4 : Int) - t1)) * s.linkRate f.info.src) (2 ^ 41) - ((65536 * (ptpNs m 34 : Int) + toSigned 64 (beAt m 8 8))
        - t2)) (2 * 65536)).toNat % 2 ^ 32) ∧
      (bitOf (t.gf tgB F.timeGptp_PDELAY_OK_MASK) f.info.src = decide (t.gf tgB (F.timeGptp_LINK_DELAY_NS.at (16 *
        f.info.src)) ≤ s.gf tgB F.timeGptp_NEIGHBOR_THRESH_NS)) ∧
      Frame [0x260, 0x27E, 0x41] s ({ t with egress := s.egress, timed := s.timed })) ∧
  (∀ (s u : State) (f : EgFrame) (m : Bytes) (t1 t4 u4 : Nat) (t2 u3 : Int),
    s.sound = true → s.takeOutput 22 0 = (u, some f) → s.run .timeGptp 0 = true → s.ptpOf f.bytes = some m → s.ptpKind
      f.info.src m = 2 → s.on tgB F.timeGptp_GPTP_CTL_COPY = false → (s.pdPort f.info.src).busy = true → beAt m 30 2 =
      (s.pdPort f.info.src).seq → slice m 44 10 = portIdent f.info.src → byteAt m 0 % 16 = 10 → (s.pdPort f.info.src).t1
      = some t1 → (s.pdPort f.info.src).resp = some (t2, t4) → (s.pdPort f.info.src).last = some (u3, u4) → u4 < t4 →
    Runs (.pdelayRespRx 0 []) s fun t =>
      ((t.pdPort f.info.src).busy = false) ∧
      ((t.pdPort f.info.src).missed = some 0) ∧
      ((t.pdPort f.info.src).last = some ((65536 * (ptpNs m 34 : Int) + toSigned 64 (beAt m 8 8)), t4)) ∧
      (t.gf tgB (F.timeGptp_NRR_RATE.at (16 * f.info.src)) = ofSigned 32 (rateRatio ((65536 * (ptpNs m 34 : Int) +
        toSigned 64 (beAt m 8 8)) - u3) (65536 * ((t4 : Int) - u4)))) ∧
      (t.gf tgB (F.timeGptp_LINK_DELAY_NS.at (16 * f.info.src)) = (Int.tdiv (65536 * ((t4 : Int) - t1) + Int.tdiv ((65536
        * ((t4 : Int) - t1)) * rateRatio ((65536 * (ptpNs m 34 : Int) + toSigned 64 (beAt m 8 8)) - u3) (65536 * ((t4 :
        Int) - u4))) (2 ^ 41) - ((65536 * (ptpNs m 34 : Int) + toSigned 64 (beAt m 8 8)) - t2)) (2 * 65536)).toNat % 2 ^
        32) ∧
      (bitOf (t.gf tgB F.timeGptp_PDELAY_OK_MASK) f.info.src = decide (t.gf tgB (F.timeGptp_LINK_DELAY_NS.at (16 *
        f.info.src)) ≤ s.gf tgB F.timeGptp_NEIGHBOR_THRESH_NS)) ∧
      Frame [0x260, 0x27E, 0x41] s ({ t with egress := s.egress, timed := s.timed })) ∧
  (∀ (s u : State) (f : EgFrame) (m : Bytes) (d : Nat),
    s.sound = true → s.takeOutput 22 0 = (u, some f) → s.run .timeGptp 0 = true → s.ptpOf f.bytes = some m → s.ptpKind
      f.info.src m = 3 → s.on tgB F.timeGptp_GPTP_CTL_COPY = false → s.instOf (byteAt m 4) = some d → byteAt m 0 % 16 = 0
      → bitOf (byteAt m 6) 1 = true → s.ginst d F.timeGptp_INST_CTL_GM = 0 → s.ginst d F.timeGptp_INST_CTL_SLAVE_PORT =
      f.info.src → bitOf (s.gf tgB F.timeGptp_PDELAY_OK_MASK) f.info.src = true →
    Runs (.syncRx 0 []) s fun t =>
      (t.gf tgB (F.timeGptp_SYNC_RX_COUNT.at (64 * d)) = (s.gf tgB (F.timeGptp_SYNC_RX_COUNT.at (64 * d)) + 1) % 2 ^ 32) ∧
      (t.gf tgB (F.timeGptp_INST_CTL_SYNCED.at (64 * d)) = 1) ∧
      ((d, ⟨beAt m 30 2, s.extendStamp f.info.stamp, toSigned 64 (beAt m 8 8)⟩) ∈ t.timed.syncIn) ∧
      ((t.fab.entering.map fun x => (x.info.fixed, x.info.targets, x.info.tc, x.bytes)) = (u.fab.entering.map fun x =>
        (x.info.fixed, x.info.targets, x.info.tc, x.bytes)) ++ (s.masterPorts d).map fun n => (true, 2 ^ n, s.gf tgB
        F.timeGptp_GPTP_CTL_TC, ptpFrame n (ptpMsg n 0 (s.ginst d F.timeGptp_INST_CTL_DOMAIN_NUM) 0x0208 0 (look (fun _
        => 0) s.timed.syncSeq d) 0 (logInterval (s.ginst d F.timeGptp_SYNC_CTL_INTERVAL_MS)) (List.replicate 10 0)))) ∧
      Frame [0x260, 0x27E, 0x41] s ({ t with egress := s.egress, fab := s.fab, timed := s.timed })) ∧
  (∀ (s u : State) (f : EgFrame) (m : Bytes) (d : Nat) (x : SyncIn),
    s.sound = true → s.takeOutput 22 0 = (u, some f) → s.run .timeGptp 0 = true → s.ptpOf f.bytes = some m → s.ptpKind
      f.info.src m = 3 → s.on tgB F.timeGptp_GPTP_CTL_COPY = false → s.instOf (byteAt m 4) = some d → byteAt m 0 % 16 = 8
      → s.ginst d F.timeGptp_INST_CTL_GM = 0 → s.ginst d F.timeGptp_INST_CTL_SLAVE_PORT = f.info.src → bitOf (s.gf tgB
      F.timeGptp_PDELAY_OK_MASK) f.info.src = true → s.timed.syncIn = [(d, x)] → x.seq = beAt m 30 2 → s.timed.syncOut =
      [] →
    Runs (.syncRx 0 []) s fun t =>
      (t.gf tgB (F.timeGptp_LAST_OFFSET_LO_NS.at (64 * d)) = ofSigned 64 (Int.tdiv (65536 * ((x.stamp : Int) - (ptpNs m
        34 : Nat) - (s.gf tgB (F.timeGptp_LINK_DELAY_NS.at (16 * f.info.src)) : Nat)) - (x.corr + toSigned 64 (beAt m 8
        8))) 65536) % 2 ^ 32) ∧
      (t.gf tgB (F.timeGptp_LAST_OFFSET_HI_NS.at (64 * d)) = ofSigned 64 (Int.tdiv (65536 * ((x.stamp : Int) - (ptpNs m
        34 : Nat) - (s.gf tgB (F.timeGptp_LINK_DELAY_NS.at (16 * f.info.src)) : Nat)) - (x.corr + toSigned 64 (beAt m 8
        8))) 65536) / 2 ^ 32) ∧
      (t.gf tgB (F.timeGptp_RATE_RATE.at (64 * d)) = ofSigned 32 (csroOf m + toSigned 32 (s.gf tgB
        (F.timeGptp_NRR_RATE.at (16 * f.info.src))))) ∧
      (t.timed.samples = s.timed.samples ++ (if d = s.gf tcB F.timeClock_SERVO_CTL_SEL ∧ s.gf tcB
        F.timeClock_SERVO_CTL_SRC = 0 ∧ s.gf tcB F.timeClock_SERVO_STS_STATE ≠ 0 then [Int.tdiv (65536 * ((x.stamp : Int)
        - (ptpNs m 34 : Nat) - (s.gf tgB (F.timeGptp_LINK_DELAY_NS.at (16 * f.info.src)) : Nat)) - (x.corr + toSigned 64
        (beAt m 8 8))) 65536] else [])) ∧
      (t.timed.syncIn = []) ∧
      Frame [0x260, 0x27E, 0x41] s ({ t with egress := s.egress, timed := s.timed })) ∧
  (∀ (s u : State) (f : EgFrame) (m : Bytes) (d tx : Nat) (x : SyncIn) (y : SyncOut) (stay : Int),
    s.sound = true → s.takeOutput 22 0 = (u, some f) → s.run .timeGptp 0 = true → s.ptpOf f.bytes = some m → s.ptpKind
      f.info.src m = 3 → s.on tgB F.timeGptp_GPTP_CTL_COPY = false → s.instOf (byteAt m 4) = some d → byteAt m 0 % 16 = 8
      → s.ginst d F.timeGptp_INST_CTL_SLAVE_PORT = f.info.src → bitOf (s.gf tgB F.timeGptp_PDELAY_OK_MASK) f.info.src =
      true → s.timed.syncIn = [(d, x)] → x.seq = beAt m 30 2 → s.timed.syncOut = [y] → y.inst = d → y.gm = false → y.rx =
      beAt m 30 2 → y.tx = some tx → y.info = none → stay = 65536 * ((tx : Int) - x.stamp + s.gf tgB
      (F.timeGptp_LINK_DELAY_NS.at (16 * f.info.src))) →
    Runs (.syncRx 0 []) s fun t =>
      ((t.fab.entering.map fun x => (x.info.fixed, x.info.targets, x.info.tc, x.bytes)) = (u.fab.entering.map fun x =>
        (x.info.fixed, x.info.targets, x.info.tc, x.bytes)) ++ [(true, 2 ^ y.port, s.gf tgB F.timeGptp_GPTP_CTL_TC,
        ptpFrame y.port (ptpMsg y.port 8 (s.ginst d F.timeGptp_INST_CTL_DOMAIN_NUM) 0x0008 (x.corr + toSigned 64 (beAt m
        8 8) + stay + Int.tdiv (stay * (csroOf m + s.linkRate f.info.src)) (2 ^ 41)) y.seq 2 (logInterval (s.ginst d
        F.timeGptp_SYNC_CTL_INTERVAL_MS)) (ptpTime (ptpNs m 34) ++ followTlv (csroOf m + s.linkRate f.info.src))))]) ∧
      (t.timed.syncOut = []) ∧
      Frame [0x260, 0x27E, 0x41] s ({ t with egress := s.egress, fab := s.fab, timed := s.timed })) ∧
  (∀ (s : State) (d : Nat),
    s.sound = true → d < 4 → s.run .timeGptp 0 = true → s.ginst d F.timeGptp_INST_CTL_EN = 1 → s.ginst d
      F.timeGptp_INST_CTL_GM = 1 →
    Runs (.syncOriginate d) s fun t =>
      ((t.fab.entering.map fun x => (x.info.fixed, x.info.targets, x.info.tc, x.bytes)) = (s.fab.entering.map fun x =>
        (x.info.fixed, x.info.targets, x.info.tc, x.bytes)) ++ (s.masterPorts d).map fun n => (true, 2 ^ n, s.gf tgB
        F.timeGptp_GPTP_CTL_TC, ptpFrame n (ptpMsg n 0 (s.ginst d F.timeGptp_INST_CTL_DOMAIN_NUM) 0x0208 0 (look (fun _
        => 0) s.timed.syncSeq d) 0 (logInterval (s.ginst d F.timeGptp_SYNC_CTL_INTERVAL_MS)) (List.replicate 10 0)))) ∧
      (look (fun _ => 0) t.timed.syncSeq d = (look (fun _ => 0) s.timed.syncSeq d + 1) % 65536) ∧
      Frame [] s ({ t with fab := s.fab, timed := s.timed })) ∧
  (∀ (s : State) (d : Nat),
    s.sound = true → d < 4 → s.alive .timeGptp 0 = true → s.ginst d F.timeGptp_INST_CTL_SYNCED = 1 → s.alive .timeClock 0
      = true →
    Runs (.syncReceiptTimeout d) s fun t =>
      (t.ginst d F.timeGptp_INST_CTL_SYNCED = 0) ∧
      (t.gf tgB (F.timeGptp_SYNC_TMO_COUNT.at (64 * d)) = min 0xFFFFFFFF (s.gf tgB (F.timeGptp_SYNC_TMO_COUNT.at (64 *
        d)) + 1)) ∧
      (t.evPend 36 = true) ∧
      (t.gf tcB F.timeClock_SERVO_STS_STATE = if d = s.gf tcB F.timeClock_SERVO_CTL_SEL ∧ s.gf tcB
        F.timeClock_SERVO_CTL_SRC = 0 ∧ s.timed.samples = [] ∧ s.gf tcB F.timeClock_SERVO_STS_STATE = 2 then 3 else s.gf
        tcB F.timeClock_SERVO_STS_STATE) ∧
      Frame [0x40, 0x41] s t) ∧
  (∀ (s u : State) (f : EgFrame) (n : Nat) (posted : Bytes),
    s.sound = true → s.takeOutput 22 0 = (u, some f) → ((s.ptpOf f.bytes).map (s.ptpKind f.info.src)).getD 0 = 0 → s.gf
      tgB F.timeGptp_GPTP_CTL_HOST_Q = n → s.queueBusy n = false → s.queueRuns n = true → s.run .hostGlobal 0 = true →
      (s.hq n).tx = false → (s.hq n).fifo = false → f.bad = false → 0 < (withoutFcs f.bytes).length → (withoutFcs
      f.bytes).length ≤ (s.hq n).bufLen → s.qf n F.hostQueue_HEAD_INDEX < (s.hq n).size → s.qf n F.hostQueue_TAIL_INDEX <
      (s.hq n).size → s.qf n F.hostQueue_TAIL_INDEX ≠ s.qf n F.hostQueue_HEAD_INDEX →
    Runs (.ptpFrameToHost 0 posted) s fun t =>
      (.hostWrite (s.hq n).hport (leAt posted 0 8) (withoutFcs f.bytes) ∈ t.out) ∧
      (t.qf n F.hostQueue_HEAD_INDEX = (s.qf n F.hostQueue_HEAD_INDEX + 1) % (s.hq n).size) ∧
      (t.qf n F.hostQueue_FRAMES_COUNT = (s.qf n F.hostQueue_FRAMES_COUNT + 1) % 2 ^ 32) ∧
      Frame [0x260, 0x27E, 0x261 + n / 16] s ({ t with egress := s.egress, hostQ := s.hostQ }))

/-- What pulse outputs, input captures and scheduled writes do. An edge armed in the past (log entry 66), a sample that
waits (log entry 65), the strictly past AT (log entry 67) and what follows a slot's write (log entry 98) are the
model's choice. In canonical states with the page in RUN. PPS_EDGE that is due: the pin goes active for WIDTH, and the
next edge is PERIOD later, or there is none. PPS_WIDTH_END returns it to the inactive level;  a WIDTH of PERIOD or more
holds it active. PPS_CAPTURE of an edge held for FILT_NS enters the FIFO with its number and time, and is a sample
where SRC names the input;  with the FIFO full it is counted in LOST. CAP_POP returns the oldest record, removes it and
keeps its stamp. SLOT_ARM of an unarmed slot latches AT, ADDR and DATA and clears FIRED, LATE and ERR. SLOT_FIRE of the
only armed slot, which is due: its write is that of the host, then ARM is 0 and FIRED 1, LATE is set where the slot was
late and ERR where the write was rejected, timed out or left a locked field, and no otherwise; EV40. -/
def Obligations.PulsesCapturesSlots : Prop :=
  (∀ (s : State) (k at_ : Nat) (x : PpsOut),
    s.sound = true → k < 4 → s.run .timePulse 0 = true → s.pps k = x → x.next = some at_ → at_ ≤ s.now →
    Runs (.ppsEdge k) s fun t =>
      (t.pps k = { x with
        next := if x.period = 0 then none else some (at_ + x.period), closes := some (s.now + x.width) }) ∧
      (t.gf tpB (F.timePulse_OUT_CTL_ACTIVE.at (32 * k)) = 1) ∧
      (t.gf tpB (F.timePulse_OUT_CTL_PENDING.at (32 * k)) = 0) ∧
      Frame [0x42] s ({ t with timed := s.timed })) ∧
  (∀ (s : State) (k at_ : Nat),
    s.sound = true → k < 4 → (s.pps k).closes = some at_ → at_ ≤ s.now → ((s.pps k).period = 0 ∨ (s.pps k).width < (s.pps
      k).period ∨ (s.pps k).next = none) →
    Runs (.ppsWidthEnd k) s fun t =>
      (t.pps k = { s.pps k with closes := none }) ∧
      (t.gf tpB (F.timePulse_OUT_CTL_ACTIVE.at (32 * k)) = 0) ∧
      Frame [0x42] s ({ t with timed := s.timed })) ∧
  (∀ (s : State) (k at_ : Nat),
    s.sound = true → k < 4 → (s.pps k).next = some at_ → (s.pps k).period ≠ 0 → (s.pps k).period ≤ (s.pps k).width →
    Runs (.ppsWidthEnd k) s fun t =>
      t = s) ∧
  (∀ (s : State) (i ago : Nat) (fa : Bool),
    s.sound = true → i < 2 → s.run .timePulse 0 = true → s.gf tpB (F.timePulse_CAP_CTL_EN.at (32 * i)) = 1 → s.gf tpB
      (F.timePulse_CAP_CTL_EDGE.at (32 * i)) = b2n fa → s.gf tpB (F.timePulse_CAP_CTL_FILT_NS.at (32 * i)) ≤ ago →
      (s.capFifo i).length < 8 →
    Runs (.ppsCapture i fa ago) s fun t =>
      (t.capFifo i = s.capFifo i ++ [(look (fun _ => 0) s.timed.capSeq i, (s.stampAgo ago))]) ∧
      (t.gf tpB (F.timePulse_CAP_LEVEL_LEVEL.at (32 * i)) = (s.capFifo i).length + 1) ∧
      (t.timed.samples = s.timed.samples ++ (if s.gf tcB F.timeClock_SERVO_CTL_SRC = i + 1 ∧ s.gf tcB
        F.timeClock_SERVO_STS_STATE ≠ 0 then [((((s.stampAgo ago) + 500000000) % 1000000000 : Nat) : Int) - 500000000]
        else [])) ∧
      Frame [0x42] s ({ t with timed := s.timed })) ∧
  (∀ (s : State) (i ago : Nat) (fa : Bool),
    s.sound = true → i < 2 → s.run .timePulse 0 = true → s.gf tpB (F.timePulse_CAP_CTL_EN.at (32 * i)) = 1 → s.gf tpB
      (F.timePulse_CAP_CTL_EDGE.at (32 * i)) = b2n fa → s.gf tpB (F.timePulse_CAP_CTL_FILT_NS.at (32 * i)) ≤ ago → 8 ≤
      (s.capFifo i).length →
    Runs (.ppsCapture i fa ago) s fun t =>
      (t.capFifo i = s.capFifo i) ∧
      (t.gf tpB (F.timePulse_CAP_LEVEL_LOST.at (32 * i)) = min 0xFFFF (s.gf tpB (F.timePulse_CAP_LEVEL_LOST.at (32 * i))
        + 1)) ∧
      Frame [0x42] s ({ t with timed := s.timed })) ∧
  (∀ (s : State) (i q c : Nat) (rest : List (Nat × Nat)),
    s.sound = true → i < 2 → s.alive .timePulse 0 = true → s.capFifo i = (q, c) :: rest → q < 256 →
    Runs (.capPop i 1) s fun t =>
      (.readData [0x80000000 + q] ∈ t.out) ∧
      (t.capFifo i = rest) ∧
      (t.gf tpB (F.timePulse_CAP_STAMP_LO_NS.at (32 * i)) = c % 2 ^ 32) ∧
      (t.gf tpB (F.timePulse_CAP_STAMP_HI_NS.at (32 * i)) = c / 2 ^ 32 % 2 ^ 32) ∧
      (t.gf tpB (F.timePulse_CAP_POP_LAST_LAST.at (32 * i)) = 0x80000000 + q) ∧
      (t.gf tpB (F.timePulse_CAP_LEVEL_LEVEL.at (32 * i)) = rest.length % 16) ∧
      Frame [0x42] s ({ t with timed := s.timed })) ∧
  (∀ (s : State) (k : Nat) (w : Word),
    s.sound = true → k < 16 → s.alive .timeSched 0 = true → s.unwatched (tsB + 0x110 + 32 * k) → w = 0x80000000 →
      (s.timed.slots.any fun x => x.1 == k) = false →
    Runs (.slotArm k w) s fun t =>
      (t.timed.slots = s.timed.slots ++ [(k, ⟨s.gf tsB (F.timeSched_AT_HI_NS.at (32 * k)) * 2 ^ 32 + s.gf tsB
        (F.timeSched_AT_LO_NS.at (32 * k)), s.gf tsB (F.timeSched_ADDR_OFFSET.at (32 * k)), s.gf tsB
        (F.timeSched_DATA_DATA.at (32 * k)), decide (s.gf tsB (F.timeSched_AT_HI_NS.at (32 * k)) * 2 ^ 32 + s.gf tsB
        (F.timeSched_AT_LO_NS.at (32 * k)) < s.now), none⟩)]) ∧
      (t.gf tsB (F.timeSched_SLOT_CTL_FIRED.at (32 * k)) = 0) ∧
      (t.gf tsB (F.timeSched_SLOT_CTL_LATE.at (32 * k)) = 0) ∧
      (t.gf tsB (F.timeSched_SLOT_CTL_ERR.at (32 * k)) = 0) ∧
      (t.gf tsB (F.timeSched_SLOT_CTL_ARM.at (32 * k)) = 1) ∧
      Frame [0x43] s ({ t with timed := s.timed })) ∧
  (∀ (s r : State) (k : Nat) (x : Slot) (late e : Bool),
    s.sound = true → k < 16 → s.run .timeSched 0 = true → s.timed.slots = [(k, x)] → x.at_ ≤ s.now → State.busWriteLate
      .host x.addr (BitVec.ofNat 32 x.data) late s = (r, e) → r.timed.slots = [(k, x)] → r.alive .timeSched 0 = true →
    Runs (.slotFire k late) s fun t =>
      (t.timed.slots = []) ∧
      (t.gf tsB (F.timeSched_SLOT_CTL_ARM.at (32 * k)) = 0) ∧
      (t.gf tsB (F.timeSched_SLOT_CTL_FIRED.at (32 * k)) = 1) ∧
      (t.gf tsB (F.timeSched_SLOT_CTL_LATE.at (32 * k)) = max (r.gf tsB (F.timeSched_SLOT_CTL_LATE.at (32 * k))) (b2n
        x.late)) ∧
      (t.gf tsB (F.timeSched_SLOT_CTL_ERR.at (32 * k)) = max (r.gf tsB (F.timeSched_SLOT_CTL_ERR.at (32 * k))) (b2n (e ||
        s.lockRefuses x.addr (BitVec.ofNat 32 x.data)))) ∧
      (t.evPend 40 = true) ∧
      Frame [0x43] r { t with timed := r.timed })

/-- What the Kiln's commands and key staging do. In canonical states. The order of the checks of a command, its results
and what each column of END allows follow the model's reading (log entry 69); bytes stand in words as log entry 68
says. LOAD,  LOAD_AUX,  DERIVE,  COMMIT,  COMMIT_AT,  CANCEL_AT,  ERASE,  ERASE_ALL: CMD with GO starts the command
with the fields of the write, KEY_ATTR and KCV_EXP; BUSY is 1. KILN_COMMAND_DONE: a plaintext LOAD outside PROD and END
with all words staged checks the staged key;  in those it ends with RESULT 1;  a wrapped one unwraps under the AES-128
or AES-256 key of its source slot first, RESULT 3 where the integrity value is wrong,  one with DEVKEK under the device
KEK;  LOAD_AUX sets AUX;  DERIVE checks the key of R366, with the HMAC PRF,  or with the CMAC PRF under an AES key;
COMMIT makes the shadow the active key, GEN one more;  without one RESULT 6;  COMMIT_AT arms its instant;  CANCEL_AT
withdraws it;  ERASE empties its slot and withdraws its COMMIT_AT;  ERASE_ALL every slot;  during an alarm every
command ends with RESULT 7. TIMED_COMMIT at its instant commits the shadow, or does nothing without one, with EV418.
KEY_STAGE_WRITE sets the word and its bit;  KEY_STAGE_TIMEOUT zeroes them. -/
def Obligations.KilnCommands : Prop :=
  (∀ (s : State) (w : Word),
    s.sound = true → s.run .kilnMain 0 = true → s.kiln.cmd = none → s.unwatched (kmB + 0x044) → bitsOf w.toNat 25 24 ≤ 2
      →
    Runs (.load w) s fun t =>
      (t.kiln.cmd.map (fun c => (c.op, c.slot, c.src, c.typ, bitsOf c.word 27 26, c.attr, c.kcv)) = some (0, bitsOf
        w.toNat 9 0, bitsOf w.toNat 19 10, bitsOf w.toNat 25 24, bitsOf w.toNat 27 26, s.kf F.kilnMain_KEY_ATTR_USAGE,
        s.kf F.kilnMain_KCV_EXP_KCV)) ∧
      (t.kf F.kilnMain_CMD_STS_BUSY = 1) ∧
      Frame [0x220] s ({ t with kiln := s.kiln })) ∧
  (∀ (s : State) (w : Word),
    s.sound = true → s.run .kilnMain 0 = true → s.kiln.cmd = none → s.unwatched (kmB + 0x044) → bitsOf w.toNat 25 24 ≤ 2
      →
    Runs (.loadAux w) s fun t =>
      (t.kiln.cmd.map (fun c => (c.op, c.slot, c.src, c.typ, bitsOf c.word 27 26, c.attr, c.kcv)) = some (1, bitsOf
        w.toNat 9 0, bitsOf w.toNat 19 10, bitsOf w.toNat 25 24, bitsOf w.toNat 27 26, s.kf F.kilnMain_KEY_ATTR_USAGE,
        s.kf F.kilnMain_KCV_EXP_KCV)) ∧
      (t.kf F.kilnMain_CMD_STS_BUSY = 1) ∧
      Frame [0x220] s ({ t with kiln := s.kiln })) ∧
  (∀ (s : State) (w : Word),
    s.sound = true → s.run .kilnMain 0 = true → s.kiln.cmd = none → s.unwatched (kmB + 0x044) → bitsOf w.toNat 25 24 ≤ 2
      →
    Runs (.derive w) s fun t =>
      (t.kiln.cmd.map (fun c => (c.op, c.slot, c.src, c.typ, bitsOf c.word 27 26, c.attr, c.kcv)) = some (2, bitsOf
        w.toNat 9 0, bitsOf w.toNat 19 10, bitsOf w.toNat 25 24, bitsOf w.toNat 27 26, s.kf F.kilnMain_KEY_ATTR_USAGE,
        s.kf F.kilnMain_KCV_EXP_KCV)) ∧
      (t.kf F.kilnMain_CMD_STS_BUSY = 1) ∧
      Frame [0x220] s ({ t with kiln := s.kiln })) ∧
  (∀ (s : State) (w : Word),
    s.sound = true → s.run .kilnMain 0 = true → s.kiln.cmd = none → s.unwatched (kmB + 0x044) → bitsOf w.toNat 25 24 ≤ 2
      →
    Runs (.commit w) s fun t =>
      (t.kiln.cmd.map (fun c => (c.op, c.slot, c.src, c.typ, bitsOf c.word 27 26, c.attr, c.kcv)) = some (3, bitsOf
        w.toNat 9 0, bitsOf w.toNat 19 10, bitsOf w.toNat 25 24, bitsOf w.toNat 27 26, s.kf F.kilnMain_KEY_ATTR_USAGE,
        s.kf F.kilnMain_KCV_EXP_KCV)) ∧
      (t.kf F.kilnMain_CMD_STS_BUSY = 1) ∧
      Frame [0x220] s ({ t with kiln := s.kiln })) ∧
  (∀ (s : State) (w : Word),
    s.sound = true → s.run .kilnMain 0 = true → s.kiln.cmd = none → s.unwatched (kmB + 0x044) → bitsOf w.toNat 25 24 ≤ 2
      →
    Runs (.commitAt w) s fun t =>
      (t.kiln.cmd.map (fun c => (c.op, c.slot, c.src, c.typ, bitsOf c.word 27 26, c.attr, c.kcv)) = some (4, bitsOf
        w.toNat 9 0, bitsOf w.toNat 19 10, bitsOf w.toNat 25 24, bitsOf w.toNat 27 26, s.kf F.kilnMain_KEY_ATTR_USAGE,
        s.kf F.kilnMain_KCV_EXP_KCV)) ∧
      (t.kf F.kilnMain_CMD_STS_BUSY = 1) ∧
      Frame [0x220] s ({ t with kiln := s.kiln })) ∧
  (∀ (s : State) (w : Word),
    s.sound = true → s.run .kilnMain 0 = true → s.kiln.cmd = none → s.unwatched (kmB + 0x044) → bitsOf w.toNat 25 24 ≤ 2
      →
    Runs (.cancelAt w) s fun t =>
      (t.kiln.cmd.map (fun c => (c.op, c.slot, c.src, c.typ, bitsOf c.word 27 26, c.attr, c.kcv)) = some (5, bitsOf
        w.toNat 9 0, bitsOf w.toNat 19 10, bitsOf w.toNat 25 24, bitsOf w.toNat 27 26, s.kf F.kilnMain_KEY_ATTR_USAGE,
        s.kf F.kilnMain_KCV_EXP_KCV)) ∧
      (t.kf F.kilnMain_CMD_STS_BUSY = 1) ∧
      Frame [0x220] s ({ t with kiln := s.kiln })) ∧
  (∀ (s : State) (w : Word),
    s.sound = true → s.run .kilnMain 0 = true → s.kiln.cmd = none → s.unwatched (kmB + 0x044) → bitsOf w.toNat 25 24 ≤ 2
      →
    Runs (.erase w) s fun t =>
      (t.kiln.cmd.map (fun c => (c.op, c.slot, c.src, c.typ, bitsOf c.word 27 26, c.attr, c.kcv)) = some (6, bitsOf
        w.toNat 9 0, bitsOf w.toNat 19 10, bitsOf w.toNat 25 24, bitsOf w.toNat 27 26, s.kf F.kilnMain_KEY_ATTR_USAGE,
        s.kf F.kilnMain_KCV_EXP_KCV)) ∧
      (t.kf F.kilnMain_CMD_STS_BUSY = 1) ∧
      Frame [0x220] s ({ t with kiln := s.kiln })) ∧
  (∀ (s : State) (w : Word),
    s.sound = true → s.run .kilnMain 0 = true → s.kiln.cmd = none → s.unwatched (kmB + 0x044) → bitsOf w.toNat 25 24 ≤ 2
      →
    Runs (.eraseAll w) s fun t =>
      (t.kiln.cmd.map (fun c => (c.op, c.slot, c.src, c.typ, bitsOf c.word 27 26, c.attr, c.kcv)) = some (7, bitsOf
        w.toNat 9 0, bitsOf w.toNat 19 10, bitsOf w.toNat 25 24, bitsOf w.toNat 27 26, s.kf F.kilnMain_KEY_ATTR_USAGE,
        s.kf F.kilnMain_KCV_EXP_KCV)) ∧
      (t.kf F.kilnMain_CMD_STS_BUSY = 1) ∧
      Frame [0x220] s ({ t with kiln := s.kiln })) ∧
  (∀ (s : State) (c : KilnCmd),
    s.sound = true → s.kiln.cmd = some c → s.alive .kilnMain 0 = true → s.kiln.alarm = .normal → c.op = 0 → bitOf c.word
      26 = false → s.lifecycle ≠ 2 → s.lifecycle ≠ 4 → usageFits c.typ c.usage = true → c.stagedAll (keyBytes c.typ) =
      true →
    Runs (.kilnCommandDone) s fun t =>
      (KilnChecked s t c (c.staged (keyBytes c.typ)) F.kilnMain_LOADS_COUNT) ∧
      (∀ j, j ≠ c.slot → t.slot j = s.slot j) ∧
      Frame [0x220, 0x221 + c.slot / 512] s ({ t with kiln := s.kiln, freeCount := s.freeCount })) ∧
  (∀ (s : State) (c : KilnCmd),
    s.sound = true → s.kiln.cmd = some c → s.alive .kilnMain 0 = true → s.kiln.alarm = .normal → c.op = 0 → (s.lifecycle
      = 4 ∨ (bitOf c.word 26 = false ∧ s.lifecycle = 2)) →
    Runs (.kilnCommandDone) s fun t =>
      (KilnRefused s t 1) ∧
      Frame [0x220] s ({ t with kiln := s.kiln })) ∧
  (∀ (s : State) (c : KilnCmd) (kt : Nat) (k : Bytes),
    s.sound = true → s.kiln.cmd = some c → s.alive .kilnMain 0 = true → s.kiln.alarm = .normal → c.op = 0 → bitOf c.word
      26 = true → s.lifecycle ≠ 4 → usageFits c.typ c.usage = true → c.stagedAll (keyBytes c.typ) = true → bitOf c.word
      27 = false → s.keyFor c.src 1 = some (kt, k) → kt < 2 →
    Runs (.kilnCommandDone) s fun t =>
      (((keyUnwrap k (beBytes 8 s.kiln.c0) ((List.range (keyBytes c.typ / 8)).map fun i => slice (c.staged (keyBytes
        c.typ)) (8 * i) 8)).1 = List.replicate 8 0xA6 → KilnChecked s t c (keyUnwrap k (beBytes 8 s.kiln.c0) ((List.range
        (keyBytes c.typ / 8)).map fun i => slice (c.staged (keyBytes c.typ)) (8 * i) 8)).2 F.kilnMain_LOADS_COUNT)) ∧
      (((keyUnwrap k (beBytes 8 s.kiln.c0) ((List.range (keyBytes c.typ / 8)).map fun i => slice (c.staged (keyBytes
        c.typ)) (8 * i) 8)).1 ≠ List.replicate 8 0xA6 → KilnRefused s t 3)) ∧
      (∀ j, j ≠ c.slot → t.slot j = s.slot j) ∧
      Frame [0x220, 0x221 + c.slot / 512] s ({ t with kiln := s.kiln, freeCount := s.freeCount })) ∧
  (∀ (s : State) (c : KilnCmd) (k : Bytes),
    s.sound = true → s.kiln.cmd = some c → s.alive .kilnMain 0 = true → s.kiln.alarm = .normal → c.op = 0 → bitOf c.word
      26 = true → s.lifecycle ≠ 4 → usageFits c.typ c.usage = true → c.stagedAll (keyBytes c.typ) = true → bitOf c.word
      27 = true → s.kiln.kek.map Masked.value = some k →
    Runs (.kilnCommandDone) s fun t =>
      (((keyUnwrap k (beBytes 8 s.kiln.c0) ((List.range (keyBytes c.typ / 8)).map fun i => slice (c.staged (keyBytes
        c.typ)) (8 * i) 8)).1 = List.replicate 8 0xA6 → KilnChecked s t c (keyUnwrap k (beBytes 8 s.kiln.c0) ((List.range
        (keyBytes c.typ / 8)).map fun i => slice (c.staged (keyBytes c.typ)) (8 * i) 8)).2 F.kilnMain_LOADS_COUNT)) ∧
      (((keyUnwrap k (beBytes 8 s.kiln.c0) ((List.range (keyBytes c.typ / 8)).map fun i => slice (c.staged (keyBytes
        c.typ)) (8 * i) 8)).1 ≠ List.replicate 8 0xA6 → KilnRefused s t 3)) ∧
      (∀ j, j ≠ c.slot → t.slot j = s.slot j) ∧
      Frame [0x220, 0x221 + c.slot / 512] s ({ t with kiln := s.kiln, freeCount := s.freeCount })) ∧
  (∀ (s : State) (c : KilnCmd),
    s.sound = true → s.kiln.cmd = some c → s.alive .kilnMain 0 = true → s.kiln.alarm = .normal → c.op = 1 → s.lifecycle ≠
      4 → c.stagedAll 16 = true →
    Runs (.kilnCommandDone) s fun t =>
      (KilnDone t 0 0) ∧
      ((t.slot c.slot).aux.map Masked.value = some (c.staged 16)) ∧
      ((t.slot c.slot).key = (s.slot c.slot).key) ∧
      ((t.slot c.slot).shadow = (s.slot c.slot).shadow) ∧
      (t.slotF c.slot F.kilnSlot_SLOT_ATTR_AUX = 1) ∧
      (∀ j, j ≠ c.slot → t.slot j = s.slot j) ∧
      Frame [0x220, 0x221 + c.slot / 512] s ({ t with kiln := s.kiln, freeCount := s.freeCount })) ∧
  (∀ (s : State) (c : KilnCmd) (typ : Nat) (k : Bytes),
    s.sound = true → s.kiln.cmd = some c → s.alive .kilnMain 0 = true → s.kiln.alarm = .normal → c.op = 2 → s.lifecycle ≠
      4 → usageFits c.typ c.usage = true → s.keyFor c.src 2 = some (typ, k) → s.kf F.kilnMain_DRV_CTL_PRF = 0 →
    Runs (.kilnCommandDone) s fun t =>
      (KilnChecked s t c (kdfHmac k labelDrv ((List.range 4).flatMap fun i => beBytes 4 (s.kf (F.kilnMain_DRV_CTX_DATA.at
        (4 * i)))) (8 * keyBytes c.typ)) F.kilnMain_DERIVES_COUNT) ∧
      (∀ j, j ≠ c.slot → t.slot j = s.slot j) ∧
      Frame [0x220, 0x221 + c.slot / 512] s ({ t with kiln := s.kiln, freeCount := s.freeCount })) ∧
  (∀ (s : State) (c : KilnCmd) (typ : Nat) (k : Bytes),
    s.sound = true → s.kiln.cmd = some c → s.alive .kilnMain 0 = true → s.kiln.alarm = .normal → c.op = 2 → s.lifecycle ≠
      4 → usageFits c.typ c.usage = true → s.keyFor c.src 2 = some (typ, k) → typ < 2 → s.kf F.kilnMain_DRV_CTL_PRF = 1 →
    Runs (.kilnCommandDone) s fun t =>
      (KilnChecked s t c (kdfCounter (aesCmac k) 16 labelDrv ((List.range 4).flatMap fun i => beBytes 4 (s.kf
        (F.kilnMain_DRV_CTX_DATA.at (4 * i)))) (8 * keyBytes c.typ)) F.kilnMain_DERIVES_COUNT) ∧
      (∀ j, j ≠ c.slot → t.slot j = s.slot j) ∧
      Frame [0x220, 0x221 + c.slot / 512] s ({ t with kiln := s.kiln, freeCount := s.freeCount })) ∧
  (∀ (s : State) (c : KilnCmd) (x : ShadowKey),
    s.sound = true → s.kiln.cmd = some c → s.alive .kilnMain 0 = true → s.kiln.alarm = .normal → c.op = 3 → s.lifecycle ≠
      4 → (s.slot c.slot).shadow = some x →
    Runs (.kilnCommandDone) s fun t =>
      (KilnDone t 0 0) ∧
      (KeyCommitted s t c.slot x) ∧
      (∀ j, j ≠ c.slot → t.slot j = s.slot j) ∧
      Frame [0x220, 0x221 + c.slot / 512] s ({ t with kiln := s.kiln })) ∧
  (∀ (s : State) (c : KilnCmd),
    s.sound = true → s.kiln.cmd = some c → s.alive .kilnMain 0 = true → s.kiln.alarm = .normal → c.op = 3 → s.lifecycle ≠
      4 → (s.slot c.slot).shadow = none →
    Runs (.kilnCommandDone) s fun t =>
      (KilnRefused s t 6) ∧
      Frame [0x220] s ({ t with kiln := s.kiln })) ∧
  (∀ (s : State) (c : KilnCmd),
    s.sound = true → s.kiln.cmd = some c → s.alive .kilnMain 0 = true → s.kiln.alarm = .normal → c.op = 4 → s.lifecycle ≠
      4 →
    Runs (.kilnCommandDone) s fun t =>
      (KilnDone t 0 0) ∧
      (t.kiln.at_ = some (c.slot, s.g64 kmB F.kilnMain_COMMIT_AT_LO_NS F.kilnMain_COMMIT_AT_HI_NS)) ∧
      (t.kf F.kilnMain_AT_STS_PEND = 1) ∧
      (t.kf F.kilnMain_AT_STS_SLOT = c.slot) ∧
      (t.kiln.slots = s.kiln.slots) ∧
      Frame [0x220] s ({ t with kiln := s.kiln })) ∧
  (∀ (s : State) (c : KilnCmd),
    s.sound = true → s.kiln.cmd = some c → s.alive .kilnMain 0 = true → s.kiln.alarm = .normal → c.op = 5 →
    Runs (.kilnCommandDone) s fun t =>
      (KilnDone t 0 0) ∧
      (t.kiln.at_ = none) ∧
      (t.kf F.kilnMain_AT_STS_PEND = 0) ∧
      (t.kiln.slots = s.kiln.slots) ∧
      Frame [0x220] s ({ t with kiln := s.kiln })) ∧
  (∀ (s : State) (c : KilnCmd),
    s.sound = true → s.kiln.cmd = some c → s.alive .kilnMain 0 = true → s.kiln.alarm = .normal → c.op = 6 →
    Runs (.kilnCommandDone) s fun t =>
      (KilnDone t 0 0) ∧
      (t.slot c.slot = KeySlot.new) ∧
      (t.slotF c.slot F.kilnSlot_SLOT_ATTR_VALID = 0) ∧
      (t.slotF c.slot F.kilnSlot_SLOT_ATTR_USAGE = 0) ∧
      ((s.kiln.at_.any (fun x => x.1 == c.slot) = true → t.kiln.at_ = none)) ∧
      (∀ j, j ≠ c.slot → t.slot j = s.slot j) ∧
      Frame [0x220, 0x221 + c.slot / 512] s ({ t with kiln := s.kiln })) ∧
  (∀ (s : State) (c : KilnCmd),
    s.sound = true → s.kiln.cmd = some c → s.alive .kilnMain 0 = true → s.kiln.alarm = .normal → c.op = 7 →
    Runs (.kilnCommandDone) s fun t =>
      (KilnDone t 0 0) ∧
      (∀ j, t.slot j = KeySlot.new) ∧
      (t.kiln.at_ = none) ∧
      Frame [0x220, 0x221, 0x222] s ({ t with kiln := s.kiln })) ∧
  (∀ (s : State) (c : KilnCmd),
    s.sound = true → s.kiln.cmd = some c → s.alive .kilnMain 0 = true → s.kiln.alarm ≠ .normal →
    Runs (.kilnCommandDone) s fun t =>
      (KilnRefused s t 7) ∧
      Frame [0x220] s ({ t with kiln := s.kiln })) ∧
  (∀ (s : State) (i at_ : Nat),
    s.sound = true → s.alive .kilnMain 0 = true → s.kiln.alarm = .normal → s.kiln.at_ = some (i, at_) → at_ ≤ s.now →
    Runs (.timedCommit) s fun t =>
      (t.kiln.at_ = none) ∧
      (t.kf F.kilnMain_AT_STS_PEND = 0) ∧
      (t.evPend 418 = true) ∧
      (∀ x, (s.slot i).shadow = some x → KeyCommitted s t i x) ∧
      (((s.slot i).shadow = none → t.kiln.slots = s.kiln.slots)) ∧
      Frame [0x220, 0x221 + i / 512] s ({ t with kiln := s.kiln })) ∧
  (∀ (s : State) (k : Nat) (w : Word),
    s.sound = true → k < 8 → s.run .kilnMain 0 = true → s.unwatched (kmB + 0x060 + 4 * k) →
    Runs (.keyStageWrite k w) s fun t =>
      (t.kiln.stage = s.kiln.stage.set k w.toNat) ∧
      (bitOf (t.kf F.kilnMain_STAGE_STS_WORDS) k = true) ∧
      (∀ j, j < 8 → j ≠ k → bitOf (t.kf F.kilnMain_STAGE_STS_WORDS) j = bitOf (s.kf F.kilnMain_STAGE_STS_WORDS) j) ∧
      Frame [0x220] s ({ t with kiln := s.kiln })) ∧
  (∀ (s : State),
    s.sound = true → s.kiln.cmd = none →
    Runs (.keyStageTimeout) s fun t =>
      (t.kiln.stage = List.replicate 8 0) ∧
      (t.kf F.kilnMain_STAGE_STS_WORDS = 0) ∧
      Frame [0x220] s ({ t with kiln := s.kiln }))

/-- What the lifecycle, the alarm, the masks and the random bits do. The model's choices: a lifecycle advance ends within
its command (log entry 70), keys go at the trip and are held as absent (71, 133), no key in END (72), the frame a
parity error ends (74), the DRBG's entropy and its requests (76). In canonical states. LIFECYCLE_ADVANCE one step down,
from MANUF to PROD, or to END: the fuse bits are programmed, PEND_STATE follows, STATE does not, EV421, every slot is
erased, RESULT 0;  any other, or a second one: RESULT 11;  PROD to RMA needs the token, else RESULT 10. KILN_ID_READY:
the KEK and the identity scalar of Table 12-3 from the root in use, ID_RDY, the DRBG instantiated (here with no seed
change waiting). MASK_SWEEP_START begins a sweep;  MASK_SWEEP_VISIT adds some bytes to both shares of the key it visits
and changes no key,  the last one counts in MASK_SWEEPS. DRBG_RESEED of a running DRBG after 2^20 requests, or on the
TVX-6480, seeds it with some 384 bits and counts requests from 0.  DRBG_HEALTH_FAIL stops the DRBG, counts the test and
raises EV419;  RESTART instantiates it;  a first RMA_NONCE is drawn;  a seed change that waited is served. RNG_POP
returns 4 bytes of its output, kept in the shadow;  0 while RUN is 0. ALARM_TRIP: ALARM and the cause, EV416, every key
and KEY_STAGE overwritten, commands end with RESULT 7 (here with no protected frame in transmission). A protected frame
in transmission ends. A further cause only sets its bit. ALARM_ERASURE_DONE leads to ALARM with KEY_STAGE zero,
ALARM_CLR with no cause present and FUSE 0 to RESTORING,  ALARM_RESTORE_DONE to NORMAL with the keys of Table 12-3
again. CIPHER_PARITY_ERROR in the Block unit ends its operation with RESULT 7, counted, EV400;  a second within
PARITY_WIN_MS trips PARITY2;  a transmit frame that one hits ends, a cut-through one in CT_END.BAD. -/
def Obligations.LifecycleAlarmRandom : Prop :=
  (∀ (s : State) (target : Nat),
    s.sound = true → s.alive .kilnId 0 = true → s.run .kilnMain 0 = true → s.unwatched (kiB + 0x044) → 1 ≤ target →
      target ≤ 4 → s.kiln.cmd = none → s.kiln.alarm = .normal → s.kiln.advanced = false → (target = s.lifecycle + 1 ∨
      (s.lifecycle = 0 ∧ target = 2) ∨ (s.lifecycle ≠ 4 ∧ target = 4)) → ¬ (s.lifecycle = 2 ∧ target = 3) →
    Runs (.lifecycleAdvance target) s fun t =>
      (t.kiln.fuses = s.kiln.fuses ||| (2 ^ target - 1) * 2 ^ 288) ∧
      (t.kiln.advanced = true) ∧
      (t.idf F.kilnId_LC_STS_PEND_STATE = target) ∧
      (t.evPend 421 = true) ∧
      (KilnDone t 0 0) ∧
      (∀ j, t.slot j = KeySlot.new) ∧
      (t.idf F.kilnId_LC_STS_STATE = s.idf F.kilnId_LC_STS_STATE) ∧
      Frame [0x220, 0x221, 0x222, 0x223] s ({ t with kiln := s.kiln })) ∧
  (∀ (s : State) (target : Nat),
    s.sound = true → s.alive .kilnId 0 = true → s.run .kilnMain 0 = true → s.unwatched (kiB + 0x044) → 1 ≤ target →
      target ≤ 4 → s.kiln.cmd = none → s.kiln.alarm = .normal → (s.kiln.advanced = true ∨ ¬ (target = s.lifecycle + 1 ∨
      (s.lifecycle = 0 ∧ target = 2) ∨ (s.lifecycle ≠ 4 ∧ target = 4))) →
    Runs (.lifecycleAdvance target) s fun t =>
      (KilnRefused s t 11) ∧
      (t.kiln.fuses = s.kiln.fuses) ∧
      Frame [0x220, 0x223] s ({ t with kiln := s.kiln })) ∧
  (∀ (s : State) (target : Nat),
    s.sound = true → s.alive .kilnId 0 = true → s.run .kilnMain 0 = true → s.unwatched (kiB + 0x044) → 1 ≤ target →
      target ≤ 4 → s.kiln.cmd = none → s.kiln.alarm = .normal → s.kiln.advanced = false → s.lifecycle = 2 → target = 3 →
    Runs (.lifecycleAdvance target) s fun t =>
      ((s.rmaToken = false → KilnRefused s t 10 ∧ t.kiln.fuses = s.kiln.fuses)) ∧
      ((s.rmaToken = true → t.kiln.fuses = s.kiln.fuses ||| 7 * 2 ^ 288 ∧ KilnDone t 0 0)) ∧
      Frame [0x220, 0x221, 0x222, 0x223] s ({ t with kiln := s.kiln, freeCount := s.freeCount })) ∧
  (∀ (s : State) (r : Bytes),
    s.sound = true → s.alive .kilnId 0 = true → s.idf F.kilnId_LC_STS_ID_RDY = 0 → s.kiln.alarm = .normal → s.root = some
      r → s.fab.seedWait = false →
    Runs (.kilnIdReady) s fun t =>
      (t.idf F.kilnId_LC_STS_ID_RDY = 1) ∧
      (t.kiln.kek.map Masked.value = some (kdfHmac r labelKek s.serial 256)) ∧
      (t.kiln.scalar.map Masked.value = some (beBytes 32 (beNat (kdfHmac r labelId s.serial 320) % (p256N - 1) + 1))) ∧
      ((s.kf F.kilnMain_RNG_STS_FAIL = 0 → t.rngRuns = true)) ∧
      Frame [0x220, 0x223] s ({ t with kiln := s.kiln, freeCount := s.freeCount })) ∧
  (∀ (s : State),
    s.sound = true → s.rngRuns = true → s.alive .kilnMain 0 = true → s.kiln.sweep = none →
    Runs (.maskSweepStart) s fun t =>
      (t.kiln = { s.kiln with sweep := some 0 }) ∧
      Frame [] s ({ t with kiln := s.kiln })) ∧
  (∀ (s : State) (e : Nat),
    s.sound = true → s.rngRuns = true → s.kiln.sweep = some e → e + 1 < 1040 →
    Runs (.maskSweepVisit) s fun t =>
      (t.kiln.sweep = some (e + 1)) ∧
      (t.kiln.kek.map Masked.value = s.kiln.kek.map Masked.value ∧ t.kiln.scalar.map Masked.value = s.kiln.scalar.map
        Masked.value) ∧
      (∀ j, (t.slot j).key.map Masked.value = (s.slot j).key.map Masked.value ∧ (t.slot j).shadow.map (fun x =>
        (x.key.value, x.typ, x.usage)) = (s.slot j).shadow.map (fun x => (x.key.value, x.typ, x.usage)) ∧ (t.slot
        j).aux.map Masked.value = (s.slot j).aux.map Masked.value) ∧
      (∀ p, e < 1024 → (s.slot e).key = some p → ∃ x, x.length = p.mask.length ∧ (t.slot e).key = some ⟨xorB p.share x,
        xorB p.mask x⟩) ∧
      Frame [0x221, 0x222] s ({ t with kiln := s.kiln, freeCount := s.freeCount })) ∧
  (∀ (s : State) (e : Nat),
    s.sound = true → s.rngRuns = true → s.kiln.sweep = some e → 1040 ≤ e + 1 →
    Runs (.maskSweepVisit) s fun t =>
      (t.kiln.sweep = none) ∧
      (t.kf F.kilnMain_MASK_SWEEPS_COUNT = (s.kf F.kilnMain_MASK_SWEEPS_COUNT + 1) % 2 ^ 32) ∧
      Frame [0x220] s ({ t with kiln := s.kiln, freeCount := s.freeCount })) ∧
  (∀ (s : State),
    s.sound = true → s.rngRuns = true → (s.grade.lockstep = true ∨ 2 ^ 20 ≤ s.kiln.draws) →
    Runs (.drbgReseed) s fun t =>
      ((∃ x : BitVec 384, t.kiln = { s.kiln with drbg := drbgSeed s.kiln.drbg (beBytes 48 x.toNat), draws := 0 })) ∧
      (t.regs = s.regs) ∧
      Frame [] s ({ t with kiln := s.kiln, freeCount := s.freeCount })) ∧
  (∀ (s : State) (apt : Bool),
    s.sound = true → s.alive .kilnMain 0 = true →
    Runs (.drbgHealthFail apt) s fun t =>
      (t.kf F.kilnMain_RNG_STS_RUN = 0) ∧
      (t.kf F.kilnMain_RNG_STS_FAIL = 1) ∧
      (t.kf F.kilnMain_RNG_STS_APT_FAIL = min 255 (s.kf F.kilnMain_RNG_STS_APT_FAIL + b2n apt)) ∧
      (t.kf F.kilnMain_RNG_STS_RCT_FAIL = min 255 (s.kf F.kilnMain_RNG_STS_RCT_FAIL + b2n (!apt))) ∧
      (bitOf (t.gf kmB hdrRaw) 3 = true) ∧
      Frame [0x220] s t) ∧
  (∀ (s : State),
    s.sound = true → s.alive .kilnMain 0 = true → s.unwatched (kmB + 0x0B4) → s.kiln.nonced = true → s.fab.seedWait =
      false →
    Runs (.restart) s fun t =>
      (t.rngRuns = true) ∧
      (t.kf F.kilnMain_RNG_STS_FAIL = 0) ∧
      ((∃ x : BitVec 384, t.kiln = { s.kiln with
        drbg := drbgSeed (List.replicate 32 0, List.replicate 16 0) (beBytes 48 x.toNat), draws := 0 })) ∧
      (bitOf (t.gf kmB hdrRaw) 3 = false) ∧
      Frame [0x220] s ({ t with kiln := s.kiln, freeCount := s.freeCount })) ∧
  (∀ (s : State),
    s.sound = true → s.alive .kilnMain 0 = true → s.unwatched (kmB + 0x0B4) → s.kiln.nonced = false → s.fab.seedWait =
      false →
    Runs (.restart) s fun t =>
      (t.rngRuns = true) ∧
      (t.kf F.kilnMain_RNG_STS_FAIL = 0) ∧
      (t.kiln.nonced = true) ∧
      (t.kiln.draws = 1) ∧
      (bitOf (t.gf kmB hdrRaw) 3 = false) ∧
      Frame [0x220, 0x223] s ({ t with kiln := s.kiln, freeCount := s.freeCount })) ∧
  (∀ (s : State),
    s.sound = true → s.alive .kilnMain 0 = true → s.unwatched (kmB + 0x0B4) → s.fab.seedWait = true →
    Runs (.restart) s fun t =>
      (t.rngRuns = true) ∧
      (t.fab.seedWait = false)) ∧
  (∀ (s : State),
    s.sound = true → s.alive .kilnMain 0 = true → s.rngRuns = true → s.kiln.draws < 2 ^ 20 →
    Runs (.rngPop 1) s fun t =>
      (.readData [beNat (drbgOutput s.kiln.drbg 4).1] ∈ t.out) ∧
      (t.kf F.kilnMain_RNG_POP_LAST_LAST = beNat (drbgOutput s.kiln.drbg 4).1) ∧
      (t.kiln = { s.kiln with drbg := (drbgOutput s.kiln.drbg 4).2, draws := s.kiln.draws + 1 }) ∧
      Frame [0x220] s ({ t with kiln := s.kiln })) ∧
  (∀ (s : State),
    s.sound = true → s.domOn 3 = true → s.rngRuns = false →
    Runs (.rngPop 1) s fun t =>
      (.readData [0] ∈ t.out) ∧
      Frame [0x220] s t) ∧
  (∀ (s : State) (cause : Nat),
    s.sound = true → s.alive .kilnMain 0 = true → cause < 3 → s.kiln.alarm = .normal → (∀ n ∈ List.range 16, s.secSending
      n = false) →
    Runs (.alarmTrip cause) s fun t =>
      (t.kiln.alarm = .erasing) ∧
      (t.kf F.kilnMain_ALARM_STS_ALARM = 1) ∧
      (bitOf (t.kf F.kilnMain_ALARM_STS_CAUSE) cause = true) ∧
      (t.kf F.kilnMain_ALARMS_COUNT = min 0xFFFFFFFF (s.kf F.kilnMain_ALARMS_COUNT + 1)) ∧
      (∀ j, t.slot j = KeySlot.new) ∧
      (t.kiln.kek = none) ∧
      (t.kiln.scalar = none) ∧
      (t.kf F.kilnMain_STAGE_STS_WORDS = 0) ∧
      (t.kiln.cmd = none) ∧
      (t.kiln.block = none) ∧
      ((s.kiln.cmd.isSome = true → t.kf F.kilnMain_CMD_STS_RESULT = 7)) ∧
      (bitOf (t.gf kmB hdrRaw) 0 = true) ∧
      Frame [0x211, 0x210, 0x220, 0x221, 0x222] s ({ t with kiln := s.kiln, freeCount := s.freeCount })) ∧
  (∀ (s : State) (cause n : Nat),
    s.sound = true → s.alive .kilnMain 0 = true → cause < 3 → s.kiln.alarm = .normal → n < 16 → s.secSending n = true →
    Runs (.alarmTrip cause) s fun t =>
      (t.kiln.alarm = .erasing) ∧
      ((t.eg n).sending = none)) ∧
  (∀ (s : State) (cause : Nat),
    s.sound = true → s.alive .kilnMain 0 = true → cause < 3 → (s.kiln.alarm = .alarm ∨ s.kiln.alarm = .erasing) →
    Runs (.alarmTrip cause) s fun t =>
      (bitOf (t.kf F.kilnMain_ALARM_STS_CAUSE) cause = true) ∧
      (t.kf F.kilnMain_ALARM_STS_ALARM = 1) ∧
      (t.kiln = s.kiln) ∧
      Frame [0x220] s t) ∧
  (∀ (s : State),
    s.sound = true → s.kiln.alarm = .erasing →
    Runs (.alarmErasureDone) s fun t =>
      (t.kiln = { s.kiln with alarm := .alarm, stage := List.replicate 8 0 }) ∧
      (t.kf F.kilnMain_STAGE_STS_WORDS = 0) ∧
      Frame [0x220] s ({ t with kiln := s.kiln })) ∧
  (∀ (s : State) (w : Word),
    s.sound = true → s.alive .kilnMain 0 = true → s.unwatched (kmB + 0x0A8) → w.getLsbD 0 = true → s.kiln.alarm = .alarm
      → bitOf (s.kf F.kilnMain_ALARM_STS_CAUSE) 5 = false →
    Runs (.alarmClr false w) s fun t =>
      (t.kiln.alarm = .restoring) ∧
      (t.kf F.kilnMain_ALARM_STS_CAUSE = 0) ∧
      ((s.rngRuns = true → t.kiln.draws = 0)) ∧
      Frame [0x220] s ({ t with kiln := s.kiln, freeCount := s.freeCount })) ∧
  (∀ (s : State) (r : Bytes),
    s.sound = true → s.alive .kilnMain 0 = true → s.kiln.alarm = .restoring → s.root = some r →
    Runs (.alarmRestoreDone) s fun t =>
      (t.kiln.alarm = .normal) ∧
      (t.kf F.kilnMain_ALARM_STS_ALARM = 0) ∧
      (bitOf (t.gf kmB hdrRaw) 0 = false) ∧
      (t.kiln.kek.map Masked.value = some (kdfHmac r labelKek s.serial 256)) ∧
      (t.kiln.scalar.map Masked.value = some (beBytes 32 (beNat (kdfHmac r labelId s.serial 320) % (p256N - 1) + 1))) ∧
      Frame [0x220, 0x223] s ({ t with kiln := s.kiln, freeCount := s.freeCount })) ∧
  (∀ (s : State) (unit port : Nat) (tx : Bool),
    s.sound = true → s.alive .ciphGlobal 0 = true → unit = 4 → s.kiln.lastParity = none →
    Runs (.cipherParityError unit port tx) s fun t =>
      (t.gf cgB F.ciphGlobal_BLK_PARITY_COUNT = min 0xFFFFFFFF (s.gf cgB F.ciphGlobal_BLK_PARITY_COUNT + 1)) ∧
      (t.evPend 400 = true) ∧
      (t.kiln.block = none) ∧
      ((s.kiln.block.isSome = true → t.bf F.ciphBlock_BLK_STS_RESULT = 7)) ∧
      (t.kiln.lastParity = some s.cycles) ∧
      Frame [0x210, 0x211] s ({ t with kiln := s.kiln })) ∧
  (∀ (s : State) (unit port c : Nat) (tx : Bool),
    s.sound = true → s.alive .kilnMain 0 = true → s.alive .ciphGlobal 0 = true → unit < 4 → s.grade.hasPipeline unit =
      true → 16 ≤ port → s.kiln.lastParity = some c → s.cycles - c ≤ s.kf F.kilnMain_ALARM_CFG_PARITY_WIN_MS * 200000 →
      s.kiln.alarm = .normal → (∀ n ∈ List.range 16, s.secSending n = false) →
    Runs (.cipherParityError unit port tx) s fun t =>
      (s.gf cgB (F.ciphGlobal_PIPE_PARITY_COUNT.at (4 * unit)) ≤ t.gf cgB (F.ciphGlobal_PIPE_PARITY_COUNT.at (4 * unit))) ∧
      (t.kiln.alarm = .erasing) ∧
      (bitOf (t.kf F.kilnMain_ALARM_STS_CAUSE) 4 = true) ∧
      Frame [0x210, 0x211, 0x220, 0x221, 0x222] s ({ t with kiln := s.kiln, freeCount := s.freeCount })) ∧
  (∀ (s : State) (unit port : Nat) (x : Sending),
    s.sound = true → s.alive .ciphGlobal 0 = true → unit < 4 → s.grade.hasPipeline unit = true → port < 16 → s.pipelineOf
      port true = unit → (s.eg port).sending = some x → x.prot.isSome = true →
    Runs (.cipherParityError unit port true) s fun t =>
      ((t.eg port).sending = none) ∧
      ((x.frame.info.cut = true → t.gf (egBase port) F.hostEgress_CT_END_BAD = min 0xFFFF (s.gf (egBase port)
        F.hostEgress_CT_END_BAD + 1))))

/-- What the Block unit's operations do. In canonical states. That BLK_BUF is read at the end and the order of the
results 7, 12, 2 (log entry 73) and the way a nonce is drawn (log entry 139) are the model's choices. BLK_SHA256,
BLK_HMAC_SHA256,  CMAC_GENERATE,  CMAC_VERIFY,  IDENTITY_SIGN,  CHALLENGE_RESPONSE: with PD3 on BLK_CMD with GO starts
the operation over BLK_LEN bytes with the key that the slot holds then; BUSY is 1. BLOCK_OP_DONE: SHA-256 of the bytes;
 HMAC-SHA-256 under a key with HMAC;  CMAC under a key with CMAC;  its verification, RESULT 0 or 9;  an ECDSA signature
of the digest with some nonce;  the challenge response, AUTH_CNT one more.  A wrong BLK_LEN ends with RESULT 12,  a
slot without the usage with RESULT 2. -/
def Obligations.BlockUnit : Prop :=
  (∀ (s : State),
    s.sound = true → s.domOn 3 = true → s.run .ciphBlock 0 = true → s.kiln.block = none → s.unwatched (cbB + 0x040) →
    Runs (.blkSha256) s fun t =>
      (t.kiln.block.map (fun j => (bitsOf j.word 27 24, bitsOf j.word 9 0, j.len, j.key)) = some (0, 0, s.bf
        F.ciphBlock_BLK_LEN_BYTES, (s.slot 0).key.map fun k => (s.slotF 0 F.kilnSlot_SLOT_ATTR_TYPE, s.slotF 0
        F.kilnSlot_SLOT_ATTR_USAGE, k))) ∧
      (t.bf F.ciphBlock_BLK_STS_BUSY = 1) ∧
      Frame [0x211] s ({ t with kiln := s.kiln })) ∧
  (∀ (s : State) (i : Nat),
    s.sound = true → s.domOn 3 = true → s.run .ciphBlock 0 = true → s.kiln.block = none → s.unwatched (cbB + 0x040) → i <
      1024 →
    Runs (.blkHmacSha256 i) s fun t =>
      (t.kiln.block.map (fun j => (bitsOf j.word 27 24, bitsOf j.word 9 0, j.len, j.key)) = some (1, i, s.bf
        F.ciphBlock_BLK_LEN_BYTES, (s.slot i).key.map fun k => (s.slotF i F.kilnSlot_SLOT_ATTR_TYPE, s.slotF i
        F.kilnSlot_SLOT_ATTR_USAGE, k))) ∧
      (t.bf F.ciphBlock_BLK_STS_BUSY = 1) ∧
      Frame [0x211] s ({ t with kiln := s.kiln })) ∧
  (∀ (s : State) (i : Nat),
    s.sound = true → s.domOn 3 = true → s.run .ciphBlock 0 = true → s.kiln.block = none → s.unwatched (cbB + 0x040) → i <
      1024 →
    Runs (.cmacGenerate i) s fun t =>
      (t.kiln.block.map (fun j => (bitsOf j.word 27 24, bitsOf j.word 9 0, j.len, j.key)) = some (2, i, s.bf
        F.ciphBlock_BLK_LEN_BYTES, (s.slot i).key.map fun k => (s.slotF i F.kilnSlot_SLOT_ATTR_TYPE, s.slotF i
        F.kilnSlot_SLOT_ATTR_USAGE, k))) ∧
      (t.bf F.ciphBlock_BLK_STS_BUSY = 1) ∧
      Frame [0x211] s ({ t with kiln := s.kiln })) ∧
  (∀ (s : State) (i : Nat),
    s.sound = true → s.domOn 3 = true → s.run .ciphBlock 0 = true → s.kiln.block = none → s.unwatched (cbB + 0x040) → i <
      1024 →
    Runs (.cmacVerify i) s fun t =>
      (t.kiln.block.map (fun j => (bitsOf j.word 27 24, bitsOf j.word 9 0, j.len, j.key)) = some (3, i, s.bf
        F.ciphBlock_BLK_LEN_BYTES, (s.slot i).key.map fun k => (s.slotF i F.kilnSlot_SLOT_ATTR_TYPE, s.slotF i
        F.kilnSlot_SLOT_ATTR_USAGE, k))) ∧
      (t.bf F.ciphBlock_BLK_STS_BUSY = 1) ∧
      Frame [0x211] s ({ t with kiln := s.kiln })) ∧
  (∀ (s : State),
    s.sound = true → s.domOn 3 = true → s.run .ciphBlock 0 = true → s.kiln.block = none → s.unwatched (cbB + 0x040) →
    Runs (.identitySign) s fun t =>
      (t.kiln.block.map (fun j => (bitsOf j.word 27 24, bitsOf j.word 9 0, j.len, j.key)) = some (4, 0, s.bf
        F.ciphBlock_BLK_LEN_BYTES, (s.slot 0).key.map fun k => (s.slotF 0 F.kilnSlot_SLOT_ATTR_TYPE, s.slotF 0
        F.kilnSlot_SLOT_ATTR_USAGE, k))) ∧
      (t.bf F.ciphBlock_BLK_STS_BUSY = 1) ∧
      Frame [0x211] s ({ t with kiln := s.kiln })) ∧
  (∀ (s : State) (i : Nat),
    s.sound = true → s.domOn 3 = true → s.run .ciphBlock 0 = true → s.kiln.block = none → s.unwatched (cbB + 0x040) → i <
      1024 →
    Runs (.challengeResponse i) s fun t =>
      (t.kiln.block.map (fun j => (bitsOf j.word 27 24, bitsOf j.word 9 0, j.len, j.key)) = some (5, i, s.bf
        F.ciphBlock_BLK_LEN_BYTES, (s.slot i).key.map fun k => (s.slotF i F.kilnSlot_SLOT_ATTR_TYPE, s.slotF i
        F.kilnSlot_SLOT_ATTR_USAGE, k))) ∧
      (t.bf F.ciphBlock_BLK_STS_BUSY = 1) ∧
      Frame [0x211] s ({ t with kiln := s.kiln })) ∧
  (∀ (s : State) (j : BlockJob),
    s.sound = true → s.alive .ciphGlobal 0 = true → s.alive .ciphBlock 0 = true → s.kiln.block = some j → s.kiln.alarm =
      .normal → bitsOf j.word 27 24 = 0 →
    Runs (.blockOpDone) s fun t =>
      (t.kiln.block = none) ∧
      (t.bf F.ciphBlock_BLK_STS_BUSY = 0) ∧
      (t.bf F.ciphBlock_BLK_STS_DONE = 1) ∧
      (t.bf F.ciphBlock_BLK_STS_RESULT = 0) ∧
      (t.evPend 403 = true) ∧
      (t.blkOut 8 = sha256 (s.blockIn j.len)) ∧
      Frame [0x210, 0x211] s ({ t with kiln := s.kiln })) ∧
  (∀ (s : State) (j : BlockJob) (k : Bytes),
    s.sound = true → s.alive .ciphGlobal 0 = true → s.alive .ciphBlock 0 = true → s.kiln.block = some j → s.kiln.alarm =
      .normal → bitsOf j.word 27 24 = 1 → j.keyFor 4 = some k →
    Runs (.blockOpDone) s fun t =>
      (t.kiln.block = none) ∧
      (t.bf F.ciphBlock_BLK_STS_BUSY = 0) ∧
      (t.bf F.ciphBlock_BLK_STS_DONE = 1) ∧
      (t.bf F.ciphBlock_BLK_STS_RESULT = 0) ∧
      (t.evPend 403 = true) ∧
      (t.blkOut 8 = hmacSha256 k (s.blockIn j.len)) ∧
      Frame [0x210, 0x211] s ({ t with kiln := s.kiln })) ∧
  (∀ (s : State) (j : BlockJob) (k : Bytes),
    s.sound = true → s.alive .ciphGlobal 0 = true → s.alive .ciphBlock 0 = true → s.kiln.block = some j → s.kiln.alarm =
      .normal → bitsOf j.word 27 24 = 2 → j.keyFor 3 = some k →
    Runs (.blockOpDone) s fun t =>
      (t.kiln.block = none) ∧
      (t.bf F.ciphBlock_BLK_STS_BUSY = 0) ∧
      (t.bf F.ciphBlock_BLK_STS_DONE = 1) ∧
      (t.bf F.ciphBlock_BLK_STS_RESULT = 0) ∧
      (t.evPend 403 = true) ∧
      (t.blkOut 4 = aesCmac k (s.blockIn j.len)) ∧
      Frame [0x210, 0x211] s ({ t with kiln := s.kiln })) ∧
  (∀ (s : State) (j : BlockJob) (k : Bytes),
    s.sound = true → s.alive .ciphGlobal 0 = true → s.alive .ciphBlock 0 = true → s.kiln.block = some j → s.kiln.alarm =
      .normal → bitsOf j.word 27 24 = 3 → 16 ≤ j.len → j.keyFor 3 = some k →
    Runs (.blockOpDone) s fun t =>
      (t.kiln.block = none) ∧
      (t.bf F.ciphBlock_BLK_STS_BUSY = 0) ∧
      (t.bf F.ciphBlock_BLK_STS_DONE = 1) ∧
      (t.bf F.ciphBlock_BLK_STS_RESULT = (if aesCmac k ((s.blockIn j.len).take (j.len - 16)) = (s.blockIn j.len).drop
        (j.len - 16) then 0 else 9)) ∧
      (t.evPend 403 = true) ∧
      (t.blkOut 16 = s.blkOut 16) ∧
      Frame [0x210, 0x211] s ({ t with kiln := s.kiln })) ∧
  (∀ (s : State) (j : BlockJob) (d : Masked),
    s.sound = true → s.alive .ciphGlobal 0 = true → s.alive .ciphBlock 0 = true → s.kiln.block = some j → s.kiln.alarm =
      .normal → bitsOf j.word 27 24 = 4 → j.len = 32 → s.rngRuns = true → s.kiln.scalar = some d →
    Runs (.blockOpDone) s fun t =>
      (t.kiln.block = none) ∧
      (t.bf F.ciphBlock_BLK_STS_BUSY = 0) ∧
      (t.bf F.ciphBlock_BLK_STS_DONE = 1) ∧
      (t.bf F.ciphBlock_BLK_STS_RESULT = 0) ∧
      (t.evPend 403 = true) ∧
      ((∃ n, 0 < n ∧ n < p256N ∧ t.blkOut 16 = beBytes 32 (ecdsaSign (beNat d.value) n (s.blockIn 32)).1 ++ beBytes 32
        (ecdsaSign (beNat d.value) n (s.blockIn 32)).2)) ∧
      Frame [0x210, 0x211] s ({ t with kiln := s.kiln, freeCount := s.freeCount })) ∧
  (∀ (s : State) (j : BlockJob) (k : Bytes),
    s.sound = true → s.alive .ciphGlobal 0 = true → s.alive .ciphBlock 0 = true → s.kiln.block = some j → s.kiln.alarm =
      .normal → bitsOf j.word 27 24 = 5 → j.len = 16 → j.keyFor 5 = some k →
    Runs (.blockOpDone) s fun t =>
      (t.kiln.block = none) ∧
      (t.bf F.ciphBlock_BLK_STS_BUSY = 0) ∧
      (t.bf F.ciphBlock_BLK_STS_DONE = 1) ∧
      (t.bf F.ciphBlock_BLK_STS_RESULT = 0) ∧
      (t.evPend 403 = true) ∧
      (t.blkOut 8 = hmacSha256 k (ofNums labelAuth ++ s.blockIn 16 ++ s.serial ++ beBytes 4 (s.bf
        F.ciphBlock_AUTH_CNT_COUNT))) ∧
      (t.bf F.ciphBlock_AUTH_CNT_COUNT = (s.bf F.ciphBlock_AUTH_CNT_COUNT + 1) % 2 ^ 32) ∧
      Frame [0x210, 0x211] s ({ t with kiln := s.kiln })) ∧
  (∀ (s : State) (j : BlockJob),
    s.sound = true → s.alive .ciphGlobal 0 = true → s.alive .ciphBlock 0 = true → s.kiln.block = some j → s.kiln.alarm =
      .normal → bitsOf j.word 27 24 = 5 → j.len ≠ 16 →
    Runs (.blockOpDone) s fun t =>
      (t.kiln.block = none) ∧
      (t.bf F.ciphBlock_BLK_STS_BUSY = 0) ∧
      (t.bf F.ciphBlock_BLK_STS_DONE = 1) ∧
      (t.bf F.ciphBlock_BLK_STS_RESULT = 12) ∧
      (t.evPend 403 = true) ∧
      (t.blkOut 16 = s.blkOut 16) ∧
      Frame [0x210, 0x211] s ({ t with kiln := s.kiln })) ∧
  (∀ (s : State) (j : BlockJob),
    s.sound = true → s.alive .ciphGlobal 0 = true → s.alive .ciphBlock 0 = true → s.kiln.block = some j → s.kiln.alarm =
      .normal → bitsOf j.word 27 24 = 1 → j.keyFor 4 = none →
    Runs (.blockOpDone) s fun t =>
      (t.kiln.block = none) ∧
      (t.bf F.ciphBlock_BLK_STS_BUSY = 0) ∧
      (t.bf F.ciphBlock_BLK_STS_DONE = 1) ∧
      (t.bf F.ciphBlock_BLK_STS_RESULT = 2) ∧
      (t.evPend 403 = true) ∧
      (t.blkOut 16 = s.blkOut 16) ∧
      Frame [0x210, 0x211] s ({ t with kiln := s.kiln }))

/-- What the supplies, the junction and the domain switches do. In canonical states. The model's choices: what needs PD1,
PD2 and VCAN (log entry 75), the entry to RUN (77), writes with PD3 off (100), what a switch takes along and waits for
(101), PEND (102), the cause after a hold (103) and the remembered release (141). RAIL_GOOD in its order sets GOOD;
VCAN takes no part in the checks;  the last rail after a hold that has ended brings PD3 on (log entry 141);  a break of
the sequence at power-up keeps PD3 off;  with PD3 on, out of order, late, or VCORE high sets ORDER, WINDOW, CORE_SRAM
and holds the Logic die in reset;  RAIL_NOT_GOOD with PD3 on is a DROP: so does it,  of VCAN or without PD3 it only
clears GOOD. SEQ_ERROR_RELEASE: PD3 on, PARTIAL with CAUSE 6, EV9;  POWER_ON from OFF with CAUSE 7;  VSUP_UV (below 4.0
V the LIN transmitters hold recessive) and  VSUP_OV set their bits and EV7;  its end clears them;  VSUP_LOSS: OFF,
nothing on, AON reset. THERMAL_WARNING: TJ, and EV8 while TJ − 64 is at or above WARN_C;  THERMAL_SHUTDOWN: the entry
sequence with CAUSE 4 and every domain cut but those that armed wakes need;  THERMAL_RECOVERY below 130 °C acts on a
latched wake. DOM_REQ_WRITE: the request with required bits kept, PD3 set and absent ones 0; the highest off request is
served first; a reversal is held in PEND;  DOMAIN_SWITCH_DONE: the domain is on, EV5;  or, once its pages are drained,
off, its registers and pages as after reset;  DOMAIN_CUT_TIMEOUT cuts it all the same, EV6 and EV5. -/
def Obligations.SuppliesAndDomains : Prop :=
  (∀ (s : State) (r : Nat),
    s.sound = true → r < 10 → r ≠ 0 → (railBefore r).all (fun q => s.railGood q) = true → s.power.release = false →
    Runs (.railGood r false false) s fun t =>
      (t.railGood r = true) ∧
      (∀ q, q < 10 → q ≠ r → t.railGood q = s.railGood q) ∧
      (t.gf pwB F.pwrMain_SUPPLY_STS_SEQ_ERR = s.gf pwB F.pwrMain_SUPPLY_STS_SEQ_ERR) ∧
      Frame [0x20] s t) ∧
  (∀ (s : State) (late high : Bool),
    s.sound = true → s.power.release = false →
    Runs (.railGood 1 late high) s fun t =>
      (t.railGood 1 = true) ∧
      (∀ q, q < 10 → q ≠ 1 → t.railGood q = s.railGood q) ∧
      (t.gf pwB F.pwrMain_SUPPLY_STS_SEQ_ERR = s.gf pwB F.pwrMain_SUPPLY_STS_SEQ_ERR) ∧
      Frame [0x20] s t) ∧
  (∀ (s : State) (r : Nat),
    s.sound = true → r < 10 → r ≠ 0 → (railBefore r).all (fun q => s.railGood q) = true → s.power.release = true →
      s.power.hold = false → s.domOn 3 = false → (List.range 10).all (fun q => q == r || q == 1 || s.railGood q) = true →
      s.power.resetN = false → s.jtag.test = 0 →
    Runs (.railGood r false false) s fun t =>
      (t.railGood r = true) ∧
      (t.domOn 3 = true) ∧
      (t.pstate = 3) ∧
      (t.gf pwB F.pwrMain_PSTATE_CAUSE = 7) ∧
      (t.power.release = false)) ∧
  (∀ (s : State) (r : Nat) (late high : Bool),
    s.sound = true → s.domOn 3 = false → r < 10 → r ≠ 1 → ((railBefore r).any (fun q => !s.railGood q) = true ∨ late =
      true ∨ high = true) →
    Runs (.railGood r late high) s fun t =>
      (t.railGood r = true) ∧
      (∀ q, q < 10 → q ≠ r → t.railGood q = s.railGood q) ∧
      (t.power.hold = true) ∧
      (((railBefore r).any (fun q => !s.railGood q) = true → bitOf (t.gf pwB F.pwrMain_SUPPLY_STS_SEQ_ERR) 0 = true)) ∧
      ((late = true → bitOf (t.gf pwB F.pwrMain_SUPPLY_STS_SEQ_ERR) 1 = true)) ∧
      ((high = true → bitOf (t.gf pwB F.pwrMain_SUPPLY_STS_SEQ_ERR) 2 = true)) ∧
      Frame [0x20] s ({ t with power := s.power })) ∧
  (∀ (s : State) (r : Nat) (late high : Bool),
    s.sound = true → s.domOn 3 = true → r < 10 → r ≠ 1 → ((railBefore r).any (fun q => !s.railGood q) = true ∨ late =
      true ∨ high = true) →
    Runs (.railGood r late high) s fun t =>
      (t.railGood r = true) ∧
      (t.power.hold = true) ∧
      (((railBefore r).any (fun q => !s.railGood q) = true → bitOf (t.gf pwB F.pwrMain_SUPPLY_STS_SEQ_ERR) 0 = true)) ∧
      ((late = true → bitOf (t.gf pwB F.pwrMain_SUPPLY_STS_SEQ_ERR) 1 = true)) ∧
      ((high = true → bitOf (t.gf pwB F.pwrMain_SUPPLY_STS_SEQ_ERR) 2 = true)) ∧
      (LogicDown s t)) ∧
  (∀ (s : State) (r : Nat),
    s.sound = true → s.domOn 3 = true → r < 10 → r ≠ 1 → s.railGood r = true →
    Runs (.railNotGood r) s fun t =>
      (t.railGood r = false) ∧
      (∀ q, q < 10 → q ≠ r → t.railGood q = s.railGood q) ∧
      (bitOf (t.gf pwB F.pwrMain_SUPPLY_STS_SEQ_ERR) 3 = true) ∧
      (t.power.hold = true) ∧
      (LogicDown s t)) ∧
  (∀ (s : State) (r : Nat),
    s.sound = true → r < 10 → (r = 1 ∨ s.domOn 3 = false) → s.railGood r = true →
    Runs (.railNotGood r) s fun t =>
      (t.railGood r = false) ∧
      (∀ q, q < 10 → q ≠ r → t.railGood q = s.railGood q) ∧
      (t.gf pwB F.pwrMain_SUPPLY_STS_SEQ_ERR = s.gf pwB F.pwrMain_SUPPLY_STS_SEQ_ERR) ∧
      Frame [0x20] s t) ∧
  (∀ (s : State),
    s.sound = true → s.power.hold = true → s.railsGood = true → s.pstate ≠ 0 → s.power.resetN = false → s.jtag.test = 0 →
    Runs (.seqErrorRelease) s fun t =>
      (t.power.hold = false) ∧
      (t.domOn 3 = true) ∧
      (t.gf pwB F.pwrMain_PSTATE_CAUSE = 6) ∧
      (t.pstate = 3) ∧
      (t.evPend 9 = true)) ∧
  (∀ (s : State),
    s.sound = true → s.pstate = 0 → s.railsGood = true → s.power.hold = false → s.power.resetN = false → s.jtag.test = 0
      →
    Runs (.powerOn) s fun t =>
      (t.domOn 3 = true) ∧
      (t.domReq = 8) ∧
      (t.pstate = 3) ∧
      (t.gf pwB F.pwrMain_PSTATE_CAUSE = 7) ∧
      (t.gf pwB F.pwrMain_PSTATE_PREV = 0)) ∧
  (∀ (s : State) (mv : Nat),
    s.sound = true →
    Runs (.vsupUv mv) s fun t =>
      (t.gf pwB F.pwrMain_SUPPLY_STS_VSUP_UV = 1) ∧
      (bitOf (t.gf pwB hdrRaw) 3 = true) ∧
      (t.power = { s.power with linLow := decide (mv < 4000) }) ∧
      Frame [0x20] s ({ t with power := s.power })) ∧
  (∀ (s : State),
    s.sound = true →
    Runs (.vsupOv) s fun t =>
      (t.gf pwB F.pwrMain_SUPPLY_STS_VSUP_OV = 1) ∧
      (bitOf (t.gf pwB hdrRaw) 3 = true) ∧
      Frame [0x20] s t) ∧
  (∀ (s : State),
    s.sound = true →
    Runs (.vsupOvervoltageEnd) s fun t =>
      (t.gf pwB F.pwrMain_SUPPLY_STS_VSUP_OV = 0) ∧
      (bitOf (t.gf pwB hdrRaw) 3 = (s.gf pwB F.pwrMain_SUPPLY_STS_VSUP_UV == 1)) ∧
      Frame [0x20] s t) ∧
  (∀ (s : State),
    s.sound = true →
    Runs (.vsupLoss) s fun t =>
      (t.pstate = 0) ∧
      (t.domSts = 0) ∧
      (∀ off, off / 0x1000 ≠ 0x20 → t.rd off = resetWord s.grade off) ∧
      (t.ddr = s.ddr) ∧
      (t.flash = s.flash) ∧
      (t.kiln.fuses = s.kiln.fuses)) ∧
  (∀ (s : State) (tj : Nat),
    s.sound = true →
    Runs (.thermalWarning tj) s fun t =>
      (t.gf pwB F.pwrMain_THERM_TJ = min 255 tj) ∧
      (bitOf (t.gf pwB hdrRaw) 4 = decide (s.gf pwB F.pwrMain_THERM_WARN_C + 64 ≤ min 255 tj)) ∧
      Frame [0x20] s t) ∧
  (∀ (s : State) (tj : Nat),
    s.sound = true → 214 ≤ tj → s.awake = true → (s.power.entry = none ∨ s.gf pwB F.pwrMain_PSTATE_ENTRY = 1) →
    Runs (.thermalShutdown tj) s fun t =>
      (t.power.hot = true) ∧
      (t.power.entry = some 4) ∧
      (t.gf pwB F.pwrMain_PSTATE_ENTRY = 1) ∧
      (∀ m, 3 ≤ m → m < 15 → bitOf t.domSts m = false) ∧
      ((s.anyLinArmed = false → bitOf t.domSts 2 = false)) ∧
      ((s.anyCanArmed = false → bitOf t.domSts 1 = false)) ∧
      (t.ddr = s.ddr) ∧
      (t.flash = s.flash)) ∧
  (∀ (s : State) (tj : Nat),
    s.sound = true → s.power.hot = true → tj < 194 → (s.pstate = 1 ∨ s.pstate = 2) → s.power.entry = none → s.power.woken
      = true →
    Runs (.thermalRecovery tj) s fun t =>
      (t.power.hot = false) ∧
      (t.gf pwB F.pwrMain_THERM_TJ = tj) ∧
      (t.power.waking = 1) ∧
      (t.gf pwB F.pwrMain_INH_CTL_STATE0 = 1) ∧
      (t.gf pwB F.pwrMain_INH_CTL_STATE1 = 1) ∧
      Frame [0x20] s ({ t with power := s.power })) ∧
  (∀ (s : State) (w : Word),
    s.sound = true → s.domOn 3 = true → s.dieLost = false → s.unwatched (pwB + 0x048) → s.power.entry = none →
    Runs (.domReqWrite w) s fun t =>
      (t.domReq = natAnd (natAnd w.toNat 0x7FFE ||| natAnd (2 * s.gf guB F.guardGlobal_REQUIRED_DOMAINS) s.domReq ||| 8)
        s.grade.domMask) ∧
      (∀ n, s.domBusy = none → 1 ≤ n → n ≤ 14 → n ≠ 3 → bitOf s.domSts n = true → bitOf t.domReq n = false → (∀ m, m ≤ 14
        → n < m → bitOf s.domSts m = true → bitOf t.domReq m = true) → t.domBusy = some n) ∧
      (∀ n, s.domBusy = some n → t.domBusy = some n ∧ bitOf (2 * t.gf pwB F.pwrMain_DOM_BUSY_PEND) n = (bitOf t.domReq n
        == bitOf s.domSts n))) ∧
  (∀ (s : State) (n : Nat),
    s.sound = true → s.domBusy = some n → s.power.entry = none → 1 ≤ n → n ≤ 14 → n ≠ 3 → (List.range 15).all (fun m => m
      == n || m == 3 || bitOf s.domReq m == bitOf s.domSts m) = true → bitOf s.domReq n = true → bitOf s.domSts n = false
      → n ≠ 2 → n ≠ 6 → n ≠ 7 →
    Runs (.domainSwitchDone) s fun t =>
      (t.domSts = s.domSts + 2 ^ n) ∧
      (t.domBusy = none) ∧
      (t.evPend 5 = true) ∧
      Frame [0x20] s t) ∧
  (∀ (s : State) (n : Nat),
    s.sound = true → s.domBusy = some n → s.power.entry = none → 1 ≤ n → n ≤ 14 → n ≠ 3 → (List.range 15).all (fun m => m
      == n || m == 3 || bitOf s.domReq m == bitOf s.domSts m) = true → bitOf s.domReq n = false → bitOf s.domSts n = true
      → s.domWaits n = false → (s.domSlices n).all (fun i => s.sliceState i == 2) = true →
    Runs (.domainSwitchDone) s fun t =>
      (t.domSts = s.domSts - 2 ^ n) ∧
      (t.domBusy = none) ∧
      (t.evPend 5 = true) ∧
      (DomainReset t n) ∧
      (t.ddr = s.ddr) ∧
      (t.flash = s.flash) ∧
      (t.time = s.time)) ∧
  (∀ (s : State) (n : Nat),
    s.sound = true → s.domBusy = some n → s.power.entry = none → 1 ≤ n → n ≤ 14 → n ≠ 3 → (List.range 15).all (fun m => m
      == n || m == 3 || bitOf s.domReq m == bitOf s.domSts m) = true → bitOf s.domReq n = false → bitOf s.domSts n = true
      → s.domWaits n = true →
    Runs (.domainCutTimeout) s fun t =>
      (t.domSts = s.domSts - 2 ^ n) ∧
      (t.domBusy = none) ∧
      (t.evPend 6 = true) ∧
      (t.evPend 5 = true) ∧
      (DomainReset t n) ∧
      (t.ddr = s.ddr) ∧
      (t.flash = s.flash))

/-- What the entry sequence, the wake path and the wake sources do. In canonical states. The model's choices: writes with
PD3 off (log entry 100), LP_ENTRY_AUTO and the steps of R404 as commands (102), the end of a supply failure and Standby
without PD3 (104), the 32 kHz cycle of two wakes (123), a lost link (125), a suspension over PD3 off (141). LP_ENTRY_GO
with WAKE_SRC 0 starts the entry sequence: ENTRY 1, the transceivers go to Standby or Sleep, DOM_REQ stays;  else it
starts nothing;  LP_ENTRY_AUTO with AUTO and every enabled ring in SLEEP too. LP_ENTRY_COMPLETE: STANDBY with a bus
wake armed, else SLEEP; INH outputs fall; SLEEPS + 1;  after a wake on to the wake path, ENTRY_ABORTS + 1. WAKE_INPUT
held for FILT cycles latches its bit with EV272, at once or with PD3; in SLEEP and STANDBY the INH outputs go high. A
shorter one is ignored. CAN_BUS_WAKE by a wake-up pattern latches its bit, EV273, and asks for Normal;  so does a
wake-up frame, with bit 7 of the detail;  other good frames only lower FEC;  a bad one raises it,  at 32 with OVF and
EV275 a wake. LIN_BUS_WAKE likewise, EV274, back to Normal;  LIN_IDLE_SLEEP puts a responder to Sleep, EV274.
WAKE_SUPPLIES_GOOD: PD3 on, PARTIAL with CAUSE 2, WAKES + 1, the waiting events;  WAKE_SUPPLY_TIMEOUT: the INH outputs
fall whatever KEEP_STBY says, SUPPLY_FAIL + 1, a retry but for the third;  WAKE_RETRY raises them again.
WAKE_FIRST_CLEAR clears VALID. PN_SUSPEND requests a suspension where MODE is not 0;  PN_SUSPEND_EFFECT suspends the
channel. -/
def Obligations.EntryAndWake : Prop :=
  (∀ (s : State) (w : Word),
    s.sound = true → s.dieLost = false → s.unwatched (pwB + 0x044) → s.domOn 3 = true → 3 ≤ s.pstate → s.power.entry =
      none → s.gf wkB F.pwrWake_WAKE_SRC_SRC = 0 →
    Runs (.lpEntryGo w) s fun t =>
      (t.power.entry = some 0) ∧
      (t.gf pwB F.pwrMain_PSTATE_ENTRY = 1) ∧
      (∀ n, n < 16 → s.alive .can n = true → t.gf (caB n) F.can_TRCV_CTL_STATE = if s.canArmed n then 2 else 3) ∧
      (∀ n, n < 8 → s.alive .lin n = true → t.on (liB n) F.lin_LIN_TRCV_STATE = true) ∧
      (t.domReq = s.domReq)) ∧
  (∀ (s : State) (w : Word),
    s.sound = true → s.domOn 3 = true → s.dieLost = false → s.unwatched (pwB + 0x044) → s.gf wkB F.pwrWake_WAKE_SRC_SRC ≠
      0 →
    Runs (.lpEntryGo w) s fun t =>
      (t.gf pwB F.pwrMain_LP_CTL_AUTO = w.toNat % 2) ∧
      Frame [0x20] s t) ∧
  (∀ (s : State),
    s.sound = true → s.domOn 3 = true → 3 ≤ s.pstate → s.power.entry = none → s.gf wkB F.pwrWake_WAKE_SRC_SRC = 0 → s.gf
      pwB F.pwrMain_LP_CTL_AUTO = 1 → s.run .pwrRing 0 = true → (List.range 8).any (fun k => s.nf k F.pwrRing_NM_CTL_EN
      == 1) = true → (List.range 8).all (fun k => s.nf k F.pwrRing_NM_CTL_EN == 0 || s.nmState k == 5) = true →
    Runs (.lpEntryAuto) s fun t =>
      (t.power.entry = some 1) ∧
      (t.gf pwB F.pwrMain_PSTATE_ENTRY = 1) ∧
      (∀ n, n < 16 → s.alive .can n = true → t.gf (caB n) F.can_TRCV_CTL_STATE = if s.canArmed n then 2 else 3) ∧
      (∀ n, n < 8 → s.alive .lin n = true → t.on (liB n) F.lin_LIN_TRCV_STATE = true) ∧
      (t.domReq = s.domReq)) ∧
  (∀ (s : State) (c : Nat),
    s.sound = true → s.power.entry = some c → 3 ≤ s.pstate → s.domBusy = none → s.nextSwitch = none → s.entryStopped =
      false →
    Runs (.lpEntryComplete) s fun t =>
      (t.power.entry = none) ∧
      (t.gf pwB F.pwrMain_PSTATE_ENTRY = 0) ∧
      (t.pstate = (if (s.anyCanArmed || s.anyLinArmed) then 2 else 1)) ∧
      (t.gf pwB F.pwrMain_PSTATE_CAUSE = c % 16) ∧
      (t.gf pwB F.pwrMain_INH_CTL_STATE0 = (if s.on pwB F.pwrMain_INH_CTL_MODE0 || ((s.anyCanArmed || s.anyLinArmed) &&
        s.on pwB F.pwrMain_INH_CTL_KEEP_STBY0) then s.gf pwB F.pwrMain_INH_CTL_STATE0 else 0)) ∧
      (t.gf pwB F.pwrMain_INH_CTL_STATE1 = (if s.on pwB F.pwrMain_INH_CTL_MODE1 || ((s.anyCanArmed || s.anyLinArmed) &&
        s.on pwB F.pwrMain_INH_CTL_KEEP_STBY1) then s.gf pwB F.pwrMain_INH_CTL_STATE1 else 0)) ∧
      (t.gf pwB F.pwrMain_SLEEPS_COUNT = min 0xFFFFFFFF (s.gf pwB F.pwrMain_SLEEPS_COUNT + 1)) ∧
      Frame [0x20] s ({ t with power := s.power })) ∧
  (∀ (s : State) (c : Nat),
    s.sound = true → s.power.entry = some c → s.domBusy = none → s.nextSwitch = none → s.power.woken = true → s.power.hot
      = false → s.domOn 3 = false →
    Runs (.lpEntryComplete) s fun t =>
      (t.power.entry = none) ∧
      (t.power.waking = 1) ∧
      (t.gf pwB F.pwrMain_ENTRY_ABORTS_COUNT = min 0xFFFFFFFF (s.gf pwB F.pwrMain_ENTRY_ABORTS_COUNT + 1)) ∧
      (t.gf pwB F.pwrMain_PSTATE_ENTRY = 0) ∧
      Frame [0x20] s ({ t with power := s.power })) ∧
  (∀ (s : State) (i held : Nat) (falling : Bool),
    s.sound = true → i < 8 → s.pstate ≠ 0 → s.gf wkB (F.pwrWake_WAKE_CFG_EN.at (4 * i)) = 1 → (s.gf wkB
      (F.pwrWake_WAKE_CFG_EDGE.at (4 * i)) = 2 ∨ s.gf wkB (F.pwrWake_WAKE_CFG_EDGE.at (4 * i)) = b2n falling) → s.gf wkB
      (F.pwrWake_WAKE_CFG_FILT.at (4 * i)) ≤ held →
    Runs (.wakeInput i falling held) s fun t =>
      (WakeLatched s t i) ∧
      ((s.domOn 3 = true → t.evPend 272 = true ∧ t.power.events = s.power.events)) ∧
      ((s.domOn 3 = false → t.power.events = s.power.events ++ [(272, i)])) ∧
      (((s.pstate = 1 ∨ s.pstate = 2) → s.power.entry = none → s.power.hot = false → s.power.waking = 0 → t.power.waking
        = 1 ∧ t.gf pwB F.pwrMain_INH_CTL_STATE0 = 1 ∧ t.gf pwB F.pwrMain_INH_CTL_STATE1 = 1)) ∧
      ((s.power.entry.isSome = true → t.power.woken = true)) ∧
      (((List.range 8).all (fun k => s.nmState k == 0) = true → Frame [0x20, 0x21] s { t with power := s.power }))) ∧
  (∀ (s : State) (i held : Nat) (falling : Bool),
    s.sound = true → i < 8 → s.gf wkB (F.pwrWake_WAKE_CFG_EN.at (4 * i)) = 1 → held < s.gf wkB
      (F.pwrWake_WAKE_CFG_FILT.at (4 * i)) →
    Runs (.wakeInput i falling held) s fun t =>
      t = s) ∧
  (∀ (s : State) (n : Nat) (f : CanFrame),
    s.sound = true → s.canStandby n = true → (s.gf wkB (F.pwrWake_CANW_CTL_MODE.at (32 * n)) = 1 ∨ s.gf wkB
      (F.pwrWake_CANW_CTL_MODE.at (32 * n)) = 3) →
    Runs (.canBusWake n 0 f) s fun t =>
      (WakeLatched s t (8 + n)) ∧
      ((s.domOn 3 = true → t.evPend 273 = true)) ∧
      ((s.domOn 3 = false → t.power.events = s.power.events ++ [(273, n)])) ∧
      ((s.awake = true → s.dieLost = false → (t.canCh n).trcv = some 0))) ∧
  (∀ (s : State) (n : Nat) (f : CanFrame),
    s.sound = true → s.canStandby n = true → 2 ≤ s.gf wkB (F.pwrWake_CANW_CTL_MODE.at (32 * n)) → w4Format (canNorm f).w4
      = 0 → s.wakeFrame n (canNorm f) = true →
    Runs (.canBusWake n 1 f) s fun t =>
      (WakeLatched s t (8 + n)) ∧
      (t.gf wkB (F.pwrWake_CANW_STS_FEC.at (32 * n)) = s.gf wkB (F.pwrWake_CANW_STS_FEC.at (32 * n)) - 1) ∧
      ((s.domOn 3 = true → t.evPend 273 = true)) ∧
      ((s.domOn 3 = false → t.power.events = s.power.events ++ [(273, 128 + n)])) ∧
      ((s.awake = true → s.dieLost = false → (t.canCh n).trcv = some 0))) ∧
  (∀ (s : State) (n : Nat) (f : CanFrame),
    s.sound = true → s.canStandby n = true → 2 ≤ s.gf wkB (F.pwrWake_CANW_CTL_MODE.at (32 * n)) → w4Format (canNorm f).w4
      = 0 → s.wakeFrame n (canNorm f) = false →
    Runs (.canBusWake n 1 f) s fun t =>
      (t.gf wkB (F.pwrWake_CANW_STS_FEC.at (32 * n)) = s.gf wkB (F.pwrWake_CANW_STS_FEC.at (32 * n)) - 1) ∧
      Frame [0x21] s t) ∧
  (∀ (s : State) (n : Nat) (f : CanFrame),
    s.sound = true → s.canStandby n = true → 2 ≤ s.gf wkB (F.pwrWake_CANW_CTL_MODE.at (32 * n)) → w4Format (canNorm f).w4
      = 0 → s.gf wkB (F.pwrWake_CANW_STS_FEC.at (32 * n)) ≠ 31 →
    Runs (.canBusWake n 2 f) s fun t =>
      (t.gf wkB (F.pwrWake_CANW_STS_FEC.at (32 * n)) = min 32 (s.gf wkB (F.pwrWake_CANW_STS_FEC.at (32 * n)) + 1)) ∧
      Frame [0x21] s t) ∧
  (∀ (s : State) (n : Nat) (f : CanFrame),
    s.sound = true → s.canStandby n = true → 2 ≤ s.gf wkB (F.pwrWake_CANW_CTL_MODE.at (32 * n)) → w4Format (canNorm f).w4
      = 0 → s.gf wkB (F.pwrWake_CANW_STS_FEC.at (32 * n)) = 31 →
    Runs (.canBusWake n 2 f) s fun t =>
      (WakeLatched s t (8 + n)) ∧
      (t.gf wkB (F.pwrWake_CANW_STS_OVF.at (32 * n)) = 1) ∧
      ((s.domOn 3 = true → t.evPend 275 = true))) ∧
  (∀ (s : State) (n : Nat),
    s.sound = true → n < 8 → s.linArmed n = true → s.domOn 3 = true → s.dieLost = false → s.pstate ≠ 0 → s.on (liB n)
      F.lin_LIN_TRCV_STATE = true →
    Runs (.linBusWake n) s fun t =>
      (WakeLatched s t (24 + n)) ∧
      (t.evPend 274 = true) ∧
      ((s.domOn 2 = true → t.on (liB n) F.lin_LIN_TRCV_STATE = false))) ∧
  (∀ (s : State) (n : Nat),
    s.sound = true → s.linRuns n = true → s.on (liB n) F.lin_LIN_CFG_ROLE = true → s.gf wkB
      (F.pwrWake_LINW_CTL_IDLE_EN.at (4 * n)) = 1 →
    Runs (.linIdleSleep n) s fun t =>
      (t.on (liB n) F.lin_LIN_TRCV_STATE = true) ∧
      (t.evPend 274 = true) ∧
      (t.gf (liB n) F.lin_LIN_STS_STATE = 4) ∧
      Frame [0x170 + n, 0x21] s ({ t with lin := s.lin })) ∧
  (∀ (s : State),
    s.sound = true → s.power.waking = 1 → s.railsGood = true → s.power.hold = false → s.power.resetN = false →
      s.jtag.test = 0 →
    Runs (.wakeSuppliesGood) s fun t =>
      (t.domOn 3 = true) ∧
      (t.pstate = 3) ∧
      (t.gf pwB F.pwrMain_PSTATE_CAUSE = 2) ∧
      (t.domReq = natAnd s.domSts 6 + 8) ∧
      (t.power.waking = 0) ∧
      (t.power.events = []) ∧
      (∀ e ∈ s.power.events, 272 ≤ e.1 → e.1 ≤ 275 → t.evPend e.1 = true) ∧
      (t.gf pwB F.pwrMain_WAKES_COUNT = min 0xFFFFFFFF (s.gf pwB F.pwrMain_WAKES_COUNT + 1))) ∧
  (∀ (s : State),
    s.sound = true → s.power.waking = 1 → s.railsGood = false → s.pstate < 3 →
    Runs (.wakeSupplyTimeout) s fun t =>
      (t.power.fails = s.power.fails + 1) ∧
      (t.power.waking = (if s.power.fails < 2 then 2 else 0)) ∧
      (t.gf pwB F.pwrMain_INH_CTL_STATE0 = (if s.on pwB F.pwrMain_INH_CTL_MODE0 then s.gf pwB F.pwrMain_INH_CTL_STATE0
        else 0)) ∧
      (t.gf pwB F.pwrMain_INH_CTL_STATE1 = (if s.on pwB F.pwrMain_INH_CTL_MODE1 then s.gf pwB F.pwrMain_INH_CTL_STATE1
        else 0)) ∧
      (t.pstate = s.pstate) ∧
      (t.gf pwB F.pwrMain_SUPPLY_FAIL_COUNT = min 0xFFFFFFFF (s.gf pwB F.pwrMain_SUPPLY_FAIL_COUNT + 1)) ∧
      Frame [0x20] s ({ t with power := s.power })) ∧
  (∀ (s : State),
    s.sound = true → s.power.waking = 2 →
    Runs (.wakeRetry) s fun t =>
      (t.power.waking = 1) ∧
      (t.gf pwB F.pwrMain_INH_CTL_STATE0 = 1) ∧
      (t.gf pwB F.pwrMain_INH_CTL_STATE1 = 1) ∧
      (t.power.fails = s.power.fails) ∧
      Frame [0x20] s ({ t with power := s.power })) ∧
  (∀ (s : State) (w : Word),
    s.sound = true → s.domOn 3 = true → s.dieLost = false → s.unwatched (wkB + 0x044) → w.getLsbD 31 = true →
    Runs (.wakeFirstClear w) s fun t =>
      (t.gf wkB F.pwrWake_WAKE_FIRST_VALID = 0) ∧
      Frame [0x21] s t) ∧
  (∀ (s : State) (n : Nat) (w : Word),
    s.sound = true → s.domOn 3 = true → s.dieLost = false → s.unwatched (wkB + 0x118 + 32 * n) → n < 16 → w.getLsbD 0 =
      true → (s.canCh n).susp = false → ¬ n ∈ s.power.suspend →
    Runs (.pnSuspend n w) s fun t =>
      (t.gf wkB (F.pwrWake_PN_CTL_FREEZE.at (32 * n)) = w.toNat / 2 % 2) ∧
      ((s.gf wkB (F.pwrWake_CANW_CTL_MODE.at (32 * n)) = 0 → t.gf wkB (F.pwrWake_PN_CTL_SUSPEND.at (32 * n)) = 0 ∧
        t.power = s.power)) ∧
      ((s.gf wkB (F.pwrWake_CANW_CTL_MODE.at (32 * n)) ≠ 0 → t.gf wkB (F.pwrWake_PN_CTL_SUSPEND.at (32 * n)) = 1 ∧
        t.power.suspend = s.power.suspend ++ [n]))) ∧
  (∀ (s : State) (n : Nat),
    s.sound = true → n ∈ s.power.suspend → n < 16 → s.alive .can n = true → s.canOnWire n = none → s.canState n ≠ 4 →
      s.canState n ≠ 5 →
    Runs (.pnSuspendEffect n) s fun t =>
      ((t.canCh n).susp = true) ∧
      (t.canReceives n = false) ∧
      (¬ n ∈ t.power.suspend) ∧
      (t.canState n = s.canState n))

/-- What the sleep-agreement ring's commands do. In canonical states. SLEEP_IND of ALIVE and LIMPHOME, DEST of LIMPHOME,
the message that gives way (log entry 78) and requests to an instance in OFF (114) are the model's choices. NM_ENABLE
with EN: RESET, the table holds ADDR alone, the counts are 0;  without, OFF. NM_WAKE_REQUEST clears SLEEP_OK and
records REASON; in NORMAL it sends ALIVE with WAKE_FLAG;  in WAIT_SLEEP it returns to NORMAL, ABORTS + 1, and reaches
linked instances;  with ALIVE;  in SLEEP to RESET. NM_MESSAGE_RX lists the sender and keeps CNT; in NORMAL a RING or
ALIVE to ADDR brings the token,  SLEEP_ACK under SLEEP_OK WAIT_SLEEP,  without it an ALIVE with REASON 4;  LIMPHOME
ends with a RING or ALIVE,  WAIT_SLEEP with any message but SLEEP_ACK, with the token where it is for ADDR (log entry
78);  one under another BASE reaches no instance.  CAN_RX_STORE of a ring frame lists its sender in every instance of
the channel whose BASE fits (log entry 78).  NM_RING_SEND with the token: RING, CNT one more than the last while
SLEEP_OK, else 0; SLEEP_ACK where CNT ≥ N. NM_MSG_COMPLETE OK of an own SLEEP_ACK, or of LIMPHOME with SLEEP_IND:
WAIT_SLEEP. NM_TMAX_TIMEOUT: ALIVE, RESTARTS + 1;  NM_TERR_TIMEOUT: LIMPHOME,  which sends LIMPHOME;  NM_WBS_EXPIRY:
SLEEP, the transceiver to Standby or Sleep;  NM_ADDRESS_TIMEOUT removes the address. -/
def Obligations.SleepRing : Prop :=
  (∀ (s : State) (k : Nat) (w : Word),
    s.sound = true → k < 8 → s.run .pwrRing 0 = true → s.unwatched (rgB + 0x100 + 64 * k) → s.nmState k = 0 → w.getLsbD
      31 = true → bitsOf w.toNat 28 24 < s.grade.canChannels → s.canState (bitsOf w.toNat 28 24) ≠ 2 → s.canState (bitsOf
      w.toNat 28 24) ≠ 3 →
    Runs (.nmEnable k w) s fun t =>
      (t.nmState k = 1) ∧
      (t.nmAddrs k = [bitsOf w.toNat 23 16]) ∧
      (t.nf k F.pwrRing_NM_STS_N = 1) ∧
      (t.nf k F.pwrRing_NM_CNT_ABORTS = 0) ∧
      (t.nf k F.pwrRing_NM_CNT_RESTARTS = 0) ∧
      (t.evPend (280 + k) = true) ∧
      Frame [0x22] s ({ t with nm := s.nm })) ∧
  (∀ (s : State) (k : Nat) (w : Word),
    s.sound = true → k < 8 → s.run .pwrRing 0 = true → s.unwatched (rgB + 0x100 + 64 * k) → w.getLsbD 31 = false →
    Runs (.nmEnable k w) s fun t =>
      (t.nmState k = 0) ∧
      Frame [0x22] s ({ t with nm := s.nm })) ∧
  (∀ (s : State) (k kind i : Nat),
    s.sound = true → k < 8 → s.run .pwrRing 0 = true → 1 ≤ kind → kind ≤ 5 → s.nmState k = 2 → s.nmFree k →
    Runs (.nmWakeRequest k kind i) s fun t =>
      (t.nf k F.pwrRing_NM_CTL_SLEEP_OK = 0) ∧
      (t.nf k F.pwrRing_NM_LINK_LAST_REASON = kind * 32 + i % 32) ∧
      (NmSent s t k ⟨1, false, false, 0, kind * 32 + i % 32⟩) ∧
      (t.nmState k = 2) ∧
      Frame [0x22, 0x168] s ({ t with bar2 := s.bar2, nm := s.nm })) ∧
  (∀ (s : State) (k kind i : Nat),
    s.sound = true → k < 8 → s.run .pwrRing 0 = true → 1 ≤ kind → kind ≤ 5 → s.nmState k = 4 → s.nmFree k →
    Runs (.nmWakeRequest k kind i) s fun t =>
      (t.nf k F.pwrRing_NM_CTL_SLEEP_OK = 0) ∧
      (t.nf k F.pwrRing_NM_LINK_LAST_REASON = kind * 32 + i % 32) ∧
      (t.nmState k = 2) ∧
      (t.evPend (280 + k) = true) ∧
      (t.nf k F.pwrRing_NM_CNT_ABORTS = min 0xFFFF (s.nf k F.pwrRing_NM_CNT_ABORTS + 1)) ∧
      (∀ i, i < 8 → i ≠ k → s.nmState i ≠ 0 → bitOf (s.nf i F.pwrRing_NM_LINK_LINK) k = true → t.nf i
        F.pwrRing_NM_CTL_SLEEP_OK = 0)) ∧
  (∀ (s : State) (k kind i : Nat),
    s.sound = true → k < 8 → s.run .pwrRing 0 = true → 1 ≤ kind → kind ≤ 5 → s.nmState k = 4 → s.nmFree k → (List.range
      8).all (fun i => i == k || !bitOf (s.nf i F.pwrRing_NM_LINK_LINK) k || s.nmState i == 0) = true →
    Runs (.nmWakeRequest k kind i) s fun t =>
      (NmSent s t k ⟨1, false, false, 0, kind * 32 + i % 32⟩) ∧
      Frame [0x22, 0x168] s ({ t with bar2 := s.bar2, nm := s.nm })) ∧
  (∀ (s : State) (k kind i : Nat),
    s.sound = true → k < 8 → s.run .pwrRing 0 = true → 1 ≤ kind → kind ≤ 5 → s.nmState k = 5 → (s.canState (s.nf k
      F.pwrRing_NM_CTL_CHAN) ≠ 2 ∧ s.canState (s.nf k F.pwrRing_NM_CTL_CHAN) ≠ 3) →
    Runs (.nmWakeRequest k kind i) s fun t =>
      (t.nf k F.pwrRing_NM_CTL_SLEEP_OK = 0) ∧
      (t.nf k F.pwrRing_NM_LINK_LAST_REASON = kind * 32 + i % 32) ∧
      (t.nmState k = 1) ∧
      (t.evPend (280 + k) = true) ∧
      ((t.nmOf k).wake = some (kind * 32 + i % 32))) ∧
  (∀ (s : State) (k a : Nat) (d : Bytes),
    s.sound = true → k < 8 → s.alive .pwrRing 0 = true → s.canReceives (s.nf k F.pwrRing_NM_CTL_CHAN) = true → d.length =
      8 → a < 256 → s.nmState k = 2 → bitOf (byteAt d 1) 5 = false → (bitOf (byteAt d 1) 0 = true ∨ bitOf (byteAt d 1) 1
      = true) → byteAt d 0 = s.nf k F.pwrRing_NM_CTL_ADDR →
    Runs (.nmMessageRx k (256 * s.nf k F.pwrRing_NM_CTL_BASE + a) d) s fun t =>
      (t.nmListed k a = true) ∧
      (∀ b, b < 256 → b ≠ a → t.nmListed k b = s.nmListed k b) ∧
      (t.nf k F.pwrRing_NM_STS_N = (t.nmAddrs k).length % 256) ∧
      (t.nf k F.pwrRing_NM_STS_LAST_CNT = (if bitOf (byteAt d 1) 0 then byteAt d 2 else if bitOf (byteAt d 1) 1 then 0
        else s.nf k F.pwrRing_NM_STS_LAST_CNT)) ∧
      ((t.nmOf k).token = true) ∧
      (t.nmState k = 2) ∧
      Frame [0x22] s ({ t with nm := s.nm })) ∧
  (∀ (s : State) (k a : Nat) (d : Bytes),
    s.sound = true → k < 8 → s.alive .pwrRing 0 = true → s.canReceives (s.nf k F.pwrRing_NM_CTL_CHAN) = true → d.length =
      8 → a < 256 → s.nmState k = 2 → bitOf (byteAt d 1) 5 = true → s.nf k F.pwrRing_NM_CTL_SLEEP_OK = 1 →
    Runs (.nmMessageRx k (256 * s.nf k F.pwrRing_NM_CTL_BASE + a) d) s fun t =>
      (t.nmListed k a = true) ∧
      (∀ b, b < 256 → b ≠ a → t.nmListed k b = s.nmListed k b) ∧
      (t.nf k F.pwrRing_NM_STS_N = (t.nmAddrs k).length % 256) ∧
      (t.nf k F.pwrRing_NM_STS_LAST_CNT = (if bitOf (byteAt d 1) 0 then byteAt d 2 else if bitOf (byteAt d 1) 1 then 0
        else s.nf k F.pwrRing_NM_STS_LAST_CNT)) ∧
      (t.nmState k = 4) ∧
      (t.evPend (280 + k) = true) ∧
      Frame [0x22] s ({ t with nm := s.nm })) ∧
  (∀ (s : State) (k a : Nat) (d : Bytes),
    s.sound = true → k < 8 → s.alive .pwrRing 0 = true → s.canReceives (s.nf k F.pwrRing_NM_CTL_CHAN) = true → d.length =
      8 → a < 256 → s.nmState k = 2 → bitOf (byteAt d 1) 5 = true → s.nf k F.pwrRing_NM_CTL_SLEEP_OK = 0 → s.nmFree k →
    Runs (.nmMessageRx k (256 * s.nf k F.pwrRing_NM_CTL_BASE + a) d) s fun t =>
      (t.nmListed k a = true) ∧
      (∀ b, b < 256 → b ≠ a → t.nmListed k b = s.nmListed k b) ∧
      (t.nf k F.pwrRing_NM_STS_N = (t.nmAddrs k).length % 256) ∧
      (t.nf k F.pwrRing_NM_STS_LAST_CNT = (if bitOf (byteAt d 1) 0 then byteAt d 2 else if bitOf (byteAt d 1) 1 then 0
        else s.nf k F.pwrRing_NM_STS_LAST_CNT)) ∧
      (NmSent s t k ⟨1, false, false, 0, 128⟩) ∧
      Frame [0x22, 0x168] s ({ t with bar2 := s.bar2, nm := s.nm })) ∧
  (∀ (s : State) (k a : Nat) (d : Bytes),
    s.sound = true → k < 8 → s.alive .pwrRing 0 = true → s.canReceives (s.nf k F.pwrRing_NM_CTL_CHAN) = true → d.length =
      8 → a < 256 → s.nmState k = 3 → (bitOf (byteAt d 1) 0 = true ∨ bitOf (byteAt d 1) 1 = true) →
    Runs (.nmMessageRx k (256 * s.nf k F.pwrRing_NM_CTL_BASE + a) d) s fun t =>
      (t.nmListed k a = true) ∧
      (∀ b, b < 256 → b ≠ a → t.nmListed k b = s.nmListed k b) ∧
      (t.nf k F.pwrRing_NM_STS_N = (t.nmAddrs k).length % 256) ∧
      (t.nf k F.pwrRing_NM_STS_LAST_CNT = (if bitOf (byteAt d 1) 0 then byteAt d 2 else if bitOf (byteAt d 1) 1 then 0
        else s.nf k F.pwrRing_NM_STS_LAST_CNT)) ∧
      (t.nmState k = 2) ∧
      (t.evPend (280 + k) = true) ∧
      ((bitOf (byteAt d 1) 0 = true → byteAt d 0 = s.nf k F.pwrRing_NM_CTL_ADDR → (t.nmOf k).token = true)) ∧
      ((bitOf (byteAt d 1) 1 = true → byteAt d 0 = s.nf k F.pwrRing_NM_CTL_ADDR → (t.nmOf k).token = true)) ∧
      Frame [0x22] s ({ t with nm := s.nm })) ∧
  (∀ (s : State) (k a : Nat) (d : Bytes),
    s.sound = true → k < 8 → s.alive .pwrRing 0 = true → s.canReceives (s.nf k F.pwrRing_NM_CTL_CHAN) = true → d.length =
      8 → a < 256 → s.nmState k = 4 → bitOf (byteAt d 1) 5 = false →
    Runs (.nmMessageRx k (256 * s.nf k F.pwrRing_NM_CTL_BASE + a) d) s fun t =>
      (t.nmListed k a = true) ∧
      (∀ b, b < 256 → b ≠ a → t.nmListed k b = s.nmListed k b) ∧
      (t.nf k F.pwrRing_NM_STS_N = (t.nmAddrs k).length % 256) ∧
      (t.nf k F.pwrRing_NM_STS_LAST_CNT = (if bitOf (byteAt d 1) 0 then byteAt d 2 else if bitOf (byteAt d 1) 1 then 0
        else s.nf k F.pwrRing_NM_STS_LAST_CNT)) ∧
      (t.nmState k = 2) ∧
      (t.evPend (280 + k) = true) ∧
      ((bitOf (byteAt d 1) 0 = true → byteAt d 0 = s.nf k F.pwrRing_NM_CTL_ADDR → (t.nmOf k).token = true)) ∧
      ((bitOf (byteAt d 1) 1 = true → byteAt d 0 = s.nf k F.pwrRing_NM_CTL_ADDR → (t.nmOf k).token = true)) ∧
      Frame [0x22] s ({ t with nm := s.nm })) ∧
  (∀ (s : State) (k i : Nat) (d : Bytes),
    s.sound = true → k < 8 → i / 256 % 8 ≠ s.nf k F.pwrRing_NM_CTL_BASE →
    Runs (.nmMessageRx k i d) s fun t =>
      t = s) ∧
  (∀ (s : State) (k n ago ecc : Nat) (f : CanFrame),
    s.sound = true → k < 8 → s.alive .pwrRing 0 = true → s.nf k F.pwrRing_NM_CTL_CHAN = n → s.nmState k ≠ 0 → s.nmState k
      ≠ 5 → s.canReceives n = true → (canNorm f).ide = false → w4Format (canNorm f).w4 = 0 → (canNorm f).data.length = 8
      → (canNorm f).id / 256 % 8 = s.nf k F.pwrRing_NM_CTL_BASE →
    Runs (.canRxStore n f ago ecc) s fun t =>
      t.nmListed k ((canNorm f).id % 256) = true) ∧
  (∀ (s : State) (k : Nat),
    s.sound = true → k < 8 → s.nmState k = 2 → (s.nmOf k).token = true → s.nmFree k →
    Runs (.nmRingSend k) s fun t =>
      (NmSent s t k ⟨0, s.nf k F.pwrRing_NM_CTL_SLEEP_OK == 1, decide (s.nf k F.pwrRing_NM_STS_N ≤ (if s.nf k
        F.pwrRing_NM_CTL_SLEEP_OK = 1 then min (s.nf k F.pwrRing_NM_STS_LAST_CNT + 1) 255 else 0)), (if s.nf k
        F.pwrRing_NM_CTL_SLEEP_OK = 1 then min (s.nf k F.pwrRing_NM_STS_LAST_CNT + 1) 255 else 0), 0⟩) ∧
      Frame [0x22, 0x168] s ({ t with bar2 := s.bar2, nm := s.nm })) ∧
  (∀ (s : State) (k : Nat) (m : NmMsg),
    s.sound = true → k < 8 → s.alive .pwrRing 0 = true → (s.nmOf k).msg = some m → (s.nmOf k).next = none → s.objReq
      (s.nmObj k) = false → bitsOf (s.objRd (s.nmObj k) 7) 23 20 = 1 → ((s.nmState k = 2 ∧ m.ack = true) ∨ (s.nmState k =
      3 ∧ m.kind = 2 ∧ m.ind = true)) →
    Runs (.nmMsgComplete k) s fun t =>
      (t.nmState k = 4) ∧
      (t.evPend (280 + k) = true) ∧
      ((t.nmOf k).msg = none) ∧
      Frame [0x22] s ({ t with nm := s.nm })) ∧
  (∀ (s : State) (k : Nat),
    s.sound = true → k < 8 → s.nmState k = 2 → s.nmFree k →
    Runs (.nmTmaxTimeout k) s fun t =>
      (NmSent s t k ⟨1, s.nf k F.pwrRing_NM_CTL_SLEEP_OK == 1, false, 0, 0⟩) ∧
      (t.nf k F.pwrRing_NM_CNT_RESTARTS = min 0xFFFF (s.nf k F.pwrRing_NM_CNT_RESTARTS + 1)) ∧
      Frame [0x22, 0x168] s ({ t with bar2 := s.bar2, nm := s.nm })) ∧
  (∀ (s : State) (k : Nat),
    s.sound = true → k < 8 → s.alive .pwrRing 0 = true → s.nmState k = 2 → (s.nmOf k).msg.isSome = true →
    Runs (.nmTerrTimeout k) s fun t =>
      (t.nmState k = 3) ∧
      (t.evPend (280 + k) = true) ∧
      Frame [0x22] s t) ∧
  (∀ (s : State) (k : Nat),
    s.sound = true → k < 8 → s.nmState k = 3 → s.nmFree k →
    Runs (.nmTerrTimeout k) s fun t =>
      (NmSent s t k ⟨2, s.nf k F.pwrRing_NM_CTL_SLEEP_OK == 1, false, 0, 0⟩) ∧
      Frame [0x22, 0x168] s ({ t with bar2 := s.bar2, nm := s.nm })) ∧
  (∀ (s : State) (k : Nat),
    s.sound = true → k < 8 → s.alive .pwrRing 0 = true → s.nmState k = 4 →
    Runs (.nmWbsExpiry k) s fun t =>
      (t.nmState k = 5) ∧
      (t.evPend (280 + k) = true) ∧
      (∀ c, c = s.nf k F.pwrRing_NM_CTL_CHAN → s.alive .can c = true → t.gf (caB c) F.can_TRCV_CTL_STATE = if 16 ≤ c ∨
        s.gf wkB (F.pwrWake_CANW_CTL_MODE.at (32 * c)) ≠ 0 then 2 else 3) ∧
      Frame [0x22, 0x150 + s.nf k F.pwrRing_NM_CTL_CHAN] s ({ t with can := s.can })) ∧
  (∀ (s : State) (k a : Nat),
    s.sound = true → k < 8 → s.nmState k ≠ 0 → a < 256 → a ≠ s.nf k F.pwrRing_NM_CTL_ADDR → s.nmListed k a = true →
    Runs (.nmAddressTimeout k a) s fun t =>
      (t.nmListed k a = false) ∧
      (∀ b, b < 256 → b ≠ a → t.nmListed k b = s.nmListed k b) ∧
      (t.nf k F.pwrRing_NM_STS_N = (t.nmAddrs k).length % 256) ∧
      Frame [0x22] s t)

/-- What the Cask's recorder commands do. The model's choices: where a spare area stands (log entry 79), what an image
holds and when a header can fail (80), SCAN_RESULT and the next SEQ (81), free units, FULL, waiting, CKPT_S (82), what
a failed operation leaves (118). In canonical states. CASK_CHECKPOINT enters a CHECKPOINT record with the next SEQ;
without room it is discarded and counted in LOST. HREC_GO enters a HOST record of HREC_DATA. CASK_RECORD_WRITE commits
the oldest record at POS, erased, on SPI NOR;  after a bad read-back it voids it and keeps it;  with the next unit in
use: FULL, EV448;  with it free it opens it, USEQ + 1. CASK_PAGE_PROGRAM,  CASK_FLUSH_TIMEOUT and  FLUSH program the
page image on SPI NAND;  a failed program marks the unit bad and keeps the records. FREE,  ERASE_ALL and  READ start,
with the QSPI master where nobody else has or wants it;  CASK_COMMAND_DONE: the oldest unit is erased, FULL 0;  every
unit is, and unit 0 opened;  RD_BUF holds the 256 bytes. CASK_SCAN starts the scan;  CASK_SCAN_DONE on an empty region:
SCAN_RESULT 3, a START record with SEQ 0 first, EV450;  with a newest unit the counts, SEQ, PWRCYC and OPSEC of its
walk, torn records voided. -/
def Obligations.RecorderCommands : Prop :=
  (∀ (s : State),
    s.sound = true → s.takes 6 0 → s.cask.clocked = true →
    Runs (.caskCheckpoint) s fun t =>
      (Recorded s t 6 0 []) ∧
      Frame [] s t) ∧
  (∀ (s : State),
    s.sound = true → s.domOn 3 = true → s.cask.clocked = true → s.on caB0 F.caskRec_STS_SCANNED = true → s.cask.lost = 0
      → 61440 < s.cask.bytes + 28 → s.gf caB0 F.caskRec_LOST_COUNT ≠ 0 →
    Runs (.caskCheckpoint) s fun t =>
      (t.cask.buf = s.cask.buf) ∧
      (t.cask.lost = 1) ∧
      (t.gf caB0 F.caskRec_LOST_COUNT = min 0xFFFFFFFF (s.gf caB0 F.caskRec_LOST_COUNT + 1)) ∧
      Frame [] s t) ∧
  (∀ (s : State) (w : Word),
    s.sound = true → s.dieLost = false → s.unwatched (caB0 + 0x200) → bitsOf w.toNat 22 16 ≤ 64 → s.takes 3 (bitsOf
      w.toNat 22 16) →
    Runs (.hrecGo w) s fun t =>
      (Recorded s t 3 (bitsOf w.toNat 15 0) (((List.range 16).flatMap fun k => leBytes 4 (s.gf caB0
        (F.caskRec_HREC_DATA_DATA.at (4 * k)))).take (bitsOf w.toNat 22 16))) ∧
      Frame [] s t) ∧
  (∀ (s : State) (u : Nat) (r : CaskRec) (rest : List CaskRec),
    s.sound = true → s.caskWrites = true → s.cask.buf = r :: rest → s.nand = false → s.cask.unit = some u → s.cask.off +
      r.len ≤ s.caskUnitBytes → s.flashBytes (s.caskPos u) r.len = List.replicate r.len 0xFF →
    Runs (.caskRecordWrite none) s fun t =>
      (t.flashBytes (s.caskPos u) (r.bytes 0xA5).length = r.bytes 0xA5) ∧
      (∀ x, (x < s.caskPos u ∨ s.caskPos u + (r.bytes 0xA5).length ≤ x) → t.flashBytes x 1 = s.flashBytes x 1) ∧
      (t.cask.off = s.cask.off + r.len) ∧
      (t.cask.buf = rest) ∧
      (t.gf caB0 F.caskRec_RECORDS_COUNT = (s.gf caB0 F.caskRec_RECORDS_COUNT + 1) % 2 ^ 32) ∧
      Frame [] s ({ t with flash := s.flash })) ∧
  (∀ (s : State) (u : Nat) (r : CaskRec) (rest : List CaskRec) (g : Bytes),
    s.sound = true → s.caskWrites = true → s.cask.buf = r :: rest → s.nand = false → s.cask.unit = some u → s.cask.off +
      r.len ≤ s.caskUnitBytes → g.length = r.len → g ≠ r.bytes 0xFF →
    Runs (.caskRecordWrite (some g)) s fun t =>
      (t.flashBytes (s.caskPos u + 2) 1 = [0]) ∧
      (t.cask.off = s.cask.off + r.len) ∧
      (s.cask.buf <+: t.cask.buf) ∧
      (t.gf caB0 F.caskRec_WRITE_ERR_COUNT = min 0xFFFFFFFF (s.gf caB0 F.caskRec_WRITE_ERR_COUNT + 1)) ∧
      (t.evPend 452 = true) ∧
      Frame [] s ({ t with flash := s.flash })) ∧
  (∀ (s : State) (u : Nat) (r : CaskRec) (rest : List CaskRec) (v : Nat),
    s.sound = true → s.caskWrites = true → s.cask.buf = r :: rest → s.nand = false → s.cask.unit = some u →
      s.caskUnitBytes < s.cask.off + r.len → s.nextUnit = some v → (s.unitHeader v).isSome = true →
    Runs (.caskRecordWrite none) s fun t =>
      (t.gf caB0 F.caskRec_STS_FULL = 1) ∧
      (bitOf (t.gf caB0 hdrRaw) 0 = true) ∧
      Frame [] s t) ∧
  (∀ (s : State) (u : Nat) (r : CaskRec) (rest : List CaskRec) (v : Nat),
    s.sound = true → s.caskWrites = true → s.cask.buf = r :: rest → s.nand = false → s.cask.unit = some u →
      s.caskUnitBytes < s.cask.off + r.len → s.nextUnit = some v → s.unitHeader v = none →
    Runs (.caskRecordWrite none) s fun t =>
      (t.unitHeader v = some ⟨(s.cask.useq + 1) % 2 ^ 32, r.seq % 2 ^ 32, s.cask.opsec, s.gf caB0
        F.caskRec_PWRCYC_VALUE⟩) ∧
      (t.flashBytes (s.unitAt v + 64) (r.bytes 0xA5).length = r.bytes 0xA5) ∧
      (t.cask.unit = some v) ∧
      (t.cask.off = 64 + r.len) ∧
      Frame [] s ({ t with flash := s.flash })) ∧
  (∀ (s : State) (u : Nat),
    s.sound = true → s.caskWrites = true → s.nand = true → s.caskImage ≠ [] → s.cask.unit = some u → s.cask.off + 2048 ≤
      s.caskUnitBytes → s.flashBytes (s.caskPos u) ((s.caskImage.flatMap fun r => r.bytes 0xA5).length) = List.replicate
      ((s.caskImage.flatMap fun r => r.bytes 0xA5).length) 0xFF → (s.caskImage.length < s.cask.buf.length ∨ s.pst
      .caskRec 0 = .quiescing) →
    Runs (.caskPageProgram 0) s fun t =>
      (t.flashBytes (s.caskPos u) (s.caskImage.flatMap fun r => r.bytes 0xA5).length = (s.caskImage.flatMap fun r =>
        r.bytes 0xA5)) ∧
      (∀ x, (x < s.caskPos u ∨ s.caskPos u + (s.caskImage.flatMap fun r => r.bytes 0xA5).length ≤ x) → t.flashBytes x 1 =
        s.flashBytes x 1) ∧
      (t.cask.off = s.cask.off + 2048) ∧
      (t.cask.buf = s.cask.buf.drop s.caskImage.length) ∧
      (t.gf caB0 F.caskRec_RECORDS_COUNT = (s.gf caB0 F.caskRec_RECORDS_COUNT + s.caskImage.length) % 2 ^ 32) ∧
      Frame [] s ({ t with flash := s.flash })) ∧
  (∀ (s : State) (u : Nat),
    s.sound = true → s.caskWrites = true → s.nand = true → s.caskImage ≠ [] → s.cask.unit = some u → s.cask.off + 2048 ≤
      s.caskUnitBytes → s.flashBytes (s.caskPos u) ((s.caskImage.flatMap fun r => r.bytes 0xA5).length) = List.replicate
      ((s.caskImage.flatMap fun r => r.bytes 0xA5).length) 0xFF →
    Runs (.caskFlushTimeout 0) s fun t =>
      (t.flashBytes (s.caskPos u) (s.caskImage.flatMap fun r => r.bytes 0xA5).length = (s.caskImage.flatMap fun r =>
        r.bytes 0xA5)) ∧
      (∀ x, (x < s.caskPos u ∨ s.caskPos u + (s.caskImage.flatMap fun r => r.bytes 0xA5).length ≤ x) → t.flashBytes x 1 =
        s.flashBytes x 1) ∧
      (t.cask.off = s.cask.off + 2048) ∧
      (t.cask.buf = s.cask.buf.drop s.caskImage.length) ∧
      (t.gf caB0 F.caskRec_RECORDS_COUNT = (s.gf caB0 F.caskRec_RECORDS_COUNT + s.caskImage.length) % 2 ^ 32) ∧
      Frame [] s ({ t with flash := s.flash })) ∧
  (∀ (s : State) (u : Nat),
    s.sound = true → s.caskWrites = true → s.nand = true → s.caskImage ≠ [] → s.cask.unit = some u → s.cask.off + 2048 ≤
      s.caskUnitBytes → s.flashBytes (s.caskPos u) ((s.caskImage.flatMap fun r => r.bytes 0xA5).length) = List.replicate
      ((s.caskImage.flatMap fun r => r.bytes 0xA5).length) 0xFF → s.run .caskRec 0 = true → s.unwatched (caB0 + 0x090) →
      s.gf caB0 F.caskRec_STS_BUSY = 0 → s.flashFound = true → s.caskUnits ≠ 0 →
    Runs (.flush 0) s fun t =>
      (t.flashBytes (s.caskPos u) (s.caskImage.flatMap fun r => r.bytes 0xA5).length = (s.caskImage.flatMap fun r =>
        r.bytes 0xA5)) ∧
      (∀ x, (x < s.caskPos u ∨ s.caskPos u + (s.caskImage.flatMap fun r => r.bytes 0xA5).length ≤ x) → t.flashBytes x 1 =
        s.flashBytes x 1) ∧
      (t.cask.off = s.cask.off + 2048) ∧
      (t.cask.buf = s.cask.buf.drop s.caskImage.length) ∧
      (t.gf caB0 F.caskRec_RECORDS_COUNT = (s.gf caB0 F.caskRec_RECORDS_COUNT + s.caskImage.length) % 2 ^ 32) ∧
      Frame [] s ({ t with flash := s.flash })) ∧
  (∀ (s : State) (u : Nat),
    s.sound = true → s.caskWrites = true → s.nand = true → s.caskImage ≠ [] → s.cask.unit = some u → s.cask.off + 2048 ≤
      s.caskUnitBytes → s.unitBad u = false →
    Runs (.caskFlushTimeout 1) s fun t =>
      (t.unitBad u = true) ∧
      (t.cask.off = s.caskUnitBytes) ∧
      (s.cask.buf <+: t.cask.buf) ∧
      (t.gf caB0 F.caskRec_BAD_UNITS_COUNT = min 0xFF (s.gf caB0 F.caskRec_BAD_UNITS_COUNT + 1)) ∧
      (t.evPend 452 = true)) ∧
  (∀ (s : State) (u : Nat),
    s.sound = true → s.run .caskRec 0 = true → s.unwatched (caB0 + 0x090) → s.gf caB0 F.caskRec_STS_BUSY = 0 →
      s.flashFound = true → s.caskUnits ≠ 0 → s.oldestUnit = some u → s.cask.unit ≠ some u →
    Runs (.free) s fun t =>
      ((s.sup.master = 0 → s.supWants = false → t.sup.master = 2)) ∧
      (t.cask.job = some .free) ∧
      (t.gf caB0 F.caskRec_STS_BUSY = 1) ∧
      Frame [] s ({ t with sup := s.sup })) ∧
  (∀ (s : State),
    s.sound = true → s.run .caskRec 0 = true → s.unwatched (caB0 + 0x090) → s.gf caB0 F.caskRec_STS_BUSY = 0 →
      s.flashFound = true → s.caskUnits ≠ 0 →
    Runs (.caskEraseAll) s fun t =>
      ((s.sup.master = 0 → s.supWants = false → t.sup.master = 2)) ∧
      (t.cask.job = some .eraseAll) ∧
      (t.gf caB0 F.caskRec_STS_BUSY = 1) ∧
      Frame [] s ({ t with sup := s.sup })) ∧
  (∀ (s : State),
    s.sound = true → s.run .caskRec 0 = true → s.unwatched (caB0 + 0x090) → s.gf caB0 F.caskRec_STS_BUSY = 0 →
      s.flashFound = true → s.caskUnits ≠ 0 →
    Runs (.read) s fun t =>
      ((s.sup.master = 0 → s.supWants = false → t.sup.master = 2)) ∧
      (t.cask.job = some (.read (s.gf caB0 F.caskRec_RD_OFF_OFFSET))) ∧
      (t.gf caB0 F.caskRec_STS_BUSY = 1) ∧
      Frame [] s ({ t with sup := s.sup })) ∧
  (∀ (s : State) (u : Nat),
    s.sound = true → s.sup.master = 2 → s.sup.tableDue = false → s.cask.job = some .free → s.nand = false → s.oldestUnit
      = some u →
    Runs (.caskCommandDone [] 0 0 true) s fun t =>
      (t.gf caB0 F.caskRec_STS_BUSY = 0) ∧
      (∀ x, s.unitAt u ≤ x → x < s.unitAt u + s.caskUnitBytes → t.flashBytes x 1 = [0xFF]) ∧
      (∀ x, (x < s.unitAt u ∨ s.unitAt u + s.caskUnitBytes ≤ x) → t.flashBytes x 1 = s.flashBytes x 1) ∧
      (t.gf caB0 F.caskRec_STS_FULL = 0) ∧
      Frame [] s ({ t with flash := s.flash, sup := s.sup })) ∧
  (∀ (s : State),
    s.sound = true → s.sup.master = 2 → s.sup.tableDue = false → s.cask.job = some .eraseAll → s.nand = false → 2 ≤
      s.caskUnits →
    Runs (.caskCommandDone [] 0 0 true) s fun t =>
      (t.gf caB0 F.caskRec_STS_BUSY = 0) ∧
      (t.gf caB0 F.caskRec_STS_FULL = 0) ∧
      (t.cask.unit = some 0) ∧
      (t.cask.off = 64) ∧
      (t.cask.useq = (s.cask.useq + 1) % 2 ^ 32) ∧
      (∀ v, 0 < v → v < s.caskUnits → (∀ x, s.unitAt v ≤ x → x < s.unitAt v + s.caskUnitBytes → t.flashBytes x 1 =
        [0xFF])) ∧
      Frame [] s ({ t with flash := s.flash, sup := s.sup })) ∧
  (∀ (s : State) (o : Nat),
    s.sound = true → s.sup.master = 2 → s.sup.tableDue = false → s.cask.job = some (.read o) → s.nand = false →
    Runs (.caskCommandDone [] 0 0 true) s fun t =>
      (t.gf caB0 F.caskRec_STS_BUSY = 0) ∧
      (∀ k, k < 64 → t.gf caB0 (F.caskRec_RD_BUF_DATA.at (4 * k)) = leNat (s.flashBytes (s.unitAt 0 + o + 4 * k) 4)) ∧
      Frame [] s ({ t with sup := s.sup })) ∧
  (∀ (s : State),
    s.sound = true → s.run .caskRec 0 = true → s.cask.scan = 1 → s.flashFound = true →
    Runs (.caskScan) s fun t =>
      t = { s with cask := { s.cask with scan := 2 } }) ∧
  (∀ (s : State),
    s.sound = true → s.run .caskRec 0 = true → s.cask.scan = 2 → s.masterFree = true → s.nand = false → 0 < s.caskUnits →
      s.headers = [] → s.cask.bytes + 36 ≤ 65536 →
    Runs (.caskScanDone []) s fun t =>
      (t.gf caB0 F.caskRec_STS_SCANNED = 1) ∧
      (t.gf caB0 F.caskRec_STS_SCAN_RESULT = 3) ∧
      (t.gf caB0 F.caskRec_PWRCYC_VALUE = 1) ∧
      (t.cask.buf.head?.map (fun r => (r.kind, r.seq, r.pwrcyc)) = some (5, 0, 1)) ∧
      (t.cask.unit = none) ∧
      (t.flash = s.flash) ∧
      (t.evPend 450 = true) ∧
      Frame [] s t) ∧
  (∀ (s : State) (u p : Nat) (h : CaskHeader),
    s.sound = true → s.run .caskRec 0 = true → s.cask.scan = 2 → s.masterFree = true → s.nand = false → newestOf
      s.headers = some (u, h) → (s.walked u h).resume = some p → s.cask.bytes + 36 ≤ 65536 →
    Runs (.caskScanDone []) s fun t =>
      (t.gf caB0 F.caskRec_STS_SCANNED = 1) ∧
      (t.gf caB0 F.caskRec_STS_SCAN_RESULT = (if (s.walked u h).corrupt ≠ 0 then 2 else if (s.walked u h).torn ≠ 0 then 1
        else 0)) ∧
      (t.gf caB0 F.caskRec_TORN_COUNT = min 0xFFFFFFFF (s.gf caB0 F.caskRec_TORN_COUNT + (s.walked u h).torn)) ∧
      (t.gf caB0 F.caskRec_CORRUPT_COUNT = min 0xFFFFFFFF (s.gf caB0 F.caskRec_CORRUPT_COUNT + (s.walked u h).corrupt)) ∧
      (t.gf caB0 F.caskRec_PWRCYC_VALUE = ((s.walked u h).pwrcyc + 1) % 2 ^ 32) ∧
      (t.cask.opsecBase = (s.walked u h).opsec) ∧
      (t.cask.unit = some u) ∧
      (t.cask.off = p) ∧
      (t.cask.buf.head?.map CaskRec.kind = some 5) ∧
      (t.cask.buf.head?.map CaskRec.seq = some
          (match (s.walked u h).seq with
            | some q => (q + 1) % 2 ^ 32
            | none => h.firstSeq)) ∧
      (∀ x ∈ (s.walked u h).void, t.flashBytes x 1 = [0]) ∧
      (t.evPend 450 = true) ∧
      Frame [] s ({ t with flash := s.flash }))

/-- What the performance counters and the Tap do. The position that Tap draws and the words of a sample (log entry 59),
the instant PERF_AT latches and RUN_NEXT (83) and what counter 0x091 counts (29) are the model's choices. In canonical
states. An occurrence counts in every counter that runs and selects it, and in no other. SNAP copies all 16 counters;
PERF_AT arms the change of RUN, replacing another;  PERF_TIMED_RUN makes it with EV454,  not before its instant;
PERF_CLR zeroes the counters of its mask. TAP_POP returns W0 of the oldest sample and latches W1 to W3, EV453 while
another waits;  0 where none does. -/
def Obligations.CountersAndTap : Prop :=
  (∀ (s : State) (ev i n c : Nat),
    s.sound = true → c < 16 →
    (s.perf ev i n).g64 ccB (F.caskCnt_CNT_LO_COUNT.at (16 * c)) (F.caskCnt_CNT_HI_COUNT.at (16 * c)) = (if (s.run
      .caskCnt 0 = true ∧ s.gf ccB F.caskCnt_PERF_CTL_RUN = 1 ∧ s.gf ccB (F.caskCnt_PSEL_EVSEL.at (16 * c)) = ev ∧ (ev ∈
      perfNoInst ∨ s.gf ccB (F.caskCnt_PSEL_ANY.at (16 * c)) = 1 ∨ s.gf ccB (F.caskCnt_PSEL_INST.at (16 * c)) = i)) then
      (s.g64 ccB (F.caskCnt_CNT_LO_COUNT.at (16 * c)) (F.caskCnt_CNT_HI_COUNT.at (16 * c)) + n) % 2 ^ 64 else s.g64 ccB
      (F.caskCnt_CNT_LO_COUNT.at (16 * c)) (F.caskCnt_CNT_HI_COUNT.at (16 * c)))) ∧
  (∀ (s : State) (w : Word),
    s.sound = true → s.alive .caskCnt 0 = true → s.unwatched (ccB + 0x040) → w.getLsbD 1 = false →
    Runs (.snap w) s fun t =>
      (∀ c, c < 16 → t.g64 ccB (F.caskCnt_SNAP_LO_COUNT.at (8 * c)) (F.caskCnt_SNAP_HI_COUNT.at (8 * c)) = s.g64 ccB
        (F.caskCnt_CNT_LO_COUNT.at (16 * c)) (F.caskCnt_CNT_HI_COUNT.at (16 * c))) ∧
      (t.gf ccB F.caskCnt_PERF_CTL_RUN = w.toNat % 2) ∧
      (t.cask.perfAt = s.cask.perfAt) ∧
      Frame [] s t) ∧
  (∀ (s : State) (w : Word),
    s.sound = true → s.alive .caskCnt 0 = true → s.unwatched (ccB + 0x040) →
    Runs (.perfAt w) s fun t =>
      (t.cask.perfAt = some (s.g64 ccB F.caskCnt_PERF_AT_LO_NS F.caskCnt_PERF_AT_HI_NS)) ∧
      (t.gf ccB F.caskCnt_PERF_CTL_RUN = w.toNat % 2) ∧
      (t.gf ccB F.caskCnt_PERF_CTL_RUN_NEXT = bitsOf w.toNat 8 8) ∧
      Frame [] s t) ∧
  (∀ (s : State) (d : Nat),
    s.sound = true → s.alive .caskCnt 0 = true → s.cask.perfAt = some d → d ≤ s.now →
    Runs (.perfTimedRun) s fun t =>
      (t.gf ccB F.caskCnt_PERF_CTL_RUN = s.gf ccB F.caskCnt_PERF_CTL_RUN_NEXT) ∧
      (t.cask.perfAt = none) ∧
      (t.evPend 454 = true) ∧
      Frame [] s t) ∧
  (∀ (s : State) (d : Nat),
    s.cask.perfAt = some d → s.now < d →
    Runs (.perfTimedRun) s fun t =>
      t = s) ∧
  (∀ (s : State) (w : Word),
    s.sound = true → s.alive .caskCnt 0 = true → s.unwatched (ccB + 0x04C) →
    Runs (.perfClr w) s fun t =>
      (∀ c, c < 16 → t.g64 ccB (F.caskCnt_CNT_LO_COUNT.at (16 * c)) (F.caskCnt_CNT_HI_COUNT.at (16 * c)) = if bitOf
        w.toNat c then 0 else s.g64 ccB (F.caskCnt_CNT_LO_COUNT.at (16 * c)) (F.caskCnt_CNT_HI_COUNT.at (16 * c))) ∧
      Frame [] s t) ∧
  (∀ (s : State) (r : TapRec) (rest : List TapRec),
    s.sound = true → s.alive .caskTap 0 = true → s.tap.fifo = r :: rest →
    Runs (.tapPop 1) s fun t =>
      (.readData [r.w0] ∈ t.out) ∧
      (t.tap.fifo = rest) ∧
      (t.gf tapB F.caskTap_TAP_LEVEL_LEVEL = rest.length % 512) ∧
      (t.gf tapB F.caskTap_TAP_POP_LAST_LAST = r.w0 % 2 ^ 32) ∧
      (t.gf tapB F.caskTap_TAP_W1_DATA = r.w1 % 2 ^ 32) ∧
      (t.gf tapB F.caskTap_TAP_W2_DATA = r.w2 % 2 ^ 32) ∧
      (t.gf tapB F.caskTap_TAP_W3_DATA = r.w3 % 2 ^ 32) ∧
      (bitOf (t.gf tapB hdrRaw) 0 = (rest != [])) ∧
      Frame [0x243] s ({ t with tap := s.tap })) ∧
  (∀ (s : State),
    s.alive .caskTap 0 = true → s.tap.fifo = [] →
    Runs (.tapPop 1) s fun t =>
      t = s.emit (.readData [0]))

/-- What host flash commands and boot do. The model's choices: opcodes, columns and the QSPI master (PRESUMED, log entry
84), the directory and the erase unit (85), firmware checks, tries used and recovery (86), the bytes after a failure
(118). HCMD_DONE ends a command that holds the master, with no slot table record waiting. In canonical states. HCMD
starts, with the QSPI master where nobody else has or wants it;  outside RUN, or in PROD and END with another opcode
than those of R445, RESULT 1. HCMD_DONE on NOR: a program clears bits,  a read fills HBUF;   an erase sets its unit to
0xFF.  On NAND a page read loads the cache; its ECC status counts, uncorrectable is EV48 and RESULT 2.  A command that
the part fails ends with RESULT 2, and no byte outside what it erases or programs changes. BOOT_START finds the part by
SFDP or its identifier and shows the slot table record in force;  in END it halts with MODE 3. BOOT_FIRMWARE_START
starts the chosen GOOD slot where its checks pass, else it is BAD with EV44;  with none, or no part, it enters
recovery; a RESTART ends then with RESULT 0. GET_INFO answers VERSION, BOOT_STS, STATE;  RESTART leaves BUSY 1;  an
unknown OP ends with RESULT 1;  SUPERVISOR_LOCKSTEP_MISMATCH restarts it, counted;  the host's running command ends
with 18, BUSY 1 until the firmware runs;  another unit's is answered with 18. -/
def Obligations.FlashAndBoot : Prop :=
  (∀ (s : State) (w : Word),
    s.sound = true → s.run .qspi 0 = true → s.unwatched (qsB + 0x048) → s.gf qsB F.qspi_HCMD_BUSY = 0 → (¬ (s.lifecycle =
      2 ∨ s.lifecycle = 4) ∨ bitsOf w.toNat 23 16 ∈ hcmdAllowed) →
    Runs (.hcmd w) s fun t =>
      (t.sup.hostJob = some ⟨bitsOf w.toNat 23 16, s.gf qsB F.qspi_HADDR_ADDR, min 256 (bitsOf w.toNat 8 0)⟩) ∧
      (t.gf qsB F.qspi_HCMD_BUSY = 1) ∧
      ((s.sup.master = 0 → s.supWants = false → s.cask.job = none → t.sup.master = 3)) ∧
      Frame [0x290] s ({ t with sup := s.sup })) ∧
  (∀ (s : State) (w : Word),
    s.sound = true → s.alive .qspi 0 = true → s.unwatched (qsB + 0x048) → s.gf qsB F.qspi_HCMD_BUSY = 0 → (s.run .qspi 0
      = false ∨ ((s.lifecycle = 2 ∨ s.lifecycle = 4) ∧ ¬ bitsOf w.toNat 23 16 ∈ hcmdAllowed)) →
    Runs (.hcmd w) s fun t =>
      (t.gf qsB F.qspi_HCMD_BUSY = 0) ∧
      (t.gf qsB F.qspi_HCMD_RESULT = 1) ∧
      (t.evPend 50 = true) ∧
      (t.sup = s.sup) ∧
      Frame [0x290] s t) ∧
  (∀ (s : State) (j : FlashJob),
    s.sound = true → s.sup.hostJob = some j → s.alive .qspi 0 = true → s.nand = false → s.flashFound = true → j.op = 0x02
      → j.len ≤ 256 → s.sup.master = 3 → s.sup.tableDue = false →
    Runs (.hcmdDone false 0 []) s fun t =>
      (t.sup.hostJob = none) ∧
      (t.gf qsB F.qspi_HCMD_BUSY = 0) ∧
      (t.gf qsB F.qspi_HCMD_RESULT = 0) ∧
      (t.evPend 50 = true) ∧
      (t.flashBytes j.addr j.len = List.zipWith (· &&& ·) (s.hbuf j.len) (s.flashBytes j.addr j.len)) ∧
      (∀ x, (x < j.addr ∨ j.addr + j.len ≤ x) → t.flashBytes x 1 = s.flashBytes x 1) ∧
      Frame [0x290] s ({ t with flash := s.flash, sup := s.sup })) ∧
  (∀ (s : State) (j : FlashJob),
    s.sound = true → s.sup.hostJob = some j → s.alive .qspi 0 = true → s.nand = false → s.flashFound = true → j.op = 0x03
      → j.len ≤ 256 → s.sup.master = 3 → s.sup.tableDue = false →
    Runs (.hcmdDone false 0 []) s fun t =>
      (t.sup.hostJob = none) ∧
      (t.gf qsB F.qspi_HCMD_BUSY = 0) ∧
      (t.gf qsB F.qspi_HCMD_RESULT = 0) ∧
      (t.evPend 50 = true) ∧
      (t.hbuf j.len = s.flashBytes j.addr j.len) ∧
      Frame [0x290] s ({ t with sup := s.sup })) ∧
  (∀ (s : State) (j : FlashJob),
    s.sound = true → s.sup.hostJob = some j → s.alive .qspi 0 = true → s.nand = false → s.flashFound = true → j.op = 0x20
      → j.len ≤ 256 → s.sup.master = 3 → s.sup.tableDue = false →
    Runs (.hcmdDone false 0 []) s fun t =>
      (t.sup.hostJob = none) ∧
      (t.gf qsB F.qspi_HCMD_BUSY = 0) ∧
      (t.gf qsB F.qspi_HCMD_RESULT = 0) ∧
      (t.evPend 50 = true) ∧
      (∀ x, j.addr / 4096 * 4096 ≤ x → x < j.addr / 4096 * 4096 + 4096 → t.flashBytes x 1 = [0xFF]) ∧
      (∀ x, (x < j.addr / 4096 * 4096 ∨ j.addr / 4096 * 4096 + 4096 ≤ x) → t.flashBytes x 1 = s.flashBytes x 1) ∧
      Frame [0x290] s ({ t with flash := s.flash, sup := s.sup })) ∧
  (∀ (s : State) (j : FlashJob),
    s.sound = true → s.sup.hostJob = some j → s.alive .qspi 0 = true → s.nand = false → s.flashFound = true → j.op = 0xD8
      → j.len ≤ 256 → s.sup.master = 3 → s.sup.tableDue = false →
    Runs (.hcmdDone false 0 []) s fun t =>
      (t.sup.hostJob = none) ∧
      (t.gf qsB F.qspi_HCMD_BUSY = 0) ∧
      (t.gf qsB F.qspi_HCMD_RESULT = 0) ∧
      (t.evPend 50 = true) ∧
      (∀ x, j.addr / 65536 * 65536 ≤ x → x < j.addr / 65536 * 65536 + 65536 → t.flashBytes x 1 = [0xFF]) ∧
      (∀ x, (x < j.addr / 65536 * 65536 ∨ j.addr / 65536 * 65536 + 65536 ≤ x) → t.flashBytes x 1 = s.flashBytes x 1) ∧
      Frame [0x290] s ({ t with flash := s.flash, sup := s.sup })) ∧
  (∀ (s : State) (j : FlashJob) (ecc : Nat),
    s.sound = true → s.sup.hostJob = some j → s.alive .qspi 0 = true → s.nand = true → s.flashFound = true → j.op = 0x13
      → j.len ≤ 256 → s.sup.master = 3 → s.sup.tableDue = false → 2 ≤ ecc → ecc ≤ 3 →
    Runs (.hcmdDone false ecc []) s fun t =>
      (t.sup.hostJob = none) ∧
      (t.gf qsB F.qspi_HCMD_BUSY = 0) ∧
      (t.gf qsB F.qspi_HCMD_RESULT = (if ecc = 3 then 2 else 0)) ∧
      (t.evPend 50 = true) ∧
      (readMem 0xFF t.sup.cache 0 2048 = s.flashBytes (2048 * j.addr) 2048) ∧
      (t.gf qsB F.qspi_ECC_UNCORR_COUNT = min 0xFFFFFFFF (s.gf qsB F.qspi_ECC_UNCORR_COUNT + if ecc = 3 then 1 else 0)) ∧
      (t.gf qsB F.qspi_ECC_LIMIT_COUNT = min 0xFFFFFFFF (s.gf qsB F.qspi_ECC_LIMIT_COUNT + if ecc = 2 then 1 else 0)) ∧
      ((ecc = 3 → t.evPend 48 = true)) ∧
      Frame [0x290] s ({ t with sup := s.sup })) ∧
  (∀ (s : State) (j : FlashJob) (d : Bytes),
    s.sound = true → s.sup.hostJob = some j → s.alive .qspi 0 = true → s.nand = false → s.sup.master = 3 → s.sup.tableDue
      = false →
    Runs (.hcmdDone true 0 d) s fun t =>
      (t.sup.hostJob = none) ∧
      (t.gf qsB F.qspi_HCMD_BUSY = 0) ∧
      (t.gf qsB F.qspi_HCMD_RESULT = 2) ∧
      (t.evPend 50 = true) ∧
      (∀ x, (x < (j.range false).1 ∨ (j.range false).1 + (j.range false).2 ≤ x) → t.flashBytes x 1 = s.flashBytes x 1) ∧
      ((j.erases false = false → j.programs false = false → t.flash = s.flash)) ∧
      (t.gf qsB F.qspi_PROG_FAIL_COUNT = min 0xFFFFFFFF (s.gf qsB F.qspi_PROG_FAIL_COUNT + b2n (j.op == 0x02))) ∧
      (t.gf qsB F.qspi_ERASE_FAIL_COUNT = min 0xFFFFFFFF (s.gf qsB F.qspi_ERASE_FAIL_COUNT + b2n (j.op == 0x20 || j.op ==
        0x52 || j.op == 0xD8))) ∧
      Frame [0x290] s ({ t with flash := s.flash, sup := s.sup, freeCount := s.freeCount })) ∧
  (∀ (s : State) (sfdp : Bool) (ident size unit : Nat) (ecc : List (Nat × Nat)),
    s.sound = true → s.domOn 3 = true → s.sup.phase = .off → s.sup.master ≤ 1 → s.lifecycle ≠ 4 → size < 64 →
    Runs (.bootStart sfdp ident size unit ecc) s fun t =>
      (t.gf qsB F.qspi_FLASH_INFO_TYPE = (if sfdp = true then 1 else if ident % 256 ≠ 0 ∧ ident % 256 ≠ 0xFF then 2 else
        0)) ∧
      ((t.gf qsB F.qspi_FLASH_INFO_TYPE ≠ 0 → t.gf qsB F.qspi_FLASH_INFO_SIZE_LOG2 = size ∧ t.gf qsB F.qspi_CLK_DIV = 0)) ∧
      ((t.gf qsB F.qspi_FLASH_INFO_TYPE = 0 → t.gf qsB F.qspi_CLK_DIV = 7)) ∧
      (t.gf updB F.upd_ROLLBACK_COUNT = s.rollbackCount) ∧
      (t.sup.phase = .bootRom) ∧
      (t.sup.master = 1) ∧
      (t.flash = s.flash) ∧
      (∀ u b, t.tableInForce = some (u, b) → ∀ p, p < 4 → t.slotActive p = byteAt b (16 + 16 * p) % 2 ∧ t.slotState p 0 =
        byteAt b (17 + 16 * p) ∧ t.slotState p 1 = byteAt b (18 + 16 * p) ∧ t.slotTries p = byteAt b (19 + 16 * p) ∧
        t.slotVer p 0 = leAt b (20 + 16 * p) 4 ∧ t.slotVer p 1 = leAt b (24 + 16 * p) 4) ∧
      Frame [0x280, 0x290] s ({ t with sup := s.sup, cask := s.cask })) ∧
  (∀ (s : State) (sfdp : Bool) (ident size unit : Nat),
    s.sound = true → s.domOn 3 = true → s.sup.phase = .off → s.sup.master ≤ 1 → s.lifecycle = 4 → s.sup.tableDue = false
      →
    Runs (.bootStart sfdp ident size unit []) s fun t =>
      (t.sup.phase = .halted) ∧
      (t.gf updB F.upd_BOOT_STS_MODE = 3) ∧
      Frame [0x280, 0x290] s ({ t with sup := s.sup })) ∧
  (∀ (s : State) (x : Nat),
    s.sound = true → s.domOn 3 = true → s.sup.phase = .bootRom → s.sup.master ≤ 1 → s.sup.unread = [] → s.sup.tableDue =
      false → (s.gf svcB F.svc_MBX_STS_BUSY = 0 ∨ (s.sup.resume = 1 ∨ s.sup.resume = 2 ∨ s.sup.resume = 3)) →
      s.flashFound = true → s.slotState 0 0 ≠ 3 → s.slotState 0 1 ≠ 3 → s.chooseFw = some x → s.rack.part = 0 →
      s.rack.held = [] →
    Runs (.bootFirmwareStart []) s fun t =>
      ((s.fwCheck x = 0 → t.sup.phase = .firmware ∧ t.gf updB F.upd_BOOT_STS_MODE = 0 ∧ t.gf updB F.upd_BOOT_STS_SLOT = x
        % 2 ∧ t.gf svcB F.svc_SV_STS_RUN = 1 ∧ t.gf svcB F.svc_FW_VERSION_VERSION = hdrVersion (s.imageHeader 0 x))) ∧
      ((s.fwCheck x ≠ 0 → t.slotState 0 x = 5 ∧ t.evPend 44 = true))) ∧
  (∀ (s : State),
    s.sound = true → s.domOn 3 = true → s.sup.phase = .bootRom → s.sup.master ≤ 1 → s.sup.unread = [] → s.sup.tableDue =
      false → (s.gf svcB F.svc_MBX_STS_BUSY = 0 ∨ (s.sup.resume = 1 ∨ s.sup.resume = 2 ∨ s.sup.resume = 3)) → s.slotState
      0 0 ≠ 3 → s.slotState 0 1 ≠ 3 → (s.chooseFw = none ∨ s.flashFound = false) → s.rack.held = [] →
    Runs (.bootFirmwareStart []) s fun t =>
      ((s.sup.resume = 1 → t.gf svcB F.svc_MBX_STS_RESULT = 0 ∧ t.gf svcB F.svc_MBX_STS_DONE = 1 ∧ t.evPend 41 = true)) ∧
      (t.gf svcB F.svc_MBX_STS_BUSY = 0) ∧
      (t.sup.phase = .recovery) ∧
      (t.gf updB F.upd_BOOT_STS_MODE = 2) ∧
      (t.gf svcB F.svc_SV_STS_RUN = s.gf svcB F.svc_SV_STS_RUN) ∧
      Frame [0x280, 0x2E0] s ({ t with sup := s.sup })) ∧
  (∀ (s : State),
    s.sound = true → s.mbxReady →
    Runs (.getInfo) s fun t =>
      (MbxEnded t 0) ∧
      (t.gf svcB F.svc_MBX_RSP_DATA = s.gf svcB F.svc_FW_VERSION_VERSION) ∧
      (t.gf svcB (F.svc_MBX_RSP_DATA.at 4) = s.gf updB F.upd_BOOT_STS) ∧
      (t.gf svcB (F.svc_MBX_RSP_DATA.at 8) = s.lifecycle) ∧
      Frame [0x2E0] s t) ∧
  (∀ (s : State),
    s.sound = true → s.mbxReady →
    Runs (.mbxRestart) s fun t =>
      (t.sup.phase = .off) ∧
      (t.gf svcB F.svc_SV_STS_RUN = 0) ∧
      (t.gf svcB F.svc_MBX_STS_BUSY = 1) ∧
      Frame [0x2E0] s ({ t with sup := s.sup })) ∧
  (∀ (s : State) (op : Nat),
    s.sound = true → s.mbxReady → ¬ op % 256 ∈ mbxOps →
    Runs (.mbxUnknownOp op) s fun t =>
      (MbxEnded t 1) ∧
      Frame [0x2E0] s t) ∧
  (∀ (s : State),
    s.sound = true → s.domOn 3 = true → s.sup.phase ≠ .off → s.sup.job = none → s.sup.remote = none → s.sup.resume ≠ 1 →
    Runs (.supervisorLockstepMismatch) s fun t =>
      (t.sup.phase = .off) ∧
      (t.gf svcB F.svc_SV_STS_RUN = 0) ∧
      (t.gf svcB F.svc_SV_STS_LOCKSTEP_ERR = min 255 (s.gf svcB F.svc_SV_STS_LOCKSTEP_ERR + 1)) ∧
      (t.gf svcB F.svc_MBX_STS_BUSY = s.gf svcB F.svc_MBX_STS_BUSY) ∧
      Frame [0x2E0] s ({ t with sup := s.sup })) ∧
  (∀ (s : State),
    s.sound = true → s.domOn 3 = true → s.sup.phase ≠ .off → (s.sup.job.any (fun j => j.origin.isNone) = true ∨
      s.sup.remote.isSome = true ∨ s.sup.resume = 1) → s.sup.job.all (fun j => j.origin.isNone) = true →
    Runs (.supervisorLockstepMismatch) s fun t =>
      (t.sup.phase = .off) ∧
      (t.gf svcB F.svc_SV_STS_RUN = 0) ∧
      (t.gf svcB F.svc_SV_STS_LOCKSTEP_ERR = min 255 (s.gf svcB F.svc_SV_STS_LOCKSTEP_ERR + 1)) ∧
      (t.gf svcB F.svc_MBX_STS_RESULT = 18) ∧
      (t.gf svcB F.svc_MBX_STS_DONE = 1) ∧
      (t.gf svcB F.svc_MBX_STS_BUSY = 1) ∧
      (t.evPend 41 = true) ∧
      (t.sup.job = none) ∧
      (t.sup.remote = none) ∧
      Frame [0x2E0] s ({ t with sup := s.sup })) ∧
  (∀ (s : State) (j : MbxJob) (p : List Nat),
    s.sound = true → s.domOn 3 = true → s.sup.phase ≠ .off → s.sup.job = some j → j.origin = some p →
    Runs (.supervisorLockstepMismatch) s fun t =>
      (t.sup.phase = .off) ∧
      (t.gf svcB F.svc_SV_STS_RUN = 0) ∧
      (t.gf svcB F.svc_SV_STS_LOCKSTEP_ERR = min 255 (s.gf svcB F.svc_SV_STS_LOCKSTEP_ERR + 1)) ∧
      (UpdSent s t 0x11 ⟨p, s.unitPath, s.gf updB F.upd_MANIFEST_ID_ID, 18, s.updFlags, 0, List.replicate 32 0⟩))

/-- What the mailbox commands and their remote forms do. The model's choices: commands that wait for the QSPI master, and
pages read uncorrectable (log entry 84); the bodies of XFER and XFER_ACK (88), results 4, 18 and 16 and what follows a
restart (92), a recipe's limits (87). Flash commands find the master free and no page of before unreadable. In
canonical states with the firmware running. OPEN_SLOT runs, or ends with the result that refuses it,  or waits while
the QSPI master is held (log entry 84):  3, 2 for CERT outside MANUF, 18 while Racking uses the slot, 3 for a length
that does not fit.  MAILBOX_COMMAND_DONE: the slot is WRITING;  WRITE_BLOCK programs a legal new block,  at offset 0
once its header passes, else the slot is EMPTY and the first failing check the result;  a program that fails ends with
13;  one that is not legal ends with 3, other data for a written one with 12. CLOSE_SLOT runs, or ends with 11;  it
ends STAGED, or EMPTY with EV43 and the check that fails. ABORT_SLOT: EMPTY.  READ_CERT: RSP0 the length.  RACK_UNIT:
that unit's last code and state, or 3.  APPLY_RECIPE applies the active image whole once it passes its check, else not
at all, a refused image with 16.  FUSE runs in MANUF on a zero field, else 2 or 3;  it programs the field and zeroes
DATA after ROOT. XFER_RX while a command runs answers 18;  while the Supervisor restarts it is held. XFER_ACK_RX ends
the host's remote command with its CODE and response;  XFER_TIMEOUT with 17. -/
def Obligations.MailboxCommands : Prop :=
  (∀ (s : State),
    s.sound = true → s.mbxReady → s.masterFree = true → s.sup.unread = [] → argPath (s.mbxArg 2) (s.mbxArg 3) =
      s.unitPath →
    Runs (.openSlot) s fun t =>
      ((s.openCheck (s.mbxArg 0) (s.mbxArg 1) = 0 → MbxRuns s t 0x10 [])) ∧
      ((s.openCheck (s.mbxArg 0) (s.mbxArg 1) ≠ 0 → MbxEnded t (s.openCheck (s.mbxArg 0) (s.mbxArg 1)))) ∧
      (t.flash = s.flash) ∧
      Frame [0x2E0] s ({ t with sup := s.sup })) ∧
  (∀ (s : State),
    s.sound = true → s.mbxReady → s.masterFree = false → argPath (s.mbxArg 2) (s.mbxArg 3) = s.unitPath →
    Runs (.openSlot) s fun t =>
      (MbxRuns s t 0x10 []) ∧
      (t.flash = s.flash) ∧
      Frame [0x2E0] s ({ t with sup := s.sup })) ∧
  (∀ (s : State) (p n : Nat),
    s.sup.phase = .firmware →
    s.openCheck p n = (if 5 < p then 3 else if p = 5 ∧ s.lifecycle ≠ 0 then 2 else if s.rackUses p = true then 18 else if
      n = 0 ∨ s.partSize (partId p (if p < 4 then 1 - s.slotActive p else 0)) < n then 3 else 0)) ∧
  (∀ (s : State) (j : MbxJob),
    s.sound = true → s.alive .svc 0 = true → s.sup.phase = .firmware → s.sup.job = some j → j.op = 0x10 → j.origin = none
      → s.rack.held = [] → s.sup.master = 1 → j.args.getD 0 0 < 4 →
    Runs (.mailboxCommandDone true []) s fun t =>
      (MbxEnded t 0) ∧
      (t.slotState (j.args.getD 0 0) (1 - s.slotActive (j.args.getD 0 0)) = 1) ∧
      (t.sup.staging = some ⟨j.args.getD 0 0, 1 - s.slotActive (j.args.getD 0 0), j.args.getD 1 0, []⟩) ∧
      Frame [0x280, 0x2E0] s ({ t with sup := s.sup, flash := s.flash })) ∧
  (∀ (s : State) (g : Staging),
    s.sound = true → s.mbxReady → s.masterFree = true → s.sup.unread = [] → s.sup.staging = some g → s.sup.target = none
      → (s.mbxArg 0 % 2048 = 0 ∧ s.mbxArg 0 < g.len ∧ (if s.mbxArg 0 + 2048 < g.len then s.mbxArg 1 = 2048 else s.mbxArg
      0 + s.mbxArg 1 = g.len)) → (s.mbxData (min 2048 (s.mbxArg 1))).length = s.mbxArg 1 → 0 < s.mbxArg 0 → 0 ∈ g.blocks
      → ¬ s.mbxArg 0 ∈ g.blocks →
    Runs (.writeBlock true) s fun t =>
      (MbxEnded t 0) ∧
      (t.sup.staging = some { g with blocks := s.mbxArg 0 :: g.blocks }) ∧
      (∀ a, runAt (s.partRuns (partId g.part g.slot)) (s.mbxArg 0) = some a → t.flashBytes a (s.mbxArg 1) = List.zipWith
        (· &&& ·) (s.mbxData (min 2048 (s.mbxArg 1))) (s.flashBytes a (s.mbxArg 1))) ∧
      Frame [0x2E0] s ({ t with sup := s.sup, flash := s.flash })) ∧
  (∀ (s : State) (g : Staging),
    s.sound = true → s.mbxReady → s.masterFree = true → s.sup.unread = [] → s.sup.staging = some g → s.sup.target = none
      → (s.mbxArg 0 % 2048 = 0 ∧ s.mbxArg 0 < g.len ∧ (if s.mbxArg 0 + 2048 < g.len then s.mbxArg 1 = 2048 else s.mbxArg
      0 + s.mbxArg 1 = g.len)) → (s.mbxData (min 2048 (s.mbxArg 1))).length = s.mbxArg 1 → s.mbxArg 0 = 0 → ¬ 0 ∈
      g.blocks → g.part < 4 →
    Runs (.writeBlock true) s fun t =>
      ((s.headerCheck ((s.mbxData (min 2048 (s.mbxArg 1))).take 256) g.part = 0 → MbxEnded t 0 ∧ t.sup.staging = some
        { g with blocks := 0 :: g.blocks })) ∧
      ((s.headerCheck ((s.mbxData (min 2048 (s.mbxArg 1))).take 256) g.part ≠ 0 → MbxEnded t (s.headerCheck ((s.mbxData
        (min 2048 (s.mbxArg 1))).take 256) g.part) ∧ t.sup.staging = none ∧ t.slotState g.part g.slot = 0)) ∧
      Frame [0x280, 0x2E0] s ({ t with sup := s.sup, flash := s.flash })) ∧
  (∀ (s : State) (g : Staging),
    s.sound = true → s.mbxReady → s.masterFree = true → s.sup.unread = [] → s.sup.staging = some g → s.sup.target = none
      → (s.mbxArg 0 % 2048 = 0 ∧ s.mbxArg 0 < g.len ∧ (if s.mbxArg 0 + 2048 < g.len then s.mbxArg 1 = 2048 else s.mbxArg
      0 + s.mbxArg 1 = g.len)) → (s.mbxData (min 2048 (s.mbxArg 1))).length = s.mbxArg 1 → 0 < s.mbxArg 0 → 0 ∈ g.blocks
      → ¬ s.mbxArg 0 ∈ g.blocks →
    Runs (.writeBlock false) s fun t =>
      (MbxEnded t 13) ∧
      (t.sup.staging = s.sup.staging) ∧
      (t.evPend 49 = true)) ∧
  (∀ (s : State) (g : Staging) (p : Bool),
    s.sound = true → s.mbxReady → s.masterFree = true → s.sup.unread = [] → s.sup.staging = some g → s.sup.target = none
      → (s.mbxData (min 2048 (s.mbxArg 1))).length = s.mbxArg 1 → (¬ (s.mbxArg 0 % 2048 = 0 ∧ s.mbxArg 0 < g.len ∧ (if
      s.mbxArg 0 + 2048 < g.len then s.mbxArg 1 = 2048 else s.mbxArg 0 + s.mbxArg 1 = g.len)) ∨ (s.mbxArg 0 ∈ g.blocks ∧
      s.partRead (partId g.part g.slot) (s.mbxArg 0) (s.mbxArg 1) ≠ (s.mbxData (min 2048 (s.mbxArg 1))))) →
    Runs (.writeBlock p) s fun t =>
      (MbxEnded t (if (s.mbxArg 0 % 2048 = 0 ∧ s.mbxArg 0 < g.len ∧ (if s.mbxArg 0 + 2048 < g.len then s.mbxArg 1 = 2048
        else s.mbxArg 0 + s.mbxArg 1 = g.len)) then 12 else 3)) ∧
      (t.flash = s.flash) ∧
      (t.sup.staging = s.sup.staging) ∧
      Frame [0x2E0] s ({ t with sup := s.sup })) ∧
  (∀ (s : State) (g : Staging),
    s.sound = true → s.mbxReady → s.masterFree = true → s.sup.unread = [] → s.sup.staging = some g → s.sup.target = none
      →
    Runs (.closeSlot) s fun t =>
      ((g.whole = true → MbxRuns s t 0x12 [])) ∧
      ((g.whole = false → MbxEnded t 11)) ∧
      Frame [0x2E0] s ({ t with sup := s.sup })) ∧
  (∀ (s : State) (g : Staging) (j : MbxJob),
    s.sound = true → s.alive .svc 0 = true → s.sup.phase = .firmware → s.sup.job = some j → j.op = 0x12 → j.origin = none
      → s.rack.held = [] → s.sup.master = 1 → s.sup.unread = [] → s.sup.staging = some g → g.part < 4 →
    Runs (.mailboxCommandDone true []) s fun t =>
      ((s.imageCheck g.part g.slot = 0 → MbxEnded t 0 ∧ t.slotState g.part g.slot = 2)) ∧
      ((s.imageCheck g.part g.slot ≠ 0 → MbxEnded t (s.imageCheck g.part g.slot) ∧ t.slotState g.part g.slot = 0 ∧
        t.evPend 43 = true)) ∧
      (t.sup.staging = none)) ∧
  (∀ (s : State) (g : Staging),
    s.sound = true → s.mbxReady → s.masterFree = true → s.sup.unread = [] → s.sup.staging = some g → s.sup.target = none
      → g.part < 4 →
    Runs (.abortSlot) s fun t =>
      (MbxEnded t 0) ∧
      (t.slotState g.part g.slot = 0) ∧
      (t.sup.staging = none) ∧
      Frame [0x280, 0x2E0] s ({ t with sup := s.sup, flash := s.flash })) ∧
  (∀ (s : State),
    s.sound = true → s.mbxReady → s.masterFree = true → s.sup.unread = [] →
    Runs (.readCert []) s fun t =>
      (MbxEnded t 0) ∧
      (t.gf svcB F.svc_MBX_RSP_DATA = s.partSize 11 % 2 ^ 32) ∧
      Frame [0x2E0] s t) ∧
  (∀ (s : State),
    s.sound = true → s.mbxReady →
    Runs (.rackUnit) s fun t =>
      (∀ u, s.rack.units[s.mbxArg 0]? = some u → MbxEnded t 0 ∧ t.gf svcB F.svc_MBX_RSP_DATA = (s.unitView u).1 % 2 ^ 32
        ∧ t.gf svcB (F.svc_MBX_RSP_DATA.at 4) = (s.unitView u).2 % 2 ^ 32) ∧
      ((s.rack.units.length ≤ s.mbxArg 0 → MbxEnded t 3)) ∧
      Frame [0x2E0] s t) ∧
  (∀ (s : State),
    s.sound = true → s.mbxReady → s.masterFree = true → s.sup.unread = [] →
    Runs (.applyRecipe []) s fun t =>
      (∀ u, s.imageCheck 2 (s.slotActive 2) = 0 → s.applyRecipe (s.imagePayload 2 (s.slotActive 2)) = some u → MbxEnded t
        0 ∧ Frame [0x2E0] u t) ∧
      ((s.imageCheck 2 (s.slotActive 2) = 0 → s.applyRecipe (s.imagePayload 2 (s.slotActive 2)) = none → MbxEnded t 16 ∧
        t.bar2 = s.bar2)) ∧
      ((s.imageCheck 2 (s.slotActive 2) ≠ 0 → MbxEnded t (s.imageCheck 2 (s.slotActive 2)) ∧ t.bar2 = s.bar2))) ∧
  (∀ (s : State),
    s.sound = true → s.mbxReady →
    Runs (.fuse) s fun t =>
      ((s.lifecycle ≠ 0 → MbxEnded t 2)) ∧
      ((s.lifecycle = 0 → 3 < s.mbxArg 0 → MbxEnded t 3)) ∧
      ((s.fuseCheck (s.mbxArg 0) = 0 → MbxRuns s t 0x40 (s.mbxData 32))) ∧
      (t.kiln.fuses = s.kiln.fuses) ∧
      Frame [0x2E0] s ({ t with sup := s.sup })) ∧
  (∀ (s : State) (j : MbxJob),
    s.sound = true → s.alive .svc 0 = true → s.sup.phase = .firmware → s.sup.job = some j → j.op = 0x40 → j.origin = none
      → s.rack.held = [] → s.sup.tableDue = false →
    Runs (.mailboxCommandDone true []) s fun t =>
      (MbxEnded t 0) ∧
      (t.kiln.fuses = s.kiln.fuses ||| (leNat j.data + if j.args.getD 0 0 = 0 then 2 ^ 256 * hashH 0xFFFFFFFF j.data else
        0) * 2 ^ (fuseField (j.args.getD 0 0)).1) ∧
      (∀ k, k < 512 → j.args.getD 0 0 = 0 → t.gf svcB (F.svc_DATA_DATA.at (4 * k)) = 0) ∧
      Frame [0x223, 0x2E0] s ({ t with sup := s.sup, kiln := s.kiln })) ∧
  (∀ (s : State) (m : UpdMsg) (p : Bool),
    s.sound = true → s.alive .svc 0 = true → m.target = s.unitPath → s.sup.phase = .firmware → (s.sup.job.isSome = true ∨
      s.gf svcB F.svc_MBX_STS_BUSY = 1) →
    Runs (.xferRx m p []) s fun t =>
      (UpdSent s t 0x11 ⟨m.origin, s.unitPath, s.gf updB F.upd_MANIFEST_ID_ID, 18, s.updFlags, 0, List.replicate 32 0⟩) ∧
      (t.sup = s.sup) ∧
      Frame [0x182] s ({ t with jal := s.jal })) ∧
  (∀ (s : State) (m : UpdMsg) (p : Bool),
    m.target = s.unitPath → (s.sup.phase = .off ∨ s.sup.phase = .bootRom) → s.rack.held.length < 16 →
    Runs (.xferRx m p []) s fun t =>
      t = s.setRack { s.rack with held := s.rack.held ++ [(0x10, m)] }) ∧
  (∀ (s : State) (m : UpdMsg),
    s.sound = true → s.alive .svc 0 = true → m.target = s.unitPath → s.sup.phase = .firmware → s.sup.remote = some
      m.origin → s.sup.job = none →
    Runs (.xferAckRx m) s fun t =>
      (MbxEnded t m.code) ∧
      (t.sup.remote = none) ∧
      (∀ k, k < 8 → 4 * k + 4 ≤ m.body.length → t.gf svcB (F.svc_MBX_RSP_DATA.at (4 * k)) = beAt m.body (4 * k) 4) ∧
      Frame [0x2E0] s ({ t with sup := s.sup })) ∧
  (∀ (s : State),
    s.sound = true → s.alive .svc 0 = true → s.sup.phase = .firmware → s.sup.remote.isSome = true → s.sup.job = none →
    Runs (.xferTimeout) s fun t =>
      (MbxEnded t 17) ∧
      (t.sup.remote = none) ∧
      Frame [0x2E0] s ({ t with sup := s.sup }))

/-- What the coordinator of Racking does. The model's choices: TYPE and byte order of the messages (log entry 88), what
RACK_STS shows and counts (89), twins, and what is taken while the Supervisor does not run (91). In canonical states.
RACK_PREPARE with a staged manifest that passes its check in IDLE, T_ACT − ARM_LEAD_MS later than TIME_NS: COLLECTING,
PREPARE to each participant; else it ends with 4, 3 or the check's result. In TRIAL RACK_CONFIRM sends CONFIRM and
leads to IDLE;  RACK_REVERT to REVERTING: REVERT sent, T_REV the next whole ms after REV_LEAD_MS;  elsewhere both  end
with 4. READY_RX in COLLECTING: a code aborts all,  the last READY 0 sends GO;  another is noted. DONE_RX in GO_SENT:
the last DONE 0 leads to TRIAL,  a code to REVERTING;  in REVERTING the last to IDLE with REASON 16.
RACK_READY_DEADLINE aborts with 15,  RACK_CHECK_DEADLINE reverts,  RACK_REVERT_DEADLINE ends with 16, or 17 for a
missing DONE. -/
def Obligations.RackingCoordinator : Prop :=
  (∀ (s : State),
    s.sound = true → s.mbxReady → s.masterFree = true → s.sup.unread = [] →
    Runs (.rackPrepare []) s fun t =>
      (((s.sup.manifest ≠ 2 ∨ s.rack.coord ≠ 0) → MbxEnded t 4 ∧ t.rack = s.rack)) ∧
      ((s.sup.manifest = 2 → s.rack.coord = 0 → (s.mbxArg 0 + 2 ^ 32 * s.mbxArg 1) ≤ s.now + s.updMs
        F.upd_RACK_TMR1_ARM_LEAD_MS → MbxEnded t 3 ∧ t.rack = s.rack)) ∧
      ((s.sup.manifest = 2 → s.rack.coord = 0 → s.now + s.updMs F.upd_RACK_TMR1_ARM_LEAD_MS < (s.mbxArg 0 + 2 ^ 32 *
        s.mbxArg 1) → s.imageCheck 4 0 ≠ 0 → MbxEnded t (s.imageCheck 4 0) ∧ t.rack = s.rack)) ∧
      (∀ l, s.sup.manifest = 2 → s.imageCheck 4 0 = 0 → s.manifestEntries = some l → s.rack.coord = 0 → s.now + s.updMs
        F.upd_RACK_TMR1_ARM_LEAD_MS < (s.mbxArg 0 + 2 ^ 32 * s.mbxArg 1) → (∀ e ∈ l, entPath e ≠ s.unitPath) → MbxEnded t
        0 ∧ RackAt t 1 s.rack.part 1 ∧ t.tAct = (s.mbxArg 0 + 2 ^ 32 * s.mbxArg 1) ∧ t.rack.units = unitsOf l ∧ ∀ u ∈
        unitsOf l, UpdSent s t 0x12 (t.updMsg u.path 0 (s.mbxArg 0 + 2 ^ 32 * s.mbxArg 1) u.entries.flatten))) ∧
  (∀ (s : State),
    s.sound = true → s.mbxReady → s.rack.coord = 3 → s.farUnits →
    Runs (.rackConfirm) s fun t =>
      (MbxEnded t 0) ∧
      (RackAt t 0 s.rack.part (s.rack.part % 16)) ∧
      (t.gf updB F.upd_RACK_STS_REASON = (0) % 256) ∧
      (t.gf updB F.upd_RACKS_DONE_COUNT = min 0xFFFFFFFF (s.gf updB F.upd_RACKS_DONE_COUNT + 1)) ∧
      (∀ u ∈ s.rack.units, UpdSent s t 0x16 (t.updMsg u.path 0 (s.tAct) [])) ∧
      Frame [0x182, 0x280, 0x2E0] s ({ t with rack := s.rack, jal := s.jal, sup := s.sup })) ∧
  (∀ (s : State),
    s.sound = true → s.mbxReady → s.rack.coord = 3 → s.farUnits →
    Runs (.rackRevert) s fun t =>
      (MbxEnded t 0) ∧
      (RackAt t 4 s.rack.part 4) ∧
      (t.tRev = (s.now + s.updMs F.upd_RACK_TMR2_REV_LEAD_MS + 999999) / 1000000 * 1000000 % 2 ^ 64) ∧
      (∀ u ∈ s.rack.units, UpdSent s t 0x17 (t.updMsg u.path 0 ((s.now + s.updMs F.upd_RACK_TMR2_REV_LEAD_MS + 999999) /
        1000000 * 1000000) [])) ∧
      Frame [0x182, 0x280, 0x2E0] s ({ t with rack := s.rack, jal := s.jal, sup := s.sup })) ∧
  (∀ (s : State),
    s.sound = true → s.mbxReady → s.rack.coord ≠ 3 →
    Runs (.rackConfirm) s fun t =>
      (MbxEnded t 4) ∧
      (t.rack = s.rack) ∧
      Frame [0x2E0] s t) ∧
  (∀ (s : State),
    s.sound = true → s.mbxReady → s.rack.coord ≠ 3 →
    Runs (.rackRevert) s fun t =>
      (MbxEnded t 4) ∧
      (t.rack = s.rack) ∧
      Frame [0x2E0] s t) ∧
  (∀ (s : State) (twin : Bool) (m : UpdMsg),
    s.sound = true → s.domOn 3 = true → s.rack.coord = 1 → s.isOurs m → m.code ≠ 0 → s.rack.units.any (fun u => u.path ==
      m.origin) = true → s.farUnits →
    Runs (.readyRx twin m) s fun t =>
      (RackAt t 0 s.rack.part (s.rack.part % 16)) ∧
      (t.gf updB F.upd_RACK_STS_REASON = (m.code) % 256) ∧
      (t.gf updB F.upd_RACKS_FAILED_COUNT = min 0xFFFFFFFF (s.gf updB F.upd_RACKS_FAILED_COUNT + 1)) ∧
      (∀ u ∈ s.rack.units, UpdSent s t 0x14 (t.updMsg u.path 0 (s.tAct) [])) ∧
      Frame [0x182, 0x280] s ({ t with rack := s.rack, jal := s.jal })) ∧
  (∀ (s : State) (twin : Bool) (m : UpdMsg),
    s.sound = true → s.domOn 3 = true → s.rack.coord = 1 → s.isOurs m → m.code = 0 → s.rack.units.all (fun u => answered
      (u.twin || (twin && u.path == m.origin)) (if u.path = m.origin then u.ready ++ [(m.flags, m.code)] else u.ready)) =
      true → s.farUnits →
    Runs (.readyRx twin m) s fun t =>
      (RackAt t 2 s.rack.part 2) ∧
      (∀ u ∈ s.rack.units, UpdSent s t goTyp (t.updMsg u.path 0 (s.tAct) [])) ∧
      Frame [0x182, 0x280] s ({ t with rack := s.rack, jal := s.jal })) ∧
  (∀ (s : State) (twin : Bool) (m : UpdMsg),
    s.sound = true → s.domOn 3 = true → s.rack.coord = 1 → s.isOurs m → m.code = 0 → ¬ (s.rack.units.all (fun u =>
      answered (u.twin || (twin && u.path == m.origin)) (if u.path = m.origin then u.ready ++ [(m.flags, m.code)] else
      u.ready)) = true) →
    Runs (.readyRx twin m) s fun t =>
      (t.rack.coord = 1) ∧
      (t.rack.units.map RackUnit.ready = s.rack.units.map (fun u => if u.path = m.origin then u.ready ++ [(m.flags,
        m.code)] else u.ready)) ∧
      Frame [] s ({ t with rack := s.rack })) ∧
  (∀ (s : State) (twin : Bool) (m : UpdMsg),
    s.sound = true → s.domOn 3 = true → s.rack.coord = 2 → s.isOurs m → m.code = 0 → s.rack.units.any (fun u => u.path ==
      m.origin) = true → s.rack.units.all (fun u => answered (u.twin || (twin && u.path == m.origin)) (if u.path =
      m.origin then u.done ++ [(m.flags, m.code)] else u.done)) = true →
    Runs (.doneRx twin m) s fun t =>
      (RackAt t 3 s.rack.part 3) ∧
      Frame [0x280] s ({ t with rack := s.rack })) ∧
  (∀ (s : State) (twin : Bool) (m : UpdMsg),
    s.sound = true → s.domOn 3 = true → s.rack.coord = 2 → s.isOurs m → m.code ≠ 0 → s.rack.units.any (fun u => u.path ==
      m.origin) = true → s.farUnits →
    Runs (.doneRx twin m) s fun t =>
      (RackAt t 4 s.rack.part 4) ∧
      (t.tRev = (s.now + s.updMs F.upd_RACK_TMR2_REV_LEAD_MS + 999999) / 1000000 * 1000000 % 2 ^ 64) ∧
      (∀ u ∈ s.rack.units, UpdSent s t 0x17 (t.updMsg u.path 0 ((s.now + s.updMs F.upd_RACK_TMR2_REV_LEAD_MS + 999999) /
        1000000 * 1000000) [])) ∧
      (t.rack.failUnit.isSome = true) ∧
      Frame [0x182, 0x280] s ({ t with rack := s.rack, jal := s.jal })) ∧
  (∀ (s : State) (twin : Bool) (m : UpdMsg),
    s.sound = true → s.domOn 3 = true → s.rack.coord = 4 → s.isOurs m → m.time = s.tRev → s.rack.units.all (fun u =>
      answered (u.twin || (twin && u.path == m.origin)) (if u.path = m.origin then u.reverted ++ [(m.flags, m.code)] else
      u.reverted)) = true →
    Runs (.doneRx twin m) s fun t =>
      (RackAt t 0 s.rack.part (s.rack.part % 16)) ∧
      (t.gf updB F.upd_RACK_STS_REASON = (16) % 256) ∧
      (t.gf updB F.upd_RACKS_FAILED_COUNT = min 0xFFFFFFFF (s.gf updB F.upd_RACKS_FAILED_COUNT + 1)) ∧
      Frame [0x280] s ({ t with rack := s.rack })) ∧
  (∀ (s : State),
    s.sound = true → s.domOn 3 = true → s.rack.coord = 1 → s.tAct ≤ s.now + s.updMs F.upd_RACK_TMR1_ARM_LEAD_MS →
      s.farUnits →
    Runs (.rackReadyDeadline) s fun t =>
      (RackAt t 0 s.rack.part (s.rack.part % 16)) ∧
      (t.gf updB F.upd_RACK_STS_REASON = (15) % 256) ∧
      (t.gf updB F.upd_RACKS_FAILED_COUNT = min 0xFFFFFFFF (s.gf updB F.upd_RACKS_FAILED_COUNT + 1)) ∧
      (∀ u ∈ s.rack.units, UpdSent s t 0x14 (t.updMsg u.path 0 (s.tAct) [])) ∧
      Frame [0x182, 0x280] s ({ t with rack := s.rack, jal := s.jal })) ∧
  (∀ (s : State),
    s.sound = true → s.domOn 3 = true → s.rack.coord = 2 → s.tAct + s.updMs F.upd_RACK_TMR2_CHECK_MS ≤ s.now → s.farUnits
      →
    Runs (.rackCheckDeadline) s fun t =>
      (RackAt t 4 s.rack.part 4) ∧
      (t.tRev = (s.now + s.updMs F.upd_RACK_TMR2_REV_LEAD_MS + 999999) / 1000000 * 1000000 % 2 ^ 64) ∧
      (∀ u ∈ s.rack.units, UpdSent s t 0x17 (t.updMsg u.path 0 ((s.now + s.updMs F.upd_RACK_TMR2_REV_LEAD_MS + 999999) /
        1000000 * 1000000) [])) ∧
      Frame [0x182, 0x280] s ({ t with rack := s.rack, jal := s.jal })) ∧
  (∀ (s : State),
    s.sound = true → s.domOn 3 = true → s.rack.coord = 4 → s.tRev + s.updMs F.upd_RACK_TMR2_CHECK_MS ≤ s.now →
    Runs (.rackRevertDeadline) s fun t =>
      (RackAt t 0 s.rack.part (s.rack.part % 16)) ∧
      (t.gf updB F.upd_RACK_STS_REASON = ((if s.rack.units.all (fun u => answered u.twin u.reverted) then 16 else 17)) %
        256) ∧
      (t.gf updB F.upd_RACKS_FAILED_COUNT = min 0xFFFFFFFF (s.gf updB F.upd_RACKS_FAILED_COUNT + 1)) ∧
      Frame [0x280] s ({ t with rack := s.rack }))

/-- What a participant of Racking does. The model's choices: TYPE of GO (log entry 88), what RACK_STS shows (89), the
order of preparation, its checks, TRIAL and BAD slots (90), held messages and twins (91). In canonical states with the
firmware running. PREPARE_RX in IDLE: PREPARING with the message's entries and T_ACT.  A key entry needs a shadow, else
4; an image must match, else 14, and pass its check; the first code ends preparation.  RACK_PREPARATION_DONE after the
last entry: READY 0 is sent, READY,  nothing else where no entry has a timed action;  a failure sends its code and
leads to IDLE,  a Batch build that failed with 16. GO_RX in READY: ARMED;  ABORT_RX: IDLE;  nothing else without armed
actions;  RACK_GUARD_DEADLINE: IDLE with DONE 15. RACK_ACTIVATION: ACTIVE with DONE 0 where every action was taken, new
slots TRIAL,  FAILED with DONE 16 where one failed;  with part 0 and nothing failed the Supervisor first restarts into
its TRIAL slot. REVERT_RX: REVERTING, T_REV;  from ACTIVE and FAILED too;  RACK_REVERT_APPLY: new slots but BAD ones
STAGED, IDLE, EV46, DONE 0. CONFIRM_RX in ACTIVE: new slots GOOD and active; ROLLBACK rises to the largest of the
confirmed images, with EV45, and never falls. While the Supervisor restarts a message is held;  one for another unit
goes on. -/
def Obligations.RackingParticipant : Prop :=
  (∀ (s : State) (m : UpdMsg) (ecc : List (Nat × Nat)),
    s.sound = true → s.domOn 3 = true → s.sup.phase = .firmware → s.rack.part = 0 → m.target = s.unitPath →
    Runs (.prepareRx m ecc) s fun t =>
      (t.rack.part = 8) ∧
      ((s.masterFree = true → t.rack.todo = [] ∨ t.rack.building = true)) ∧
      (t.rack.coord = s.rack.coord) ∧
      (t.rack.entries = entriesOf m.body) ∧
      (t.rack.origin = m.origin) ∧
      (t.tAct = m.time % 2 ^ 64) ∧
      (t.gf updB F.upd_MANIFEST_ID_ID = m.manifest % 2 ^ 32) ∧
      (t.gf updB F.upd_RACK_STS_STATE = 8) ∧
      (t.evPend 42 = true)) ∧
  (∀ (s : State) (e : Bytes) (l : List Bytes),
    s.sup.unread = [] →
    (entPart e = 0x0F → s.prepEntry e = (s, if (s.slot (entKey e)).shadow.isSome then 0 else 4)) ∧ (entPart e < 4 →
      s.entMatches e = false → s.prepEntry e = (s, 14)) ∧ (entPart e = 0 → s.entMatches e = true → s.prepEntry e = (s,
      0)) ∧ (1 ≤ entPart e → entPart e < 4 → s.entMatches e = true → s.imageCheck (entPart e) (s.newSlot (entPart e)) ≠ 0
      → s.prepEntry e = (s, s.imageCheck (entPart e) (s.newSlot (entPart e)))) ∧ ((s.prepEntry e).2 ≠ 0 → (s.prepGo (e ::
      l)).rack.code = (s.prepEntry e).2 ∧ (s.prepGo (e :: l)).rack.todo = [])) ∧
  (∀ (s : State) (ecc : List (Nat × Nat)),
    s.sound = true → s.domOn 3 = true → s.sup.phase = .firmware → s.rack.part = 8 → s.gf sgB F.sigGlobal_BUILD_STS_BUSY =
      0 → s.masterFree = true → s.rack.todo = [] → s.rack.code = 0 → (s.rack.building = true → s.gf sgB
      F.sigGlobal_BUILD_STS_RESULT = 0) → s.farOrigin →
    Runs (.rackPreparationDone ecc) s fun t =>
      (RackAt t s.rack.coord 9 9) ∧
      (UpdSent s t 0x13 (t.updMsg s.rack.origin 0 (s.tAct) []))) ∧
  (∀ (s : State),
    s.sound = true → s.domOn 3 = true → s.sup.phase = .firmware → s.rack.part = 8 → s.gf sgB F.sigGlobal_BUILD_STS_BUSY =
      0 → s.masterFree = true → s.rack.todo = [] → s.rack.building = false → s.sup.unread = [] → s.rack.code = 0 →
      s.rack.entries.all (fun e => entPart e == 0 || entPart e == 2) = true → s.farOrigin →
    Runs (.rackPreparationDone []) s fun t =>
      (t.rack.gens = []) ∧
      Frame [0x182, 0x280] s ({ t with rack := s.rack, jal := s.jal })) ∧
  (∀ (s : State),
    s.sound = true → s.domOn 3 = true → s.sup.phase = .firmware → s.rack.part = 8 → s.gf sgB F.sigGlobal_BUILD_STS_BUSY =
      0 → s.masterFree = true → s.rack.todo = [] → s.rack.building = false → s.sup.unread = [] → s.rack.code ≠ 0 →
      s.farOrigin →
    Runs (.rackPreparationDone []) s fun t =>
      (UpdSent s t 0x13 (t.updMsg s.rack.origin s.rack.code (s.tAct) [])) ∧
      (RackAt t s.rack.coord 0 (s.rack.coord % 16)) ∧
      Frame [0x182, 0x280] s ({ t with rack := s.rack, jal := s.jal })) ∧
  (∀ (s : State) (ecc : List (Nat × Nat)),
    s.sound = true → s.domOn 3 = true → s.sup.phase = .firmware → s.rack.part = 8 → s.gf sgB F.sigGlobal_BUILD_STS_BUSY =
      0 → s.masterFree = true → s.rack.building = true → s.gf sgB F.sigGlobal_BUILD_STS_RESULT ≠ 0 → s.farOrigin →
    Runs (.rackPreparationDone ecc) s fun t =>
      (UpdSent s t 0x13 (t.updMsg s.rack.origin 16 (s.tAct) [])) ∧
      (RackAt t s.rack.coord 0 (s.rack.coord % 16))) ∧
  (∀ (s : State) (m : UpdMsg),
    s.sound = true → s.domOn 3 = true → s.sup.phase = .firmware → s.rack.part = 9 → s.isOurs m →
    Runs (.goRx m) s fun t =>
      (RackAt t s.rack.coord 10 10) ∧
      Frame [0x280] s ({ t with rack := s.rack })) ∧
  (∀ (s : State) (m : UpdMsg),
    s.sound = true → s.domOn 3 = true → s.sup.phase = .firmware → s.rack.part = 9 → s.isOurs m →
    Runs (.abortRx m) s fun t =>
      RackAt t s.rack.coord 0 (s.rack.coord % 16)) ∧
  (∀ (s : State) (m : UpdMsg),
    s.sound = true → s.domOn 3 = true → s.sup.phase = .firmware → s.rack.part = 9 → s.isOurs m → s.rack.gens = [] →
      s.rackHas 1 = false → s.rackHas 3 = false →
    Runs (.abortRx m) s fun t =>
      (t.rack = { s.rack with part := 0 }) ∧
      Frame [0x280] s ({ t with rack := s.rack })) ∧
  (∀ (s : State),
    s.sound = true → s.domOn 3 = true → s.sup.phase = .firmware → s.rack.part = 9 → s.tAct ≤ s.now + s.updMs
      F.upd_RACK_TMR1_GUARD_MS → s.farOrigin →
    Runs (.rackGuardDeadline) s fun t =>
      (RackAt t s.rack.coord 0 (s.rack.coord % 16)) ∧
      (UpdSent s t 0x15 (t.updMsg s.rack.origin 15 (s.tAct) []))) ∧
  (∀ (s : State),
    s.sound = true → s.domOn 3 = true → s.sup.phase = .firmware → s.rack.part = 10 → s.tAct ≤ s.now → s.actionsFailed =
      some false → s.rack.held = [] → s.farOrigin →
    Runs (.rackActivation) s fun t =>
      (RackAt t s.rack.coord 11 11) ∧
      (UpdSent s t 0x15 (t.updMsg s.rack.origin 0 (s.tAct) [])) ∧
      (∀ p, 1 ≤ p → p < 4 → s.rackHas p = true → s.slotState p (1 - s.slotActive p) ≠ 5 → t.slotState p (1 - s.slotActive
        p) = 3) ∧
      Frame [0x182, 0x280] s ({ t with rack := s.rack, jal := s.jal, flash := s.flash, sup := s.sup })) ∧
  (∀ (s : State),
    s.sound = true → s.domOn 3 = true → s.sup.phase = .firmware → s.rack.part = 10 → s.tAct ≤ s.now → s.actionsFailed =
      some true → s.rack.held = [] → s.farOrigin →
    Runs (.rackActivation) s fun t =>
      (RackAt t s.rack.coord 12 12) ∧
      (UpdSent s t 0x15 (t.updMsg s.rack.origin 16 (s.tAct) [])) ∧
      (∀ p, 1 ≤ p → p < 4 → s.rackHas p = true → s.slotState p (1 - s.slotActive p) ≠ 5 → t.slotState p (1 - s.slotActive
        p) = 3) ∧
      Frame [0x182, 0x280] s ({ t with rack := s.rack, jal := s.jal, flash := s.flash, sup := s.sup })) ∧
  (∀ (s : State),
    s.sound = true → s.domOn 3 = true → s.sup.phase = .firmware → s.rack.part = 10 → s.tAct ≤ s.now → s.rackHas 0 = true
      → s.rack.restarted = false → s.actionsFailed = none →
    Runs (.rackActivation) s fun t =>
      (t.sup.phase = .off) ∧
      (t.gf svcB F.svc_SV_STS_RUN = 0) ∧
      (t.slotState 0 (1 - s.slotActive 0) = 3) ∧
      (t.slotTries 0 = 0) ∧
      (t.rack = { s.rack with restarted := true }) ∧
      Frame [0x280, 0x2E0] s ({ t with rack := s.rack, sup := s.sup, flash := s.flash })) ∧
  (∀ (s : State) (m : UpdMsg),
    s.sound = true → s.domOn 3 = true → s.sup.phase = .firmware → s.rack.part = 10 → s.isOurs m → s.now < s.tAct →
    Runs (.revertRx m) s fun t =>
      (RackAt t s.rack.coord 13 13) ∧
      (t.tRev = m.time % 2 ^ 64)) ∧
  (∀ (s : State) (m : UpdMsg),
    s.sound = true → s.domOn 3 = true → s.sup.phase = .firmware → (s.rack.part = 11 ∨ s.rack.part = 12) → s.isOurs m →
      s.rackHas 1 = false → s.rackHas 3 = false →
    Runs (.revertRx m) s fun t =>
      (RackAt t s.rack.coord 13 13) ∧
      (t.tRev = m.time % 2 ^ 64) ∧
      Frame [0x280] s ({ t with rack := s.rack })) ∧
  (∀ (s : State),
    s.sound = true → s.domOn 3 = true → s.sup.phase = .firmware → s.rack.part = 13 → s.tRev ≤ s.now → (s.rackHas 0 =
      false ∨ s.rack.taken = false ∨ s.rack.restarted = true) → s.rack.held = [] → s.farOrigin →
    Runs (.rackRevertApply) s fun t =>
      (RackAt t s.rack.coord 0 (s.rack.coord % 16)) ∧
      (∀ p, p < 4 → s.rackHas p = true → s.slotState p (1 - s.slotActive p) ≠ 5 → t.slotState p (1 - s.slotActive p) = 2) ∧
      (t.evPend 46 = true) ∧
      (t.gf updB F.upd_REVERTS_COUNT = min 0xFFFFFFFF (s.gf updB F.upd_REVERTS_COUNT + 1)) ∧
      (UpdSent s t 0x15 (t.updMsg s.rack.origin 0 (s.tRev) [])) ∧
      Frame [0x182, 0x280] s ({ t with rack := s.rack, jal := s.jal, flash := s.flash, sup := s.sup })) ∧
  (∀ (s : State) (m : UpdMsg),
    s.sound = true → s.domOn 3 = true → s.sup.phase = .firmware → s.rack.part = 11 → s.isOurs m →
    Runs (.confirmRx m) s fun t =>
      (RackAt t s.rack.coord 0 (s.rack.coord % 16)) ∧
      (∀ p, p < 4 → s.rackHas p = true → t.slotActive p = 1 - s.slotActive p ∧ t.slotState p (1 - s.slotActive p) = 4) ∧
      (s.rollbackCount ≤ t.rollbackCount) ∧
      ((bitsOf s.kiln.fuses 1231 1168 = 2 ^ s.rollbackCount - 1 → t.rollbackCount = max s.rollbackCount (min 64
        ((List.range 4).foldl (fun a p => if s.rackHas p then max a (leAt (s.imageHeader p (1 - s.slotActive p)) 12 2)
        else a) 0)))) ∧
      ((s.rollbackCount < ((List.range 4).foldl (fun a p => if s.rackHas p then max a (leAt (s.imageHeader p (1 -
        s.slotActive p)) 12 2) else a) 0) → t.evPend 45 = true ∧ t.gf updB F.upd_ROLLBACK_COUNT = t.rollbackCount % 256)) ∧
      Frame [0x280] s ({ t with rack := s.rack, kiln := s.kiln, flash := s.flash, sup := s.sup })) ∧
  (∀ (s : State) (m : UpdMsg),
    m.target = s.unitPath → (s.sup.phase = .off ∨ s.sup.phase = .bootRom) → s.rack.held.length < 16 →
    Runs (.goRx m) s fun t =>
      t = s.setRack { s.rack with held := s.rack.held ++ [(goTyp, m)] }) ∧
  (∀ (s : State) (m : UpdMsg),
    m.target ≠ s.unitPath →
    Runs (.goRx m) s fun t =>
      (UpdSent s t goTyp m) ∧
      Frame [0x182] s ({ t with jal := s.jal }))

/-- Degraded requests, their grant and end, and the die-to-die link. A write with EXIT and GO together, and CAUSE after
EXIT, are the model's reading (log entry 105). In canonical states. The required set is Table 16-1's for ACTIVE, less
absent domains and DEG_STS.DOMAINS. DEGRADE_REQUEST leaves a request with its CAUSE, at least 1, and DOMAINS less PD3,
and PEND;  with EXIT too the masks in force go first and the device stays DEGRADED. DEGRADE_GRANT: GRANTED, CAUSE and
DOMAINS, added to those in force; DEGRADED with CAUSE 5, EV4; REQUIRED follows; no domain is switched off;  while the
Supervisor does not run it waits. DEGRADE_EXIT: GRANTED and DOMAINS 0; RUN if every required domain is on, else
PARTIAL. DIE_LINK_CHECK_FAIL after 3 retries: lost; Line-die pages read 0xFFFFFFFF; cause 4 with PD1 and PD2 is
requested where AUTO_DEG has it;  before, nothing. DIE_LINK_RETRY that passes: restored, the contents as they were, C0
to C15 integrate;  else nothing. -/
def Obligations.DegradedOperation : Prop :=
  (∀ (s : State),
    (∀ n, n < 15 → bitOf s.requiredSet n = (bitOf (natAnd (profileDomains (s.gf guB F.guardGlobal_PROFILE_ACTIVE))
      s.grade.domMask) n && !bitOf (2 * s.gf guB F.guardGlobal_DEG_STS_DOMAINS) n)) ∧ profileDomains 0 = 2 ^ 3 ∧ (∀ p, p
      = 1 ∨ p = 3 ∨ p = 4 → ∀ n, n < 16 → bitOf (profileDomains p) n = decide (3 ≤ n ∧ n ≤ 14)) ∧ (∀ n, n < 16 → bitOf
      (profileDomains 2) n = decide (n ∈ [1, 2, 3, 4, 5, 6, 8, 9, 11, 13, 14]))) ∧
  (∀ (s : State) (w : Word),
    s.sound = true → s.domOn 3 = true → s.unwatched (guB + 0x044) → w.getLsbD 30 = false →
    Runs (.degradeRequest w) s fun t =>
      (t.degPend = s.degPend ++ [(max 1 (bitsOf w.toNat 18 16), 2 * natAnd (bitsOf w.toNat 14 1) 0x3FFB)]) ∧
      (t.gf guB F.guardGlobal_DEG_STS_PEND = 1) ∧
      (t.gf guB F.guardGlobal_DEG_REQ_CAUSE = max 1 (bitsOf w.toNat 18 16)) ∧
      (2 * t.gf guB F.guardGlobal_DEG_REQ_DOMAINS = 2 * natAnd (bitsOf w.toNat 14 1) 0x3FFB) ∧
      (t.pstate = s.pstate) ∧
      Frame [0x2C0] s ({ t with degPend := s.degPend })) ∧
  (∀ (s : State) (w : Word),
    s.sound = true → s.domOn 3 = true → s.unwatched (guB + 0x044) → w.getLsbD 30 = true → s.pstate = 5 →
    Runs (.degradeRequest w) s fun t =>
      (t.degPend = s.degPend ++ [(max 1 (bitsOf w.toNat 18 16), 2 * natAnd (bitsOf w.toNat 14 1) 0x3FFB)]) ∧
      (t.gf guB F.guardGlobal_DEG_STS_DOMAINS = 0) ∧
      (t.pstate = 5) ∧
      Frame [0x2C0] s ({ t with degPend := s.degPend })) ∧
  (∀ (s : State) (c d : Nat) (rest : List (Nat × Nat)),
    s.sound = true → s.domOn 3 = true → s.degPend = (c, d) :: rest → s.sup.phase = .firmware → 3 ≤ s.pstate → c < 8 → d <
      2 ^ 15 →
    Runs (.degradeGrant) s fun t =>
      (t.degPend = rest) ∧
      (t.gf guB F.guardGlobal_DEG_STS_PEND = b2n (rest != [])) ∧
      (t.gf guB F.guardGlobal_DEG_STS_GRANTED = 1) ∧
      (t.gf guB F.guardGlobal_DEG_STS_CAUSE = c) ∧
      ((s.pstate ≠ 5 → t.gf guB F.guardGlobal_DEG_STS_DOMAINS = (d / 2 - natAnd (d / 2) 4))) ∧
      (∀ n, n < 14 → n ≠ 2 → s.pstate = 5 → bitOf (t.gf guB F.guardGlobal_DEG_STS_DOMAINS) n = (bitOf (s.gf guB
        F.guardGlobal_DEG_STS_DOMAINS) n || bitOf (d / 2) n)) ∧
      (t.pstate = 5) ∧
      ((s.pstate ≠ 5 → t.gf pwB F.pwrMain_PSTATE_CAUSE = 5)) ∧
      ((s.pstate ≠ 5 → t.evPend 4 = true)) ∧
      (t.gf guB F.guardGlobal_REQUIRED_DOMAINS = t.requiredSet / 2) ∧
      (t.gf guB F.guardGlobal_DEG_GRANTS_COUNT = min 0xFFFFFFFF (s.gf guB F.guardGlobal_DEG_GRANTS_COUNT + 1)) ∧
      (t.domSts = s.domSts) ∧
      (t.domReq = s.domReq) ∧
      Frame [0x20, 0x2C0] s ({ t with degPend := s.degPend })) ∧
  (∀ (s : State),
    s.sup.phase = .off ∨ s.sup.phase = .bootRom →
    Runs (.degradeGrant) s fun t =>
      t = s) ∧
  (∀ (s : State) (w : Word),
    s.sound = true → s.domOn 3 = true → s.unwatched (guB + 0x044) → w.getLsbD 31 = false →
    Runs (.degradeExit w) s fun t =>
      (t.gf guB F.guardGlobal_DEG_STS_GRANTED = 0) ∧
      (t.gf guB F.guardGlobal_DEG_STS_DOMAINS = 0) ∧
      (t.gf guB F.guardGlobal_REQUIRED_DOMAINS = t.requiredSet / 2) ∧
      ((s.pstate = 5 → t.pstate = if natAnd (natAnd (profileDomains (s.gf guB F.guardGlobal_PROFILE_ACTIVE))
        s.grade.domMask) (65535 - s.domSts) = 0 then 4 else 3)) ∧
      ((s.pstate ≠ 5 → t.pstate = s.pstate)) ∧
      (t.degPend = s.degPend) ∧
      Frame [0x20, 0x2C0] s t) ∧
  (∀ (s : State) (n : Nat),
    s.sound = true → s.domOn 3 = true → s.dieLost = false → 3 ≤ n →
    Runs (.dieLinkCheckFail n) s fun t =>
      (t.dieLost = true) ∧
      (∀ off k i, pageOf (off / 0x1000) = some (k, i) → lineDiePage k = true → s.grade.hasPage k i = true → t.peekReg off
        = 0xFFFFFFFF) ∧
      (t.degPend = (if bitOf (s.gf guB F.guardGlobal_AUTO_DEG_CAUSE) 3 then s.degPend ++ [(4, 6)] else s.degPend)) ∧
      ((bitOf (s.gf guB F.guardGlobal_AUTO_DEG_CAUSE) 3 = true → t.gf guB F.guardGlobal_DEG_STS_PEND = 1))) ∧
  (∀ (s : State) (n : Nat),
    n < 3 →
    Runs (.dieLinkCheckFail n) s fun t =>
      t = s) ∧
  (∀ (s : State),
    s.sound = true → s.domOn 3 = true → s.dieLost = true → s.sup.phase = .firmware →
    Runs (.dieLinkRetry true) s fun t =>
      (t.dieLost = false) ∧
      (∀ n, n < 16 → s.run .can n = true → 1 ≤ s.canState n → s.canState n ≤ 3 → s.canRateOk n = true → t.canState n = 1) ∧
      (∀ n, n < 16 → t.gf (caB n) F.can_ERR_CNT_TEC = s.gf (caB n) F.can_ERR_CNT_TEC) ∧
      (t.degPend = s.degPend)) ∧
  (∀ (s : State),
    Runs (.dieLinkRetry false) s fun t =>
      t = s)

/-- What an evaluation cycle of the Cellarer does. In canonical states with sources in BAR0. A cycle adds to EVALS the
rules evaluated (log entry 93) and leaves rules that are off;  an enabled rule's first sample sets p and r;  each later
one becomes p, starts a window after WINDOW cycles, and counts as held or failed by KIND, CMP and THRESH.  After HOLD
true samples an unlatched rule fires: its action is queued, LATCHED, FIRES + 1;  before that,  or with 256 queued, it
does not;  a latched one re-arms after REARM false ones, never with 0. A sample that times out is counted in SAMPLE_ERR
and leaves p and r. Outside RUN nothing is sampled. RULE_CLEAR clears LATCHED. -/
def Obligations.CellarerCycle : Prop :=
  (∀ (s : State),
    s.sound = true → s.run .guardGlobal 0 = true → s.rulesOn.all (fun q => decide (s.ruleF q F.guardRule_SRC_ADDR < 2 ^
      26)) = true →
    Runs (.cellarerCycle []) s fun t =>
      (t.gf guB F.guardGlobal_EVALS_COUNT = (s.gf guB F.guardGlobal_EVALS_COUNT + (s.rulesOn.filter fun r => !(s.ruleSt
        r).fresh).length) % 2 ^ 32) ∧
      (s.guard.queue <+: t.guard.queue) ∧
      (∀ r, r < 256 → r ∉ s.rulesOn → t.ruleSt r = s.ruleSt r ∧ t.ruleF r F.guardRule_FIRES_COUNT = s.ruleF r
        F.guardRule_FIRES_COUNT ∧ t.ruleF r F.guardRule_RULE_CTL_LATCHED = s.ruleF r F.guardRule_RULE_CTL_LATCHED) ∧
      (t.gf guB F.guardGlobal_SAMPLE_ERR_COUNT = s.gf guB F.guardGlobal_SAMPLE_ERR_COUNT) ∧
      Frame [0x2C0, 0x2C1, 0x2C2, 0x2C3, 0x2C4] s ({ t with guard := s.guard })) ∧
  (∀ (s : State) (r : Nat),
    s.sound = true → s.run .guardGlobal 0 = true → r ∈ s.rulesOn → s.rulesOn.all (fun q => decide (s.ruleF q
      F.guardRule_SRC_ADDR < 2 ^ 26)) = true → (s.ruleSt r).fresh = true →
    Runs (.cellarerCycle []) s fun t =>
      (t.ruleSt r = ⟨false, s.ruleSample r, s.ruleSample r, 0, 0, 0⟩) ∧
      (t.ruleF r F.guardRule_FIRES_COUNT = s.ruleF r F.guardRule_FIRES_COUNT) ∧
      (t.ruleF r F.guardRule_RULE_CTL_LATCHED = s.ruleF r F.guardRule_RULE_CTL_LATCHED) ∧
      Frame [0x2C0, 0x2C1, 0x2C2, 0x2C3, 0x2C4] s ({ t with guard := s.guard })) ∧
  (∀ (s : State) (r : Nat),
    s.sound = true → s.run .guardGlobal 0 = true → r ∈ s.rulesOn → s.rulesOn.all (fun q => decide (s.ruleF q
      F.guardRule_SRC_ADDR < 2 ^ 26)) = true → (s.ruleSt r).fresh = false →
    Runs (.cellarerCycle []) s fun t =>
      ((t.ruleSt r).prev = s.ruleSample r) ∧
      ((t.ruleSt r).ref = (if s.ruleWindow r then s.ruleSample r else (s.ruleSt r).ref)) ∧
      ((t.ruleSt r).held = (if s.ruleTrue r then (s.ruleSt r).held + 1 else 0)) ∧
      ((t.ruleSt r).failed = (if s.ruleTrue r then 0 else (s.ruleSt r).failed + 1)) ∧
      Frame [0x2C0, 0x2C1, 0x2C2, 0x2C3, 0x2C4] s ({ t with guard := s.guard })) ∧
  (∀ (s : State) (r : Nat),
    s.sound = true → s.run .guardGlobal 0 = true → r ∈ s.rulesOn → s.rulesOn.all (fun q => decide (s.ruleF q
      F.guardRule_SRC_ADDR < 2 ^ 26)) = true → (s.ruleSt r).fresh = false → s.ruleF r F.guardRule_RULE_CTL_LATCHED = 0 →
      s.ruleF r F.guardRule_RULE_CTL_HOLD ≤ (if s.ruleTrue r then (s.ruleSt r).held + 1 else 0) → s.guard.queue.length +
      s.rulesOn.length ≤ 256 →
    Runs (.cellarerCycle []) s fun t =>
      (⟨r, s.ruleF r F.guardRule_RULE_CTL_ACTION, s.ruleF r F.guardRule_TARGET_ADDR, s.ruleF r F.guardRule_VALUE_VALUE⟩ ∈
        t.guard.queue) ∧
      (t.ruleF r F.guardRule_RULE_CTL_LATCHED = 1) ∧
      (t.ruleF r F.guardRule_FIRES_COUNT = (s.ruleF r F.guardRule_FIRES_COUNT + 1) % 2 ^ 32) ∧
      Frame [0x2C0, 0x2C1, 0x2C2, 0x2C3, 0x2C4] s ({ t with guard := s.guard })) ∧
  (∀ (s : State) (r : Nat),
    s.sound = true → s.run .guardGlobal 0 = true → r ∈ s.rulesOn → s.rulesOn.all (fun q => decide (s.ruleF q
      F.guardRule_SRC_ADDR < 2 ^ 26)) = true → (s.ruleSt r).fresh = false → s.ruleF r F.guardRule_RULE_CTL_LATCHED = 0 →
      (if s.ruleTrue r then (s.ruleSt r).held + 1 else 0) < s.ruleF r F.guardRule_RULE_CTL_HOLD →
    Runs (.cellarerCycle []) s fun t =>
      (t.ruleF r F.guardRule_RULE_CTL_LATCHED = 0) ∧
      (t.ruleF r F.guardRule_FIRES_COUNT = s.ruleF r F.guardRule_FIRES_COUNT) ∧
      Frame [0x2C0, 0x2C1, 0x2C2, 0x2C3, 0x2C4] s ({ t with guard := s.guard })) ∧
  (∀ (s : State) (r : Nat),
    s.sound = true → s.run .guardGlobal 0 = true → r ∈ s.rulesOn → s.rulesOn.all (fun q => decide (s.ruleF q
      F.guardRule_SRC_ADDR < 2 ^ 26)) = true → s.guard.queue.length = 256 → s.ruleF r F.guardRule_RULE_CTL_LATCHED = 0 →
    Runs (.cellarerCycle []) s fun t =>
      (t.guard.queue = s.guard.queue) ∧
      (t.ruleF r F.guardRule_RULE_CTL_LATCHED = 0) ∧
      (t.ruleF r F.guardRule_FIRES_COUNT = s.ruleF r F.guardRule_FIRES_COUNT) ∧
      Frame [0x2C0, 0x2C1, 0x2C2, 0x2C3, 0x2C4] s ({ t with guard := s.guard })) ∧
  (∀ (s : State) (r : Nat),
    s.sound = true → s.run .guardGlobal 0 = true → r ∈ s.rulesOn → s.rulesOn.all (fun q => decide (s.ruleF q
      F.guardRule_SRC_ADDR < 2 ^ 26)) = true → (s.ruleSt r).fresh = false → s.ruleF r F.guardRule_RULE_CTL_LATCHED = 1 →
    Runs (.cellarerCycle []) s fun t =>
      (t.ruleF r F.guardRule_RULE_CTL_LATCHED = (if s.ruleF r F.guardRule_RULE_CTL_REARM ≠ 0 ∧ s.ruleF r
        F.guardRule_RULE_CTL_REARM ≤ (if s.ruleTrue r then 0 else (s.ruleSt r).failed + 1) then 0 else 1)) ∧
      (t.ruleF r F.guardRule_FIRES_COUNT = s.ruleF r F.guardRule_FIRES_COUNT) ∧
      Frame [0x2C0, 0x2C1, 0x2C2, 0x2C3, 0x2C4] s ({ t with guard := s.guard })) ∧
  (∀ (s : State) (r : Nat),
    s.sound = true → s.run .guardGlobal 0 = true → r ∈ s.rulesOn → s.rulesOn.all (fun q => decide (s.ruleF q
      F.guardRule_SRC_ADDR < 2 ^ 26)) = true →
    Runs (.cellarerCycle [r]) s fun t =>
      ((t.ruleSt r).prev = (s.ruleSt r).prev) ∧
      ((t.ruleSt r).ref = (s.ruleSt r).ref) ∧
      (t.gf guB F.guardGlobal_SAMPLE_ERR_COUNT = min 0xFFFFFFFF (s.gf guB F.guardGlobal_SAMPLE_ERR_COUNT + 1)) ∧
      (t.ruleF r F.guardRule_FIRES_COUNT = s.ruleF r F.guardRule_FIRES_COUNT) ∧
      (t.ruleF r F.guardRule_RULE_CTL_LATCHED = s.ruleF r F.guardRule_RULE_CTL_LATCHED)) ∧
  (∀ (s : State) (l : List Nat),
    s.run .guardGlobal 0 = false →
    Runs (.cellarerCycle l) s fun t =>
      t = s) ∧
  (∀ (s : State) (r : Nat),
    s.sound = true → s.alive .guardRule (r / 64) = true → r < 256 → s.unwatched (pageBase .guardRule (r / 64) + 0x100 +
      32 * (r % 64)) →
    Runs (.ruleClear r) s fun t =>
      (t.ruleF r F.guardRule_RULE_CTL_LATCHED = 0) ∧
      (t.ruleF r F.guardRule_RULE_CTL_EN = s.ruleF r F.guardRule_RULE_CTL_EN) ∧
      (t.ruleSt r = s.ruleSt r) ∧
      (t.ruleF r F.guardRule_FIRES_COUNT = s.ruleF r F.guardRule_FIRES_COUNT) ∧
      Frame [0x2C1 + r / 64] s t)

/-- What the Cellarer's nine actions do. That ACTIONS counts applied actions only, which word PIN and the override log
watch, and when BATCH fails are the model's reading (log entry 93). In canonical states, the oldest queued action
having the code; each enters its ACTION record. LOG writes nothing;  EVENT raises EV(480 + VALUE[4:0]);  METER sets CIR
of the meter at TARGET to VALUE[23:0], other fields as they were, and resets its state;  LISTEN sets TRCV_CTL.STATE to
1;  PIN sets PINNED of the valid entry at TARGET;  RESEED reseeds as REQ does;  BATCH writes BUILD_CTL and, where a
build starts, waits for its end;  BLOCK sets PORT_BLK.BLOCK;  DEGRADE writes DEG_REQ with GO, CAUSE 6 and VALUE[14:1].
A TARGET of another kind fails METER,  LISTEN,  PIN (or an entry with VALID 0)  and BLOCK;  a write that times out
fails its action, applied or not. -/
def Obligations.CellarerActions : Prop :=
  (∀ (s : State) (a : GuardAct) (rest : List GuardAct),
    s.sound = true → s.domOn 3 = true → s.guard.queue = a :: rest → a.code = 0 → s.takes 1 16 → a.rule < 2 ^ 16 →
    Runs (.cellarerLog) s fun t =>
      (Acted s t a rest false (0) (0)) ∧
      (Recorded s t 1 a.rule (actionBytes a 0 0 0)) ∧
      Frame [0x2C0] s ({ t with guard := s.guard })) ∧
  (∀ (s : State) (a : GuardAct) (rest : List GuardAct),
    s.sound = true → s.domOn 3 = true → s.guard.queue = a :: rest → a.code = 1 →
    Runs (.cellarerEvent) s fun t =>
      (Acted s t a rest false (a.value % 32) (0)) ∧
      (t.evPend (480 + a.value % 32) = true) ∧
      Frame [0x2C0] s ({ t with guard := s.guard })) ∧
  (∀ (s : State) (a : GuardAct) (rest : List GuardAct),
    s.sound = true → s.domOn 3 = true → s.guard.queue = a :: rest → a.code = 2 → 0x451A0000 ≤ a.target → a.target <
      0x451B0000 → a.target % 16 = 0 →
    Runs (.cellarerMeter) s fun t =>
      (Acted s t a rest false ((a.value % 2 ^ 24)) (byteAt (s.b2Bytes (a.target - 0x40000000) 16) 0 * 65536 + leAt
        (s.b2Bytes (a.target - 0x40000000) 16) 1 2)) ∧
      (byteAt (t.b2Bytes (a.target - 0x40000000) 16) 0 * 65536 + leAt (t.b2Bytes (a.target - 0x40000000) 16) 1 2 =
        (a.value % 2 ^ 24)) ∧
      (slice (t.b2Bytes (a.target - 0x40000000) 16) 3 13 = slice (s.b2Bytes (a.target - 0x40000000) 16) 3 13) ∧
      (∀ x, (x < (a.target - 0x40000000) ∨ (a.target - 0x40000000) + 16 ≤ x) → t.b2Bytes x 1 = s.b2Bytes x 1) ∧
      (∀ m, m = t.meterAt (((a.target - 0x40000000) - 0x051A0000) / 16) → m.c = t.b2w ((a.target - 0x40000000) + 8) * 2 ^
        20 ∧ m.e = t.b2w ((a.target - 0x40000000) + 12) * 2 ^ 20 ∧ m.red = false) ∧
      Frame [0x2C0, 0xC0] s ({ t with guard := s.guard, bar2 := s.bar2, fwd := s.fwd })) ∧
  (∀ (s : State) (a : GuardAct) (rest : List GuardAct) (n : Nat),
    s.sound = true → s.domOn 3 = true → s.guard.queue = a :: rest → a.code = 3 → n < 24 → s.alive .can n = true →
      s.dieLost = false → a.target = caB n + 0x060 →
    Runs (.cellarerListen false) s fun t =>
      (Acted s t a rest false (1) (s.gf (caB n) F.can_TRCV_CTL_STATE)) ∧
      (t.gf (caB n) F.can_TRCV_CTL_STATE = 1) ∧
      Frame [0x2C0, 0x150 + n] s ({ t with guard := s.guard, can := s.can })) ∧
  (∀ (s : State) (a : GuardAct) (rest : List GuardAct),
    s.sound = true → s.domOn 3 = true → s.guard.queue = a :: rest → a.code = 4 → 0x44000000 ≤ a.target → a.target <
      0x44040400 → s.domOn 4 = true → a.target % 16 = 0 → bitOf (s.b2w (a.target - 0x40000000 + 4)) 31 = true →
    Runs (.cellarerPin) s fun t =>
      (∀ v, v = putBits (s.b2w (a.target - 0x40000000 + 4)) 29 29 1 → Acted s t a rest false (v) ((s.b2w (a.target -
        0x40000000 + 4))) ∧ t.b2w (a.target - 0x40000000 + 4) = v) ∧
      (∀ k, k = 0 ∨ k = 8 ∨ k = 12 → t.b2w (a.target - 0x40000000 + k) = s.b2w (a.target - 0x40000000 + k)) ∧
      Frame [0x2C0, 0xC0] s ({ t with guard := s.guard, bar2 := s.bar2, fwd := s.fwd })) ∧
  (∀ (s : State) (a : GuardAct) (rest : List GuardAct),
    s.sound = true → s.domOn 3 = true → s.guard.queue = a :: rest → a.code = 5 → s.unwatched (fabB + 0x054) →
    Runs (.cellarerReseed false) s fun t =>
      (Acted s t a rest false (1) (s.gf fabB F.fabGlobal_PIN_SEED_SEED)) ∧
      ((s.rngRuns = true → t.gf fabB F.fabGlobal_PIN_SEED_SEED = (s.draw 32).1.toNat)) ∧
      ((s.rngRuns = false → t.fab.seedWait = true))) ∧
  (∀ (s : State) (a : GuardAct) (rest : List GuardAct),
    s.sound = true → s.domOn 3 = true → s.guard.queue = a :: rest → a.code = 6 → s.sig.build = none → s.guard.batch =
      none → (s.on sgB hdrLock = false) →
    Runs (.cellarerBatch false) s fun t =>
      (t.guard.queue = rest) ∧
      ((t.sig.build.isSome = true → t.guard.batch = some (a, s.gf sgB F.sigGlobal_BANK_STS_FG_BATCH))) ∧
      (t.gf sgB F.sigGlobal_BUILD_CTL_BATCH = a.value % 256) ∧
      (t.gf sgB F.sigGlobal_BUILD_CTL_BY_VARIANT = a.value / 256 % 2)) ∧
  (∀ (s : State) (a : GuardAct) (rest : List GuardAct) (p : Nat),
    s.sound = true → s.domOn 3 = true → s.guard.queue = a :: rest → a.code = 7 → p < 24 → a.target = (shB + 0x10C + 16 *
      p) →
    Runs (.cellarerBlock false) s fun t =>
      (Acted s t a rest false (1) (s.portF F.pipeShared_PORT_BLK_BLOCK p)) ∧
      (t.blocked p = true) ∧
      Frame [0x2C0, 0xC2] s ({ t with guard := s.guard })) ∧
  (∀ (s : State) (a : GuardAct) (rest : List GuardAct),
    s.sound = true → s.domOn 3 = true → s.guard.queue = a :: rest → a.code = 8 →
    Runs (.cellarerDegrade false) s fun t =>
      (Acted s t a rest false (0x80060000 + natAnd a.value 0x7FFE) ((s.rd (guB + 0x048)).toNat)) ∧
      (t.degPend = s.degPend ++ [(6, natAnd a.value 0x7FF6)]) ∧
      (t.gf guB F.guardGlobal_DEG_STS_PEND = 1) ∧
      (t.gf guB F.guardGlobal_DEG_REQ_CAUSE = 6) ∧
      Frame [0x2C0] s ({ t with guard := s.guard, degPend := s.degPend })) ∧
  (∀ (s : State) (a : GuardAct) (rest : List GuardAct),
    s.sound = true → s.domOn 3 = true → s.guard.queue = a :: rest → a.code = 2 → a.target < 0x451A0000 ∨ 0x451B0000 ≤
      a.target ∨ a.target % 16 ≠ 0 →
    Runs (.cellarerMeter) s fun t =>
      (Acted s t a rest true ((a.value % 2 ^ 24)) (0)) ∧
      (t.bar2 = s.bar2) ∧
      Frame [0x2C0] s ({ t with guard := s.guard })) ∧
  (∀ (s : State) (a : GuardAct) (rest : List GuardAct) (l : Bool),
    s.sound = true → s.domOn 3 = true → s.guard.queue = a :: rest → a.code = 3 → a.target % 0x1000 ≠ 0x060 →
    Runs (.cellarerListen l) s fun t =>
      (Acted s t a rest true (1) (0)) ∧
      Frame [0x2C0] s ({ t with guard := s.guard })) ∧
  (∀ (s : State) (a : GuardAct) (rest : List GuardAct),
    s.sound = true → s.domOn 3 = true → s.guard.queue = a :: rest → a.code = 4 → a.target % 16 ≠ 0 ∨ bitOf (s.b2w
      (a.target - 0x40000000 + 4)) 31 = false → 2 ^ 30 ≤ a.target → a.target < 2 ^ 31 →
    Runs (.cellarerPin) s fun t =>
      (Acted s t a rest true (0) (0)) ∧
      (t.bar2 = s.bar2) ∧
      Frame [0x2C0] s ({ t with guard := s.guard })) ∧
  (∀ (s : State) (a : GuardAct) (rest : List GuardAct) (l : Bool),
    s.sound = true → s.domOn 3 = true → s.guard.queue = a :: rest → a.code = 7 → a.target < shB + 0x10C ∨ shB + 0x10C +
      16 * 24 ≤ a.target →
    Runs (.cellarerBlock l) s fun t =>
      (Acted s t a rest true (1) (0)) ∧
      Frame [0x2C0] s ({ t with guard := s.guard })) ∧
  (∀ (s : State) (a : GuardAct) (rest : List GuardAct),
    s.sound = true → s.domOn 3 = true → s.guard.queue = a :: rest → a.code = 8 → s.unwatched (guB + 0x044) →
    Runs (.cellarerDegrade true) s fun t =>
      (Acted s t a rest true (0x80060000 + natAnd a.value 0x7FFE) ((s.rd (guB + 0x048)).toNat)) ∧
      ((t.degPend = s.degPend ∨ t.degPend = s.degPend ++ [(6, natAnd a.value 0x7FF6)])))

/-- What RESET_N, the test pins and the PCIe pins do. The model's choices: the cause after TEST (log entry 103), levels
of Table 17-9 until a page has run and pins of absent rails (134), the remembered release (141). In canonical states.
RESET_N low for 1 µs: the Logic die goes down, its registers as after reset, the PWR main and wake pages kept;  for 100
ns, or with VIO33 absent, nothing;  between the two a free value says which. RESET_N_RELEASE: PD3 on with DOM_REQ 8,
PARTIAL, CAUSE 7;  under another hold, or before the last rail is GOOD, it waits, with DOM_REQ at 8 (log entry 141).
TEST_PIN_HIGH holds the Logic die in reset,  until both pins are low (log entry 103). PERST_RELEASE lets link h train;
PCIE_LINK_CHANGE shows UP, GEN and WIDTH of H0;  of H1; EV461 while a link is down. With its rail absent a pin is
high-impedance;  until a page has run its pins have the level of Table 17-9: CAN_TXD and CAN_STB high,  PPS_OUT low. -/
def Obligations.ResetAndPins : Prop :=
  (∀ (s : State) (ns : Nat),
    s.sound = true → s.domOn 3 = true → s.railGood 2 = true → 1000 ≤ ns →
    Runs (.resetNAssert ns) s fun t =>
      (t.power.resetN = true) ∧
      (t.power.release = true) ∧
      (LogicDown s t) ∧
      (t.jtag.granted = false) ∧
      (t.power.entry = none) ∧
      (t.gf pwB F.pwrMain_PSTATE_ENTRY = 0)) ∧
  (∀ (s : State) (ns : Nat),
    ns ≤ 100 ∨ s.railGood 2 = false →
    Runs (.resetNAssert ns) s fun t =>
      t = s) ∧
  (∀ (s : State) (ns : Nat),
    s.sound = true → s.domOn 3 = true → s.railGood 2 = true → 100 < ns → ns < 1000 →
    Runs (.resetNAssert ns) s fun t =>
      (t.freeCount = s.freeCount + 1) ∧
      ((Config.free 1 s.freeCount = 0 → t = { s with freeCount := s.freeCount + 1 })) ∧
      ((Config.free 1 s.freeCount ≠ 0 → t.power.resetN = true ∧ t.domOn 3 = false))) ∧
  (∀ (s : State),
    s.sound = true → s.power.resetN = true → s.power.hold = false → s.jtag.test = 0 → s.railsGood = true → s.domOn 3 =
      false →
    Runs (.resetNRelease) s fun t =>
      (t.power.resetN = false) ∧
      (t.domOn 3 = true) ∧
      (t.domReq = 8) ∧
      (t.pstate = 3) ∧
      (t.gf pwB F.pwrMain_PSTATE_CAUSE = 7)) ∧
  (∀ (s : State),
    s.power.resetN = true → s.power.hold = true ∨ s.jtag.test ≠ 0 ∨ s.railsGood = false →
    Runs (.resetNRelease) s fun t =>
      t = (s.setPower { s.power with resetN := false, release := true }).pf pwB F.pwrMain_DOM_REQ_ON 4) ∧
  (∀ (s : State) (l : Nat),
    s.sound = true → s.domOn 3 = true → l % 4 ≠ 0 →
    Runs (.testPinHigh l) s fun t =>
      (t.jtag.test = l % 4) ∧
      (LogicDown s t)) ∧
  (∀ (s : State) (l : Nat),
    s.sound = true → s.power.release = true → s.jtag.test ≠ 0 → l % 4 = 0 → s.power.hold = false → s.power.resetN = false
      → s.railsGood = true → s.domOn 3 = false →
    Runs (.testPinHigh l) s fun t =>
      (t.jtag.test = 0) ∧
      (t.domOn 3 = true) ∧
      (t.domReq = s.domReq ||| 8) ∧
      (t.pstate = 3) ∧
      (t.gf pwB F.pwrMain_PSTATE_CAUSE = 7)) ∧
  (∀ (s : State) (h : Nat),
    h < 2 →
    Runs (.perstRelease h) s fun t =>
      (bitOf t.jtag.perst h = true) ∧
      (bitOf t.jtag.perst (1 - h) = bitOf s.jtag.perst (1 - h)) ∧
      Frame [] s ({ t with jtag := s.jtag })) ∧
  (∀ (s : State) (up : Bool) (gen width : Nat),
    s.sound = true → s.alive .hostGlobal 0 = true → 0 < s.grade.hPorts → up = false ∨ bitOf s.jtag.perst 0 = true → gen <
      16 → width < 16 →
    Runs (.pcieLinkChange 0 up gen width) s fun t =>
      (t.gf hgB F.hostGlobal_LINK_H0_UP = b2n up) ∧
      (t.gf hgB F.hostGlobal_LINK_H0_GEN = (if up then gen else 0)) ∧
      (t.gf hgB F.hostGlobal_LINK_H0_WIDTH = (if up then min width s.grade.pcieLanes else 0)) ∧
      (t.gf hgB F.hostGlobal_LINK_H1_UP = s.gf hgB F.hostGlobal_LINK_H1_UP) ∧
      (bitOf (t.gf hgB hdrRaw) 5 = decide (t.gf hgB F.hostGlobal_LINK_H0_UP = 0 ∨ (s.grade.hPorts = 2 ∧ t.gf hgB
        F.hostGlobal_LINK_H1_UP = 0))) ∧
      Frame [0x260] s t) ∧
  (∀ (s : State) (up : Bool) (gen width : Nat),
    s.sound = true → s.alive .hostGlobal 0 = true → 1 < s.grade.hPorts → up = false ∨ bitOf s.jtag.perst 1 = true → gen <
      16 → width < 16 →
    Runs (.pcieLinkChange 1 up gen width) s fun t =>
      (t.gf hgB F.hostGlobal_LINK_H1_UP = b2n up) ∧
      (t.gf hgB F.hostGlobal_LINK_H1_GEN = (if up then gen else 0)) ∧
      (t.gf hgB F.hostGlobal_LINK_H1_WIDTH = (if up then min width s.grade.pcieLanes else 0)) ∧
      (t.gf hgB F.hostGlobal_LINK_H0_UP = s.gf hgB F.hostGlobal_LINK_H0_UP) ∧
      (bitOf (t.gf hgB hdrRaw) 5 = decide (t.gf hgB F.hostGlobal_LINK_H0_UP = 0 ∨ (s.grade.hPorts = 2 ∧ t.gf hgB
        F.hostGlobal_LINK_H1_UP = 0))) ∧
      Frame [0x260] s t) ∧
  (∀ (s : State) (p : Pin) (r : Nat),
    p.rail = some r → s.railGood r = false →
    s.pin p = .hiZ) ∧
  (∀ (s : State) (n : Nat),
    s.scanForce = false → s.railGood 2 = true → 16 ≤ n → n < 24 → s.grade.hasPage .can n = true → s.ran.contains
      (pageBase .can n) = false →
    s.pin (.canTxd n) = .high ∧ s.pin (.canStb n) = .high) ∧
  (∀ (s : State) (k : Nat),
    s.scanForce = false → s.railGood 2 = true → s.ran.contains (pageBase .timePulse 0) = false →
    s.pin (.ppsOut k) = .low)

/-- What the JTAG port does. An instruction scan shifts out its capture 0b00000001 first. One command as one scan, what
BYPASS captures and the order of the cells (PRESUMED, log entry 110), and an access that ends within its command (109)
are the model's choices. EXTEST captures the balls' 345 cells and loads the boundary register;  SAMPLE_PRELOAD too;
IDCODE shifts out 0x1648_00B7, 0x1644_00B7 or 0x1642_00B7 by grade;  HIGHZ and  CLAMP select the bypass bit;  BYPASS is
0xFF and every code not listed;  Test-Logic-Reset selects IDCODE. DBG_REQ captures GRANTED and REFUSED;  its key value
is granted where Table 12-1 allows: every slot, shadow and KEY_STAGE is erased, DEBUG_SUB, EV420;  else refused.
DBG_ACCESS without a grant captures 0 and makes no access;  with one it captures STATUS, address and data; OP 1 reads
as the host does, STATUS 2 for an address in no space;  OP 2 writes as the host does;  a timeout ends with STATUS 2. -/
def Obligations.JtagPort : Prop :=
  (∀ (s : State) (b x : Nat),
    Runs (.extest b x) s fun t =>
      (t.jtag.ir = 0x00) ∧
      (t.out = s.out ++ [.tdo 8 1, .tdo 345 (b % 2 ^ 345)]) ∧
      (t.jtag.boundary = x % 2 ^ 345) ∧
      Frame [] s ({ t with jtag := s.jtag })) ∧
  (∀ (s : State) (b x : Nat),
    Runs (.samplePreload b x) s fun t =>
      (t.jtag.ir = 0x01) ∧
      (t.out = s.out ++ [.tdo 8 1, .tdo 345 (b % 2 ^ 345)]) ∧
      (t.jtag.boundary = x % 2 ^ 345) ∧
      Frame [] s ({ t with jtag := s.jtag })) ∧
  (∀ (s : State),
    Runs (.idcode) s fun t =>
      (t.jtag.ir = 0x02) ∧
      (t.out = s.out ++ [.tdo 8 1, .tdo 32
          (match s.grade with
            | .tvx6480 => 0x164800B7
            | .tvx6440 => 0x164400B7
            | .tvx6420 => 0x164200B7)]) ∧
      (t.jtag.boundary = s.jtag.boundary) ∧
      Frame [] s ({ t with jtag := s.jtag })) ∧
  (∀ (s : State),
    Runs (.highz) s fun t =>
      (t.jtag.ir = 0x03) ∧
      (t.out = s.out ++ [.tdo 8 1, .tdo 1 (0)]) ∧
      (t.jtag.boundary = s.jtag.boundary) ∧
      Frame [] s ({ t with jtag := s.jtag })) ∧
  (∀ (s : State),
    Runs (.clamp) s fun t =>
      (t.jtag.ir = 0x04) ∧
      (t.out = s.out ++ [.tdo 8 1, .tdo 1 (0)]) ∧
      (t.jtag.boundary = s.jtag.boundary) ∧
      Frame [] s ({ t with jtag := s.jtag })) ∧
  (∀ (s : State) (c : Nat),
    c < 256 → c ∉ [0x00, 0x01, 0x02, 0x03, 0x04, 0x40, 0x41] →
    Runs (.bypass c) s fun t =>
      (t.jtag.ir = c) ∧
      (t.out = s.out ++ [.tdo 8 1, .tdo 1 (0)]) ∧
      Frame [] s ({ t with jtag := s.jtag })) ∧
  (∀ (s : State),
    Runs (.tapTestLogicReset) s fun t =>
      t = s.setJtag { s.jtag with ir := 0x02 }) ∧
  (∀ (s : State) (v : Nat),
    v ≠ 0x44424751 →
    Runs (.dbgReq v) s fun t =>
      (t.jtag.ir = 0x40) ∧
      (t.out = s.out ++ [.tdo 8 1, .tdo 32 (b2n s.jtag.granted + 2 * b2n s.jtag.refused)]) ∧
      (t.jtag.granted = s.jtag.granted) ∧
      Frame [] s ({ t with jtag := s.jtag })) ∧
  (∀ (s : State),
    s.sound = true → s.alive .kilnMain 0 = true → (s.lifecycle = 0 ∨ (1 ≤ s.lifecycle ∧ s.lifecycle ≤ 3 ∧ bitOf (s.idf
      F.kilnId_DEBUG_CFG_ALLOW) (s.lifecycle - 1) = true)) →
    Runs (.dbgReq 0x44424751) s fun t =>
      (t.jtag.granted = true) ∧
      (∀ k, k < 1024 → (t.slot k).key = none ∧ (t.slot k).shadow = none) ∧
      (t.idf F.kilnId_LC_STS_DEBUG_SUB = 1) ∧
      (bitOf (t.gf kmB hdrRaw) 4 = true) ∧
      (t.kiln.stage = List.replicate 8 0) ∧
      (t.kiln.fuses = s.kiln.fuses)) ∧
  (∀ (s : State),
    s.alive .kilnMain 0 = true → (4 ≤ s.lifecycle ∨ (1 ≤ s.lifecycle ∧ bitOf (s.idf F.kilnId_DEBUG_CFG_ALLOW)
      (s.lifecycle - 1) = false)) →
    Runs (.dbgReq 0x44424751) s fun t =>
      (t.jtag.granted = s.jtag.granted) ∧
      (t.jtag.refused = true) ∧
      (t.kiln = s.kiln) ∧
      Frame [] s ({ t with jtag := s.jtag })) ∧
  (∀ (s : State) (op addr data : Nat) (l : Bool),
    s.jtag.granted = false →
    Runs (.dbgAccess op addr data l) s fun t =>
      (t.jtag.ir = 0x41) ∧
      (t.out = s.out ++ [.tdo 8 1, .tdo 66 (0)]) ∧
      Frame [] s ({ t with jtag := s.jtag })) ∧
  (∀ (s : State) (op addr data : Nat),
    s.jtag.granted = true → s.domOn 3 = true → op = 1 → addr < 2 ^ 32 →
    Runs (.dbgAccess op addr data false) s fun t =>
      t = (s.dbgCaptured.busRead addr true).2.2.dbgShows (if (s.dbgCaptured.busRead addr true).2.1 then 0 else 2) addr
        (s.dbgCaptured.busRead addr true).1) ∧
  (∀ (s : State) (op addr data : Nat),
    s.jtag.granted = true → s.domOn 3 = true → op = 2 → addr < 2 ^ 26 → data < 2 ^ 32 →
    Runs (.dbgAccess op addr data false) s fun t =>
      t = (s.dbgCaptured.hostReg addr (BitVec.ofNat 32 data)).dbgShows 0 addr (s.dbgCaptured.hostReg addr (BitVec.ofNat
        32 data)).jtag.dbgData) ∧
  (∀ (s : State) (op addr data : Nat),
    s.jtag.granted = true → s.domOn 3 = true → op = 1 → addr < 2 ^ 26 →
    Runs (.dbgAccess op addr data true) s fun t =>
      (t.jtag.dbgStatus = 2) ∧
      (t.jtag.dbgData = 0xFFFFFFFF) ∧
      Frame [0x00] s ({ t with jtag := s.jtag }))
end

