-- ==== Sys2Proof/Laws/Store.lean ====
section
/-! SUPPORT. The laws of the canonical store: what a read gives after a write, and that writes keep the form. -/

namespace Sys2Proof.Machine

variable {α : Type} [DecidableEq α]

/-- A lower bound for the keys may be lowered. -/
theorem storeWfFrom_mono (d : Nat → α) {lo lo' : Nat} (h : lo ≤ lo') :
    ∀ l : List (Nat × α), storeWfFrom d lo' l = true → storeWfFrom d lo l = true := by
  intro l hl
  cases l with
  | nil => rfl
  | cons p l =>
    obtain ⟨a, v⟩ := p
    simp only [storeWfFrom, Bool.and_eq_true, decide_eq_true_eq] at hl ⊢
    exact ⟨⟨by omega, hl.1.2⟩, hl.2⟩

/-- A key below every listed key is unlisted. -/
theorem look_below (d : Nat → α) (k : Nat) :
    ∀ (l : List (Nat × α)) (lo : Nat), k < lo → storeWfFrom d lo l = true → look d l k = d k := by
  intro l
  induction l with
  | nil => intros; rfl
  | cons p l ih =>
    obtain ⟨a, v⟩ := p
    intro lo hk hw
    simp only [storeWfFrom, Bool.and_eq_true, decide_eq_true_eq] at hw
    have : a ≠ k := by omega
    simp only [look, if_neg this]
    exact ih (a + 1) (by omega) hw.2

/-- A write keeps the canonical form. -/
theorem put_wfFrom (d : Nat → α) (k : Nat) (v : α) :
    ∀ (l : List (Nat × α)) (lo : Nat), lo ≤ k → storeWfFrom d lo l = true → storeWfFrom d lo (put d l k v) = true := by
  intro l
  induction l with
  | nil =>
    intro lo hk _
    unfold put
    split
    · rfl
    · simp_all [storeWfFrom]
  | cons p l ih =>
    obtain ⟨a, w⟩ := p
    intro lo hk hw
    have hw' := hw
    simp only [storeWfFrom, Bool.and_eq_true, decide_eq_true_eq] at hw'
    unfold put
    split
    · split
      · exact hw
      · simp_all [storeWfFrom] <;> omega
    · split
      · split
        · exact storeWfFrom_mono d (by omega) l hw'.2
        · subst_vars; simp_all [storeWfFrom]
      · have := ih (a + 1) (by omega) hw'.2
        simp_all [storeWfFrom]

/-- A write keeps the canonical form. -/
theorem put_wf (d : Nat → α) (l : List (Nat × α)) (k : Nat) (v : α) (h : storeWf d l = true) :
    storeWf d (put d l k v) = true := put_wfFrom d k v l 0 (Nat.zero_le _) h

/-- A read of another key does not see a write. -/
theorem look_put_other (d : Nat → α) (k k' : Nat) (v : α) (hk : k' ≠ k) :
    ∀ l : List (Nat × α), look d (put d l k v) k' = look d l k' := by
  intro l
  induction l with
  | nil =>
    unfold put
    split
    · rfl
    · simp [look, Ne.symm hk]
  | cons p l ih =>
    obtain ⟨a, w⟩ := p
    unfold put
    split
    · split
      · rfl
      · simp [look, Ne.symm hk]
    · split
      · subst_vars
        split <;> simp [look, Ne.symm hk]
      · simp [look, ih]

/-- A read of the key written gives the value. -/
theorem look_put_same (d : Nat → α) (k : Nat) (v : α) :
    ∀ (l : List (Nat × α)) (lo : Nat), storeWfFrom d lo l = true → look d (put d l k v) k = v := by
  intro l
  induction l with
  | nil =>
    intro lo _
    unfold put
    split
    · simp_all [look]
    · simp [look]
  | cons p l ih =>
    obtain ⟨a, w⟩ := p
    intro lo hw
    have hw' := hw
    simp only [storeWfFrom, Bool.and_eq_true, decide_eq_true_eq] at hw'
    unfold put
    split
    · split
      · rename_i h1 h2
        have : a ≠ k := by omega
        simp only [look, if_neg this]
        rw [h2]; exact look_below d k l (a + 1) (by omega) hw'.2
      · simp [look]
    · split
      · split
        · rename_i h2 h3
          subst h2
          rw [h3]; exact look_below d k l (k + 1) (by omega) hw'.2
        · simp [look]
      · rename_i h1 h2
        have : a ≠ k := Ne.symm h2
        simp only [look, if_neg this]
        exact ih (a + 1) hw'.2

/-- Dropping entries keeps the canonical form. -/
theorem filter_wfFrom (d : Nat → α) (p : Nat × α → Bool) :
    ∀ (l : List (Nat × α)) (lo : Nat), storeWfFrom d lo l = true → storeWfFrom d lo (l.filter p) = true := by
  intro l
  induction l with
  | nil => intros; rfl
  | cons x l ih =>
    obtain ⟨a, v⟩ := x
    intro lo hw
    simp only [storeWfFrom, Bool.and_eq_true, decide_eq_true_eq] at hw
    have h2 := ih (a + 1) hw.2
    simp only [List.filter]
    split
    · simp only [storeWfFrom, Bool.and_eq_true, decide_eq_true_eq]; exact ⟨hw.1, h2⟩
    · exact storeWfFrom_mono d (by omega) _ h2

/-- Writing a run of bytes keeps the canonical form. -/
theorem writeMem_wf (d : Byte) (bs : Bytes) :
    ∀ (m : List Host.Cell) (a : Nat), storeWf (fun _ => d) m = true → storeWf (fun _ => d) (writeMem d m a bs) = true := by
  induction bs with
  | nil => intro m a h; exact h
  | cons b bs ih => intro m a h; exact ih _ _ (put_wf _ _ _ _ h)

/-! ### The named operations over the stores -/

/-- The five parts of the canonical form. -/
theorem memory_wf_iff (s : State) : Memory.wf s = true ↔
    storeWf (resetWord s.grade) s.regs = true ∧ storeWf (fun _ => (0 : Byte)) s.bar2 = true ∧
    storeWf (fun _ => (0 : Byte)) s.ddr = true ∧ storeWf (fun _ => (0xFF : Byte)) s.flash = true ∧
    storeWf (fun _ => PageState.off) s.pages = true := by
  simp only [Memory.wf, Bool.and_eq_true, and_assoc]

theorem wr_wf (s : State) (off : Nat) (w : Word) (h : Memory.wf s = true) : Memory.wf (s.wr off w) = true := by
  rw [memory_wf_iff] at h ⊢
  exact ⟨put_wf _ _ _ _ h.1, h.2⟩

theorem pf_wf (s : State) (b : Nat) (f : Fld) (v : Nat) (h : Memory.wf s = true) : Memory.wf (s.pf b f v) = true :=
  wr_wf _ _ _ h

theorem b2Write_wf (s : State) (a : Nat) (bs : Bytes) (h : Memory.wf s = true) : Memory.wf (s.b2Write a bs) = true := by
  rw [memory_wf_iff] at h ⊢
  exact ⟨h.1, writeMem_wf _ _ _ _ h.2.1, h.2.2⟩

theorem b2wr_wf (s : State) (a v : Nat) (h : Memory.wf s = true) : Memory.wf (s.b2wr a v) = true := b2Write_wf _ _ _ h

theorem ddrWrite_wf (s : State) (a : Nat) (bs : Bytes) (h : Memory.wf s = true) : Memory.wf (s.ddrWrite a bs) = true := by
  rw [memory_wf_iff] at h ⊢
  exact ⟨h.1, h.2.1, writeMem_wf _ _ _ _ h.2.2.1, h.2.2.2⟩

theorem flashWrite_wf (s : State) (a : Nat) (bs : Bytes) (h : Memory.wf s = true) : Memory.wf (s.flashWrite a bs) = true := by
  rw [memory_wf_iff] at h ⊢
  exact ⟨h.1, h.2.1, h.2.2.1, writeMem_wf _ _ _ _ h.2.2.2.1, h.2.2.2.2⟩

theorem flashProgram_wf (s : State) (a : Nat) (bs : Bytes) (h : Memory.wf s = true) :
    Memory.wf (s.flashProgram a bs) = true := flashWrite_wf _ _ _ h

theorem flashErase_wf (s : State) (a k : Nat) (h : Memory.wf s = true) : Memory.wf (s.flashErase a k) = true := by
  rw [memory_wf_iff] at h ⊢
  exact ⟨h.1, h.2.1, h.2.2.1, filter_wfFrom _ _ _ _ h.2.2.2.1, h.2.2.2.2⟩

theorem flashSpoil_wf (s : State) (a k : Nat) (h : Memory.wf s = true) : Memory.wf (s.flashSpoil a k) = true :=
  flashWrite_wf s a ((List.range k).map fun i => Config.free 8 (s.freeCount + i)) h

theorem setPst_wf (s : State) (k : PageKind) (i : Nat) (p : PageState) (h : Memory.wf s = true) :
    Memory.wf (s.setPst k i p) = true := by
  rw [memory_wf_iff] at h ⊢
  exact ⟨h.1, h.2.1, h.2.2.1, h.2.2.2.1, put_wf _ _ _ _ h.2.2.2.2⟩

theorem zeroWords_wf (n : Nat) : ∀ (s : State) (off : Nat), Memory.wf s = true → Memory.wf (s.zeroWords off n) = true := by
  induction n with
  | zero => intro s off h; exact h
  | succ n ih => intro s off h; exact ih _ _ (wr_wf _ _ _ h)

/-- A register reads as it was written. -/
theorem rd_wr_same (s : State) (off : Nat) (w : Word) (h : Memory.wf s = true) : (s.wr off w).rd off = w :=
  look_put_same _ _ _ _ 0 ((memory_wf_iff s).1 h).1

/-- Other registers read as before. -/
theorem rd_wr_other (s : State) (off off' : Nat) (w : Word) (h : off' ≠ off) : (s.wr off w).rd off' = s.rd off' :=
  look_put_other _ _ _ _ h _

/-- A byte of BAR2 outside the bytes written reads as before. -/
theorem look_writeMem_other (d : Byte) (bs : Bytes) : ∀ (m : List Host.Cell) (a k : Nat), (k < a ∨ a + bs.length ≤ k) →
    look (fun _ => d) (writeMem d m a bs) k = look (fun _ => d) m k := by
  induction bs with
  | nil => intros; rfl
  | cons b bs ih =>
    intro m a k h
    simp only [List.length_cons] at h
    simp only [writeMem]
    rw [ih _ _ _ (by omega)]
    exact look_put_other _ _ _ _ (by omega) _

/-- A page takes the state it is given, and no other page changes. -/
theorem pst_setPst_same (s : State) (k : PageKind) (i : Nat) (p : PageState) (h : Memory.wf s = true) :
    (s.setPst k i p).pst k i = p := look_put_same _ _ _ _ 0 ((memory_wf_iff s).1 h).2.2.2.2

theorem pst_setPst_other (s : State) (k k' : PageKind) (i i' : Nat) (p : PageState) (h : pageBase k' i' ≠ pageBase k i) :
    (s.setPst k i p).pst k' i' = s.pst k' i' := look_put_other _ _ _ _ h _

end Sys2Proof.Machine
end

