-- ==== Sys2Proof/Laws/Field.lean ====
section
/-! SUPPORT. The laws of register fields: what a field reads after it, or another, has been set. -/

namespace Sys2Proof.Machine

/-- The bits put in. -/
theorem bitsOf_putBits_same (n hi lo v : Nat) (h : lo ≤ hi) : bitsOf (putBits n hi lo v) hi lo = v % 2 ^ (hi + 1 - lo) := by
  obtain ⟨d, rfl⟩ : ∃ d, hi = lo + d := ⟨hi - lo, by omega⟩
  have e : lo + d + 1 = lo + (d + 1) := by omega
  have e2 : lo + d + 1 - lo = d + 1 := by omega
  unfold bitsOf putBits
  rw [e2, e, Nat.pow_add]
  have hx : n % 2 ^ lo < 2 ^ lo := Nat.mod_lt _ (Nat.two_pow_pos _)
  have : n / (2 ^ lo * 2 ^ (d + 1)) * (2 ^ lo * 2 ^ (d + 1)) + v % 2 ^ (d + 1) * 2 ^ lo + n % 2 ^ lo
      = n % 2 ^ lo + 2 ^ lo * (v % 2 ^ (d + 1) + 2 ^ (d + 1) * (n / (2 ^ lo * 2 ^ (d + 1)))) := by grind
  rw [this, Nat.add_mul_div_left _ _ (Nat.two_pow_pos _), Nat.div_eq_of_lt hx, Nat.zero_add, Nat.add_mul_mod_self_left,
    Nat.mod_mod]

/-- The bits below the place. -/
theorem bitsOf_putBits_below (n hi lo v hi' lo' : Nat) (h : lo ≤ hi) (hb : hi' < lo) (hl : lo' ≤ hi') :
    bitsOf (putBits n hi lo v) hi' lo' = bitsOf n hi' lo' := by
  obtain ⟨d, rfl⟩ : ∃ d, hi = lo + d := ⟨hi - lo, by omega⟩
  obtain ⟨c, rfl⟩ : ∃ c, hi' = lo' + c := ⟨hi' - lo', by omega⟩
  obtain ⟨b, rfl⟩ : ∃ b, lo = lo' + (c + 1) + b := ⟨lo - (lo' + (c + 1)), by omega⟩
  have e2 : lo' + c + 1 - lo' = c + 1 := by omega
  unfold bitsOf putBits
  rw [e2]
  generalize hk : lo' + (c + 1) + b + d + 1 - (lo' + (c + 1) + b) = w
  have e3 : lo' + (c + 1) + b + d + 1 = (lo' + (c + 1) + b) + (d + 1) := by omega
  rw [e3]
  have key : ∀ q m : Nat, (2 ^ (lo' + (c + 1) + b) * q + m % 2 ^ (lo' + (c + 1) + b)) / 2 ^ lo' % 2 ^ (c + 1)
      = m / 2 ^ lo' % 2 ^ (c + 1) := by
    intro q m
    have h1 : ∀ x : Nat, x / 2 ^ lo' % 2 ^ (c + 1) = x % 2 ^ (lo' + (c + 1)) / 2 ^ lo' := by
      intro x; rw [Nat.pow_add 2 lo' (c + 1), Nat.mod_mul_right_div_self]
    rw [h1, h1]
    congr 1
    rw [Nat.pow_add 2 (lo' + (c + 1)) b, Nat.mul_assoc, Nat.mul_add_mod, Nat.mod_mul_right_mod]
  have := key (n / 2 ^ (lo' + (c + 1) + b + (d + 1)) * 2 ^ (d + 1) + v % 2 ^ w) n
  rw [← this]
  congr 2
  rw [Nat.pow_add 2 (lo' + (c + 1) + b) (d + 1)]
  grind

/-- The bits above the place. -/
theorem bitsOf_putBits_above (n hi lo v hi' lo' : Nat) (h : lo ≤ hi) (hb : hi < lo') :
    bitsOf (putBits n hi lo v) hi' lo' = bitsOf n hi' lo' := by
  obtain ⟨d, rfl⟩ : ∃ d, hi = lo + d := ⟨hi - lo, by omega⟩
  obtain ⟨b, rfl⟩ : ∃ b, lo' = lo + d + 1 + b := ⟨lo' - (lo + d + 1), by omega⟩
  unfold bitsOf putBits
  congr 1
  have hlow : v % 2 ^ (lo + d + 1 - lo) * 2 ^ lo + n % 2 ^ lo < 2 ^ (lo + d + 1) := by
    have e : lo + d + 1 - lo = d + 1 := by omega
    rw [e]
    have h1 : v % 2 ^ (d + 1) < 2 ^ (d + 1) := Nat.mod_lt _ (Nat.two_pow_pos _)
    have h2 : n % 2 ^ lo < 2 ^ lo := Nat.mod_lt _ (Nat.two_pow_pos _)
    have e2 : 2 ^ (lo + d + 1) = 2 ^ (d + 1) * 2 ^ lo := by rw [← Nat.pow_add]; congr 1; omega
    rw [e2]
    have h3 : v % 2 ^ (d + 1) + 1 ≤ 2 ^ (d + 1) := h1
    have h4 := Nat.mul_le_mul_right (2 ^ lo) h3
    rw [Nat.add_mul, Nat.one_mul] at h4
    omega
  rw [Nat.pow_add 2 (lo + d + 1) b, ← Nat.div_div_eq_div_mul, ← Nat.div_div_eq_div_mul, Nat.add_assoc,
    Nat.mul_comm (n / 2 ^ (lo + d + 1)), Nat.mul_add_div (Nat.two_pow_pos _), Nat.div_eq_of_lt hlow, Nat.add_zero]

/-- A word with a field put in stays a word. -/
theorem putBits_lt (n hi lo v : Nat) (h : lo ≤ hi) (hh : hi ≤ 31) (hn : n < 2 ^ 32) : putBits n hi lo v < 2 ^ 32 := by
  unfold putBits
  obtain ⟨d, rfl⟩ : ∃ d, hi = lo + d := ⟨hi - lo, by omega⟩
  obtain ⟨e, he⟩ : ∃ e, 32 = lo + d + 1 + e := ⟨32 - (lo + d + 1), by omega⟩
  have e1 : lo + d + 1 - lo = d + 1 := by omega
  rw [e1]
  have h1 : v % 2 ^ (d + 1) < 2 ^ (d + 1) := Nat.mod_lt _ (Nat.two_pow_pos _)
  have h2 : n % 2 ^ lo < 2 ^ lo := Nat.mod_lt _ (Nat.two_pow_pos _)
  have e2 : 2 ^ (lo + d + 1) = 2 ^ (d + 1) * 2 ^ lo := by rw [← Nat.pow_add]; congr 1; omega
  have h4 := Nat.mul_le_mul_right (2 ^ lo) (Nat.succ_le_of_lt h1)
  rw [Nat.succ_mul] at h4
  have h5 : n / 2 ^ (lo + d + 1) < 2 ^ e := by
    rw [Nat.div_lt_iff_lt_mul (Nat.two_pow_pos _), ← Nat.pow_add, Nat.add_comm e, ← he]; exact hn
  have h6 := Nat.mul_le_mul_right (2 ^ (lo + d + 1)) (Nat.succ_le_of_lt h5)
  rw [Nat.succ_mul, ← Nat.pow_add, Nat.add_comm e, ← he] at h6
  omega

/-- A field reads as it was set. -/
theorem gf_pf_same (s : State) (b : Nat) (f : Fld) (v : Nat) (hf : f.lo ≤ f.hi) (hh : f.hi ≤ 31) (h : Memory.wf s = true) :
    (s.pf b f v).gf b f = v % 2 ^ (f.hi + 1 - f.lo) := by
  unfold State.gf State.pf
  rw [rd_wr_same _ _ _ h, BitVec.toNat_ofNat, Nat.mod_eq_of_lt (putBits_lt _ _ _ _ hf hh (s.rd (b + f.off)).isLt)]
  exact bitsOf_putBits_same _ _ _ _ hf

/-- A field of another register reads as before. -/
theorem gf_pf_other (s : State) (b b' : Nat) (f f' : Fld) (v : Nat) (h : b' + f'.off ≠ b + f.off) :
    (s.pf b f v).gf b' f' = s.gf b' f' := by
  unfold State.gf State.pf
  rw [rd_wr_other _ _ _ _ h]

/-- Another field of the same register reads as before. -/
theorem gf_pf_beside (s : State) (b : Nat) (f f' : Fld) (v : Nat) (ho : f'.off = f.off) (hf : f.lo ≤ f.hi) (hh : f.hi ≤ 31)
    (hd : (f'.hi < f.lo ∧ f'.lo ≤ f'.hi) ∨ f.hi < f'.lo) (h : Memory.wf s = true) : (s.pf b f v).gf b f' = s.gf b f' := by
  unfold State.gf State.pf
  rw [ho, rd_wr_same _ _ _ h, BitVec.toNat_ofNat, Nat.mod_eq_of_lt (putBits_lt _ _ _ _ hf hh (s.rd (b + f.off)).isLt)]
  rcases hd with ⟨h1, h2⟩ | h1
  · exact bitsOf_putBits_below _ _ _ _ _ _ hf h1 h2
  · exact bitsOf_putBits_above _ _ _ _ _ _ hf h1

/-- A register other than the field's reads as before. -/
theorem rd_pf_other (s : State) (b : Nat) (f : Fld) (v off : Nat) (h : off ≠ b + f.off) : (s.pf b f v).rd off = s.rd off :=
  rd_wr_other _ _ _ _ h

end Sys2Proof.Machine
end

