-- ==== Sys2Proof/Laws/Event.lean ====
section
/-! SUPPORT. What raising events and entering records can do: one law per shared operation of Flags.lean. -/

namespace Sys2Proof.Machine

/-- The registers that event reporting writes: RAW and PEND of page headers, the EVT page, the recorder page and the
counter page. -/
def evOff (off : Nat) : Prop :=
  off % 0x1000 = 0x014 ∨ off % 0x1000 = 0x01C ∨ off / 0x1000 = 0x010 ∨ off / 0x1000 = 0x240 ∨ off / 0x1000 = 0x241

/-- Between two states nothing has happened but the reporting of events: the rest of the state is the same, registers
outside `evOff` read as before, and the stores keep their form. -/
structure EvStep (s t : State) : Prop where
  same : { t with regs := s.regs, log := s.log, cask := s.cask, armed := s.armed, out := s.out, msixPend := s.msixPend } = s
  regs : ∀ off, ¬ evOff off → t.rd off = s.rd off
  wf : Memory.wf s = true → Memory.wf t = true

theorem EvStep.refl (s : State) : EvStep s s := ⟨rfl, fun _ _ => rfl, id⟩

theorem EvStep.trans {s t u : State} (h1 : EvStep s t) (h2 : EvStep t u) : EvStep s u where
  same := by
    have h := h1.same
    rw [← h2.same] at h
    exact h
  regs off ho := (h2.regs off ho).trans (h1.regs off ho)
  wf h := h2.wf (h1.wf h)

/-- A change of the log, the Cask, the armed groups, the outputs or the pending vectors alone. -/
theorem EvStep.rest (s : State) (l : List LogRec) (c : Cask) (a : Nat) (o : List Out) (m : List Nat) :
    EvStep s { s with log := l, cask := c, armed := a, out := o, msixPend := m } := ⟨rfl, fun _ _ => rfl, id⟩

/-- A field of a register of `evOff`. -/
theorem EvStep.pf (s : State) (b : Nat) (f : Fld) (v : Nat) (h : evOff (b + f.off)) : EvStep s (s.pf b f v) :=
  ⟨rfl, fun off ho => rd_pf_other s b f v off (by rintro rfl; exact ho h), pf_wf s b f v⟩

theorem EvStep.ite {c : Prop} [Decidable c] {s t u : State} (h1 : EvStep s t) (h2 : EvStep s u) :
    EvStep s (if c then t else u) := by split <;> assumption

theorem EvStep.foldl {β : Type} (f : State → β → State) (l : List β) (h : ∀ s, ∀ b ∈ l, EvStep s (f s b)) :
    ∀ s, EvStep s (l.foldl f s) := by
  induction l with
  | nil => intro s; exact .refl s
  | cons b l ih =>
    intro s
    exact (h s b (by simp)).trans (ih (fun s' b' hb => h s' b' (by simp [hb])) _)

/-- A field of the recorder page. -/
theorem evOff_rec (f : Fld) (h : f.off < 0x1000) : evOff (pageBase .caskRec 0 + f.off) := by
  have e : pageBase .caskRec 0 = 0x240000 := rfl
  rw [e]; unfold evOff; omega
/-- A field of the counter page. -/
theorem evOff_cnt (f : Fld) (h : f.off < 0x1000) : evOff (pageBase .caskCnt 0 + f.off) := by
  have e : pageBase .caskCnt 0 = 0x241000 := rfl
  rw [e]; unfold evOff; omega
/-- A field of the EVT page. -/
theorem evOff_evt (f : Fld) (h : f.off < 0x1000) : evOff (pageBase .evt 0 + f.off) := by
  have e : pageBase .evt 0 = 0x010000 := rfl
  rw [e]; unfold evOff; omega

/-- Page bases are multiples of 0x1000. -/
theorem pageBase_mod (k : PageKind) (i : Nat) : pageBase k i % 0x1000 = 0 := by
  cases k <;> simp only [pageBase] <;> omega

theorem evOff_pend (k : PageKind) (i : Nat) : evOff (pageBase k i + hdrPend.off) := by
  have := pageBase_mod k i
  have e : hdrPend.off = 0x01C := rfl
  rw [e]; unfold evOff; omega

theorem evOff_raw (k : PageKind) (i : Nat) : evOff (pageBase k i + hdrRaw.off) := by
  have := pageBase_mod k i
  have e : hdrRaw.off = 0x014 := rfl
  rw [e]; unfold evOff; omega

theorem EvStep.inc (s : State) (b : Nat) (f : Fld) (h : evOff (b + f.off)) : EvStep s (s.inc b f) := by
  unfold State.inc State.addSat
  exact .pf s b f _ h

theorem perfHits_lt (s : State) (e i c : Nat) (h : c ∈ s.perfHits e i) : c < 16 := by
  unfold State.perfHits at h
  simp only at h
  split at h
  · exact List.mem_range.1 (List.mem_filter.1 h).1
  · cases h

/-- Counted events. -/
theorem perf_ev (s : State) (e i n : Nat) : EvStep s (s.perf e i n) := by
  unfold State.perf
  refine EvStep.foldl _ _ (fun t c hc => ?_) s
  have hc := perfHits_lt s e i c hc
  have hl : (F.caskCnt_CNT_LO.at (16 * c)).off < 0x1000 := by
    show F.caskCnt_CNT_LO.off + 16 * c < 0x1000
    have : F.caskCnt_CNT_LO.off ≤ 0x400 := by decide
    omega
  have hh : (F.caskCnt_CNT_HI.at (16 * c)).off < 0x1000 := by
    show F.caskCnt_CNT_HI.off + 16 * c < 0x1000
    have : F.caskCnt_CNT_HI.off ≤ 0x400 := by decide
    omega
  exact (EvStep.pf _ _ _ _ (evOff_cnt _ hl)).trans (.pf _ _ _ _ (evOff_cnt _ hh))

/-- A record entering the buffer with room. -/
theorem caskPush_ev (s : State) (r : CaskRec) : EvStep s (s.caskPush r) := by
  unfold State.caskPush
  refine .trans ?_ (.pf _ _ _ _ (evOff_rec _ (by decide)))
  refine .trans ?_ (.pf _ _ _ _ (evOff_rec _ (by decide)))
  refine .ite (.trans ?_ (.pf _ _ _ _ (evOff_rec _ (by decide)))) ?_ <;> exact .rest s _ _ _ _ _

/-- The LOST record that goes before the next one. -/
theorem caskLost_ev (s : State) (st : Nat) : EvStep s (s.caskLost st) := by
  unfold State.caskLost
  exact .ite (.trans (caskPush_ev s _) (.rest _ _ _ _ _ _)) (.refl s)

/-- A record entering the buffer, or being discarded. -/
theorem caskEnter_ev (s : State) (k n st : Nat) (p : Bytes) : EvStep s (s.caskEnter k n st p).1 := by
  unfold State.caskEnter
  simp only
  split
  · split
    · exact (caskLost_ev s st).trans (.trans (caskPush_ev _ _) (.rest _ _ _ _ _ _))
    · exact .trans (.trans (.inc _ _ _ (evOff_rec _ (by decide))) (perf_ev _ _ _ _)) (.rest _ _ _ _ _ _)
  · exact .refl s

/-- A message, or its pending bit. -/
theorem message_ev (s : State) (h v : Nat) : EvStep s (s.message h v) := by
  unfold State.message
  exact .ite (.rest s _ _ _ _ _) (.rest s _ _ _ _ _)

/-- A group summary and its message. -/
theorem regroup_ev (s : State) (g : Nat) : EvStep s (s.regroup g) := by
  unfold State.regroup
  simp only
  generalize (if s.domOn 3 = true then s.groupSum g else _ : Bool) = now
  generalize hs1 : (if _ = now then s else _ : State) = s1
  have h1 : EvStep s s1 := by
    subst hs1
    exact .ite (.refl s) (.pf _ _ _ _ (evOff_evt _ (by decide)))
  split
  · exact h1.trans (.trans (message_ev _ _ _) (.rest _ _ _ _ _ _))
  · exact h1

/-- A record of the event log. -/
theorem logPush_ev (s : State) (r : LogRec) : EvStep s (s.logPush r) := by
  unfold State.logPush
  refine .ite (.rest s _ _ _ _ _) (.trans (u := _) (.pf s _ F.evt_LOG_STS_OVF 1 (evOff_evt _ (by decide))) ?_)
  exact .inc _ _ F.evt_LOG_LOST (evOff_evt _ (by decide))

theorem raiseTail_ev (c : Bool) (s t : State) (k n st : Nat) (p : Bytes) (h : EvStep s t) :
    EvStep s (if c then t.caskEnter k n st p else (t, false)).1 := by
  split
  · exact h.trans (caskEnter_ev _ _ _ _ _)
  · exact h

theorem raiseOnce_ev (s : State) (n d : Nat) : EvStep s (s.raiseOnce n d).1 := by
  unfold State.raiseOnce
  split
  · exact .refl s
  · rename_i k i bit _
    split
    · simp only
      have h := EvStep.pf s _ hdrPend (putBits (s.gf (pageBase k i) hdrPend) bit bit 1) (evOff_pend k i)
      split
      · exact h
      · exact raiseTail_ev _ _ _ _ _ _ _ (.trans (.trans h (.ite (logPush_ev _ _) (.refl _))) (regroup_ev _ _))
    · exact .refl s

theorem raise1_ev (s : State) (n d : Nat) : EvStep s (s.raise1 n d) := by
  unfold State.raise1
  exact .ite ((raiseOnce_ev _ _ _).trans (raiseOnce_ev _ _ _)) (raiseOnce_ev _ _ _)

theorem level1_ev (s : State) (n : Nat) (v : Bool) (d : Nat) : EvStep s (s.level1 n v d) := by
  unfold State.level1
  split
  · exact .refl s
  · rename_i k i bit _
    refine .ite (.ite (.refl s) ?_) (.refl s)
    have h : EvStep s (s.pf (pageBase k i) hdrRaw (putBits (s.gf (pageBase k i) hdrRaw) bit bit (b2n v))) :=
      .pf s _ _ _ (evOff_raw k i)
    exact .ite (h.trans (raise1_ev _ _ _)) h

theorem logLevels_ev (s : State) : EvStep s s.logLevels := by
  unfold State.logLevels
  exact (level1_ev _ _ _ _).trans (level1_ev _ _ _ _)

/-- Everything an occurrence of an event source can do. -/
theorem raise_ev (s : State) (n d : Nat) : EvStep s (s.raise n d) := (raise1_ev _ _ _).trans (logLevels_ev _)

/-- Everything a change of a level source can do. -/
theorem level_ev (s : State) (n : Nat) (v : Bool) (d : Nat) : EvStep s (s.level n v d) :=
  (level1_ev _ _ _ _).trans (logLevels_ev _)

/-- Everything a record for the Cask can do. -/
theorem caskRecord_ev (s : State) (k n : Nat) (p : Bytes) : EvStep s (s.caskRecord k n p) := by
  unfold State.caskRecord
  exact .ite ((caskEnter_ev _ _ _ _ _).trans (raise_ev _ _ _)) (caskEnter_ev _ _ _ _ _)

end Sys2Proof.Machine
end

