-- ==== Sys2Proof/Laws/State.lean ====
section
/-! SUPPORT. One law per field and named update of the state: an update changes the field it names and no other. -/

namespace Sys2Proof.Machine

/-! ### wr -/

@[simp] theorem wr_grade (s : State) (off : Nat) (w : Word) : (s.wr off w).grade = s.grade := rfl
@[simp] theorem wr_bar2 (s : State) (off : Nat) (w : Word) : (s.wr off w).bar2 = s.bar2 := rfl
@[simp] theorem wr_ddr (s : State) (off : Nat) (w : Word) : (s.wr off w).ddr = s.ddr := rfl
@[simp] theorem wr_flash (s : State) (off : Nat) (w : Word) : (s.wr off w).flash = s.flash := rfl
@[simp] theorem wr_pages (s : State) (off : Nat) (w : Word) : (s.wr off w).pages = s.pages := rfl
@[simp] theorem wr_ran (s : State) (off : Nat) (w : Word) : (s.wr off w).ran = s.ran := rfl
@[simp] theorem wr_time (s : State) (off : Nat) (w : Word) : (s.wr off w).time = s.time := rfl
@[simp] theorem wr_log (s : State) (off : Nat) (w : Word) : (s.wr off w).log = s.log := rfl
@[simp] theorem wr_armed (s : State) (off : Nat) (w : Word) : (s.wr off w).armed = s.armed := rfl
@[simp] theorem wr_msixMask (s : State) (off : Nat) (w : Word) : (s.wr off w).msixMask = s.msixMask := rfl
@[simp] theorem wr_msixPend (s : State) (off : Nat) (w : Word) : (s.wr off w).msixPend = s.msixPend := rfl
@[simp] theorem wr_hspi (s : State) (off : Nat) (w : Word) : (s.wr off w).hspi = s.hspi := rfl
@[simp] theorem wr_cask (s : State) (off : Nat) (w : Word) : (s.wr off w).cask = s.cask := rfl
@[simp] theorem wr_fab (s : State) (off : Nat) (w : Word) : (s.wr off w).fab = s.fab := rfl
@[simp] theorem wr_egress (s : State) (off : Nat) (w : Word) : (s.wr off w).egress = s.egress := rfl
@[simp] theorem wr_hostQ (s : State) (off : Nat) (w : Word) : (s.wr off w).hostQ = s.hostQ := rfl
@[simp] theorem wr_fwd (s : State) (off : Nat) (w : Word) : (s.wr off w).fwd = s.fwd := rfl
@[simp] theorem wr_ports (s : State) (off : Nat) (w : Word) : (s.wr off w).ports = s.ports := rfl
@[simp] theorem wr_segs (s : State) (off : Nat) (w : Word) : (s.wr off w).segs = s.segs := rfl
@[simp] theorem wr_can (s : State) (off : Nat) (w : Word) : (s.wr off w).can = s.can := rfl
@[simp] theorem wr_lin (s : State) (off : Nat) (w : Word) : (s.wr off w).lin = s.lin := rfl
@[simp] theorem wr_brg (s : State) (off : Nat) (w : Word) : (s.wr off w).brg = s.brg := rfl
@[simp] theorem wr_jal (s : State) (off : Nat) (w : Word) : (s.wr off w).jal = s.jal := rfl
@[simp] theorem wr_sig (s : State) (off : Nat) (w : Word) : (s.wr off w).sig = s.sig := rfl
@[simp] theorem wr_clusters (s : State) (off : Nat) (w : Word) : (s.wr off w).clusters = s.clusters := rfl
@[simp] theorem wr_cores (s : State) (off : Nat) (w : Word) : (s.wr off w).cores = s.cores := rfl
@[simp] theorem wr_units (s : State) (off : Nat) (w : Word) : (s.wr off w).units = s.units := rfl
@[simp] theorem wr_ktlBad (s : State) (off : Nat) (w : Word) : (s.wr off w).ktlBad = s.ktlBad := rfl
@[simp] theorem wr_ddrBad (s : State) (off : Nat) (w : Word) : (s.wr off w).ddrBad = s.ddrBad := rfl
@[simp] theorem wr_tap (s : State) (off : Nat) (w : Word) : (s.wr off w).tap = s.tap := rfl
@[simp] theorem wr_timed (s : State) (off : Nat) (w : Word) : (s.wr off w).timed = s.timed := rfl
@[simp] theorem wr_power (s : State) (off : Nat) (w : Word) : (s.wr off w).power = s.power := rfl
@[simp] theorem wr_nm (s : State) (off : Nat) (w : Word) : (s.wr off w).nm = s.nm := rfl
@[simp] theorem wr_kiln (s : State) (off : Nat) (w : Word) : (s.wr off w).kiln = s.kiln := rfl
@[simp] theorem wr_sup (s : State) (off : Nat) (w : Word) : (s.wr off w).sup = s.sup := rfl
@[simp] theorem wr_rack (s : State) (off : Nat) (w : Word) : (s.wr off w).rack = s.rack := rfl
@[simp] theorem wr_guard (s : State) (off : Nat) (w : Word) : (s.wr off w).guard = s.guard := rfl
@[simp] theorem wr_jtag (s : State) (off : Nat) (w : Word) : (s.wr off w).jtag = s.jtag := rfl
@[simp] theorem wr_cycles (s : State) (off : Nat) (w : Word) : (s.wr off w).cycles = s.cycles := rfl
@[simp] theorem wr_dieLost (s : State) (off : Nat) (w : Word) : (s.wr off w).dieLost = s.dieLost := rfl
@[simp] theorem wr_degPend (s : State) (off : Nat) (w : Word) : (s.wr off w).degPend = s.degPend := rfl
@[simp] theorem wr_out (s : State) (off : Nat) (w : Word) : (s.wr off w).out = s.out := rfl
@[simp] theorem wr_freeCount (s : State) (off : Nat) (w : Word) : (s.wr off w).freeCount = s.freeCount := rfl
@[simp] theorem wr_pending (s : State) (off : Nat) (w : Word) : (s.wr off w).pending = s.pending := rfl

/-! ### pf -/

@[simp] theorem pf_grade (s : State) (b : Nat) (f : Fld) (v : Nat) : (s.pf b f v).grade = s.grade := rfl
@[simp] theorem pf_bar2 (s : State) (b : Nat) (f : Fld) (v : Nat) : (s.pf b f v).bar2 = s.bar2 := rfl
@[simp] theorem pf_ddr (s : State) (b : Nat) (f : Fld) (v : Nat) : (s.pf b f v).ddr = s.ddr := rfl
@[simp] theorem pf_flash (s : State) (b : Nat) (f : Fld) (v : Nat) : (s.pf b f v).flash = s.flash := rfl
@[simp] theorem pf_pages (s : State) (b : Nat) (f : Fld) (v : Nat) : (s.pf b f v).pages = s.pages := rfl
@[simp] theorem pf_ran (s : State) (b : Nat) (f : Fld) (v : Nat) : (s.pf b f v).ran = s.ran := rfl
@[simp] theorem pf_time (s : State) (b : Nat) (f : Fld) (v : Nat) : (s.pf b f v).time = s.time := rfl
@[simp] theorem pf_log (s : State) (b : Nat) (f : Fld) (v : Nat) : (s.pf b f v).log = s.log := rfl
@[simp] theorem pf_armed (s : State) (b : Nat) (f : Fld) (v : Nat) : (s.pf b f v).armed = s.armed := rfl
@[simp] theorem pf_msixMask (s : State) (b : Nat) (f : Fld) (v : Nat) : (s.pf b f v).msixMask = s.msixMask := rfl
@[simp] theorem pf_msixPend (s : State) (b : Nat) (f : Fld) (v : Nat) : (s.pf b f v).msixPend = s.msixPend := rfl
@[simp] theorem pf_hspi (s : State) (b : Nat) (f : Fld) (v : Nat) : (s.pf b f v).hspi = s.hspi := rfl
@[simp] theorem pf_cask (s : State) (b : Nat) (f : Fld) (v : Nat) : (s.pf b f v).cask = s.cask := rfl
@[simp] theorem pf_fab (s : State) (b : Nat) (f : Fld) (v : Nat) : (s.pf b f v).fab = s.fab := rfl
@[simp] theorem pf_egress (s : State) (b : Nat) (f : Fld) (v : Nat) : (s.pf b f v).egress = s.egress := rfl
@[simp] theorem pf_hostQ (s : State) (b : Nat) (f : Fld) (v : Nat) : (s.pf b f v).hostQ = s.hostQ := rfl
@[simp] theorem pf_fwd (s : State) (b : Nat) (f : Fld) (v : Nat) : (s.pf b f v).fwd = s.fwd := rfl
@[simp] theorem pf_ports (s : State) (b : Nat) (f : Fld) (v : Nat) : (s.pf b f v).ports = s.ports := rfl
@[simp] theorem pf_segs (s : State) (b : Nat) (f : Fld) (v : Nat) : (s.pf b f v).segs = s.segs := rfl
@[simp] theorem pf_can (s : State) (b : Nat) (f : Fld) (v : Nat) : (s.pf b f v).can = s.can := rfl
@[simp] theorem pf_lin (s : State) (b : Nat) (f : Fld) (v : Nat) : (s.pf b f v).lin = s.lin := rfl
@[simp] theorem pf_brg (s : State) (b : Nat) (f : Fld) (v : Nat) : (s.pf b f v).brg = s.brg := rfl
@[simp] theorem pf_jal (s : State) (b : Nat) (f : Fld) (v : Nat) : (s.pf b f v).jal = s.jal := rfl
@[simp] theorem pf_sig (s : State) (b : Nat) (f : Fld) (v : Nat) : (s.pf b f v).sig = s.sig := rfl
@[simp] theorem pf_clusters (s : State) (b : Nat) (f : Fld) (v : Nat) : (s.pf b f v).clusters = s.clusters := rfl
@[simp] theorem pf_cores (s : State) (b : Nat) (f : Fld) (v : Nat) : (s.pf b f v).cores = s.cores := rfl
@[simp] theorem pf_units (s : State) (b : Nat) (f : Fld) (v : Nat) : (s.pf b f v).units = s.units := rfl
@[simp] theorem pf_ktlBad (s : State) (b : Nat) (f : Fld) (v : Nat) : (s.pf b f v).ktlBad = s.ktlBad := rfl
@[simp] theorem pf_ddrBad (s : State) (b : Nat) (f : Fld) (v : Nat) : (s.pf b f v).ddrBad = s.ddrBad := rfl
@[simp] theorem pf_tap (s : State) (b : Nat) (f : Fld) (v : Nat) : (s.pf b f v).tap = s.tap := rfl
@[simp] theorem pf_timed (s : State) (b : Nat) (f : Fld) (v : Nat) : (s.pf b f v).timed = s.timed := rfl
@[simp] theorem pf_power (s : State) (b : Nat) (f : Fld) (v : Nat) : (s.pf b f v).power = s.power := rfl
@[simp] theorem pf_nm (s : State) (b : Nat) (f : Fld) (v : Nat) : (s.pf b f v).nm = s.nm := rfl
@[simp] theorem pf_kiln (s : State) (b : Nat) (f : Fld) (v : Nat) : (s.pf b f v).kiln = s.kiln := rfl
@[simp] theorem pf_sup (s : State) (b : Nat) (f : Fld) (v : Nat) : (s.pf b f v).sup = s.sup := rfl
@[simp] theorem pf_rack (s : State) (b : Nat) (f : Fld) (v : Nat) : (s.pf b f v).rack = s.rack := rfl
@[simp] theorem pf_guard (s : State) (b : Nat) (f : Fld) (v : Nat) : (s.pf b f v).guard = s.guard := rfl
@[simp] theorem pf_jtag (s : State) (b : Nat) (f : Fld) (v : Nat) : (s.pf b f v).jtag = s.jtag := rfl
@[simp] theorem pf_cycles (s : State) (b : Nat) (f : Fld) (v : Nat) : (s.pf b f v).cycles = s.cycles := rfl
@[simp] theorem pf_dieLost (s : State) (b : Nat) (f : Fld) (v : Nat) : (s.pf b f v).dieLost = s.dieLost := rfl
@[simp] theorem pf_degPend (s : State) (b : Nat) (f : Fld) (v : Nat) : (s.pf b f v).degPend = s.degPend := rfl
@[simp] theorem pf_out (s : State) (b : Nat) (f : Fld) (v : Nat) : (s.pf b f v).out = s.out := rfl
@[simp] theorem pf_freeCount (s : State) (b : Nat) (f : Fld) (v : Nat) : (s.pf b f v).freeCount = s.freeCount := rfl
@[simp] theorem pf_pending (s : State) (b : Nat) (f : Fld) (v : Nat) : (s.pf b f v).pending = s.pending := rfl

/-! ### setPst -/

@[simp] theorem setPst_grade (s : State) (k : PageKind) (i : Nat) (p : PageState) : (s.setPst k i p).grade = s.grade := rfl
@[simp] theorem setPst_regs (s : State) (k : PageKind) (i : Nat) (p : PageState) : (s.setPst k i p).regs = s.regs := rfl
@[simp] theorem setPst_bar2 (s : State) (k : PageKind) (i : Nat) (p : PageState) : (s.setPst k i p).bar2 = s.bar2 := rfl
@[simp] theorem setPst_ddr (s : State) (k : PageKind) (i : Nat) (p : PageState) : (s.setPst k i p).ddr = s.ddr := rfl
@[simp] theorem setPst_flash (s : State) (k : PageKind) (i : Nat) (p : PageState) : (s.setPst k i p).flash = s.flash := rfl
@[simp] theorem setPst_ran (s : State) (k : PageKind) (i : Nat) (p : PageState) : (s.setPst k i p).ran = s.ran := rfl
@[simp] theorem setPst_time (s : State) (k : PageKind) (i : Nat) (p : PageState) : (s.setPst k i p).time = s.time := rfl
@[simp] theorem setPst_log (s : State) (k : PageKind) (i : Nat) (p : PageState) : (s.setPst k i p).log = s.log := rfl
@[simp] theorem setPst_armed (s : State) (k : PageKind) (i : Nat) (p : PageState) : (s.setPst k i p).armed = s.armed := rfl
@[simp] theorem setPst_msixMask (s : State) (k : PageKind) (i : Nat) (p : PageState) : (s.setPst k i p).msixMask = s.msixMask := rfl
@[simp] theorem setPst_msixPend (s : State) (k : PageKind) (i : Nat) (p : PageState) : (s.setPst k i p).msixPend = s.msixPend := rfl
@[simp] theorem setPst_hspi (s : State) (k : PageKind) (i : Nat) (p : PageState) : (s.setPst k i p).hspi = s.hspi := rfl
@[simp] theorem setPst_cask (s : State) (k : PageKind) (i : Nat) (p : PageState) : (s.setPst k i p).cask = s.cask := rfl
@[simp] theorem setPst_fab (s : State) (k : PageKind) (i : Nat) (p : PageState) : (s.setPst k i p).fab = s.fab := rfl
@[simp] theorem setPst_egress (s : State) (k : PageKind) (i : Nat) (p : PageState) : (s.setPst k i p).egress = s.egress := rfl
@[simp] theorem setPst_hostQ (s : State) (k : PageKind) (i : Nat) (p : PageState) : (s.setPst k i p).hostQ = s.hostQ := rfl
@[simp] theorem setPst_fwd (s : State) (k : PageKind) (i : Nat) (p : PageState) : (s.setPst k i p).fwd = s.fwd := rfl
@[simp] theorem setPst_ports (s : State) (k : PageKind) (i : Nat) (p : PageState) : (s.setPst k i p).ports = s.ports := rfl
@[simp] theorem setPst_segs (s : State) (k : PageKind) (i : Nat) (p : PageState) : (s.setPst k i p).segs = s.segs := rfl
@[simp] theorem setPst_can (s : State) (k : PageKind) (i : Nat) (p : PageState) : (s.setPst k i p).can = s.can := rfl
@[simp] theorem setPst_lin (s : State) (k : PageKind) (i : Nat) (p : PageState) : (s.setPst k i p).lin = s.lin := rfl
@[simp] theorem setPst_brg (s : State) (k : PageKind) (i : Nat) (p : PageState) : (s.setPst k i p).brg = s.brg := rfl
@[simp] theorem setPst_jal (s : State) (k : PageKind) (i : Nat) (p : PageState) : (s.setPst k i p).jal = s.jal := rfl
@[simp] theorem setPst_sig (s : State) (k : PageKind) (i : Nat) (p : PageState) : (s.setPst k i p).sig = s.sig := rfl
@[simp] theorem setPst_clusters (s : State) (k : PageKind) (i : Nat) (p : PageState) : (s.setPst k i p).clusters = s.clusters := rfl
@[simp] theorem setPst_cores (s : State) (k : PageKind) (i : Nat) (p : PageState) : (s.setPst k i p).cores = s.cores := rfl
@[simp] theorem setPst_units (s : State) (k : PageKind) (i : Nat) (p : PageState) : (s.setPst k i p).units = s.units := rfl
@[simp] theorem setPst_ktlBad (s : State) (k : PageKind) (i : Nat) (p : PageState) : (s.setPst k i p).ktlBad = s.ktlBad := rfl
@[simp] theorem setPst_ddrBad (s : State) (k : PageKind) (i : Nat) (p : PageState) : (s.setPst k i p).ddrBad = s.ddrBad := rfl
@[simp] theorem setPst_tap (s : State) (k : PageKind) (i : Nat) (p : PageState) : (s.setPst k i p).tap = s.tap := rfl
@[simp] theorem setPst_timed (s : State) (k : PageKind) (i : Nat) (p : PageState) : (s.setPst k i p).timed = s.timed := rfl
@[simp] theorem setPst_power (s : State) (k : PageKind) (i : Nat) (p : PageState) : (s.setPst k i p).power = s.power := rfl
@[simp] theorem setPst_nm (s : State) (k : PageKind) (i : Nat) (p : PageState) : (s.setPst k i p).nm = s.nm := rfl
@[simp] theorem setPst_kiln (s : State) (k : PageKind) (i : Nat) (p : PageState) : (s.setPst k i p).kiln = s.kiln := rfl
@[simp] theorem setPst_sup (s : State) (k : PageKind) (i : Nat) (p : PageState) : (s.setPst k i p).sup = s.sup := rfl
@[simp] theorem setPst_rack (s : State) (k : PageKind) (i : Nat) (p : PageState) : (s.setPst k i p).rack = s.rack := rfl
@[simp] theorem setPst_guard (s : State) (k : PageKind) (i : Nat) (p : PageState) : (s.setPst k i p).guard = s.guard := rfl
@[simp] theorem setPst_jtag (s : State) (k : PageKind) (i : Nat) (p : PageState) : (s.setPst k i p).jtag = s.jtag := rfl
@[simp] theorem setPst_cycles (s : State) (k : PageKind) (i : Nat) (p : PageState) : (s.setPst k i p).cycles = s.cycles := rfl
@[simp] theorem setPst_dieLost (s : State) (k : PageKind) (i : Nat) (p : PageState) : (s.setPst k i p).dieLost = s.dieLost := rfl
@[simp] theorem setPst_degPend (s : State) (k : PageKind) (i : Nat) (p : PageState) : (s.setPst k i p).degPend = s.degPend := rfl
@[simp] theorem setPst_out (s : State) (k : PageKind) (i : Nat) (p : PageState) : (s.setPst k i p).out = s.out := rfl
@[simp] theorem setPst_freeCount (s : State) (k : PageKind) (i : Nat) (p : PageState) : (s.setPst k i p).freeCount = s.freeCount := rfl
@[simp] theorem setPst_pending (s : State) (k : PageKind) (i : Nat) (p : PageState) : (s.setPst k i p).pending = s.pending := rfl

/-! ### b2Write -/

@[simp] theorem b2Write_grade (s : State) (a : Nat) (bs : Bytes) : (s.b2Write a bs).grade = s.grade := rfl
@[simp] theorem b2Write_regs (s : State) (a : Nat) (bs : Bytes) : (s.b2Write a bs).regs = s.regs := rfl
@[simp] theorem b2Write_ddr (s : State) (a : Nat) (bs : Bytes) : (s.b2Write a bs).ddr = s.ddr := rfl
@[simp] theorem b2Write_flash (s : State) (a : Nat) (bs : Bytes) : (s.b2Write a bs).flash = s.flash := rfl
@[simp] theorem b2Write_pages (s : State) (a : Nat) (bs : Bytes) : (s.b2Write a bs).pages = s.pages := rfl
@[simp] theorem b2Write_ran (s : State) (a : Nat) (bs : Bytes) : (s.b2Write a bs).ran = s.ran := rfl
@[simp] theorem b2Write_time (s : State) (a : Nat) (bs : Bytes) : (s.b2Write a bs).time = s.time := rfl
@[simp] theorem b2Write_log (s : State) (a : Nat) (bs : Bytes) : (s.b2Write a bs).log = s.log := rfl
@[simp] theorem b2Write_armed (s : State) (a : Nat) (bs : Bytes) : (s.b2Write a bs).armed = s.armed := rfl
@[simp] theorem b2Write_msixMask (s : State) (a : Nat) (bs : Bytes) : (s.b2Write a bs).msixMask = s.msixMask := rfl
@[simp] theorem b2Write_msixPend (s : State) (a : Nat) (bs : Bytes) : (s.b2Write a bs).msixPend = s.msixPend := rfl
@[simp] theorem b2Write_hspi (s : State) (a : Nat) (bs : Bytes) : (s.b2Write a bs).hspi = s.hspi := rfl
@[simp] theorem b2Write_cask (s : State) (a : Nat) (bs : Bytes) : (s.b2Write a bs).cask = s.cask := rfl
@[simp] theorem b2Write_fab (s : State) (a : Nat) (bs : Bytes) : (s.b2Write a bs).fab = s.fab := rfl
@[simp] theorem b2Write_egress (s : State) (a : Nat) (bs : Bytes) : (s.b2Write a bs).egress = s.egress := rfl
@[simp] theorem b2Write_hostQ (s : State) (a : Nat) (bs : Bytes) : (s.b2Write a bs).hostQ = s.hostQ := rfl
@[simp] theorem b2Write_fwd (s : State) (a : Nat) (bs : Bytes) : (s.b2Write a bs).fwd = s.fwd := rfl
@[simp] theorem b2Write_ports (s : State) (a : Nat) (bs : Bytes) : (s.b2Write a bs).ports = s.ports := rfl
@[simp] theorem b2Write_segs (s : State) (a : Nat) (bs : Bytes) : (s.b2Write a bs).segs = s.segs := rfl
@[simp] theorem b2Write_can (s : State) (a : Nat) (bs : Bytes) : (s.b2Write a bs).can = s.can := rfl
@[simp] theorem b2Write_lin (s : State) (a : Nat) (bs : Bytes) : (s.b2Write a bs).lin = s.lin := rfl
@[simp] theorem b2Write_brg (s : State) (a : Nat) (bs : Bytes) : (s.b2Write a bs).brg = s.brg := rfl
@[simp] theorem b2Write_jal (s : State) (a : Nat) (bs : Bytes) : (s.b2Write a bs).jal = s.jal := rfl
@[simp] theorem b2Write_sig (s : State) (a : Nat) (bs : Bytes) : (s.b2Write a bs).sig = s.sig := rfl
@[simp] theorem b2Write_clusters (s : State) (a : Nat) (bs : Bytes) : (s.b2Write a bs).clusters = s.clusters := rfl
@[simp] theorem b2Write_cores (s : State) (a : Nat) (bs : Bytes) : (s.b2Write a bs).cores = s.cores := rfl
@[simp] theorem b2Write_units (s : State) (a : Nat) (bs : Bytes) : (s.b2Write a bs).units = s.units := rfl
@[simp] theorem b2Write_ktlBad (s : State) (a : Nat) (bs : Bytes) : (s.b2Write a bs).ktlBad = s.ktlBad := rfl
@[simp] theorem b2Write_ddrBad (s : State) (a : Nat) (bs : Bytes) : (s.b2Write a bs).ddrBad = s.ddrBad := rfl
@[simp] theorem b2Write_tap (s : State) (a : Nat) (bs : Bytes) : (s.b2Write a bs).tap = s.tap := rfl
@[simp] theorem b2Write_timed (s : State) (a : Nat) (bs : Bytes) : (s.b2Write a bs).timed = s.timed := rfl
@[simp] theorem b2Write_power (s : State) (a : Nat) (bs : Bytes) : (s.b2Write a bs).power = s.power := rfl
@[simp] theorem b2Write_nm (s : State) (a : Nat) (bs : Bytes) : (s.b2Write a bs).nm = s.nm := rfl
@[simp] theorem b2Write_kiln (s : State) (a : Nat) (bs : Bytes) : (s.b2Write a bs).kiln = s.kiln := rfl
@[simp] theorem b2Write_sup (s : State) (a : Nat) (bs : Bytes) : (s.b2Write a bs).sup = s.sup := rfl
@[simp] theorem b2Write_rack (s : State) (a : Nat) (bs : Bytes) : (s.b2Write a bs).rack = s.rack := rfl
@[simp] theorem b2Write_guard (s : State) (a : Nat) (bs : Bytes) : (s.b2Write a bs).guard = s.guard := rfl
@[simp] theorem b2Write_jtag (s : State) (a : Nat) (bs : Bytes) : (s.b2Write a bs).jtag = s.jtag := rfl
@[simp] theorem b2Write_cycles (s : State) (a : Nat) (bs : Bytes) : (s.b2Write a bs).cycles = s.cycles := rfl
@[simp] theorem b2Write_dieLost (s : State) (a : Nat) (bs : Bytes) : (s.b2Write a bs).dieLost = s.dieLost := rfl
@[simp] theorem b2Write_degPend (s : State) (a : Nat) (bs : Bytes) : (s.b2Write a bs).degPend = s.degPend := rfl
@[simp] theorem b2Write_out (s : State) (a : Nat) (bs : Bytes) : (s.b2Write a bs).out = s.out := rfl
@[simp] theorem b2Write_freeCount (s : State) (a : Nat) (bs : Bytes) : (s.b2Write a bs).freeCount = s.freeCount := rfl
@[simp] theorem b2Write_pending (s : State) (a : Nat) (bs : Bytes) : (s.b2Write a bs).pending = s.pending := rfl

/-! ### ddrWrite -/

@[simp] theorem ddrWrite_grade (s : State) (a : Nat) (bs : Bytes) : (s.ddrWrite a bs).grade = s.grade := rfl
@[simp] theorem ddrWrite_regs (s : State) (a : Nat) (bs : Bytes) : (s.ddrWrite a bs).regs = s.regs := rfl
@[simp] theorem ddrWrite_bar2 (s : State) (a : Nat) (bs : Bytes) : (s.ddrWrite a bs).bar2 = s.bar2 := rfl
@[simp] theorem ddrWrite_flash (s : State) (a : Nat) (bs : Bytes) : (s.ddrWrite a bs).flash = s.flash := rfl
@[simp] theorem ddrWrite_pages (s : State) (a : Nat) (bs : Bytes) : (s.ddrWrite a bs).pages = s.pages := rfl
@[simp] theorem ddrWrite_ran (s : State) (a : Nat) (bs : Bytes) : (s.ddrWrite a bs).ran = s.ran := rfl
@[simp] theorem ddrWrite_time (s : State) (a : Nat) (bs : Bytes) : (s.ddrWrite a bs).time = s.time := rfl
@[simp] theorem ddrWrite_log (s : State) (a : Nat) (bs : Bytes) : (s.ddrWrite a bs).log = s.log := rfl
@[simp] theorem ddrWrite_armed (s : State) (a : Nat) (bs : Bytes) : (s.ddrWrite a bs).armed = s.armed := rfl
@[simp] theorem ddrWrite_msixMask (s : State) (a : Nat) (bs : Bytes) : (s.ddrWrite a bs).msixMask = s.msixMask := rfl
@[simp] theorem ddrWrite_msixPend (s : State) (a : Nat) (bs : Bytes) : (s.ddrWrite a bs).msixPend = s.msixPend := rfl
@[simp] theorem ddrWrite_hspi (s : State) (a : Nat) (bs : Bytes) : (s.ddrWrite a bs).hspi = s.hspi := rfl
@[simp] theorem ddrWrite_cask (s : State) (a : Nat) (bs : Bytes) : (s.ddrWrite a bs).cask = s.cask := rfl
@[simp] theorem ddrWrite_fab (s : State) (a : Nat) (bs : Bytes) : (s.ddrWrite a bs).fab = s.fab := rfl
@[simp] theorem ddrWrite_egress (s : State) (a : Nat) (bs : Bytes) : (s.ddrWrite a bs).egress = s.egress := rfl
@[simp] theorem ddrWrite_hostQ (s : State) (a : Nat) (bs : Bytes) : (s.ddrWrite a bs).hostQ = s.hostQ := rfl
@[simp] theorem ddrWrite_fwd (s : State) (a : Nat) (bs : Bytes) : (s.ddrWrite a bs).fwd = s.fwd := rfl
@[simp] theorem ddrWrite_ports (s : State) (a : Nat) (bs : Bytes) : (s.ddrWrite a bs).ports = s.ports := rfl
@[simp] theorem ddrWrite_segs (s : State) (a : Nat) (bs : Bytes) : (s.ddrWrite a bs).segs = s.segs := rfl
@[simp] theorem ddrWrite_can (s : State) (a : Nat) (bs : Bytes) : (s.ddrWrite a bs).can = s.can := rfl
@[simp] theorem ddrWrite_lin (s : State) (a : Nat) (bs : Bytes) : (s.ddrWrite a bs).lin = s.lin := rfl
@[simp] theorem ddrWrite_brg (s : State) (a : Nat) (bs : Bytes) : (s.ddrWrite a bs).brg = s.brg := rfl
@[simp] theorem ddrWrite_jal (s : State) (a : Nat) (bs : Bytes) : (s.ddrWrite a bs).jal = s.jal := rfl
@[simp] theorem ddrWrite_sig (s : State) (a : Nat) (bs : Bytes) : (s.ddrWrite a bs).sig = s.sig := rfl
@[simp] theorem ddrWrite_clusters (s : State) (a : Nat) (bs : Bytes) : (s.ddrWrite a bs).clusters = s.clusters := rfl
@[simp] theorem ddrWrite_cores (s : State) (a : Nat) (bs : Bytes) : (s.ddrWrite a bs).cores = s.cores := rfl
@[simp] theorem ddrWrite_units (s : State) (a : Nat) (bs : Bytes) : (s.ddrWrite a bs).units = s.units := rfl
@[simp] theorem ddrWrite_ktlBad (s : State) (a : Nat) (bs : Bytes) : (s.ddrWrite a bs).ktlBad = s.ktlBad := rfl
@[simp] theorem ddrWrite_ddrBad (s : State) (a : Nat) (bs : Bytes) : (s.ddrWrite a bs).ddrBad = s.ddrBad := rfl
@[simp] theorem ddrWrite_tap (s : State) (a : Nat) (bs : Bytes) : (s.ddrWrite a bs).tap = s.tap := rfl
@[simp] theorem ddrWrite_timed (s : State) (a : Nat) (bs : Bytes) : (s.ddrWrite a bs).timed = s.timed := rfl
@[simp] theorem ddrWrite_power (s : State) (a : Nat) (bs : Bytes) : (s.ddrWrite a bs).power = s.power := rfl
@[simp] theorem ddrWrite_nm (s : State) (a : Nat) (bs : Bytes) : (s.ddrWrite a bs).nm = s.nm := rfl
@[simp] theorem ddrWrite_kiln (s : State) (a : Nat) (bs : Bytes) : (s.ddrWrite a bs).kiln = s.kiln := rfl
@[simp] theorem ddrWrite_sup (s : State) (a : Nat) (bs : Bytes) : (s.ddrWrite a bs).sup = s.sup := rfl
@[simp] theorem ddrWrite_rack (s : State) (a : Nat) (bs : Bytes) : (s.ddrWrite a bs).rack = s.rack := rfl
@[simp] theorem ddrWrite_guard (s : State) (a : Nat) (bs : Bytes) : (s.ddrWrite a bs).guard = s.guard := rfl
@[simp] theorem ddrWrite_jtag (s : State) (a : Nat) (bs : Bytes) : (s.ddrWrite a bs).jtag = s.jtag := rfl
@[simp] theorem ddrWrite_cycles (s : State) (a : Nat) (bs : Bytes) : (s.ddrWrite a bs).cycles = s.cycles := rfl
@[simp] theorem ddrWrite_dieLost (s : State) (a : Nat) (bs : Bytes) : (s.ddrWrite a bs).dieLost = s.dieLost := rfl
@[simp] theorem ddrWrite_degPend (s : State) (a : Nat) (bs : Bytes) : (s.ddrWrite a bs).degPend = s.degPend := rfl
@[simp] theorem ddrWrite_out (s : State) (a : Nat) (bs : Bytes) : (s.ddrWrite a bs).out = s.out := rfl
@[simp] theorem ddrWrite_freeCount (s : State) (a : Nat) (bs : Bytes) : (s.ddrWrite a bs).freeCount = s.freeCount := rfl
@[simp] theorem ddrWrite_pending (s : State) (a : Nat) (bs : Bytes) : (s.ddrWrite a bs).pending = s.pending := rfl

/-! ### flashWrite -/

@[simp] theorem flashWrite_grade (s : State) (a : Nat) (bs : Bytes) : (s.flashWrite a bs).grade = s.grade := rfl
@[simp] theorem flashWrite_regs (s : State) (a : Nat) (bs : Bytes) : (s.flashWrite a bs).regs = s.regs := rfl
@[simp] theorem flashWrite_bar2 (s : State) (a : Nat) (bs : Bytes) : (s.flashWrite a bs).bar2 = s.bar2 := rfl
@[simp] theorem flashWrite_ddr (s : State) (a : Nat) (bs : Bytes) : (s.flashWrite a bs).ddr = s.ddr := rfl
@[simp] theorem flashWrite_pages (s : State) (a : Nat) (bs : Bytes) : (s.flashWrite a bs).pages = s.pages := rfl
@[simp] theorem flashWrite_ran (s : State) (a : Nat) (bs : Bytes) : (s.flashWrite a bs).ran = s.ran := rfl
@[simp] theorem flashWrite_time (s : State) (a : Nat) (bs : Bytes) : (s.flashWrite a bs).time = s.time := rfl
@[simp] theorem flashWrite_log (s : State) (a : Nat) (bs : Bytes) : (s.flashWrite a bs).log = s.log := rfl
@[simp] theorem flashWrite_armed (s : State) (a : Nat) (bs : Bytes) : (s.flashWrite a bs).armed = s.armed := rfl
@[simp] theorem flashWrite_msixMask (s : State) (a : Nat) (bs : Bytes) : (s.flashWrite a bs).msixMask = s.msixMask := rfl
@[simp] theorem flashWrite_msixPend (s : State) (a : Nat) (bs : Bytes) : (s.flashWrite a bs).msixPend = s.msixPend := rfl
@[simp] theorem flashWrite_hspi (s : State) (a : Nat) (bs : Bytes) : (s.flashWrite a bs).hspi = s.hspi := rfl
@[simp] theorem flashWrite_cask (s : State) (a : Nat) (bs : Bytes) : (s.flashWrite a bs).cask = s.cask := rfl
@[simp] theorem flashWrite_fab (s : State) (a : Nat) (bs : Bytes) : (s.flashWrite a bs).fab = s.fab := rfl
@[simp] theorem flashWrite_egress (s : State) (a : Nat) (bs : Bytes) : (s.flashWrite a bs).egress = s.egress := rfl
@[simp] theorem flashWrite_hostQ (s : State) (a : Nat) (bs : Bytes) : (s.flashWrite a bs).hostQ = s.hostQ := rfl
@[simp] theorem flashWrite_fwd (s : State) (a : Nat) (bs : Bytes) : (s.flashWrite a bs).fwd = s.fwd := rfl
@[simp] theorem flashWrite_ports (s : State) (a : Nat) (bs : Bytes) : (s.flashWrite a bs).ports = s.ports := rfl
@[simp] theorem flashWrite_segs (s : State) (a : Nat) (bs : Bytes) : (s.flashWrite a bs).segs = s.segs := rfl
@[simp] theorem flashWrite_can (s : State) (a : Nat) (bs : Bytes) : (s.flashWrite a bs).can = s.can := rfl
@[simp] theorem flashWrite_lin (s : State) (a : Nat) (bs : Bytes) : (s.flashWrite a bs).lin = s.lin := rfl
@[simp] theorem flashWrite_brg (s : State) (a : Nat) (bs : Bytes) : (s.flashWrite a bs).brg = s.brg := rfl
@[simp] theorem flashWrite_jal (s : State) (a : Nat) (bs : Bytes) : (s.flashWrite a bs).jal = s.jal := rfl
@[simp] theorem flashWrite_sig (s : State) (a : Nat) (bs : Bytes) : (s.flashWrite a bs).sig = s.sig := rfl
@[simp] theorem flashWrite_clusters (s : State) (a : Nat) (bs : Bytes) : (s.flashWrite a bs).clusters = s.clusters := rfl
@[simp] theorem flashWrite_cores (s : State) (a : Nat) (bs : Bytes) : (s.flashWrite a bs).cores = s.cores := rfl
@[simp] theorem flashWrite_units (s : State) (a : Nat) (bs : Bytes) : (s.flashWrite a bs).units = s.units := rfl
@[simp] theorem flashWrite_ktlBad (s : State) (a : Nat) (bs : Bytes) : (s.flashWrite a bs).ktlBad = s.ktlBad := rfl
@[simp] theorem flashWrite_ddrBad (s : State) (a : Nat) (bs : Bytes) : (s.flashWrite a bs).ddrBad = s.ddrBad := rfl
@[simp] theorem flashWrite_tap (s : State) (a : Nat) (bs : Bytes) : (s.flashWrite a bs).tap = s.tap := rfl
@[simp] theorem flashWrite_timed (s : State) (a : Nat) (bs : Bytes) : (s.flashWrite a bs).timed = s.timed := rfl
@[simp] theorem flashWrite_power (s : State) (a : Nat) (bs : Bytes) : (s.flashWrite a bs).power = s.power := rfl
@[simp] theorem flashWrite_nm (s : State) (a : Nat) (bs : Bytes) : (s.flashWrite a bs).nm = s.nm := rfl
@[simp] theorem flashWrite_kiln (s : State) (a : Nat) (bs : Bytes) : (s.flashWrite a bs).kiln = s.kiln := rfl
@[simp] theorem flashWrite_sup (s : State) (a : Nat) (bs : Bytes) : (s.flashWrite a bs).sup = s.sup := rfl
@[simp] theorem flashWrite_rack (s : State) (a : Nat) (bs : Bytes) : (s.flashWrite a bs).rack = s.rack := rfl
@[simp] theorem flashWrite_guard (s : State) (a : Nat) (bs : Bytes) : (s.flashWrite a bs).guard = s.guard := rfl
@[simp] theorem flashWrite_jtag (s : State) (a : Nat) (bs : Bytes) : (s.flashWrite a bs).jtag = s.jtag := rfl
@[simp] theorem flashWrite_cycles (s : State) (a : Nat) (bs : Bytes) : (s.flashWrite a bs).cycles = s.cycles := rfl
@[simp] theorem flashWrite_dieLost (s : State) (a : Nat) (bs : Bytes) : (s.flashWrite a bs).dieLost = s.dieLost := rfl
@[simp] theorem flashWrite_degPend (s : State) (a : Nat) (bs : Bytes) : (s.flashWrite a bs).degPend = s.degPend := rfl
@[simp] theorem flashWrite_out (s : State) (a : Nat) (bs : Bytes) : (s.flashWrite a bs).out = s.out := rfl
@[simp] theorem flashWrite_freeCount (s : State) (a : Nat) (bs : Bytes) : (s.flashWrite a bs).freeCount = s.freeCount := rfl
@[simp] theorem flashWrite_pending (s : State) (a : Nat) (bs : Bytes) : (s.flashWrite a bs).pending = s.pending := rfl

/-! ### emit -/

@[simp] theorem emit_grade (s : State) (o : Out) : (s.emit o).grade = s.grade := rfl
@[simp] theorem emit_regs (s : State) (o : Out) : (s.emit o).regs = s.regs := rfl
@[simp] theorem emit_bar2 (s : State) (o : Out) : (s.emit o).bar2 = s.bar2 := rfl
@[simp] theorem emit_ddr (s : State) (o : Out) : (s.emit o).ddr = s.ddr := rfl
@[simp] theorem emit_flash (s : State) (o : Out) : (s.emit o).flash = s.flash := rfl
@[simp] theorem emit_pages (s : State) (o : Out) : (s.emit o).pages = s.pages := rfl
@[simp] theorem emit_ran (s : State) (o : Out) : (s.emit o).ran = s.ran := rfl
@[simp] theorem emit_time (s : State) (o : Out) : (s.emit o).time = s.time := rfl
@[simp] theorem emit_log (s : State) (o : Out) : (s.emit o).log = s.log := rfl
@[simp] theorem emit_armed (s : State) (o : Out) : (s.emit o).armed = s.armed := rfl
@[simp] theorem emit_msixMask (s : State) (o : Out) : (s.emit o).msixMask = s.msixMask := rfl
@[simp] theorem emit_msixPend (s : State) (o : Out) : (s.emit o).msixPend = s.msixPend := rfl
@[simp] theorem emit_hspi (s : State) (o : Out) : (s.emit o).hspi = s.hspi := rfl
@[simp] theorem emit_cask (s : State) (o : Out) : (s.emit o).cask = s.cask := rfl
@[simp] theorem emit_fab (s : State) (o : Out) : (s.emit o).fab = s.fab := rfl
@[simp] theorem emit_egress (s : State) (o : Out) : (s.emit o).egress = s.egress := rfl
@[simp] theorem emit_hostQ (s : State) (o : Out) : (s.emit o).hostQ = s.hostQ := rfl
@[simp] theorem emit_fwd (s : State) (o : Out) : (s.emit o).fwd = s.fwd := rfl
@[simp] theorem emit_ports (s : State) (o : Out) : (s.emit o).ports = s.ports := rfl
@[simp] theorem emit_segs (s : State) (o : Out) : (s.emit o).segs = s.segs := rfl
@[simp] theorem emit_can (s : State) (o : Out) : (s.emit o).can = s.can := rfl
@[simp] theorem emit_lin (s : State) (o : Out) : (s.emit o).lin = s.lin := rfl
@[simp] theorem emit_brg (s : State) (o : Out) : (s.emit o).brg = s.brg := rfl
@[simp] theorem emit_jal (s : State) (o : Out) : (s.emit o).jal = s.jal := rfl
@[simp] theorem emit_sig (s : State) (o : Out) : (s.emit o).sig = s.sig := rfl
@[simp] theorem emit_clusters (s : State) (o : Out) : (s.emit o).clusters = s.clusters := rfl
@[simp] theorem emit_cores (s : State) (o : Out) : (s.emit o).cores = s.cores := rfl
@[simp] theorem emit_units (s : State) (o : Out) : (s.emit o).units = s.units := rfl
@[simp] theorem emit_ktlBad (s : State) (o : Out) : (s.emit o).ktlBad = s.ktlBad := rfl
@[simp] theorem emit_ddrBad (s : State) (o : Out) : (s.emit o).ddrBad = s.ddrBad := rfl
@[simp] theorem emit_tap (s : State) (o : Out) : (s.emit o).tap = s.tap := rfl
@[simp] theorem emit_timed (s : State) (o : Out) : (s.emit o).timed = s.timed := rfl
@[simp] theorem emit_power (s : State) (o : Out) : (s.emit o).power = s.power := rfl
@[simp] theorem emit_nm (s : State) (o : Out) : (s.emit o).nm = s.nm := rfl
@[simp] theorem emit_kiln (s : State) (o : Out) : (s.emit o).kiln = s.kiln := rfl
@[simp] theorem emit_sup (s : State) (o : Out) : (s.emit o).sup = s.sup := rfl
@[simp] theorem emit_rack (s : State) (o : Out) : (s.emit o).rack = s.rack := rfl
@[simp] theorem emit_guard (s : State) (o : Out) : (s.emit o).guard = s.guard := rfl
@[simp] theorem emit_jtag (s : State) (o : Out) : (s.emit o).jtag = s.jtag := rfl
@[simp] theorem emit_cycles (s : State) (o : Out) : (s.emit o).cycles = s.cycles := rfl
@[simp] theorem emit_dieLost (s : State) (o : Out) : (s.emit o).dieLost = s.dieLost := rfl
@[simp] theorem emit_degPend (s : State) (o : Out) : (s.emit o).degPend = s.degPend := rfl
@[simp] theorem emit_freeCount (s : State) (o : Out) : (s.emit o).freeCount = s.freeCount := rfl
@[simp] theorem emit_pending (s : State) (o : Out) : (s.emit o).pending = s.pending := rfl

/-! ### setHspi -/

@[simp] theorem setHspi_grade (s : State) (h : Hspi) : (s.setHspi h).grade = s.grade := rfl
@[simp] theorem setHspi_regs (s : State) (h : Hspi) : (s.setHspi h).regs = s.regs := rfl
@[simp] theorem setHspi_bar2 (s : State) (h : Hspi) : (s.setHspi h).bar2 = s.bar2 := rfl
@[simp] theorem setHspi_ddr (s : State) (h : Hspi) : (s.setHspi h).ddr = s.ddr := rfl
@[simp] theorem setHspi_flash (s : State) (h : Hspi) : (s.setHspi h).flash = s.flash := rfl
@[simp] theorem setHspi_pages (s : State) (h : Hspi) : (s.setHspi h).pages = s.pages := rfl
@[simp] theorem setHspi_ran (s : State) (h : Hspi) : (s.setHspi h).ran = s.ran := rfl
@[simp] theorem setHspi_time (s : State) (h : Hspi) : (s.setHspi h).time = s.time := rfl
@[simp] theorem setHspi_log (s : State) (h : Hspi) : (s.setHspi h).log = s.log := rfl
@[simp] theorem setHspi_armed (s : State) (h : Hspi) : (s.setHspi h).armed = s.armed := rfl
@[simp] theorem setHspi_msixMask (s : State) (h : Hspi) : (s.setHspi h).msixMask = s.msixMask := rfl
@[simp] theorem setHspi_msixPend (s : State) (h : Hspi) : (s.setHspi h).msixPend = s.msixPend := rfl
@[simp] theorem setHspi_cask (s : State) (h : Hspi) : (s.setHspi h).cask = s.cask := rfl
@[simp] theorem setHspi_fab (s : State) (h : Hspi) : (s.setHspi h).fab = s.fab := rfl
@[simp] theorem setHspi_egress (s : State) (h : Hspi) : (s.setHspi h).egress = s.egress := rfl
@[simp] theorem setHspi_hostQ (s : State) (h : Hspi) : (s.setHspi h).hostQ = s.hostQ := rfl
@[simp] theorem setHspi_fwd (s : State) (h : Hspi) : (s.setHspi h).fwd = s.fwd := rfl
@[simp] theorem setHspi_ports (s : State) (h : Hspi) : (s.setHspi h).ports = s.ports := rfl
@[simp] theorem setHspi_segs (s : State) (h : Hspi) : (s.setHspi h).segs = s.segs := rfl
@[simp] theorem setHspi_can (s : State) (h : Hspi) : (s.setHspi h).can = s.can := rfl
@[simp] theorem setHspi_lin (s : State) (h : Hspi) : (s.setHspi h).lin = s.lin := rfl
@[simp] theorem setHspi_brg (s : State) (h : Hspi) : (s.setHspi h).brg = s.brg := rfl
@[simp] theorem setHspi_jal (s : State) (h : Hspi) : (s.setHspi h).jal = s.jal := rfl
@[simp] theorem setHspi_sig (s : State) (h : Hspi) : (s.setHspi h).sig = s.sig := rfl
@[simp] theorem setHspi_clusters (s : State) (h : Hspi) : (s.setHspi h).clusters = s.clusters := rfl
@[simp] theorem setHspi_cores (s : State) (h : Hspi) : (s.setHspi h).cores = s.cores := rfl
@[simp] theorem setHspi_units (s : State) (h : Hspi) : (s.setHspi h).units = s.units := rfl
@[simp] theorem setHspi_ktlBad (s : State) (h : Hspi) : (s.setHspi h).ktlBad = s.ktlBad := rfl
@[simp] theorem setHspi_ddrBad (s : State) (h : Hspi) : (s.setHspi h).ddrBad = s.ddrBad := rfl
@[simp] theorem setHspi_tap (s : State) (h : Hspi) : (s.setHspi h).tap = s.tap := rfl
@[simp] theorem setHspi_timed (s : State) (h : Hspi) : (s.setHspi h).timed = s.timed := rfl
@[simp] theorem setHspi_power (s : State) (h : Hspi) : (s.setHspi h).power = s.power := rfl
@[simp] theorem setHspi_nm (s : State) (h : Hspi) : (s.setHspi h).nm = s.nm := rfl
@[simp] theorem setHspi_kiln (s : State) (h : Hspi) : (s.setHspi h).kiln = s.kiln := rfl
@[simp] theorem setHspi_sup (s : State) (h : Hspi) : (s.setHspi h).sup = s.sup := rfl
@[simp] theorem setHspi_rack (s : State) (h : Hspi) : (s.setHspi h).rack = s.rack := rfl
@[simp] theorem setHspi_guard (s : State) (h : Hspi) : (s.setHspi h).guard = s.guard := rfl
@[simp] theorem setHspi_jtag (s : State) (h : Hspi) : (s.setHspi h).jtag = s.jtag := rfl
@[simp] theorem setHspi_cycles (s : State) (h : Hspi) : (s.setHspi h).cycles = s.cycles := rfl
@[simp] theorem setHspi_dieLost (s : State) (h : Hspi) : (s.setHspi h).dieLost = s.dieLost := rfl
@[simp] theorem setHspi_degPend (s : State) (h : Hspi) : (s.setHspi h).degPend = s.degPend := rfl
@[simp] theorem setHspi_out (s : State) (h : Hspi) : (s.setHspi h).out = s.out := rfl
@[simp] theorem setHspi_freeCount (s : State) (h : Hspi) : (s.setHspi h).freeCount = s.freeCount := rfl
@[simp] theorem setHspi_pending (s : State) (h : Hspi) : (s.setHspi h).pending = s.pending := rfl

/-! ### setJtag -/

@[simp] theorem setJtag_grade (s : State) (j : Jtag) : (s.setJtag j).grade = s.grade := rfl
@[simp] theorem setJtag_regs (s : State) (j : Jtag) : (s.setJtag j).regs = s.regs := rfl
@[simp] theorem setJtag_bar2 (s : State) (j : Jtag) : (s.setJtag j).bar2 = s.bar2 := rfl
@[simp] theorem setJtag_ddr (s : State) (j : Jtag) : (s.setJtag j).ddr = s.ddr := rfl
@[simp] theorem setJtag_flash (s : State) (j : Jtag) : (s.setJtag j).flash = s.flash := rfl
@[simp] theorem setJtag_pages (s : State) (j : Jtag) : (s.setJtag j).pages = s.pages := rfl
@[simp] theorem setJtag_ran (s : State) (j : Jtag) : (s.setJtag j).ran = s.ran := rfl
@[simp] theorem setJtag_time (s : State) (j : Jtag) : (s.setJtag j).time = s.time := rfl
@[simp] theorem setJtag_log (s : State) (j : Jtag) : (s.setJtag j).log = s.log := rfl
@[simp] theorem setJtag_armed (s : State) (j : Jtag) : (s.setJtag j).armed = s.armed := rfl
@[simp] theorem setJtag_msixMask (s : State) (j : Jtag) : (s.setJtag j).msixMask = s.msixMask := rfl
@[simp] theorem setJtag_msixPend (s : State) (j : Jtag) : (s.setJtag j).msixPend = s.msixPend := rfl
@[simp] theorem setJtag_hspi (s : State) (j : Jtag) : (s.setJtag j).hspi = s.hspi := rfl
@[simp] theorem setJtag_cask (s : State) (j : Jtag) : (s.setJtag j).cask = s.cask := rfl
@[simp] theorem setJtag_fab (s : State) (j : Jtag) : (s.setJtag j).fab = s.fab := rfl
@[simp] theorem setJtag_egress (s : State) (j : Jtag) : (s.setJtag j).egress = s.egress := rfl
@[simp] theorem setJtag_hostQ (s : State) (j : Jtag) : (s.setJtag j).hostQ = s.hostQ := rfl
@[simp] theorem setJtag_fwd (s : State) (j : Jtag) : (s.setJtag j).fwd = s.fwd := rfl
@[simp] theorem setJtag_ports (s : State) (j : Jtag) : (s.setJtag j).ports = s.ports := rfl
@[simp] theorem setJtag_segs (s : State) (j : Jtag) : (s.setJtag j).segs = s.segs := rfl
@[simp] theorem setJtag_can (s : State) (j : Jtag) : (s.setJtag j).can = s.can := rfl
@[simp] theorem setJtag_lin (s : State) (j : Jtag) : (s.setJtag j).lin = s.lin := rfl
@[simp] theorem setJtag_brg (s : State) (j : Jtag) : (s.setJtag j).brg = s.brg := rfl
@[simp] theorem setJtag_jal (s : State) (j : Jtag) : (s.setJtag j).jal = s.jal := rfl
@[simp] theorem setJtag_sig (s : State) (j : Jtag) : (s.setJtag j).sig = s.sig := rfl
@[simp] theorem setJtag_clusters (s : State) (j : Jtag) : (s.setJtag j).clusters = s.clusters := rfl
@[simp] theorem setJtag_cores (s : State) (j : Jtag) : (s.setJtag j).cores = s.cores := rfl
@[simp] theorem setJtag_units (s : State) (j : Jtag) : (s.setJtag j).units = s.units := rfl
@[simp] theorem setJtag_ktlBad (s : State) (j : Jtag) : (s.setJtag j).ktlBad = s.ktlBad := rfl
@[simp] theorem setJtag_ddrBad (s : State) (j : Jtag) : (s.setJtag j).ddrBad = s.ddrBad := rfl
@[simp] theorem setJtag_tap (s : State) (j : Jtag) : (s.setJtag j).tap = s.tap := rfl
@[simp] theorem setJtag_timed (s : State) (j : Jtag) : (s.setJtag j).timed = s.timed := rfl
@[simp] theorem setJtag_power (s : State) (j : Jtag) : (s.setJtag j).power = s.power := rfl
@[simp] theorem setJtag_nm (s : State) (j : Jtag) : (s.setJtag j).nm = s.nm := rfl
@[simp] theorem setJtag_kiln (s : State) (j : Jtag) : (s.setJtag j).kiln = s.kiln := rfl
@[simp] theorem setJtag_sup (s : State) (j : Jtag) : (s.setJtag j).sup = s.sup := rfl
@[simp] theorem setJtag_rack (s : State) (j : Jtag) : (s.setJtag j).rack = s.rack := rfl
@[simp] theorem setJtag_guard (s : State) (j : Jtag) : (s.setJtag j).guard = s.guard := rfl
@[simp] theorem setJtag_cycles (s : State) (j : Jtag) : (s.setJtag j).cycles = s.cycles := rfl
@[simp] theorem setJtag_dieLost (s : State) (j : Jtag) : (s.setJtag j).dieLost = s.dieLost := rfl
@[simp] theorem setJtag_degPend (s : State) (j : Jtag) : (s.setJtag j).degPend = s.degPend := rfl
@[simp] theorem setJtag_out (s : State) (j : Jtag) : (s.setJtag j).out = s.out := rfl
@[simp] theorem setJtag_freeCount (s : State) (j : Jtag) : (s.setJtag j).freeCount = s.freeCount := rfl
@[simp] theorem setJtag_pending (s : State) (j : Jtag) : (s.setJtag j).pending = s.pending := rfl

/-! ### setTimed -/

@[simp] theorem setTimed_grade (s : State) (x : Timed) : (s.setTimed x).grade = s.grade := rfl
@[simp] theorem setTimed_regs (s : State) (x : Timed) : (s.setTimed x).regs = s.regs := rfl
@[simp] theorem setTimed_bar2 (s : State) (x : Timed) : (s.setTimed x).bar2 = s.bar2 := rfl
@[simp] theorem setTimed_ddr (s : State) (x : Timed) : (s.setTimed x).ddr = s.ddr := rfl
@[simp] theorem setTimed_flash (s : State) (x : Timed) : (s.setTimed x).flash = s.flash := rfl
@[simp] theorem setTimed_pages (s : State) (x : Timed) : (s.setTimed x).pages = s.pages := rfl
@[simp] theorem setTimed_ran (s : State) (x : Timed) : (s.setTimed x).ran = s.ran := rfl
@[simp] theorem setTimed_time (s : State) (x : Timed) : (s.setTimed x).time = s.time := rfl
@[simp] theorem setTimed_log (s : State) (x : Timed) : (s.setTimed x).log = s.log := rfl
@[simp] theorem setTimed_armed (s : State) (x : Timed) : (s.setTimed x).armed = s.armed := rfl
@[simp] theorem setTimed_msixMask (s : State) (x : Timed) : (s.setTimed x).msixMask = s.msixMask := rfl
@[simp] theorem setTimed_msixPend (s : State) (x : Timed) : (s.setTimed x).msixPend = s.msixPend := rfl
@[simp] theorem setTimed_hspi (s : State) (x : Timed) : (s.setTimed x).hspi = s.hspi := rfl
@[simp] theorem setTimed_cask (s : State) (x : Timed) : (s.setTimed x).cask = s.cask := rfl
@[simp] theorem setTimed_fab (s : State) (x : Timed) : (s.setTimed x).fab = s.fab := rfl
@[simp] theorem setTimed_egress (s : State) (x : Timed) : (s.setTimed x).egress = s.egress := rfl
@[simp] theorem setTimed_hostQ (s : State) (x : Timed) : (s.setTimed x).hostQ = s.hostQ := rfl
@[simp] theorem setTimed_fwd (s : State) (x : Timed) : (s.setTimed x).fwd = s.fwd := rfl
@[simp] theorem setTimed_ports (s : State) (x : Timed) : (s.setTimed x).ports = s.ports := rfl
@[simp] theorem setTimed_segs (s : State) (x : Timed) : (s.setTimed x).segs = s.segs := rfl
@[simp] theorem setTimed_can (s : State) (x : Timed) : (s.setTimed x).can = s.can := rfl
@[simp] theorem setTimed_lin (s : State) (x : Timed) : (s.setTimed x).lin = s.lin := rfl
@[simp] theorem setTimed_brg (s : State) (x : Timed) : (s.setTimed x).brg = s.brg := rfl
@[simp] theorem setTimed_jal (s : State) (x : Timed) : (s.setTimed x).jal = s.jal := rfl
@[simp] theorem setTimed_sig (s : State) (x : Timed) : (s.setTimed x).sig = s.sig := rfl
@[simp] theorem setTimed_clusters (s : State) (x : Timed) : (s.setTimed x).clusters = s.clusters := rfl
@[simp] theorem setTimed_cores (s : State) (x : Timed) : (s.setTimed x).cores = s.cores := rfl
@[simp] theorem setTimed_units (s : State) (x : Timed) : (s.setTimed x).units = s.units := rfl
@[simp] theorem setTimed_ktlBad (s : State) (x : Timed) : (s.setTimed x).ktlBad = s.ktlBad := rfl
@[simp] theorem setTimed_ddrBad (s : State) (x : Timed) : (s.setTimed x).ddrBad = s.ddrBad := rfl
@[simp] theorem setTimed_tap (s : State) (x : Timed) : (s.setTimed x).tap = s.tap := rfl
@[simp] theorem setTimed_power (s : State) (x : Timed) : (s.setTimed x).power = s.power := rfl
@[simp] theorem setTimed_nm (s : State) (x : Timed) : (s.setTimed x).nm = s.nm := rfl
@[simp] theorem setTimed_kiln (s : State) (x : Timed) : (s.setTimed x).kiln = s.kiln := rfl
@[simp] theorem setTimed_sup (s : State) (x : Timed) : (s.setTimed x).sup = s.sup := rfl
@[simp] theorem setTimed_rack (s : State) (x : Timed) : (s.setTimed x).rack = s.rack := rfl
@[simp] theorem setTimed_guard (s : State) (x : Timed) : (s.setTimed x).guard = s.guard := rfl
@[simp] theorem setTimed_jtag (s : State) (x : Timed) : (s.setTimed x).jtag = s.jtag := rfl
@[simp] theorem setTimed_cycles (s : State) (x : Timed) : (s.setTimed x).cycles = s.cycles := rfl
@[simp] theorem setTimed_dieLost (s : State) (x : Timed) : (s.setTimed x).dieLost = s.dieLost := rfl
@[simp] theorem setTimed_degPend (s : State) (x : Timed) : (s.setTimed x).degPend = s.degPend := rfl
@[simp] theorem setTimed_out (s : State) (x : Timed) : (s.setTimed x).out = s.out := rfl
@[simp] theorem setTimed_freeCount (s : State) (x : Timed) : (s.setTimed x).freeCount = s.freeCount := rfl
@[simp] theorem setTimed_pending (s : State) (x : Timed) : (s.setTimed x).pending = s.pending := rfl

@[simp] theorem emit_out (s : State) (o : Out) : (s.emit o).out = s.out ++ [o] := rfl
@[simp] theorem setHspi_hspi (s : State) (h : Hspi) : (s.setHspi h).hspi = h := rfl
@[simp] theorem setJtag_jtag (s : State) (j : Jtag) : (s.setJtag j).jtag = j := rfl
@[simp] theorem setTimed_timed (s : State) (x : Timed) : (s.setTimed x).timed = x := rfl
@[simp] theorem emit_rd (s : State) (o : Out) (off : Nat) : (s.emit o).rd off = s.rd off := rfl
@[simp] theorem setHspi_rd (s : State) (h : Hspi) (off : Nat) : (s.setHspi h).rd off = s.rd off := rfl
@[simp] theorem setJtag_rd (s : State) (j : Jtag) (off : Nat) : (s.setJtag j).rd off = s.rd off := rfl
@[simp] theorem setTimed_rd (s : State) (x : Timed) (off : Nat) : (s.setTimed x).rd off = s.rd off := rfl
@[simp] theorem setPst_rd (s : State) (k : PageKind) (i : Nat) (p : PageState) (off : Nat) :
    (s.setPst k i p).rd off = s.rd off := rfl
@[simp] theorem b2Write_rd (s : State) (a : Nat) (bs : Bytes) (off : Nat) : (s.b2Write a bs).rd off = s.rd off := rfl
@[simp] theorem ddrWrite_rd (s : State) (a : Nat) (bs : Bytes) (off : Nat) : (s.ddrWrite a bs).rd off = s.rd off := rfl
@[simp] theorem flashWrite_rd (s : State) (a : Nat) (bs : Bytes) (off : Nat) : (s.flashWrite a bs).rd off = s.rd off := rfl

end Sys2Proof.Machine
end

