-- ==== Sys2Proof/Laws/Write.lean ====
section
/-! SUPPORT. A register write: which of its three ends it comes to, and what each leaves. -/

namespace Sys2Proof.Machine

/-- Everything a write by `who` can do: an accepted write is noted and starts its trigger; any other ends with what
the plain write left. -/
theorem writeBy_cases (s : State) (who : Writer) (off : Nat) (w : Word) (k : State → State) :
    (∃ t, s.regWrite off w = (t, .accepted) ∧ s.writeBy who off w k = k (t.noteOverride who off w.toNat)) ∨
    (∃ t r, r ≠ WriteResult.accepted ∧ s.regWrite off w = (t, r) ∧ s.writeBy who off w k = t) := by
  unfold State.writeBy
  rcases h : s.regWrite off w with ⟨t, r⟩
  cases r with
  | accepted => exact .inl ⟨t, rfl, rfl⟩
  | rejected => exact .inr ⟨t, .rejected, by decide, rfl, rfl⟩
  | ignored => exact .inr ⟨t, .ignored, by decide, rfl, rfl⟩

/-- With PD3 off no register is written: the host has no access (R396; log entry 100). -/
theorem regWrite_unpowered (s : State) (off : Nat) (w : Word) (hp : s.domOn 3 = false) :
    s.regWrite off w = (s, .rejected) := by
  simp only [State.regWrite, hp, Bool.not_false, if_true]

/-- A reserved page rejects (R41). -/
theorem regWrite_reserved (s : State) (off : Nat) (w : Word) (hp : s.domOn 3 = true)
    (h : pageOf (off / 0x1000) = none) :
    s.regWrite off w = (s.reject off, .rejected) := by
  simp only [State.regWrite, hp, h, Bool.not_true, Bool.false_eq_true, if_false]

/-- A page that the grade lacks ignores writes (R4). -/
theorem regWrite_absent (s : State) (off : Nat) (w : Word) (k : PageKind) (i : Nat)
    (hp : s.domOn 3 = true) (h : pageOf (off / 0x1000) = some (k, i)) (hg : s.grade.hasPage k i = false) :
    s.regWrite off w = (s, .ignored) := by
  simp [State.regWrite, hp, h, hg]

/-- A page whose domain is off rejects (R51). -/
theorem regWrite_off (s : State) (off : Nat) (w : Word) (k : PageKind) (i : Nat)
    (hp : s.domOn 3 = true) (h : pageOf (off / 0x1000) = some (k, i)) (hg : s.grade.hasPage k i = true)
    (hd : s.domOn (pageDomain k i) = false) : s.regWrite off w = (s.reject off, .rejected) := by
  simp [State.regWrite, hp, h, hg, hd]

/-- A register of a page that answers: the write its description gives. -/
theorem regWrite_desc (s : State) (off : Nat) (w : Word) (k : PageKind) (i : Nat) (d : RegDesc)
    (hp : s.domOn 3 = true) (h : pageOf (off / 0x1000) = some (k, i)) (hg : s.grade.hasPage k i = true)
    (hl : (s.dieLost && lineDiePage k) = false)
    (hd : s.domOn (pageDomain k i) = true) (hu : k ≠ .caskUser) (ho : 0x40 ≤ off % 0x1000 / 4 * 4)
    (ha : absentReg s.grade k i (off % 0x1000 / 4 * 4) = false) (hx : descAt k (off % 0x1000 / 4 * 4) = some d) :
    s.regWrite off w = s.descWrite (pageBase k i) (off % 0x1000 / 4 * 4) w.toNat d := by
  have hn : ¬ off % 0x1000 / 4 * 4 < 0x40 := by omega
  simp only [State.regWrite, hp, h, hg, hl, hd, hu, hn, ha, hx, Bool.not_true, Bool.false_eq_true, if_false]

end Sys2Proof.Machine
end

