-- ==== Sys2Proof/Tests/Small.lean ====
section
/-! SUPPORT. Small states for the tests: every power domain on, some pages in RUN, some fields set. -/

namespace Sys2Proof.Machine

/-- The state after reset with every power domain on. -/
def onAll : State := { State.reset with regs := [(0x2004C, 0x7FFF)] }

/-- Pages put into RUN. -/
def runs (l : List (PageKind × Nat)) (s : State) : State := l.foldl (fun a x => a.setPst x.1 x.2 .run) s

/-- Fields set. -/
def flds (l : List (PageKind × Nat × Fld × Nat)) (s : State) : State :=
  l.foldl (fun a x => a.pf (pageBase x.1 x.2.1) x.2.2.1 x.2.2.2) s

end Sys2Proof.Machine
end

