-- ==== Sys2Proof/Tests/Slice0.lean ====
section
/-! SUPPORT. The tests: ill-formed commands are refused, the hypotheses of each statement are met by a concrete state and
operands. -/

set_option maxRecDepth 100000
set_option linter.unusedVariables false

open Sys2Proof Sys2Proof.Machine

/-! ### Ill-formed commands: one term per check of `Instr.wellFormed`, which the check refuses -/

theorem test_ill_formed_1 :
    ([.registerWrite 0x4000000 0 0 0, .registerWrite 0 0 16 0, .bar0LongRead 0x40000000 0 false 0,
    .bar0LongRead 0 0 false 3, .tableWordWrite 0x40000000 0 0 [] 0 0, .tableWordWrite 0 0 16 [] 0 0,
    .tableWordWrite 0 0 0 [] 16 0, .tableWordWrite 0 0 0 [] 0 3, .registerAccessTimeout 0x4000000 none,
    .pageEnable 0x4000 false, .pageQuiesce 0x4000 false, .pageSrst 0x4000, .quiesceDrained 0x4000,
    .pageResetComplete 0x4000, .pageLockWrite 0x4000 0, .cntClr 0x4000000 0, .evtPendClear 0x4000 0 [],
    .eventOccurrence 512 0, .eventOccurrence 0 256, .hspiRead 0x100000000 0 [] 0, .hspiRead 0 0 [] 3,
    .hspiWrite 0x100000000 [] 0, .hspiUnknownCommand 256, .frameAdmission 24, .flushTimerExpiry 24 0 0] : List Instr).all (fun i => !i.wellFormed) = true := by decide

theorem test_ill_formed_2 :
    ([.flushTimerExpiry 0 24 0, .flushTimerExpiry 0 0 8, .cellArrival 24 0, .cellArrival 0 24,
    .outputCellTake 24 0 0, .outputCellTake 0 24 0, .outputCellTake 0 0 4, .sliceLeavePattern 8,
    .purgeComplete 8 0 0, .sliceRebuildStart 8, .rebuildComplete 8 false, .sliceJoinPattern 8,
    .sliceReadmitDone 8, .hotPosition 24, .seedPairMove 24 0, .seedPairMove 0 8, .seedPairAbandon 24 0,
    .seedPairAbandon 0 8, .seedHoldRetry 24 0, .seedHoldRetry 0 8, .eTxSelect 16 0, .eTxSelect 0 4,
    .ctUnderrun 16, .gateEntryChange 16, .configChange 16 0] : List Instr).all (fun i => !i.wellFormed) = true := by decide

theorem test_ill_formed_3 :
    ([.gateConfigApply 16, .egressQuiesceTimeout 24, .queueRunStart 64, .queueRunStop 64, .queueFlush 64,
    .queueTailWrite 64 0, .hostRxPublish 24 0 [], .hostRxPublish 0 4 [], .queueIrqTimeExpiry 64,
    .hostTxFetch 64 0 [], .hostTxFetch 0 3 [], .dmaCompletionTimeout 64, .dmaCompletionError 64,
    .pointerFlush false 64 0 false, .pointerFlush false 0 8 false, .frameLookup 24 false 0, .gristEdit 24,
    .learnCommit 2, .spargeVisit 2 false, .fdbFlush 2 0, .fdbFlushComplete 2, .srfResetTimeout 1024,
    .linkUp 16 0, .linkDown 16 false, .ethRxFrame 16 [] false 0] : List Instr).all (fun i => !i.wellFormed) = true := by decide

theorem test_ill_formed_4 :
    ([.tsPop false 64 0, .tsFlush 16 0, .lpiEntry 16 false, .lpiWakeEnd 16 false, .t1sRxFrame 8 0 [] false 0,
    .t1sRxFrame 0 256 [] false 0, .t1sNodeDepart 8 0, .t1sNodeDepart 0 256, .plcaBeacon 8, .plcaBeaconLost 8,
    .t1sCollision 8 false, .canRxStore 24 ⟨false, 0, 0, 0, false, []⟩ 0 0,
    .canRxStore 0 ⟨false, 0, 0, 0, false, []⟩ 0 3, .canProtocolException 24, .objectW7Write 8192 0,
    .canTxComplete 24 0 0 0, .canTxComplete 0 0 3 0, .canArbLost 24, .canError 24 0 false 0 none,
    .canError 0 8 false 0 none, .canIntegrated 24, .canRecover 24 0, .canRecoveryComplete 24,
    .trcvStateRequest 24 0, .trcvStateReached 24] : List Instr).all (fun i => !i.wellFormed) = true := by decide

theorem test_ill_formed_5 :
    ([.txdTmo 16, .busDom 16, .thermal 16, .linSlotStart 8 0, .linHeaderRx 8 0 0 0 false,
    .linHeaderRx 0 0 256 0 false, .linResponseRx 8 [] false, .linResponseTimeout 8 0, .linDataStage 8 0 0,
    .linDataStage 0 64 0, .linDataCommit 8 0 0, .linDataCommit 0 64 0, .schedSwitch 8 0, .wakeTx 8 0,
    .bridgeCopyPlace 24, .f20FrameRx 3, .tunnelFrameSend 32, .tunnelHoldExpiry 32, .tunnelFragTimeout 32,
    .jaldenFrameRx 16 0 0 0 0 0 0 [] false, .jaldenFrameRx 0 256 0 0 0 0 0 [] false,
    .jaldenFrameRx 0 0 4 0 0 0 0 [] false, .jaldenFrameRx 0 0 0 65536 0 0 0 [] false,
    .jaldenFrameRx 0 0 0 0 65536 0 0 [] false, .jaldenReplayTimeout 16] : List Instr).all (fun i => !i.wellFormed) = true := by decide

theorem test_ill_formed_6 :
    ([.jaldenIdleAck 16, .jlBlockLock 16, .jlBlockLockLost 16, .discoverRx 16 0 0 0 [], .discoverRx 0 65536 0 0 [],
    .discoverSend 16, .jlRetry 16 0, .raccRequestRx 17 [0, 0, 0, 0] 0 0 0 0 0 false,
    .raccRequestRx 0 [0, 0, 0, 0] 4 0 0 0 0 false, .raccRequestRx 0 [0, 0, 0, 0] 0 2 0 0 0 false,
    .raccRequestRx 0 [0, 0, 0, 0] 0 0 3 0 0 false, .raccRequestRx 0 [0, 0, 0, 0] 0 0 0 0x100000000 0 false,
    .raccRequestRx 0 [0, 0, 0, 0] 0 0 0 0 0x100000000 false, .raccRequestRx 0 [0] 0 0 0 0 0 false,
    .raccCompletionRx 16 0 0 0, .raccCompletionRx 0 17 0 0, .raccCompletionRx 0 0 8 0,
    .raccCompletionRx 0 0 0 0x100000000, .twinStateRx 16 [], .ktlDispatchFrame 3, .ktlFragTimeout 4 0 0,
    .ktlFragTimeout 0 17 0, .ktlFragTimeout 0 0 32, .jobStart 4, .jobBudgetExpiry 32] : List Instr).all (fun i => !i.wellFormed) = true := by decide

theorem test_ill_formed_7 :
    ([.coreResume 32 0, .opAdd 32 0 0, .opSub 32 0 0, .opAnd 32 0 0, .opOr 32 0 0, .opXor 32 0 0, .opShl 32 0 0,
    .opShr 32 0 0, .opSar 32 0 0, .opMul 32 0 0, .opSlt 32 0 0, .opSltu 32 0 0, .opMin 32 0 0, .opMax 32 0 0,
    .opAddi 32 0 0, .opAndi 32 0 0, .opOri 32 0 0, .opXori 32 0 0, .opShli 32 0 0, .opShri 32 0 0,
    .opSari 32 0 0, .opShin 32 0 0, .opLd8 32 0 0, .opLd16 32 0 0, .opLd32 32 0 0] : List Instr).all (fun i => !i.wellFormed) = true := by decide

theorem test_ill_formed_8 :
    ([.opLd64 32 0 0, .opSt8 32 0 0, .opSt16 32 0 0, .opSt32 32 0 0, .opSt64 32 0 0, .opBeq 32 0 0, .opBne 32 0 0,
    .opBlt 32 0 0, .opBge 32 0 0, .opBltu 32 0 0, .opBgeu 32 0 0, .opJal 32 0 0, .opJr 32 0 0,
    .opExti 32 0 0, .opInsi 32 0 0, .opExt 32 0 0, .opIns 32 0 0, .opAadd 32 0 0, .opSrec 32 0 0,
    .opPrec 32 0 0, .opSrcv 32 0 0, .opSfwd 32 0 0, .opSval 32 0 0, .opSset 32 0 0, .opXfm 32 0 0] : List Instr).all (fun i => !i.wellFormed) = true := by decide

theorem test_ill_formed_9 :
    ([.opPget 32 0 0, .opPcnt 32 0 0, .opE2ec 32 0 0 0, .opPasm 32 0 0, .opE2ep 32 0 0 0, .opSend 32 0 0,
    .opCvuCalc 32 0 0 0, .opCvuFeed 32 0 0 0, .opCvuFinal 32 0 0 0, .opCvuStrip 32 0 0 0,
    .opCvuAppend 32 0 0 0, .opTime 32 0 0, .opEnd 32 0 0, .opBadop 32 0 0, .deadlineVisit 131072,
    .txSchedulerVisit 32768, .buildGo 256 false, .hostReady 256, .nodeDepartTimeout 4096,
    .nodeSummaryRx 16 0 [], .nodeSummaryRx 0 1024 [], .childHoldExpiry 1024, .pdelayReqRx 3 [],
    .pdelayReqSend 16, .pdelayRespRx 3 []] : List Instr).all (fun i => !i.wellFormed) = true := by decide

theorem test_ill_formed_10 :
    ([.syncRx 3 [], .syncOriginate 4, .syncReceiptTimeout 4, .ptpFrameToHost 3 [], .ppsEdge 4, .ppsWidthEnd 4,
    .ppsCapture 2 false 0, .capPop 2 0, .slotArm 16 0, .slotFire 16 false, .keyStageWrite 8 0,
    .lifecycleAdvance 8, .blkHmacSha256 1024, .cmacGenerate 1024, .cmacVerify 1024, .challengeResponse 1024,
    .cipherParityError 4 0 false, .cipherParityError 0 16 false, .alarmTrip 8, .railGood 10 false false,
    .railNotGood 10, .vsupUv 4500, .thermalShutdown 256, .thermalRecovery 256, .wakeInput 4 false 0] : List Instr).all (fun i => !i.wellFormed) = true := by decide

theorem test_ill_formed_11 :
    ([.canBusWake 16 0 ⟨false, 0, 0, 0, false, []⟩, .canBusWake 0 2 ⟨false, 0, 0, 0, false, []⟩, .linBusWake 8,
    .linIdleSleep 8, .pnSuspend 16 0, .pnSuspendEffect 16, .nmEnable 8 0, .nmWakeRequest 8 0 0,
    .nmWakeRequest 0 0 65536, .nmMessageRx 8 0 [], .nmMessageRx 0 2048 [], .nmRingSend 8, .nmMsgComplete 8,
    .nmTmaxTimeout 8, .nmTerrTimeout 8, .nmWbsExpiry 8, .nmAddressTimeout 8 0, .nmAddressTimeout 0 256,
    .caskPageProgram 4, .caskFlushTimeout 4, .flush 4, .caskCommandDone [] 4 0 false,
    .caskCommandDone [] 0 4 false, .hcmdDone false 4 [], .bootStart false 256 0 0 []] : List Instr).all (fun i => !i.wellFormed) = true := by decide

theorem test_ill_formed_12 :
    ([.mbxUnknownOp 256, .ruleClear 256, .testPinHigh 4, .perstRelease 2, .pcieLinkChange 2 false 0 0,
    .pcieLinkChange 0 false 16 0, .pcieLinkChange 0 false 0 32, .bypass 256, .dbgReq 0x100000000,
    .dbgAccess 3 0 0 false, .dbgAccess 0 0x100000000 0 false, .dbgAccess 0 0 0x100000000 false,
    .transceiverFaultClear 16 0, .transceiverFaultClear 0 4, .plcaBeaconReceived 8, .thermalWarning 256] : List Instr).all (fun i => !i.wellFormed) = true := by decide

/-- A command within its ranges is well formed. -/
theorem test_well_formed : (Instr.registerWrite 0x50 0 15 1).wellFormed = true := by decide


/-! ### Worked values of the spec -/

/-- The check value of CRC-8 SAE J1850 (Table 10-8): "123456789" gives 0x4B. -/
theorem test_crc8_j1850 : (⟨8, 0x1D, 0xFF, false, false, true, false, false, 1⟩ : CrcCfg).calc
    ([0x31, 0x32, 0x33, 0x34, 0x35, 0x36, 0x37, 0x38, 0x39] : List (BitVec 8)) = 0x4B := by decide

/-- R508: IDCODE of each grade. -/
theorem test_idcode : Grade.idcode .tvx6480 = 0x164800B7 ∧ Grade.idcode .tvx6440 = 0x164400B7 ∧
    Grade.idcode .tvx6420 = 0x164200B7 := by decide

/-- Table 16-1: the required domains of CENTRAL are PD3 to PD14. -/
theorem test_central_domains : profileDomains 1 = 0x7FF8 := by decide

/-! ### Witnesses: states and operands that meet the hypotheses of each clause of the statements -/

/-- The hypotheses of a clause are met. -/
theorem witness_StepRunsFrontCommand_2 : ∃ (s : State), (s.pending = []) :=
  ⟨State.reset, by decide⟩

/-- The hypotheses of a clause are met. -/
theorem witness_ResetState_2 : ∃ (k : PageKind) (i : Nat), (i < k.count) :=
  ⟨.can, 3, by decide⟩

/-- The hypotheses of a clause are met. -/
theorem witness_EveryStepKeepsCanonicalStores_1 : ∃ (s t : State), (s.sound = true) ∧ (step s = .next t) :=
  ⟨State.reset, State.reset.tick, by decide, rfl⟩

/-- The hypotheses of a clause are met. -/
theorem witness_BlockCodeIsBaseByte_1 : ∃ (s : State) (base size page : Nat) (k : PageKind) (i : Nat), ((base, size) ∈
  ([(0x000000, 0x10000), (0x010000, 0x10000), (0x020000, 0x20000), (0x040000, 0x40000), (0x080000, 0x40000), (0x0C0000,
  0x40000), (0x100000, 0x40000), (0x140000, 0x10000), (0x150000, 0x20000), (0x170000, 0x10000), (0x180000, 0x20000),
  (0x1A0000, 0x20000), (0x1C0000, 0x40000), (0x200000, 0x10000), (0x210000, 0x10000), (0x220000, 0x20000), (0x240000,
  0x20000), (0x260000, 0x20000), (0x280000, 0x10000), (0x290000, 0x10000), (0x2A0000, 0x20000), (0x2C0000, 0x20000),
  (0x2E0000, 0x20000)] : List (Nat × Nat))) ∧ (base ≤ 0x1000 * page) ∧ (0x1000 * page < base + size) ∧ (pageOf page =
  some (k, i)) ∧ (s.grade.hasPage k i = true) ∧ ((s.dieLost && lineDiePage k) = false) ∧ (s.regs = []) :=
  ⟨State.reset, 0x150000, 0x20000, 0x168, .canGlobal, 0, by decide⟩

/-- The hypotheses of a clause are met. -/
theorem witness_RejectedWriteCounts_1 : ∃ (s : State) (off : Nat) (w : Word) (be ndw : Nat), (Memory.wf s = true) ∧
  (s.domOn 3 = true) ∧ ((be ≠ 15 ∨ ndw ≠ 1)) :=
  ⟨onAll, 0x10040, 5, 3, 1, by decide⟩

/-- The hypotheses of a clause are met. -/
theorem witness_RejectedWriteCounts_2 : ∃ (s : State) (off : Nat) (w : Word), (Memory.wf s = true) ∧ (s.domOn 3 = true) ∧
  (pageOf (off % 2 ^ 26 / 0x1000) = none) :=
  ⟨onAll, 0x300000, 5, by decide⟩

/-- The hypotheses of a clause are met. -/
theorem witness_RejectedWriteCounts_3 : ∃ (s : State) (off : Nat) (w : Word) (k : PageKind) (i : Nat), (Memory.wf s =
  true) ∧ (s.domOn 3 = true) ∧ (pageOf (off % 2 ^ 26 / 0x1000) = some (k, i)) ∧ (s.grade.hasPage k i = true) ∧
  (((s.dieLost && lineDiePage k) = true ∨ s.domOn (pageDomain k i) = false)) :=
  ⟨State.reset, 0x81040, 5, .fabSlice, 0, by decide⟩

/-- The hypotheses of a clause are met. -/
theorem witness_RejectedWriteCounts_4 : ∃ (who : Writer) (addr : Nat) (w : Word) (s : State), (Memory.wf s = true) ∧
  (s.domOn 3 = true) ∧ (placeOf addr = .nowhere) :=
  ⟨.supervisor, 0x80000000, 5, onAll, by decide⟩

/-- The hypotheses of a clause are met. -/
theorem witness_WriteObeysAccessCodes_1 : ∃ (s : State) (off : Nat) (k : PageKind) (i : Nat) (d : RegDesc) (w : Word) (f
  : FieldDesc), (Memory.wf s = true) ∧ (s.reaches off k i d) ∧ (f ∈ d.fields) ∧ ((f.acc = .rw ∨ f.acc = .wl ∧ s.on
  (pageBase k i) hdrLock = false)) :=
  ⟨onAll, 0x40, .sys, 0, ((descAt .sys 0x40).getD ⟨"", 0, 0, 0, 0, 0, []⟩), 3, (FieldDesc.mk 15 0 .rw 0x320 (.range 0x64 0xFFFF)), by decide⟩

/-- The hypotheses of a clause are met. -/
theorem witness_WriteObeysAccessCodes_2 : ∃ (s : State) (off : Nat) (k : PageKind) (i : Nat) (d : RegDesc) (w : Word) (f
  : FieldDesc), (Memory.wf s = true) ∧ (s.reaches off k i d) ∧ (f ∈ d.fields) ∧ ((f.acc = .ro ∨ f.acc = .rc ∨ f.acc = .wo
  ∨ f.acc = .wl ∧ s.on (pageBase k i) hdrLock = true)) :=
  ⟨onAll, 0x48, .sys, 0, ((descAt .sys 0x48).getD ⟨"", 0, 0, 0, 0, 0, []⟩), 3, (FieldDesc.ro 25 0), by decide⟩

/-- The hypotheses of a clause are met. -/
theorem witness_WriteObeysAccessCodes_3 : ∃ (s : State) (off : Nat) (k : PageKind) (i : Nat) (d : RegDesc) (w : Word) (f
  : FieldDesc), (Memory.wf s = true) ∧ (s.reaches off k i d) ∧ (f ∈ d.fields) ∧ (f.acc = .w1c) :=
  ⟨onAll, 0x1008C, .evt, 0, ((descAt .evt 0x8C).getD ⟨"", 0, 0, 0, 0, 0, []⟩), 0x10000, (FieldDesc.w1c 16 16), by decide⟩

/-- The hypotheses of a clause are met. -/
theorem witness_WriteObeysAccessCodes_4 : ∃ (s : State) (off : Nat) (k : PageKind) (i : Nat) (d : RegDesc) (w : Word),
  (Memory.wf s = true) ∧ (s.reaches off k i d) ∧ ((∃ f ∈ d.fields, (f.acc = .rw ∨ f.acc = .wl ∧ s.on (pageBase k i)
  hdrLock = false) ∧ clampTo s (pageBase k i) (off % 0x1000) w.toNat f.clamp (bitsOf w.toNat f.hi f.lo) ≠ bitsOf w.toNat
  f.hi f.lo)) :=
  ⟨onAll, 0x40, .sys, 0, ((descAt .sys 0x40).getD ⟨"", 0, 0, 0, 0, 0, []⟩), 3, by decide⟩

/-- The hypotheses of a clause are met. -/
theorem witness_WriteObeysAccessCodes_5 : ∃ (s : State) (off : Nat) (k : PageKind) (i : Nat) (d : RegDesc) (w : Word),
  (Memory.wf s = true) ∧ (s.reaches off k i d) ∧ ((∃ f ∈ d.fields, f.acc = .wl ∧ s.on (pageBase k i) hdrLock = true ∧
  bitsOf w.toNat f.hi f.lo ≠ bitsOf (s.rd off).toNat f.hi f.lo)) :=
  ⟨flds [(.fabGlobal, 0, hdrLock, 1)] onAll, 0x8004C, .fabGlobal, 0, ((descAt .fabGlobal 0x4C).getD ⟨"", 0, 0, 0, 0, 0, []⟩), 1, by decide⟩

/-- The hypotheses of a clause are met. -/
theorem witness_PageControlFollowsTable_1 : ∃ (s : State) (page : Nat) (k : PageKind) (i : Nat) (w : Word), (Memory.wf s
  = true) ∧ (s.controls page k i) ∧ ((s.srstIgnored k i && w.getLsbD 1) = false) :=
  ⟨onAll, 0x40, .timeClock, 0, 1, by decide⟩

/-- The hypotheses of a clause are met. -/
theorem witness_PageControlFollowsTable_2 : ∃ (s : State) (page : Nat) (k : PageKind) (i : Nat) (w : Word), (Memory.wf s
  = true) ∧ (s.controls page k i) :=
  ⟨onAll, 0x40, .timeClock, 0, 1, by decide⟩

/-- The hypotheses of a clause are met. -/
theorem witness_PageControlFollowsTable_3 : ∃ (s : State) (page : Nat) (k : PageKind) (i : Nat) (w : Word), (Memory.wf s
  = true) ∧ (s.controls page k i) ∧ (s.pst k i = .quiescing) :=
  ⟨onAll.setPst .timeClock 0 .quiescing, 0x40, .timeClock, 0, 1, by decide⟩

/-- The hypotheses of a clause are met. -/
theorem witness_PageControlFollowsTable_4 : ∃ (s : State) (page : Nat) (k : PageKind) (i : Nat) (w : Word), (pageOf page
  = some (k, i)) ∧ (s.alive k i = true) ∧ ((s.dieLost && lineDiePage k) = false) ∧ (k.noState = false) ∧ (s.on (pageBase
  k i) hdrLock = true) ∧ (s.on (pageBase k i) hdrLockCtl = true) :=
  ⟨flds [(.timeClock, 0, hdrLock, 1), (.timeClock, 0, hdrLockCtl, 1)] onAll, 0x40, .timeClock, 0, 1, by decide⟩

/-- The hypotheses of a clause are met. -/
theorem witness_PageControlFollowsTable_5 : ∃ (s : State) (page : Nat) (k : PageKind) (i : Nat) (who : Writer) (w :
  Word), (Memory.wf s = true) ∧ (s.controls page k i) ∧ (s.srstIgnored k i = true) ∧ (s.unwatched (0x1000 * page +
  0x00C)) :=
  ⟨onAll, 0x80, .fabGlobal, 0, .host, 3, by decide⟩

/-- The hypotheses of a clause are met. -/
theorem witness_PageCommandsRun_1 : ∃ (s : State) (page : Nat) (k : PageKind) (i : Nat), (Memory.wf s = true) ∧ (k ∈
  plainPages) ∧ (s.controls page k i) ∧ (s.pst k i = .off) ∧ (s.gf (pageBase k i) hdrQuiesce = 0) :=
  ⟨onAll, 0x41, .timeGptp, 0, by decide⟩

/-- The hypotheses of a clause are met. -/
theorem witness_PageCommandsRun_2 : ∃ (s : State) (page : Nat) (k : PageKind) (i : Nat), (Memory.wf s = true) ∧ (k ∈
  plainPages) ∧ (s.controls page k i) ∧ (s.pst k i = .run) ∧ (s.gf (pageBase k i) hdrEn = 1) :=
  ⟨flds [(.timeGptp, 0, hdrEn, 1)] (runs [(.timeGptp, 0)] onAll), 0x41, .timeGptp, 0, by decide⟩

/-- The hypotheses of a clause are met. -/
theorem witness_PageCommandsRun_3 : ∃ (s : State) (page : Nat) (k : PageKind) (i : Nat), (Memory.wf s = true) ∧ (k ∈
  plainPages) ∧ (s.controls page k i) :=
  ⟨onAll, 0x41, .timeGptp, 0, by decide⟩

/-- The hypotheses of a clause are met. -/
theorem witness_PageCommandsRun_4 : ∃ (s : State) (page : Nat) (k : PageKind) (i : Nat), (Memory.wf s = true) ∧ (k ∈
  plainPages) ∧ (s.controls page k i) ∧ (s.pst k i = .quiescing) ∧ (s.workInFlight k i = false) :=
  ⟨onAll.setPst .timeGptp 0 .quiescing, 0x41, .timeGptp, 0, by decide⟩

/-- The hypotheses of a clause are met. -/
theorem witness_PageCommandsRun_5 : ∃ (s : State) (page : Nat) (k : PageKind) (i : Nat), (Memory.wf s = true) ∧ (k ∈
  plainPages) ∧ (s.controls page k i) ∧ (s.pst k i = .resetting) :=
  ⟨onAll.setPst .timeGptp 0 .resetting, 0x41, .timeGptp, 0, by decide⟩

/-- The hypotheses of a clause are met. -/
theorem witness_PageCommandsRun_6 : ∃ (s : State) (page : Nat) (k : PageKind) (i : Nat) (w : Word), (Memory.wf s = true)
  ∧ (s.controls page k i) ∧ (k ≠ .caskRec) :=
  ⟨onAll, 0x41, .timeGptp, 0, 1, by decide⟩

/-- The hypotheses of a clause are met. -/
theorem witness_PageCommandsRun_7 : ∃ (s : State) (page : Nat) (k : PageKind) (i c : Nat) (rs : List (Nat × Nat)) (r :
  Nat × Nat) (o : Nat) (w : Word), (Memory.wf s = true) ∧ (k ∈ [.fabPort, .brgTunnel, .sigNode, .crc, .ddr]) ∧ (pageOf
  page = some (k, i)) ∧ (s.alive k i = true) ∧ ((s.dieLost && lineDiePage k) = false) ∧ (clearRanges k i = some (c, rs))
  ∧ (r ∈ rs) ∧ (r.1 ≤ o) ∧ (o ≤ r.2) ∧ (o % 4 = 0) ∧ (w.getLsbD 0 = true) :=
  ⟨onAll, 0x89, .fabPort, 0, 0x60, [(0x44, 0x5C)], (0x44, 0x5C), 0x48, 1, by decide⟩

/-- The hypotheses of a clause are met. -/
theorem witness_EventsAreRecorded_1 : ∃ (s : State) (n detail : Nat) (k : PageKind) (i b : Nat), (Memory.wf s = true) ∧
  (sourceHome n = some (k, i, b)) ∧ (s.alive k i = true) ∧ (levelSource n = false) :=
  ⟨onAll, 64, 7, .fabGlobal, 0, 0, by decide⟩

/-- The hypotheses of a clause are met. -/
theorem witness_EventsAreRecorded_2 : ∃ (s : State) (n detail : Nat) (k : PageKind) (i b : Nat), (Memory.wf s = true) ∧
  (sourceHome n = some (k, i, b)) ∧ (s.alive k i = true) ∧ (levelSource n = true) ∧ (n ≠ 2) ∧ (n ≠ 3) :=
  ⟨onAll, 47, 0, .upd, 0, 5, by decide⟩

/-- The hypotheses of a clause are met. -/
theorem witness_EventsAreRecorded_3 : ∃ (s : State) (page : Nat) (k : PageKind) (i : Nat) (w : Word), (Memory.wf s =
  true) ∧ (pageOf page = some (k, i)) ∧ (s.alive k i = true) ∧ ((s.dieLost && lineDiePage k) = false) ∧ (k ≠ .caskUser) ∧
  (s.unwatched (0x1000 * page + 0x01C)) :=
  ⟨flds [(.fabGlobal, 0, hdrPend, 3)] onAll, 0x80, .fabGlobal, 0, 1, by decide⟩

/-- The hypotheses of a clause are met. -/
theorem witness_EventsAreRecorded_4 : ∃ (s : State) (page : Nat) (k : PageKind) (i : Nat) (w : Word) (again : List (Nat ×
  Nat)) (x : Nat × Nat) (b : Nat), (Memory.wf s = true) ∧ (pageOf page = some (k, i)) ∧ (s.alive k i = true) ∧ (x ∈
  again) ∧ (sourceHome x.1 = some (k, i, b)) :=
  ⟨onAll, 0x80, .fabGlobal, 0, 1, [(64, 0)], (64, 0), 0, by decide⟩

/-- The hypotheses of a clause are met. -/
theorem witness_EventsAreRecorded_5 : ∃ (s : State) (w : Word) (g : Nat), (s.domOn 3 = true) ∧ (g < 16) ∧ (w.getLsbD g =
  true) ∧ (s.unwatched 0x10084) :=
  ⟨onAll, 2, 1, by decide⟩

/-- The hypotheses of a clause are met. -/
theorem witness_EventsAreRecorded_6 : ∃ (s : State) (r : LogRec) (rest : List LogRec), (Memory.wf s = true) ∧ (s.domOn 3
  = true) ∧ (s.log = r :: rest) :=
  ⟨{ onAll with log := [⟨64, 7, 9⟩] }, ⟨64, 7, 9⟩, [], by decide⟩

/-- The hypotheses of a clause are met. -/
theorem witness_EventsAreRecorded_7 : ∃ (s : State), (s.domOn 3 = true) ∧ (s.log = []) :=
  ⟨onAll, by decide⟩

/-- The hypotheses of a clause are met. -/
theorem witness_EventsAreRecorded_8 : ∃ (s : State), (Memory.wf s = true) ∧ (s.domOn 3 = true) ∧ (s.unwatched 0x1008C) ∧
  (bitOf (s.gf (pageBase .sys 0) hdrRaw) 3 = decide (s.gf (pageBase .evt 0) F.evt_LOG_CTL_THRESH ≤ s.log.length)) :=
  ⟨flds [(.evt, 0, F.evt_LOG_STS_OVF, 1), (.evt, 0, F.evt_LOG_LOST_LOST, 4)] onAll, by decide⟩

/-- The hypotheses of a clause are met. -/
theorem witness_HspiTransactions_1 : ∃ (s : State) (addr off : Nat), (s.hspiUp = true) ∧ (s.hspi.buf = []) ∧ (addr < 2 ^
  32) ∧ (placeOf addr = .bar2 off) :=
  ⟨onAll, 0x44000000, 0x4000000, by decide⟩

/-- The hypotheses of a clause are met. -/
theorem witness_HspiTransactions_2 : ∃ (s : State) (addr off : Nat) (k : PageKind) (i : Nat), (s.hspiUp = true) ∧
  (s.hspi.buf = []) ∧ (addr < 2 ^ 32) ∧ (placeOf addr = .bar0 off) ∧ (off % 4 = 0) ∧ (pageOf (off / 0x1000) = some (k,
  i)) ∧ (popAt k i (off % 0x1000) = none) :=
  ⟨onAll, 0x40, 0x40, .sys, 0, by decide⟩

/-- The hypotheses of a clause are met. -/
theorem witness_HspiTransactions_3 : ∃ (s : State) (addr ecc : Nat), (s.hspiUp = true) ∧ (s.hspi.buf = []) ∧ (addr < 2 ^
  32) ∧ (placeOf addr = .nowhere) :=
  ⟨onAll, 0x80000000, 1, by decide⟩

/-- The hypotheses of a clause are met. -/
theorem witness_HspiTransactions_4 : ∃ (s : State) (addr off : Nat), (s.hspiUp = true) ∧ (s.hspi.buf = []) ∧ (addr < 2 ^
  32) ∧ (placeOf addr = .bar0 off) :=
  ⟨onAll, 0x10040, 0x10040, by decide⟩

/-- The hypotheses of a clause are met. -/
theorem witness_HspiTransactions_5 : ∃ (s : State) (addr d : Nat), (s.hspiUp = true) ∧ (addr < 2 ^ 32) ∧ (d < 2 ^ 32) ∧
  (placeOf addr ≠ .nowhere) :=
  ⟨onAll, 0x10040, 7, by decide⟩

/-- The hypotheses of a clause are met. -/
theorem witness_HspiTransactions_6 : ∃ (s : State) (addr n : Nat), (s.hspiUp = true) ∧ (n % 8 ≠ 0) ∧ (addr < 2 ^ 32) ∧
  (placeOf addr ≠ .nowhere) :=
  ⟨onAll, 0x10040, 7, by decide⟩

/-- The hypotheses of a clause are met. -/
theorem witness_HspiTransactions_7 : ∃ (s : State) (d : Nat) (h : Bool) (rest : List (Nat × Nat × Bool)), (Memory.wf s =
  true) ∧ (s.hspiUp = true) ∧ (s.hspi.buf = (0x40, d, h) :: rest) ∧ (d < 2 ^ 32) :=
  ⟨{ onAll with hspi := ⟨[(0x40, 9, false)], false, false, false, false⟩ }, 9, false, [], by decide⟩

/-- The hypotheses of a clause are met. -/
theorem witness_HspiTransactions_8 : ∃ (s : State) (a d : Nat) (h : Bool) (rest : List (Nat × Nat × Bool)), (Memory.wf s
  = true) ∧ (s.hspiUp = true) ∧ (s.hspi.buf = (a, d, h) :: rest) ∧ (placeOf a = .nowhere) :=
  ⟨{ onAll with hspi := ⟨[(0x80000000, 9, false)], false, false, false, false⟩ }, 0x80000000, 9, false, [], by decide⟩

/-- The hypotheses of a clause are met. -/
theorem witness_HspiTransactions_11 : ∃ (s : State) (code : Nat), (code % 256 ≠ 5) ∧ (code % 256 ≠ 6) :=
  ⟨onAll, 9, by decide⟩

/-- The hypotheses of a clause are met. -/
theorem witness_RegisterAndTableAccess_1 : ∃ (s : State) (w : Word), (Memory.wf s = true) ∧ (s.domOn 3 = true) :=
  ⟨onAll, 3, by decide⟩

/-- The hypotheses of a clause are met. -/
theorem witness_RegisterAndTableAccess_2 : ∃ (s : State) (off ndw ecc : Nat), (s.domOn 3 = true) ∧ (2 < ndw) :=
  ⟨onAll, 0x40, 3, 0, by decide⟩

/-- The hypotheses of a clause are met. -/
theorem witness_RegisterAndTableAccess_3 : ∃ (s : State) (off ecc : Nat) (k : PageKind) (i : Nat), (s.domOn 3 = true) ∧
  (off < 2 ^ 26) ∧ (off % 4 = 0) ∧ (pageOf (off / 0x1000) = some (k, i)) ∧ (popAt k i (off % 0x1000) = none) :=
  ⟨onAll, 0x40, 0, .sys, 0, by decide⟩

/-- The hypotheses of a clause are met. -/
theorem witness_RegisterAndTableAccess_4 : ∃ (s : State) (off ndw : Nat), (s.domOn 3 = true) ∧ (off % 4 = 0) ∧ (off + 4 *
  ndw ≤ 0x04000000) :=
  ⟨onAll, 0x40, 3, by decide⟩

/-- The hypotheses of a clause are met. -/
theorem witness_RegisterAndTableAccess_5 : ∃ (s : State) (off be last ecc : Nat) (w : Word), (off < 0x04000000) :=
  ⟨onAll, 0x40, 15, 0, 0, 3, by decide⟩

/-- The hypotheses of a clause are met. -/
theorem witness_RegisterAndTableAccess_6 : ∃ (s : State) (c o last : Nat) (w : Word), (Memory.wf s = true) ∧ (s.domOn 3 =
  true) ∧ (c < s.grade.clusters) ∧ (s.domOn (pageDomain .ktl c) = true) ∧ (o < 0x10000) ∧ (o % 4 = 0) :=
  ⟨onAll, 0, 8, 0, 3, by decide⟩

/-- The hypotheses of a clause are met. -/
theorem witness_RegisterAndTableAccess_7 : ∃ (s : State) (c o : Nat) (w v : Word), (Memory.wf s = true) ∧ (s.domOn 3 =
  true) ∧ (c < s.grade.clusters) ∧ (s.domOn (pageDomain .ktl c) = true) ∧ (o + 8 ≤ 0x10000) ∧ (o % 4 = 0) :=
  ⟨onAll, 0, 8, 3, 4, by decide⟩

/-- The hypotheses of a clause are met. -/
theorem witness_RegisterAndTableAccess_8 : ∃ (s : State) (off : Nat), (Memory.wf s = true) ∧ (s.domOn 3 = true) :=
  ⟨onAll, 0x40, by decide⟩

/-- The hypotheses of a clause are met. -/
theorem witness_RegisterAndTableAccess_9 : ∃ (s : State) (w : Word), (Memory.wf s = true) ∧ (s.domOn 3 = true) :=
  ⟨onAll, 7, by decide⟩

/-- The hypotheses of a clause are met. -/
theorem witness_FabricRoundCommands_1 : ∃ (s : State) (p o : Nat) (f : FabFrame), (s.sound = true) ∧ (p < 24) ∧ (o < 24)
  ∧ (f.info.tc < 8) ∧ (s.fab.entering.find? (fun x => x.info.src == p) = some f) ∧ (f.bad = false) ∧ (f.info.fixed =
  true) ∧ (onesOf 24 f.info.targets = [o]) ∧ (s.cutOk f = false) ∧ (s.admits p o f.info.tc (max 1 (cellsOf
  f.bytes.length)) = true) ∧ (s.gf (ptB p) F.fabPort_STORE_OCC_LEVEL + max 1 (cellsOf f.bytes.length) ≤ 4096) ∧ (s.outOcc
  o f.info.tc + max 1 (cellsOf f.bytes.length) < 2 ^ 19) :=
  ⟨{ onAll with fab := { onAll.fab with entering := [⟨⟨3, true, 0, 0x100000, 2, 0, 0, 0, 0, 0, 0, false, 0, none, []⟩, List.replicate 64 0, false, 64⟩] } }, 3, 20, ⟨⟨3, true, 0, 0x100000, 2, 0, 0, 0, 0, 0, 0, false, 0, none, []⟩, List.replicate 64 0, false, 64⟩, by decide⟩

/-- The hypotheses of a clause are met. -/
theorem witness_FabricRoundCommands_2 : ∃ (s : State) (i : Nat) (g : Ingress) (b : SpreadBuf), (s.sound = true) ∧ (i <
  24) ∧ (b.out < 24) ∧ (b.tc < 8) ∧ (s.fab.inputs = [(i, g)]) ∧ (g.spread = [b]) ∧ (g.mcast = []) ∧ (g.pins = []) ∧ (0 <
  s.groupSize) ∧ (s.groupSize ≤ b.cells.length) :=
  ⟨{ onAll with fab := { onAll.fab with inputs := [(3, { Ingress.new with spread := [⟨20, 2, List.replicate 24 ⟨⟨3, true, 0, 0x100000, 2, 0, 0, 0, 0, 0, 0, false, 0, none, []⟩, 0, 0, 0, true, false, []⟩, false, false⟩] })] } }, 3, { Ingress.new with spread := [⟨20, 2, List.replicate 24 ⟨⟨3, true, 0, 0x100000, 2, 0, 0, 0, 0, 0, 0, false, 0, none, []⟩, 0, 0, 0, true, false, []⟩, false, false⟩] }, ⟨20, 2, List.replicate 24 ⟨⟨3, true, 0, 0x100000, 2, 0, 0, 0, 0, 0, 0, false, 0, none, []⟩, 0, 0, 0, true, false, []⟩, false, false⟩, by decide⟩

/-- The hypotheses of a clause are met. -/
theorem witness_FabricRoundCommands_3 : ∃ (s : State) (i o c : Nat) (b : SpreadBuf), (s.sound = true) ∧ (b ∈ (s.ing
  i).spread) ∧ (b.out = o) ∧ (b.tc = c) :=
  ⟨{ onAll with fab := { onAll.fab with inputs := [(3, { Ingress.new with spread := [⟨20, 2, [], false, false⟩] })] } }, 3, 20, 2, ⟨20, 2, [], false, false⟩, by decide⟩

/-- The hypotheses of a clause are met. -/
theorem witness_FabricRoundCommands_4 : ∃ (s : State) (i phase o : Nat) (p : Planned), (s.sound = true) ∧ (i < 24) ∧
  (phase < 24) ∧ (bitOf s.pattern ((i + phase) % 24 / 3) = true) ∧ ((s.ing i).plan.find? (fun x => x.phase == phase) =
  some p) ∧ (p.group ≠ 0) ∧ (p.cell.info.outs = [o]) ∧ ((s.tun ((i + phase) % 24 / 3)).fresh < 32768) ∧ ((s.tun ((i +
  phase) % 24 / 3)).freshE < 65536) :=
  ⟨{ onAll with fab := { onAll.fab with inputs := [(3, { Ingress.new with plan := [⟨0, ⟨⟨3, true, 0, 0x100000, 2, 0, 0, 0, 0, 0, 0, false, 0, none, []⟩, 0, 0, 0, true, false, []⟩, 1⟩] })] } }, 3, 0, 20, ⟨0, ⟨⟨3, true, 0, 0x100000, 2, 0, 0, 0, 0, 0, 0, false, 0, none, []⟩, 0, 0, 0, true, false, []⟩, 1⟩, by decide⟩

/-- The hypotheses of a clause are met. -/
theorem witness_FabricRoundCommands_5 : ∃ (s : State), (s.sound = true) ∧ (s.atBoundary = true) :=
  ⟨onAll, by decide⟩

/-- The hypotheses of a clause are met. -/
theorem witness_FabricRoundCommands_6 : ∃ (s : State) (i no n m o b e : Nat) (x : FabCell), (s.sound = true) ∧ (i < 24) ∧
  (n < 8) ∧ (o < 24) ∧ (x.info.tc < 8) ∧ ((∀ y ∈ s.fab.inputs, y.2.plan = [])) ∧ (s.fab.aside = [⟨i, no, n, m, x, some
  (b, [(o, e)])⟩]) ∧ (x.idx = 0) ∧ (x.info.outs = [o]) ∧ (s.gf (ptB o) (F.fabPort_OUT_GROUPS_COUNT.at (4 * x.info.tc)) +
  1 < 2 ^ 12) :=
  ⟨{ onAll with fab := { onAll.fab with aside := [⟨3, 1, 0, 1, ⟨⟨3, true, 0, 0x100000, 2, 0, 0, 0, 0, 0, 0, false, 0, none, []⟩, 0, 0, 0, true, false, []⟩, some (0, [(20, 0)])⟩] } }, 3, 1, 0, 1, 20, 0, 0, ⟨⟨3, true, 0, 0x100000, 2, 0, 0, 0, 0, 0, 0, false, 0, none, []⟩, 0, 0, 0, true, false, []⟩, by decide⟩

/-- The hypotheses of a clause are met. -/
theorem witness_FabricRoundCommands_7 : ∃ (s : State) (o phase c : Nat) (e : ListEntry) (b : CellBuf) (f : Flight),
  (s.sound = true) ∧ (o < 24) ∧ (phase < 24) ∧ (c < 8) ∧ (bitOf s.pattern ((o + 24 - phase) % 24 / 3) = true) ∧
  (s.outRoom o = true) ∧ (s.eligible o ((o + 24 - phase) % 24) = some (c, e, b)) ∧ (e.group = 0) ∧ (b.refs = 1) ∧ (b.lost
  = false) ∧ (b.cell.bad = false) ∧ (b.cell.info.cut = false) ∧ (s.flightOf o b.cell.info = some f) ∧ (f.gone = false) ∧
  (f.handed = false) ∧ (1 < f.left) :=
  ⟨{ runs [(.hostEgress, 20)] onAll with fab := { onAll.fab with slices := [(0, { Slice.new with fresh := 1, freshE := 1, bufs := [⟨0, 0, 1, ⟨⟨3, true, 0, 0x100000, 2, 0, 0, 0, 0, 0, 0, false, 0, none, []⟩, 0, 0, 0, false, false, []⟩, true, false⟩], lists := [⟨20, 2, [⟨0, 0, 0⟩]⟩] })], flights := [⟨3, 0, 20, 2, 0, 2, [], false, false, false, false, []⟩] } }, 20, 20, 2, ⟨0, 0, 0⟩, ⟨0, 0, 1, ⟨⟨3, true, 0, 0x100000, 2, 0, 0, 0, 0, 0, 0, false, 0, none, []⟩, 0, 0, 0, false, false, []⟩, true, false⟩, ⟨3, 0, 20, 2, 0, 2, [], false, false, false, false, []⟩, by decide⟩

/-- The hypotheses of a clause are met. -/
theorem witness_FabricRoundCommands_8 : ∃ (s : State) (m : Nat), (Memory.wf s = true) ∧ (s.alive .fabGlobal 0 = true) ∧
  (m < 24) ∧ (s.gf fabB F.fabGlobal_HOT_CTL_THRESH < s.gf (slB (m / 3)) (F.fabSlice_POS_OCC_COUNT.at (4 * (m % 3)))) ∧
  (bitOf s.fab.hot m = false) ∧ (s.gf fabB F.fabGlobal_RESEED_CTL_AUTO = 0) :=
  ⟨flds [(.fabSlice, 0, F.fabSlice_POS_OCC_COUNT, 30000), (.fabGlobal, 0, F.fabGlobal_RESEED_CTL_AUTO, 0)] onAll, 0, by decide⟩

/-- The hypotheses of a clause are met. -/
theorem witness_SliceLifeCycle_1 : ∃ (s : State) (n : Nat), (s.sound = true) ∧ (s.alive .fabSlice n = true) ∧
  (s.sliceState n = 0) ∧ (s.gf (slB n) F.fabSlice_SLICE_CTL_SKIP = 1) ∧ (s.atBoundary = true) ∧ (s.fab.flights = []) ∧
  (s.fab.groups = []) :=
  ⟨flds [(.fabSlice, 1, F.fabSlice_SLICE_CTL_SKIP, 1)] onAll, 1, by decide⟩

/-- The hypotheses of a clause are met. -/
theorem witness_SliceLifeCycle_2 : ∃ (s : State) (n corr : Nat), (s.sound = true) ∧ (s.alive .fabSlice n = true) ∧
  (s.alive .fabGlobal 0 = true) ∧ (s.sliceState n = 1) ∧ (s.fab.flights = []) :=
  ⟨flds [(.fabSlice, 1, F.fabSlice_SLICE_STS_STATE, 1)] onAll, 1, 2, by decide⟩

/-- The hypotheses of a clause are met. -/
theorem witness_SliceLifeCycle_3 : ∃ (s : State) (n : Nat), (s.sound = true) ∧ (s.alive .fabSlice n = true) ∧ (s.alive
  .fabGlobal 0 = true) ∧ (s.sliceState n = 1) ∧ (s.fab.flights = []) ∧ ((s.tun n).bufs ≠ []) ∧ ((s.tun n).errors = []) ∧
  (2 ≤ s.gf (slB n) F.fabSlice_ESC_CTL_LIMIT) ∧ (s.gf (slB n) F.fabSlice_ECC_UNCORR_COUNT < 0xFFFF) :=
  ⟨{ flds [(.fabSlice, 1, F.fabSlice_SLICE_STS_STATE, 1), (.fabSlice, 1, F.fabSlice_ESC_CTL_LIMIT, 4)] onAll with fab := { onAll.fab with slices := [(1, { Slice.new with fresh := 1, bufs := [⟨0, 0, 1, ⟨⟨3, true, 0, 0x100000, 2, 0, 0, 0, 0, 0, 0, false, 0, none, []⟩, 0, 0, 0, true, false, []⟩, true, false⟩] })] } }, 1, by decide⟩

/-- The hypotheses of a clause are met. -/
theorem witness_SliceLifeCycle_4 : ∃ (s : State) (n : Nat), (s.sound = true) ∧ (s.alive .fabSlice n = true) ∧
  (s.sliceState n = 2) ∧ (s.gf (slB n) F.fabSlice_SLICE_CTL_SKIP = 0) ∧ (s.gf (slB n) hdrFault = 0) :=
  ⟨flds [(.fabSlice, 1, F.fabSlice_SLICE_STS_STATE, 2)] onAll, 1, by decide⟩

/-- The hypotheses of a clause are met. -/
theorem witness_SliceLifeCycle_5 : ∃ (s : State) (n : Nat), (s.sound = true) ∧ (s.alive .fabSlice n = true) ∧
  (s.sliceState n = 3) ∧ ((s.tun n).rebuilt = false) :=
  ⟨flds [(.fabSlice, 1, F.fabSlice_SLICE_STS_STATE, 3)] onAll, 1, by decide⟩

/-- The hypotheses of a clause are met. -/
theorem witness_SliceLifeCycle_6 : ∃ (s : State) (n : Nat), (s.sound = true) ∧ (s.alive .fabSlice n = true) ∧ (s.alive
  .fabGlobal 0 = true) ∧ (s.sliceState n = 3) ∧ ((s.tun n).rebuilt = false) :=
  ⟨flds [(.fabSlice, 1, F.fabSlice_SLICE_STS_STATE, 3)] onAll, 1, by decide⟩

/-- The hypotheses of a clause are met. -/
theorem witness_SliceLifeCycle_7 : ∃ (s : State) (n : Nat), (s.sound = true) ∧ (s.alive .fabSlice n = true) ∧
  (s.sliceState n = 3) ∧ ((s.tun n).rebuilt = true) ∧ (s.atBoundary = true) :=
  ⟨{ flds [(.fabSlice, 1, F.fabSlice_SLICE_STS_STATE, 3)] onAll with fab := { onAll.fab with slices := [(1, { Slice.new with rebuilt := true })] } }, 1, by decide⟩

/-- The hypotheses of a clause are met. -/
theorem witness_SliceLifeCycle_8 : ∃ (s : State) (n : Nat), (s.sound = true) ∧ (s.alive .fabSlice n = true) ∧ (s.alive
  .fabGlobal 0 = true) ∧ (s.sliceState n = 4) ∧ ((∀ x ∈ s.fab.pairSlices, bitOf x.2 n = true)) :=
  ⟨flds [(.fabSlice, 1, F.fabSlice_SLICE_STS_STATE, 4)] onAll, 1, by decide⟩

/-- The hypotheses of a clause are met. -/
theorem witness_SeedAndPinningCommands_1 : ∃ (s : State) (w : Word), (Memory.wf s = true) ∧ (s.alive .fabGlobal 0 = true)
  ∧ (w.getLsbD 1 = true) ∧ (s.rngRuns = true) :=
  ⟨flds [(.kilnMain, 0, F.kilnMain_RNG_STS_RUN, 1)] onAll, 2, by decide⟩

/-- The hypotheses of a clause are met. -/
theorem witness_SeedAndPinningCommands_2 : ∃ (s : State) (w : Word), (Memory.wf s = true) ∧ (s.alive .fabGlobal 0 = true)
  ∧ (w.getLsbD 1 = true) ∧ (s.rngRuns = false) :=
  ⟨flds [(.kilnMain, 0, F.kilnMain_RNG_STS_RUN, 0)] onAll, 2, by decide⟩

/-- The hypotheses of a clause are met. -/
theorem witness_SeedAndPinningCommands_3 : ∃ (s : State) (w : Word), (Memory.wf s = true) ∧ (s.alive .fabGlobal 0 = true)
  ∧ (w.getLsbD 1 = false) :=
  ⟨onAll, 1, by decide⟩

/-- The hypotheses of a clause are met. -/
theorem witness_SeedAndPinningCommands_4 : ∃ (s : State) (w : Word), (Memory.wf s = true) ∧ (s.alive .fabGlobal 0 = true)
  :=
  ⟨onAll, 5, by decide⟩

/-- The hypotheses of a clause are met. -/
theorem witness_SeedAndPinningCommands_5 : ∃ (s : State) (w : Word), (Memory.wf s = true) ∧ (s.alive .fabGlobal 0 = true)
  ∧ (s.gf fabB hdrLock = 0) :=
  ⟨onAll, 1, by decide⟩

/-- The hypotheses of a clause are met. -/
theorem witness_SeedAndPinningCommands_6 : ∃ (s : State) (w : Word), (Memory.wf s = true) ∧ (s.alive .fabGlobal 0 = true)
  ∧ (s.gf fabB hdrLock = 0) ∧ (natAnd (bitsOf w.toNat 7 0) (bitsOf w.toNat 15 8) = 0) ∧ (bitsOf w.toNat 7 0 ≠ 0) ∧
  (bitsOf w.toNat 15 8 ≠ 0) ∧ (bitsOf w.toNat 7 0 < 2 ^ s.grade.slices) ∧ (bitsOf w.toNat 15 8 < 2 ^ s.grade.slices) :=
  ⟨onAll, 0x0C03, by decide⟩

/-- The hypotheses of a clause are met. -/
theorem witness_SeedAndPinningCommands_7 : ∃ (s : State) (o c : Nat), (Memory.wf s = true) ∧ (o < 24) ∧ (c < 8) ∧
  (s.heldPair o c = true) ∧ (s.outOcc o c ≤ s.heldCells o c) :=
  ⟨{ onAll with fab := { onAll.fab with holds := [⟨3, 6, false⟩], pairSeed := [(30, 9)] } }, 3, 6, by decide⟩

/-- The hypotheses of a clause are met. -/
theorem witness_SeedAndPinningCommands_8 : ∃ (s : State) (o c : Nat), (Memory.wf s = true) ∧ (s.alive .fabGlobal 0 =
  true) ∧ (o < 24) ∧ (c < 8) ∧ (s.heldPair o c = true) ∧ (s.heldCells o c < s.outOcc o c) :=
  ⟨flds [(.fabPort, 3, F.fabPort_OUT_OCC_COUNT.at 24, 2)] ({ onAll with fab := { onAll.fab with holds := [⟨3, 6, false⟩] } }), 3, 6, by decide⟩

/-- The hypotheses of a clause are met. -/
theorem witness_SeedAndPinningCommands_9 : ∃ (s : State) (o c : Nat), ((⟨o, c, true⟩ : Hold) ∈ s.fab.holds) :=
  ⟨{ onAll with fab := { onAll.fab with holds := [⟨3, 6, true⟩] } }, 3, 6, by decide⟩

/-- The hypotheses of a clause are met. -/
theorem witness_EgressCommands_1 : ∃ (s : State) (n : Nat) (f : EgFrame), (s.sound = true) ∧ (n < 16) ∧ (s.mayTransmit n
  = true) ∧ ((s.eg n).sending = none) ∧ ((s.eg n).queue = [f]) ∧ (f.whole = true) ∧ (f.info.tc < 8) ∧ (f.info.ctx % 4096
  = 0) ∧ (f.info.src ≠ 22) ∧ ((s.port n).mode ≠ 5) ∧ (s.gf (egBase n) F.hostEgress_CBS_EN_MASK = 0) ∧ (s.gf (egBase n)
  F.hostEgress_GATE_CTL_GATE_EN = 0) ∧ (bitOf (s.gf (egBase n) F.hostEgress_GATE_STS_GATES) f.info.tc = true) ∧ (s.gf
  (pageBase .emac n) F.emac_LINK_STS_LINK = 1) ∧ (f.bytes.length ≤ s.maxLen n) ∧ (s.gf (pageBase .macsec n)
  F.macsec_SECY_CTL_TX_EN = 0) ∧ (s.gf (pageBase .macsec n) F.macsec_SECY_CTL_RX_EN = 0) :=
  ⟨{ (flds [(.emac, 0, F.emac_LINK_STS_LINK, 1)] (runs [(.emac, 0), (.hostEgress, 0)] onAll)) with egress := [(0, { Egress.new with queue := [⟨⟨0, true, 0, 1, 2, 0, 0, 0, 0, 0, 0, false, 0, none, []⟩, List.replicate 64 0, 1, true, false⟩] })] }, 0, ⟨⟨0, true, 0, 1, 2, 0, 0, 0, 0, 0, 0, false, 0, none, []⟩, List.replicate 64 0, 1, true, false⟩, by decide⟩

/-- The hypotheses of a clause are met. -/
theorem witness_EgressCommands_2 : ∃ (s : State) (n : Nat) (x : Sending), (s.sound = true) ∧ (n < 16) ∧ (s.alive
  .hostEgress n = true) ∧ (s.alive .emac n = true) ∧ ((s.eg n).queue = []) ∧ ((s.eg n).sending = some x) ∧ (x.frame.whole
  = true) ∧ ((s.port n).mode ≠ 5) :=
  ⟨{ (flds [(.emac, 0, F.emac_LINK_STS_LINK, 1)] (runs [(.emac, 0), (.hostEgress, 0)] onAll)) with egress := [(0, { Egress.new with sending := some ⟨⟨⟨0, true, 0, 1, 2, 0, 0, 0, 0, 0, 0, false, 0, none, []⟩, List.replicate 64 0, 1, true, false⟩, ⟨false, none, []⟩, none, 5, 0⟩ })] }, 0, ⟨⟨⟨0, true, 0, 1, 2, 0, 0, 0, 0, 0, 0, false, 0, none, []⟩, List.replicate 64 0, 1, true, false⟩, ⟨false, none, []⟩, none, 5, 0⟩, by decide⟩

/-- The hypotheses of a clause are met. -/
theorem witness_EgressCommands_3 : ∃ (s : State) (n : Nat) (x : Sending), (s.sound = true) ∧ (n < 16) ∧ ((s.eg n).sending
  = some x) ∧ (x.frame.whole = false) ∧ (x.prot = none) :=
  ⟨{ (flds [(.emac, 0, F.emac_LINK_STS_LINK, 1)] (runs [(.emac, 0), (.hostEgress, 0)] onAll)) with egress := [(0, { Egress.new with sending := some { (⟨⟨⟨0, true, 0, 1, 2, 0, 0, 0, 0, 0, 0, false, 0, none, []⟩, List.replicate 64 0, 1, true, false⟩, ⟨false, none, []⟩, none, 5, 0⟩ : Sending) with frame := { (⟨⟨0, true, 0, 1, 2, 0, 0, 0, 0, 0, 0, false, 0, none, []⟩, List.replicate 64 0, 1, true, false⟩ : EgFrame) with whole := false } } })] }, 0, { (⟨⟨⟨0, true, 0, 1, 2, 0, 0, 0, 0, 0, 0, false, 0, none, []⟩, List.replicate 64 0, 1, true, false⟩, ⟨false, none, []⟩, none, 5, 0⟩ : Sending) with frame := { (⟨⟨0, true, 0, 1, 2, 0, 0, 0, 0, 0, 0, false, 0, none, []⟩, List.replicate 64 0, 1, true, false⟩ : EgFrame) with whole := false } }, by decide⟩

/-- The hypotheses of a clause are met. -/
theorem witness_EgressCommands_4 : ∃ (s : State) (n : Nat), (s.sound = true) ∧ (n < 16) :=
  ⟨onAll, 3, by decide⟩

/-- The hypotheses of a clause are met. -/
theorem witness_EgressCommands_5 : ∃ (s : State) (n : Nat) (w : Word), (s.sound = true) ∧ (n < 16) ∧ (s.alive .hostEgress
  n = true) ∧ (w.getLsbD 1 = true) ∧ (0 < s.gf (egBase n) F.hostEgress_ADMIN_CYCLE_NS) :=
  ⟨flds [(.hostEgress, 3, F.hostEgress_ADMIN_CYCLE_NS, 100000)] onAll, 3, 2, by decide⟩

/-- The hypotheses of a clause are met. -/
theorem witness_EgressCommands_6 : ∃ (s : State) (n : Nat) (q : GateList), (s.sound = true) ∧ (n < 16) ∧ (s.alive
  .hostEgress n = true) ∧ (s.alive .hostGlobal 0 = true) ∧ ((s.eg n).pend = some q) ∧ ((s.eg n).changeAt ≤ s.now) :=
  ⟨{ (flds [(.emac, 0, F.emac_LINK_STS_LINK, 1)] (runs [(.emac, 0), (.hostEgress, 0)] onAll)) with egress := [(0, { Egress.new with pend := some ⟨[(255, 1000)], 1, 0, 1000, 0⟩ })] }, 0, ⟨[(255, 1000)], 1, 0, 1000, 0⟩, by decide⟩

/-- The hypotheses of a clause are met. -/
theorem witness_EgressCommands_7 : ∃ (s : State) (p : Nat), (s.sound = true) ∧ (s.alive .hostEgress p = true) ∧ (s.pst
  .hostEgress p = .quiescing) ∧ ((∀ f ∈ (s.eg p).queue, f.info.tc < 8)) :=
  ⟨{ (flds [(.emac, 0, F.emac_LINK_STS_LINK, 1)] (runs [(.emac, 0), (.hostEgress, 0)] onAll)) with egress := [(0, { Egress.new with queue := [⟨⟨0, true, 0, 1, 2, 0, 0, 0, 0, 0, 0, false, 0, none, []⟩, List.replicate 64 0, 1, true, false⟩] })] }.setPst .hostEgress 0 .quiescing, 0, by decide⟩

/-- The hypotheses of a clause are met. -/
theorem witness_EgressCommands_8 : ∃ (s : State) (queue : Bool) (n tc : Nat), (Memory.wf s = true) ∧ (s.gf hgB
  F.hostGlobal_PROT_MODE = 0) :=
  ⟨flds [(.hostGlobal, 0, F.hostGlobal_PROT_MODE, 0)] onAll, true, 3, 0, by decide⟩

/-- The hypotheses of a clause are met. -/
theorem witness_EgressCommands_9 : ∃ (s : State) (n tc : Nat), (Memory.wf s = true) ∧ (s.alive .hostGlobal 0 = true) ∧ (n
  < 64) :=
  ⟨onAll, 3, 0, by decide⟩

/-- The hypotheses of a clause are met. -/
theorem witness_HostQueueCommands_1 : ∃ (s : State) (n : Nat), (s.sound = true) ∧ (s.domOn 3 = true) ∧ (n < 64) ∧
  (s.alive .hostQueue (n / 16) = true) ∧ (s.qf n F.hostQueue_Q_CTL_RUN = 0) :=
  ⟨onAll, 3, by decide⟩

/-- The hypotheses of a clause are met. -/
theorem witness_HostQueueCommands_2 : ∃ (s : State) (n : Nat), (s.sound = true) ∧ (s.domOn 3 = true) ∧ (n < 64) ∧
  (s.alive .hostQueue (n / 16) = true) ∧ (s.qf n F.hostQueue_Q_CTL_RUN = 1) :=
  ⟨flds [(.hostQueue, 0, F.hostQueue_Q_CTL_RUN, 1)] (runs [(.hostQueue, 0), (.hostGlobal, 0), (.hostEgress, 16)] onAll), 0, by decide⟩

/-- The hypotheses of a clause are met. -/
theorem witness_HostQueueCommands_3 : ∃ (s : State) (n : Nat), (s.sound = true) ∧ (n < 64) ∧ (s.alive .hostQueue (n / 16)
  = true) ∧ (s.qf n F.hostQueue_Q_CTL_RUN = 0) :=
  ⟨onAll, 0, by decide⟩

/-- The hypotheses of a clause are met. -/
theorem witness_HostQueueCommands_4 : ∃ (s : State) (n : Nat) (w : Word), (s.sound = true) ∧ (s.domOn 3 = true) ∧ (n <
  64) ∧ (s.alive .hostQueue (n / 16) = true) :=
  ⟨onAll, 0, 5, by decide⟩

/-- The hypotheses of a clause are met. -/
theorem witness_HostQueueCommands_5 : ∃ (s : State) (p n : Nat) (f : EgFrame) (posted : Bytes), (s.sound = true) ∧ (16 ≤
  p) ∧ (p < 20) ∧ (s.alive .hostEgress p = true) ∧ (s.pst .hostEgress p = .run) ∧ ((s.eg p).queue = [f]) ∧ ((s.eg
  p).writing = none) ∧ (s.queueBusy n = false) ∧ (f.whole = true) ∧ (f.bad = false) ∧ (f.info.tc < 8) ∧ (f.info.queue =
  some n) ∧ (n < 64) ∧ (s.queueRuns n = true) ∧ (s.run .hostGlobal 0 = true) ∧ ((s.hq n).tx = false) ∧ ((s.hq n).fifo =
  false) ∧ ((s.hq n).hport = (p - 16) / 2) ∧ (0 < (withoutFcs f.bytes).length) ∧ ((withoutFcs f.bytes).length ≤ (s.hq
  n).bufLen) ∧ (s.qf n F.hostQueue_HEAD_INDEX < (s.hq n).size) ∧ (s.qf n F.hostQueue_TAIL_INDEX < (s.hq n).size) ∧ (s.qf
  n F.hostQueue_TAIL_INDEX ≠ s.qf n F.hostQueue_HEAD_INDEX) :=
  ⟨{ (flds [(.hostQueue, 0, F.hostQueue_Q_CTL_RUN, 1), (.hostQueue, 0, F.hostQueue_TAIL_INDEX, 1)] (runs [(.hostQueue, 0), (.hostGlobal, 0), (.hostEgress, 16)] onAll)) with egress := [(16, { Egress.new with queue := [⟨⟨0, true, 0, 0x10000, 2, 0, 0, 0, 0, 0, 0, false, 0, some 0, []⟩, List.replicate 64 0, 1, true, false⟩] })], hostQ := [(0, ⟨0x40000, 0, 2048, 0⟩)] }, 16, 0, ⟨⟨0, true, 0, 0x10000, 2, 0, 0, 0, 0, 0, 0, false, 0, some 0, []⟩, List.replicate 64 0, 1, true, false⟩, [], by decide⟩

/-- The hypotheses of a clause are met. -/
theorem witness_HostQueueCommands_6 : ∃ (s : State) (n : Nat), (s.sound = true) ∧ ((s.hq n).unsignalled ≠ 0) :=
  ⟨{ onAll with hostQ := [(0, ⟨0x40000, 0, 2048, 2⟩)] }, 0, by decide⟩

/-- The hypotheses of a clause are met. -/
theorem witness_HostQueueCommands_7 : ∃ (s : State) (n : Nat) (d b : Bytes), (s.sound = true) ∧ (n < 64) ∧ (s.queueRuns n
  = true) ∧ ((s.hq n).tx = true) ∧ ((s.hq n).fifo = false) ∧ (s.alive .hostEgress (16 + 2 * (s.hq n).hport) = true) ∧
  (d.length = 16) ∧ (bitOf (byteAt d 15) 5 = true) ∧ (leAt d 8 2 ≤ 9212) ∧ (0 < byteAt d 11) ∧ (byteAt d 11 ≤ 24) ∧
  (s.grade.fPort (byteAt d 11 - 1) = true) ∧ (s.qf n F.hostQueue_HEAD_INDEX < (s.hq n).size) ∧ (s.qf n
  F.hostQueue_TAIL_INDEX < (s.hq n).size) ∧ (s.qf n F.hostQueue_TAIL_INDEX ≠ s.qf n F.hostQueue_HEAD_INDEX) :=
  ⟨{ (flds [(.hostQueue, 0, F.hostQueue_Q_CTL_RUN, 1), (.hostQueue, 0, F.hostQueue_TAIL_INDEX, 1)] (runs [(.hostQueue, 0), (.hostGlobal, 0), (.hostEgress, 16)] onAll)) with hostQ := [(0, ⟨0x40001, 0, 2048, 0⟩)] }, 0, [0, 0, 0, 0, 0, 0, 0, 0, 64, 0, 0, 1, 0, 0, 0, 0x20], List.replicate 64 0, by decide⟩

/-- The hypotheses of a clause are met. -/
theorem witness_HostQueueCommands_8 : ∃ (s : State) (n : Nat), (s.sound = true) ∧ (n < 64) ∧ (s.queueServes n = true) ∧
  (s.alive .hostGlobal 0 = true) :=
  ⟨flds [(.hostQueue, 0, F.hostQueue_Q_CTL_RUN, 1)] (runs [(.hostQueue, 0), (.hostGlobal, 0), (.hostEgress, 16)] onAll), 0, by decide⟩

/-- The hypotheses of a clause are met. -/
theorem witness_HostQueueCommands_9 : ∃ (s : State) (n : Nat), (s.sound = true) ∧ (n < 64) ∧ (s.queueServes n = true) ∧
  (s.alive .hostGlobal 0 = true) :=
  ⟨flds [(.hostQueue, 0, F.hostQueue_Q_CTL_RUN, 1)] (runs [(.hostQueue, 0), (.hostGlobal, 0), (.hostEgress, 16)] onAll), 0, by decide⟩

/-- The hypotheses of a clause are met. -/
theorem witness_ForwardingCommands_1 : ∃ (s : State) (p : Nat) (f : RxFrame), (s.sound = true) ∧ (p < 24) ∧ (s.run .pipe
  (pipeFor p) = true) ∧ (s.inTurn p = true) ∧ (s.fwd.waiting.find? (fun x => x.src == p) = some f) ∧ (f.capture = none) ∧
  (f.bad = false) ∧ (beNat (slice f.bytes 0 6) / 16 = 0x0180C200000) ∧ (bitOf (s.gf shB F.pipeShared_TRAP_MASK) (beNat
  (slice f.bytes 0 6) % 16) = true) :=
  ⟨{ (flds [(.pipeShared, 0, F.pipeShared_TRAP_MASK, 1)] (runs [(.pipe, 0), (.pipeShared, 0)] onAll)) with fwd := { onAll.fwd with waiting := [⟨0, 5, [1, 0x80, 0xC2, 0, 0, 0, 2, 0, 0, 0, 0, 1, 8, 0] ++ List.replicate 50 0, [], false, 0, none, 64, none⟩] } }, 0, ⟨0, 5, [1, 0x80, 0xC2, 0, 0, 0, 2, 0, 0, 0, 0, 1, 8, 0] ++ List.replicate 50 0, [], false, 0, none, 64, none⟩, by decide⟩

/-- The hypotheses of a clause are met. -/
theorem witness_ForwardingCommands_2 : ∃ (s : State) (p : Nat) (f : RxFrame), (s.sound = true) ∧ (p < 24) ∧ (s.run .pipe
  (pipeFor p) = true) ∧ (s.inTurn p = true) ∧ (s.fwd.waiting.find? (fun x => x.src == p) = some f) ∧ (f.capture = none) ∧
  (f.bad = false) ∧ (beNat (slice f.bytes 0 6) / 16 = 0x0180C200000) ∧ (bitOf (s.gf shB F.pipeShared_TRAP_MASK) (beNat
  (slice f.bytes 0 6) % 16) = false) :=
  ⟨{ (flds [(.pipeShared, 0, F.pipeShared_TRAP_MASK, 0)] (runs [(.pipe, 0), (.pipeShared, 0)] onAll)) with fwd := { onAll.fwd with waiting := [⟨0, 5, [1, 0x80, 0xC2, 0, 0, 0, 2, 0, 0, 0, 0, 1, 8, 0] ++ List.replicate 50 0, [], false, 0, none, 64, none⟩] } }, 0, ⟨0, 5, [1, 0x80, 0xC2, 0, 0, 0, 2, 0, 0, 0, 0, 1, 8, 0] ++ List.replicate 50 0, [], false, 0, none, 64, none⟩, by decide⟩

/-- The hypotheses of a clause are met. -/
theorem witness_ForwardingCommands_3 : ∃ (s : State) (p : Nat) (x : Looked), (s.fwd.looked.find? (fun x => x.frame.src ==
  p) = some x) ∧ (x.strip = false) ∧ (x.insert = none) ∧ (x.dei = false) ∧ (x.split = false) ∧ (x.targets ≠ 0) :=
  ⟨{ (flds [] (runs [(.pipe, 0), (.pipeShared, 0)] onAll)) with fwd := { onAll.fwd with looked := [⟨⟨0, 5, [1, 0x80, 0xC2, 0, 0, 0, 2, 0, 0, 0, 0, 1, 8, 0] ++ List.replicate 50 0, [], false, 0, none, 64, none⟩, 4, 0, false, 1, 0, 0, 1, 9, false, none, false, 12, false⟩] } }, 0, ⟨⟨0, 5, [1, 0x80, 0xC2, 0, 0, 0, 2, 0, 0, 0, 0, 1, 8, 0] ++ List.replicate 50 0, [], false, 0, none, 64, none⟩, 4, 0, false, 1, 0, 0, 1, 9, false, none, false, 12, false⟩, by decide⟩

/-- The hypotheses of a clause are met. -/
theorem witness_ForwardingCommands_4 : ∃ (s : State) (k : Nat) (r : LearnReq) (rest : List LearnReq) (e : FdbEntry),
  (s.sound = true) ∧ (k < 2) ∧ ((s.pipeSt k).learn = r :: rest) ∧ (r.mac < 2 ^ 48) ∧ (r.fid < 4096) ∧ (r.port < 16) ∧
  (s.fdbFind k r.fid (beBytes 6 r.mac) = none) ∧ (((s.fdbPlaces k r.fid (beBytes 6 r.mac)).map s.fdbAt).find? (fun e =>
  !e.valid) = some e) :=
  ⟨{ onAll with fwd := { onAll.fwd with pipes := [(0, { Pipe.new with learn := [⟨0x020000000001, 1, 3⟩] })] } }, 0, ⟨0x020000000001, 1, 3⟩, [], ((((onAll.fdbPlaces 0 1 (beBytes 6 0x020000000001)).map onAll.fdbAt).head?).getD (onAll.fdbAt 0)), by decide⟩

/-- The hypotheses of a clause are met. -/
theorem witness_ForwardingCommands_5 : ∃ (s : State) (k : Nat), (s.sound = true) ∧ (k < 2) ∧ (s.gf (ppB k)
  F.pipe_AGE_CTL_AGE_EN = 1) ∧ ((s.pipeSt k).sparge < 16448) ∧ ((s.fdbAt (spargeOff k (s.pipeSt k).sparge)).valid = true)
  ∧ ((s.fdbAt (spargeOff k (s.pipeSt k).sparge)).static = false) ∧ ((s.fdbAt (spargeOff k (s.pipeSt k).sparge)).pinned =
  false) :=
  ⟨flds [(.pipe, 0, F.pipe_AGE_CTL_AGE_EN, 1)] (onAll.b2Write 0x04000000 [2, 0, 0, 0, 0, 1, 0x01, 0x80, 0x83, 0, 0, 0, 0, 0, 0, 0]), 0, by decide⟩

/-- The hypotheses of a clause are met. -/
theorem witness_ForwardingCommands_6 : ∃ (s : State) (k : Nat), (s.sound = true) ∧ (k < 2) ∧ (s.gf (ppB k)
  F.pipe_AGE_CTL_AGE_EN = 1) ∧ ((s.pipeSt k).sparge < 16448) ∧ ((s.fdbAt (spargeOff k (s.pipeSt k).sparge)).valid = true)
  ∧ ((s.fdbAt (spargeOff k (s.pipeSt k).sparge)).static = false) ∧ ((s.fdbAt (spargeOff k (s.pipeSt k).sparge)).pinned =
  false) :=
  ⟨flds [(.pipe, 0, F.pipe_AGE_CTL_AGE_EN, 1)] (onAll.b2Write 0x04000000 [2, 0, 0, 0, 0, 1, 0x01, 0x80, 0x43, 0, 0, 0, 0, 0, 0, 0]), 0, by decide⟩

/-- The hypotheses of a clause are met. -/
theorem witness_ForwardingCommands_7 : ∃ (s : State) (k : Nat) (w : Word), (s.sound = true) ∧ (s.domOn 3 = true) ∧ (k <
  2) ∧ (s.alive .pipe k = true) ∧ (w.getLsbD 31 = true) ∧ (s.gf (ppB k) F.pipe_FDB_FLUSH_BUSY = 0) :=
  ⟨onAll, 0, 0x80000000, by decide⟩

/-- The hypotheses of a clause are met. -/
theorem witness_ForwardingCommands_8 : ∃ (s : State) (k i : Nat) (st bp bf : Bool) (port fid : Nat), (s.sound = true) ∧
  (k < 2) ∧ ((s.pipeSt k).flush = some (st, bp, port, bf, fid)) ∧ ((s.pipeSt k).visited ≤ i) ∧ (i < 16448) ∧ ((st = true
  ∨ (s.fdbAt (spargeOff k i)).static = false)) ∧ ((bp = false ∨ (s.fdbAt (spargeOff k i)).mcast = false ∧ (s.fdbAt
  (spargeOff k i)).port = normPort port)) ∧ ((bf = false ∨ (s.fdbAt (spargeOff k i)).fid = fid)) :=
  ⟨{ (onAll.b2Write 0x04000000 [2, 0, 0, 0, 0, 1, 0x01, 0x80, 0x83, 0, 0, 0, 0, 0, 0, 0]) with fwd := { onAll.fwd with pipes := [(0, { Pipe.new with flush := some (false, false, 0, false, 0) })] } }, 0, 0, false, false, false, 0, 0, by decide⟩

/-- The hypotheses of a clause are met. -/
theorem witness_ForwardingCommands_9 : ∃ (s : State) (i : Nat), (s.sound = true) ∧ (s.alive .pipeShared 0 = true) ∧ (i <
  1024) ∧ (s.srfDue i = true) :=
  ⟨{ (onAll.b2Write 0x05200000 [0x80, 0, 0, 1]) with cycles := 200000, fwd := { onAll.fwd with srf := [(0, 1)] } }, 0, by decide⟩

/-- The hypotheses of a clause are met. -/
theorem witness_StreamFlipCommands_1 : ∃ (s : State), (Memory.wf s = true) ∧ (s.run .pipeShared 0 = true) ∧ (s.gf shB
  F.pipeShared_STREAM_BANK_DRAINING = 0) :=
  ⟨runs [(.pipeShared, 0)] onAll, by decide⟩

/-- The hypotheses of a clause are met. -/
theorem witness_StreamFlipCommands_2 : ∃ (s : State), (Memory.wf s = true) ∧ (s.run .pipeShared 0 = true) ∧ (s.gf shB
  F.pipeShared_STREAM_BANK_DRAINING = 1) :=
  ⟨flds [(.pipeShared, 0, F.pipeShared_STREAM_BANK_DRAINING, 1)] (runs [(.pipeShared, 0)] onAll), by decide⟩

/-- The hypotheses of a clause are met. -/
theorem witness_StreamFlipCommands_3 : ∃ (s : State), (Memory.wf s = true) ∧ (s.alive .pipeShared 0 = true) ∧ (s.now ≤
  s.streamAt) :=
  ⟨runs [(.pipeShared, 0)] onAll, by decide⟩

/-- The hypotheses of a clause are met. -/
theorem witness_StreamFlipCommands_4 : ∃ (s : State), (Memory.wf s = true) ∧ (s.alive .pipeShared 0 = true) :=
  ⟨runs [(.pipeShared, 0)] onAll, by decide⟩

/-- The hypotheses of a clause are met. -/
theorem witness_StreamFlipCommands_5 : ∃ (s : State), (Memory.wf s = true) ∧ (s.run .pipeShared 0 = true) ∧ (s.gf shB
  F.pipeShared_STREAM_BANK_DRAINING = 0) ∧ (s.fwd.flip = .at_) ∧ (s.streamAt ≤ s.now) :=
  ⟨{ runs [(.pipeShared, 0)] onAll with fwd := { onAll.fwd with flip := .at_ } }, by decide⟩

/-- The hypotheses of a clause are met. -/
theorem witness_StreamFlipCommands_6 : ∃ (s : State), (Memory.wf s = true) ∧ (s.gf shB F.pipeShared_STREAM_BANK_DRAINING
  = 1) ∧ (s.streamDrained = true) ∧ (s.fwd.flip = .none) :=
  ⟨flds [(.pipeShared, 0, F.pipeShared_STREAM_BANK_DRAINING, 1)] (runs [(.pipeShared, 0)] onAll), by decide⟩

/-- The hypotheses of a clause are met. -/
theorem witness_StreamFlipCommands_7 : ∃ (s : State) (vid : Nat) (w0 w1 w2 w3 : Word), (s.sound = true) ∧ (vid < 4096) ∧
  (s.domOn 3 = true) ∧ (s.cask.watch = []) :=
  ⟨onAll, 7, 1, 2, 3, 4, by decide⟩

/-- The hypotheses of a clause are met. -/
theorem witness_EthernetPortCommands_1 : ∃ (s : State) (n code : Nat), (s.sound = true) ∧ (n < 16) ∧ (s.alive .emac n =
  true) ∧ (1 ≤ (s.port n).mode) ∧ ((s.port n).mode ≤ 4) ∧ ((s.gf (emB n) F.emac_LANE_CFG_AN_EN = 0 ∨ (s.port n).mode = 2
  ∨ (s.port n).mode = 4)) :=
  ⟨{ (flds [] (runs [(.emac, 0)] onAll)) with ports := [(0, ⟨2, 0, 0, [], 0, none, false⟩)] }, 0, 3, by decide⟩

/-- The hypotheses of a clause are met. -/
theorem witness_EthernetPortCommands_2 : ∃ (s : State) (n code : Nat), (s.sound = true) ∧ (n < 16) ∧ (s.alive .emac n =
  true) ∧ (((s.port n).mode = 1 ∨ (s.port n).mode = 3)) ∧ (s.gf (emB n) F.emac_LANE_CFG_AN_EN = 1) ∧ (code ∈ modeSpeeds
  (s.port n).mode) :=
  ⟨{ (flds [(.emac, 0, F.emac_LANE_CFG_AN_EN, 1)] (runs [(.emac, 0)] onAll)) with ports := [(0, ⟨1, 0, 0, [], 0, none, false⟩)] }, 0, 2, by decide⟩

/-- The hypotheses of a clause are met. -/
theorem witness_EthernetPortCommands_3 : ∃ (s : State) (n : Nat) (lock : Bool), (s.sound = true) ∧ (n < 16) ∧ (s.alive
  .emac n = true) ∧ (1 ≤ (s.port n).mode) ∧ ((s.port n).mode ≤ 4) ∧ (s.gf (emB n) F.emac_LINK_STS_LINK = 1) ∧ ((s.eg
  n).sending.bind (fun x => x.prot) = none) :=
  ⟨{ (flds [(.emac, 0, F.emac_LINK_STS_LINK, 1)] (runs [(.emac, 0)] onAll)) with ports := [(0, ⟨2, 0, 0, [], 0, none, false⟩)] }, 0, true, by decide⟩

/-- The hypotheses of a clause are met. -/
theorem witness_EthernetPortCommands_4 : ∃ (s : State) (n ago : Nat) (b : Bytes), (s.sound = true) ∧ (n < 16) ∧ (s.run
  .emac n = true) ∧ (s.gf (emB n) F.emac_LINK_STS_LINK = 1) ∧ ((s.port n).mode ≠ 5) ∧ ((s.port n).rxBytes + s.maxLen n ≤
  65536) ∧ (64 ≤ b.length) ∧ (b.length ≤ s.maxLen n) ∧ (fcsGood b = true) ∧ (s.gf (pageBase .macsec n)
  F.macsec_SECY_CTL_RX_EN = 0) ∧ (s.gf (pageBase .macsec n) F.macsec_SECY_CTL_TX_EN = 0) :=
  ⟨{ (flds [(.emac, 0, F.emac_LINK_STS_LINK, 1)] (runs [(.emac, 0)] onAll)) with ports := [(0, ⟨2, 0, 0, [], 0, none, false⟩)] }, 0, 5, (List.replicate 60 (1 : Byte) ++ ethFcs (List.replicate 60 1)), by decide⟩

/-- The hypotheses of a clause are met. -/
theorem witness_EthernetPortCommands_5 : ∃ (s : State) (n ago : Nat) (b : Bytes), (s.sound = true) ∧ (n < 16) ∧ (s.run
  .emac n = true) ∧ (s.gf (emB n) F.emac_LINK_STS_LINK = 1) ∧ ((s.port n).mode ≠ 5) ∧ ((s.port n).rxBytes + s.maxLen n ≤
  65536) ∧ (b.length < 64) ∧ (64 ≤ s.maxLen n) ∧ (s.gf (emB n) F.emac_RX_CTL_CAPTURE = 0) :=
  ⟨{ (flds [(.emac, 0, F.emac_LINK_STS_LINK, 1)] (runs [(.emac, 0)] onAll)) with ports := [(0, ⟨2, 0, 0, [], 0, none, false⟩)] }, 0, 5, [1, 2, 3], by decide⟩

/-- The hypotheses of a clause are met. -/
theorem witness_EthernetPortCommands_6 : ∃ (s : State) (n : Nat) (r : StampRec) (rest : List StampRec), (s.sound = true)
  ∧ (n < 16) ∧ (s.alive .emac n = true) ∧ ((s.port n).stamps = r :: rest) :=
  ⟨{ (flds [] (runs [(.emac, 0)] onAll)) with ports := [(0, ⟨2, 0, 0, [⟨0x80000001, 7⟩], 0, none, false⟩)] }, 0, ⟨0x80000001, 7⟩, [], by decide⟩

/-- The hypotheses of a clause are met. -/
theorem witness_EthernetPortCommands_7 : ∃ (s : State) (n : Nat) (w : Word), (s.sound = true) ∧ (s.domOn 3 = true) ∧ (n <
  16) ∧ (s.alive .emac n = true) ∧ (w.getLsbD 1 = true) :=
  ⟨{ (flds [] (runs [(.emac, 0)] onAll)) with ports := [(0, ⟨2, 0, 0, [⟨0x80000001, 7⟩], 0, none, false⟩)] }, 0, 2, by decide⟩

/-- The hypotheses of a clause are met. -/
theorem witness_EthernetPortCommands_8 : ∃ (s : State) (n : Nat), (s.sound = true) ∧ (n < 16) ∧ (s.run .emac n = true) ∧
  ((s.eg n).sending = none) ∧ ((s.eg n).queue = []) ∧ ((s.eg n).lpi = false) ∧ ((s.eg n).waking = false) ∧ (s.gf (emB n)
  F.emac_EEE_CTL_LPI_EN = 1) ∧ (eeeSupported (s.port n).mode (s.gf (emB n) F.emac_LINK_STS_SPEED) = true) ∧ (s.gf (egBase
  n) F.hostEgress_GATE_CTL_GATE_EN = 0) :=
  ⟨{ (flds [(.emac, 0, F.emac_EEE_CTL_LPI_EN, 1)] (runs [(.emac, 0)] onAll)) with ports := [(0, ⟨2, 0, 0, [], 0, none, false⟩)] }, 0, by decide⟩

/-- The hypotheses of a clause are met. -/
theorem witness_EthernetPortCommands_9 : ∃ (s : State) (n : Nat), (s.sound = true) ∧ (n < 16) :=
  ⟨onAll, 0, by decide⟩

/-- The hypotheses of a clause are met. -/
theorem witness_EthernetPortCommands_10 : ∃ (s : State) (n : Nat), (s.sound = true) ∧ (n < 16) ∧ (s.alive .emac n = true)
  ∧ (s.gf (emB n) F.emac_LINK_STS_BLOCK_LOCK = 1) ∧ (eeeSupported (s.port n).mode (s.gf (emB n) F.emac_LINK_STS_SPEED) =
  true) :=
  ⟨{ (flds [(.emac, 0, F.emac_LINK_STS_BLOCK_LOCK, 1)] (runs [(.emac, 0)] onAll)) with ports := [(0, ⟨2, 0, 0, [], 0, none, false⟩)] }, 0, by decide⟩

/-- The hypotheses of a clause are met. -/
theorem witness_EthernetPortCommands_11 : ∃ (s : State) (n : Nat), (s.sound = true) ∧ (n < 16) ∧ (s.alive .emac n = true)
  :=
  ⟨{ (flds [(.emac, 0, F.emac_LINK_STS_RX_LPI, 1)] (runs [(.emac, 0)] onAll)) with ports := [(0, ⟨2, 0, 0, [], 0, none, false⟩)] }, 0, by decide⟩

/-- The hypotheses of a clause are met. -/
theorem witness_T1sCommands_1 : ∃ (s : State) (n opp ago : Nat) (b : Bytes), (s.sound = true) ∧ (n < 8) ∧ (s.segRuns n =
  true) ∧ (64 ≤ b.length) ∧ (b.length ≤ s.gf (t1B n) F.t1s_MAX_LEN_BYTES) ∧ (fcsGood b = true) ∧ (s.gf (t1B n)
  F.t1s_DISC_CTL_DISC_EN = 0) :=
  ⟨{ (flds [(.t1s, 0, F.t1s_DISC_CTL_DISC_EN, 0)] (runs [(.t1s, 0)] onAll)) with segs := [] }, 0, 1, 5, (List.replicate 60 (1 : Byte) ++ ethFcs (List.replicate 60 1)), by decide⟩

/-- The hypotheses of a clause are met. -/
theorem witness_T1sCommands_2 : ∃ (s : State) (n opp ago : Nat) (b : Bytes), (s.sound = true) ∧ (n < 8) ∧ (s.segRuns n =
  true) ∧ (b.length < 64) :=
  ⟨{ (flds [] (runs [(.t1s, 0)] onAll)) with segs := [] }, 0, 1, 5, [1], by decide⟩

/-- The hypotheses of a clause are met. -/
theorem witness_T1sCommands_3 : ∃ (s : State) (n : Nat) (r : StampRec) (rest : List StampRec), (s.sound = true) ∧ (n < 8)
  ∧ (s.alive .t1s n = true) ∧ ((s.seg n).stamps = r :: rest) :=
  ⟨{ (flds [] (runs [(.t1s, 0)] onAll)) with segs := [(0, { Segment.new with stamps := [⟨0x80000001, 7⟩] })] }, 0, ⟨0x80000001, 7⟩, [], by decide⟩

/-- The hypotheses of a clause are met. -/
theorem witness_T1sCommands_4 : ∃ (s : State) (n e : Nat), (s.sound = true) ∧ (n < 8) ∧ (e < 8) ∧ (s.alive .t1s n = true)
  ∧ (s.gf (t1B n) F.t1s_DISC_CTL_DISC_EN = 1) ∧ (s.gf (t1B n) (F.t1s_DISC_VALID.at (16 * e)) = 1) ∧ (s.run .sigNode 0 =
  false) :=
  ⟨{ (flds [(.t1s, 0, F.t1s_DISC_CTL_DISC_EN, 1), (.t1s, 0, F.t1s_DISC_VALID, 1)] (runs [(.t1s, 0)] onAll)) with segs := [] }, 0, 0, by decide⟩

/-- The hypotheses of a clause are met. -/
theorem witness_T1sCommands_5 : ∃ (s : State) (n : Nat), (s.sound = true) ∧ (n < 8) ∧ (s.segRuns n = true) ∧ (s.gf (t1B
  n) F.t1s_SEG_CTL_PLCA_EN = 1) ∧ (s.gf (t1B n) F.t1s_SEG_CTL_LOCAL_ID = 0) ∧ ((s.seg n).busyTo = 0) :=
  ⟨{ (flds [(.t1s, 0, F.t1s_SEG_CTL_PLCA_EN, 1), (.t1s, 0, F.t1s_SEG_CTL_LOCAL_ID, 0)] (runs [(.t1s, 0)] onAll)) with segs := [(0, { Segment.new with tx := [(List.replicate 60 (1 : Byte))] })] }, 0, by decide⟩

/-- The hypotheses of a clause are met. -/
theorem witness_T1sCommands_6 : ∃ (s : State) (n : Nat), (s.sound = true) ∧ (n < 8) ∧ (s.segRuns n = true) ∧ (s.gf (t1B
  n) F.t1s_SEG_CTL_PLCA_EN = 1) ∧ (1 ≤ s.gf (t1B n) F.t1s_SEG_CTL_LOCAL_ID) ∧ (s.gf (t1B n) F.t1s_SEG_CTL_LOCAL_ID ≤ 254)
  :=
  ⟨{ (flds [(.t1s, 0, F.t1s_SEG_CTL_PLCA_EN, 1), (.t1s, 0, F.t1s_SEG_CTL_LOCAL_ID, 3)] (runs [(.t1s, 0)] onAll)) with segs := [] }, 0, by decide⟩

/-- The hypotheses of a clause are met. -/
theorem witness_T1sCommands_7 : ∃ (s : State) (n : Nat), (s.sound = true) ∧ (n < 8) ∧ (s.segRuns n = true) ∧ (s.plca n =
  true) ∧ (s.gf (t1B n) F.t1s_SEG_CTL_LOCAL_ID ≠ 0) :=
  ⟨{ (flds [(.t1s, 0, F.t1s_SEG_CTL_PLCA_EN, 1), (.t1s, 0, F.t1s_SEG_CTL_LOCAL_ID, 3), (.t1s, 0, F.t1s_SEG_STS_PLCA_OK, 1)] (runs [(.t1s, 0)] onAll)) with segs := [] }, 0, by decide⟩

/-- The hypotheses of a clause are met. -/
theorem witness_T1sCommands_8 : ∃ (s : State) (n : Nat) (b : Bytes) (rest : List Bytes), (s.sound = true) ∧ (n < 8) ∧
  (s.alive .t1s n = true) ∧ ((s.seg n).tx = b :: rest) ∧ ((s.seg n).busyTo ≠ 0) ∧ ((s.seg n).collisions < 15) :=
  ⟨{ (flds [] (runs [(.t1s, 0)] onAll)) with segs := [(0, { Segment.new with tx := [(List.replicate 60 (1 : Byte))], busyTo := 9 })] }, 0, (List.replicate 60 (1 : Byte)), [], by decide⟩

/-- The hypotheses of a clause are met. -/
theorem witness_T1sCommands_9 : ∃ (s : State) (n : Nat) (b : Bytes) (rest : List Bytes), (s.sound = true) ∧ (n < 8) ∧
  (s.alive .t1s n = true) ∧ ((s.seg n).tx = b :: rest) ∧ ((s.seg n).busyTo ≠ 0) ∧ (15 ≤ (s.seg n).collisions) :=
  ⟨{ (flds [] (runs [(.t1s, 0)] onAll)) with segs := [(0, { Segment.new with tx := [(List.replicate 60 (1 : Byte))], busyTo := 9, collisions := 15 })] }, 0, (List.replicate 60 (1 : Byte)), [], by decide⟩

/-- The hypotheses of a clause are met. -/
theorem witness_MessageObjectWrites_1 : ∃ (s : State) (k : Nat) (w : Word), (s.sound = true) ∧ (k < 8192) ∧ (w.getLsbD 29
  = false) ∧ (w.getLsbD 28 = false) :=
  ⟨onAll.b2wr (objW 5 7) 0xC0100000, 5, 0x88000000, by decide⟩

/-- The hypotheses of a clause are met. -/
theorem witness_MessageObjectWrites_2 : ∃ (s : State) (k n a : Nat) (w : Word), (s.sound = true) ∧ (k < 8192) ∧
  (w.getLsbD 29 = true) ∧ (w.getLsbD 28 = false) ∧ (s.objTx k = true) ∧ (s.objReq k = false) ∧ (s.objOwner k = some n) ∧
  (s.objArea k = some a) ∧ (w4Length (s.objRd k 4) ≤ a) ∧ ((bitOf (s.objRd k 0) 27 && w4Xlf (s.objRd k 4)) = false) ∧
  ((s.objOneShot k = false ∨ (s.canState n ≠ 4 ∧ s.canState n ≠ 5))) :=
  ⟨(flds [(.can, 0, F.can_STS_STATE, 2), (.can, 0, F.can_CTL_CLK80, 1), (.canGlobal, 0, F.canGlobal_OBJ_MAP_COUNT, 4)] (runs [(.can, 0)] onAll)).b2wr (objW 0 0) 0xC0000000 |>.b2wr (objW 0 4) 8, 0, 0, 64, 0x20000000, by decide⟩

/-- The hypotheses of a clause are met. -/
theorem witness_MessageObjectWrites_3 : ∃ (s : State) (k n a : Nat) (w : Word), (s.sound = true) ∧ (k < 8192) ∧
  (w.getLsbD 29 = true) ∧ (w.getLsbD 28 = false) ∧ (s.objTx k = true) ∧ (s.objReq k = false) ∧ (s.objOwner k = some n) ∧
  (s.canOnWire n ≠ some k) ∧ (s.objArea k = some a) ∧ ((a < w4Length (s.objRd k 4) ∨ bitOf (s.objRd k 0) 27 = true ∧
  w4Xlf (s.objRd k 4) = true)) :=
  ⟨(flds [(.can, 0, F.can_STS_STATE, 2), (.can, 0, F.can_CTL_CLK80, 1), (.canGlobal, 0, F.canGlobal_OBJ_MAP_COUNT, 4)] (runs [(.can, 0)] onAll)).b2wr (objW 0 0) 0xC8000000 |>.b2wr (objW 0 4) 0x1008, 0, 0, 64, 0x20000000, by decide⟩

/-- The hypotheses of a clause are met. -/
theorem witness_MessageObjectWrites_4 : ∃ (s : State) (k n : Nat) (w : Word), (s.sound = true) ∧ (k < 8192) ∧ (w.getLsbD
  29 = false) ∧ (w.getLsbD 28 = true) ∧ (s.objReq k = true) ∧ (s.objOwner k = some n) ∧ (s.canOnWire n ≠ some k) :=
  ⟨(flds [(.can, 0, F.can_STS_STATE, 2), (.can, 0, F.can_CTL_CLK80, 1), (.canGlobal, 0, F.canGlobal_OBJ_MAP_COUNT, 4)] (runs [(.can, 0)] onAll)).b2wr (objW 0 0) 0xC0000000 |>.b2wr (objW 0 4) 8 |>.b2wr (objW 0 7) 0x20000000, 0, 0, 0x10000000, by decide⟩

/-- The hypotheses of a clause are met. -/
theorem witness_MessageObjectWrites_5 : ∃ (s : State) (k n : Nat) (w : Word), (s.sound = true) ∧ (k < 8192) ∧ (n < 24) ∧
  (w.getLsbD 29 = false) ∧ (w.getLsbD 28 = true) ∧ (s.objReq k = true) ∧ (s.objOwner k = some n) ∧ (s.canOnWire n = some
  k) :=
  ⟨(flds [(.can, 0, F.can_STS_STATE, 2), (.can, 0, F.can_CTL_CLK80, 1), (.canGlobal, 0, F.canGlobal_OBJ_MAP_COUNT, 4), (.can, 0, F.can_CUR_TX_VALID, 1)] (runs [(.can, 0)] onAll)).b2wr (objW 0 0) 0xC0000000 |>.b2wr (objW 0 4) 8 |>.b2wr (objW 0 7) 0x20000000, 0, 0, 0x10000000, by decide⟩

/-- The hypotheses of a clause are met. -/
theorem witness_CanTraffic_1 : ∃ (s : State) (n ago : Nat) (f : CanFrame), (s.sound = true) ∧ (s.canReceives n = true) ∧
  (s.canFormatOn n (w4Format (canNorm f).w4) = true) ∧ (s.gf (caB n) F.can_ERR_CNT_TEC ≤ 127) ∧ (s.gf (caB n)
  F.can_ERR_CNT_REC ≤ 127) ∧ (s.canMatch n (canNorm f) = (none, 0)) :=
  ⟨(flds [(.can, 0, F.can_STS_STATE, 2), (.can, 0, F.can_CTL_CLK80, 1), (.canGlobal, 0, F.canGlobal_OBJ_MAP_COUNT, 4)] (runs [(.can, 0)] onAll)), 0, 9, ⟨false, 5, 2, 0, false, [7, 8]⟩, by decide⟩

/-- The hypotheses of a clause are met. -/
theorem witness_CanTraffic_2 : ∃ (s : State) (n ago k a : Nat) (f : CanFrame), (s.sound = true) ∧ (s.canReceives n =
  true) ∧ (s.canFormatOn n (w4Format (canNorm f).w4) = true) ∧ (s.gf (caB n) F.can_ERR_CNT_TEC ≤ 127) ∧ (s.gf (caB n)
  F.can_ERR_CNT_REC ≤ 127) ∧ (k < 8192) ∧ (s.canMatch n (canNorm f) = (some k, 0)) ∧ (s.objArea k = some a) ∧ ((canNorm
  f).data.length ≤ a) ∧ (s.objBridge k = false) :=
  ⟨(flds [(.can, 0, F.can_STS_STATE, 2), (.can, 0, F.can_CTL_CLK80, 1), (.canGlobal, 0, F.canGlobal_OBJ_MAP_COUNT, 4)] (runs [(.can, 0)] onAll)).b2wr (objW 0 0) 0x87000000, 0, 9, 0, 64, ⟨false, 5, 2, 0, false, [7, 8]⟩, by decide⟩

/-- The hypotheses of a clause are met. -/
theorem witness_CanTraffic_3 : ∃ (s : State) (n ago k a : Nat) (f : CanFrame), (s.sound = true) ∧ (s.canReceives n =
  true) ∧ (s.canFormatOn n (w4Format (canNorm f).w4) = true) ∧ (s.gf (caB n) F.can_ERR_CNT_TEC ≤ 127) ∧ (s.gf (caB n)
  F.can_ERR_CNT_REC ≤ 127) ∧ (s.canMatch n (canNorm f) = (some k, 0)) ∧ (s.objArea k = some a) ∧ (a < (canNorm
  f).data.length) :=
  ⟨(flds [(.can, 0, F.can_STS_STATE, 2), (.can, 0, F.can_CTL_CLK80, 1), (.canGlobal, 0, F.canGlobal_OBJ_MAP_COUNT, 4), (.can, 0, F.can_CTL_XL_EN, 1)] (runs [(.can, 0)] onAll)).b2wr (objW 0 0) 0x87000000, 0, 9, 0, 64, ⟨false, 5, 0x1050, 0, false, []⟩, by decide⟩

/-- The hypotheses of a clause are met. -/
theorem witness_CanTraffic_4 : ∃ (s : State) (n k tdcv ago : Nat), (s.sound = true) ∧ (n < 24) ∧ (s.alive .can n = true)
  ∧ (s.canOnWire n = some k) ∧ (s.canFault n = none) ∧ ((s.canState n = 2 ∨ s.canState n = 3)) ∧ (s.canState n ≠ 3) ∧
  (s.canTrcv n ≠ 1) ∧ (s.gf (caB n) F.can_ERR_CNT_TEC ≤ 127) ∧ (s.gf (caB n) F.can_ERR_CNT_REC ≤ 127) :=
  ⟨(flds [(.can, 0, F.can_STS_STATE, 2), (.can, 0, F.can_CTL_CLK80, 1), (.canGlobal, 0, F.canGlobal_OBJ_MAP_COUNT, 4), (.can, 0, F.can_CUR_TX_VALID, 1), (.can, 0, F.can_ERR_CNT_TEC, 9)] (runs [(.can, 0)] onAll)).b2wr (objW 0 0) 0xC0000000 |>.b2wr (objW 0 4) 8 |>.b2wr (objW 0 7) 0x20000000, 0, 0, 3, 0, by decide⟩

/-- The hypotheses of a clause are met. -/
theorem witness_CanTraffic_5 : ∃ (s : State) (n k : Nat), (s.sound = true) ∧ (n < 24) ∧ (s.alive .can n = true) ∧
  (s.canOnWire n = some k) ∧ (s.objOneShot k = false) ∧ (bitOf (s.objRd k 7) 28 = false) :=
  ⟨(flds [(.can, 0, F.can_STS_STATE, 2), (.can, 0, F.can_CTL_CLK80, 1), (.canGlobal, 0, F.canGlobal_OBJ_MAP_COUNT, 4), (.can, 0, F.can_CUR_TX_VALID, 1)] (runs [(.can, 0)] onAll)).b2wr (objW 0 0) 0xC0000000 |>.b2wr (objW 0 4) 8 |>.b2wr (objW 0 7) 0x20000000, 0, 0, by decide⟩

/-- The hypotheses of a clause are met. -/
theorem witness_CanTraffic_6 : ∃ (s : State) (n k : Nat), (s.sound = true) ∧ (n < 24) ∧ (s.alive .can n = true) ∧
  (s.canOnWire n = some k) ∧ (s.objOneShot k = true) :=
  ⟨(flds [(.can, 0, F.can_STS_STATE, 2), (.can, 0, F.can_CTL_CLK80, 1), (.canGlobal, 0, F.canGlobal_OBJ_MAP_COUNT, 4), (.can, 0, F.can_CUR_TX_VALID, 1)] (runs [(.can, 0)] onAll)).b2wr (objW 0 0) 0xE0000000 |>.b2wr (objW 0 4) 8 |>.b2wr (objW 0 7) 0x20000000, 0, 0, by decide⟩

/-- The hypotheses of a clause are met. -/
theorem witness_CanTraffic_7 : ∃ (s : State) (n lec : Nat) (v : Option Nat), (s.sound = true) ∧ (s.canReceives n = true)
  ∧ (s.canTrcv n = 0) ∧ (lec < 8) ∧ (s.canState n = 2) ∧ (s.gf (caB n) F.can_ERR_CNT_TEC ≤ 127) ∧ (s.gf (caB n)
  F.can_ERR_CNT_REC < 127) :=
  ⟨(flds [(.can, 0, F.can_STS_STATE, 2), (.can, 0, F.can_CTL_CLK80, 1), (.canGlobal, 0, F.canGlobal_OBJ_MAP_COUNT, 4)] (runs [(.can, 0)] onAll)), 0, 6, none, by decide⟩

/-- The hypotheses of a clause are met. -/
theorem witness_CanTraffic_8 : ∃ (s : State) (n k lec : Nat) (v : Option Nat), (s.sound = true) ∧ (n < 24) ∧ (s.alive
  .can n = true) ∧ (s.canOnWire n = some k) ∧ (s.objOneShot k = false) ∧ (bitOf (s.objRd k 7) 28 = false) ∧ (lec < 8) ∧
  (s.canTrcv n ≠ 1) ∧ (s.canState n = 2) ∧ (s.gf (caB n) F.can_ERR_CNT_TEC ≤ 119) ∧ (s.gf (caB n) F.can_ERR_CNT_REC ≤
  127) :=
  ⟨(flds [(.can, 0, F.can_STS_STATE, 2), (.can, 0, F.can_CTL_CLK80, 1), (.canGlobal, 0, F.canGlobal_OBJ_MAP_COUNT, 4), (.can, 0, F.can_CUR_TX_VALID, 1)] (runs [(.can, 0)] onAll)).b2wr (objW 0 0) 0xC0000000 |>.b2wr (objW 0 4) 8 |>.b2wr (objW 0 7) 0x20000000, 0, 0, 3, some 9, by decide⟩

/-- The hypotheses of a clause are met. -/
theorem witness_CanTraffic_9 : ∃ (s : State) (n k lec : Nat) (v : Option Nat), (s.sound = true) ∧ (n < 24) ∧ (s.alive
  .can n = true) ∧ (s.canOnWire n = some k) ∧ (s.objOneShot k = false) ∧ (bitOf (s.objRd k 7) 28 = false) ∧ (lec < 8) ∧
  (s.canTrcv n ≠ 1) ∧ (s.canState n = 3) ∧ (247 < s.gf (caB n) F.can_ERR_CNT_TEC) ∧ (s.gf (caB n) F.can_CTL_AUTO_RECOVER
  = 0) ∧ (s.canPending n = []) :=
  ⟨(flds [(.can, 0, F.can_STS_STATE, 2), (.can, 0, F.can_CTL_CLK80, 1), (.canGlobal, 0, F.canGlobal_OBJ_MAP_COUNT, 4), (.can, 0, F.can_CUR_TX_VALID, 1), (.can, 0, F.can_ERR_CNT_TEC, 250), (.can, 0, F.can_STS_STATE, 3)] (runs [(.can, 0)] onAll)), 0, 0, 3, none, by decide⟩

/-- The hypotheses of a clause are met. -/
theorem witness_CanTraffic_10 : ∃ (s : State) (n k lec : Nat) (v : Option Nat), (s.sound = true) ∧ (n < 24) ∧ (s.alive
  .can n = true) ∧ (s.canOnWire n = some k) ∧ (s.objOneShot k = false) ∧ (bitOf (s.objRd k 7) 28 = false) ∧ (lec < 8) ∧
  (s.canTrcv n ≠ 1) ∧ (s.canState n = 3) ∧ (120 ≤ s.gf (caB n) F.can_ERR_CNT_TEC) ∧ (s.gf (caB n) F.can_ERR_CNT_TEC ≤
  247) :=
  ⟨(flds [(.can, 0, F.can_STS_STATE, 2), (.can, 0, F.can_CTL_CLK80, 1), (.canGlobal, 0, F.canGlobal_OBJ_MAP_COUNT, 4), (.can, 0, F.can_CUR_TX_VALID, 1), (.can, 0, F.can_ERR_CNT_TEC, 130), (.can, 0, F.can_STS_STATE, 3)] (runs [(.can, 0)] onAll)).b2wr (objW 0 0) 0xC0000000 |>.b2wr (objW 0 4) 8 |>.b2wr (objW 0 7) 0x20000000, 0, 0, 3, some 9, by decide⟩

/-- The hypotheses of a clause are met. -/
theorem witness_CanChannelStates_1 : ∃ (s : State) (n : Nat), (s.sound = true) ∧ (s.canReceives n = true) ∧ (s.gf (caB n)
  F.can_CTL_PEX_EN = 1) ∧ (s.canRateOk n = true) :=
  ⟨(flds [(.can, 0, F.can_STS_STATE, 2), (.can, 0, F.can_CTL_CLK80, 1), (.canGlobal, 0, F.canGlobal_OBJ_MAP_COUNT, 4), (.can, 0, F.can_CTL_PEX_EN, 1)] (runs [(.can, 0)] onAll)), 0, by decide⟩

/-- The hypotheses of a clause are met. -/
theorem witness_CanChannelStates_2 : ∃ (s : State) (n : Nat), (s.sound = true) ∧ (s.canReceives n = true) ∧ (s.gf (caB n)
  F.can_CTL_PEX_EN = 0) ∧ (s.canTrcv n = 0) ∧ (s.canState n = 2) ∧ (s.gf (caB n) F.can_ERR_CNT_TEC ≤ 127) ∧ (s.gf (caB n)
  F.can_ERR_CNT_REC < 127) :=
  ⟨(flds [(.can, 0, F.can_STS_STATE, 2), (.can, 0, F.can_CTL_CLK80, 1), (.canGlobal, 0, F.canGlobal_OBJ_MAP_COUNT, 4), (.can, 0, F.can_CTL_PEX_EN, 0)] (runs [(.can, 0)] onAll)), 0, by decide⟩

/-- The hypotheses of a clause are met. -/
theorem witness_CanChannelStates_3 : ∃ (s : State) (n : Nat), (s.sound = true) ∧ (n < 24) ∧ (s.run .can n = true) ∧
  (s.canState n = 1) ∧ (s.gf (caB n) F.can_ERR_CNT_TEC ≤ 127) ∧ (s.gf (caB n) F.can_ERR_CNT_REC ≤ 127) :=
  ⟨(flds [(.can, 0, F.can_STS_STATE, 2), (.can, 0, F.can_CTL_CLK80, 1), (.canGlobal, 0, F.canGlobal_OBJ_MAP_COUNT, 4), (.can, 0, F.can_STS_STATE, 1)] (runs [(.can, 0)] onAll)), 0, by decide⟩

/-- The hypotheses of a clause are met. -/
theorem witness_CanChannelStates_4 : ∃ (s : State) (n : Nat) (w : Word), (s.sound = true) ∧ (n < 24) ∧ (s.alive .can n =
  true) ∧ (s.canState n = 4) ∧ (w.getLsbD 7 = true) :=
  ⟨(flds [(.can, 0, F.can_STS_STATE, 2), (.can, 0, F.can_CTL_CLK80, 1), (.canGlobal, 0, F.canGlobal_OBJ_MAP_COUNT, 4), (.can, 0, F.can_STS_STATE, 4)] (runs [(.can, 0)] onAll)), 0, 0x80, by decide⟩

/-- The hypotheses of a clause are met. -/
theorem witness_CanChannelStates_5 : ∃ (s : State) (n : Nat), (s.sound = true) ∧ (n < 24) ∧ (s.run .can n = true) ∧
  (s.canState n = 5) :=
  ⟨(flds [(.can, 0, F.can_STS_STATE, 2), (.can, 0, F.can_CTL_CLK80, 1), (.canGlobal, 0, F.canGlobal_OBJ_MAP_COUNT, 4), (.can, 0, F.can_STS_STATE, 5)] (runs [(.can, 0)] onAll)), 0, by decide⟩

/-- The hypotheses of a clause are met. -/
theorem witness_CanChannelStates_6 : ∃ (s : State) (n : Nat) (w : Word), (s.sound = true) ∧ (n < 24) ∧ (s.alive .can n =
  true) :=
  ⟨(flds [(.can, 0, F.can_STS_STATE, 2), (.can, 0, F.can_CTL_CLK80, 1), (.canGlobal, 0, F.canGlobal_OBJ_MAP_COUNT, 4)] (runs [(.can, 0)] onAll)), 0, 2, by decide⟩

/-- The hypotheses of a clause are met. -/
theorem witness_CanChannelStates_7 : ∃ (s : State) (n v : Nat), (s.sound = true) ∧ (n < 24) ∧ (s.alive .can n = true) ∧
  ((s.canCh n).trcv = some v) ∧ (v < 4) ∧ ((s.canTrcv n ≠ 0 ∨ s.canOnWire n = none)) ∧ ((s.canTrcv n < 2 ∨ 2 ≤ v)) :=
  ⟨{ (flds [(.can, 0, F.can_STS_STATE, 2), (.can, 0, F.can_CTL_CLK80, 1), (.canGlobal, 0, F.canGlobal_OBJ_MAP_COUNT, 4)] (runs [(.can, 0)] onAll)) with can := [(0, { CanCh.new with trcv := some 2 })] }, 0, 2, by decide⟩

/-- The hypotheses of a clause are met. -/
theorem witness_CanChannelStates_8 : ∃ (s : State) (n v : Nat), (s.sound = true) ∧ (n < 24) ∧ (s.run .can n = true) ∧
  ((s.canCh n).trcv = some v) ∧ (v < 2) ∧ (2 ≤ s.canTrcv n) ∧ (1 ≤ s.canState n) ∧ (s.canState n ≤ 3) ∧ (s.canRateOk n =
  true) :=
  ⟨{ (flds [(.can, 0, F.can_STS_STATE, 2), (.can, 0, F.can_CTL_CLK80, 1), (.canGlobal, 0, F.canGlobal_OBJ_MAP_COUNT, 4), (.can, 0, F.can_TRCV_STS_STATE, 2)] (runs [(.can, 0)] onAll)) with can := [(0, { CanCh.new with trcv := some 0 })] }, 0, 0, by decide⟩

/-- The hypotheses of a clause are met. -/
theorem witness_CanChannelStates_9 : ∃ (s : State) (n : Nat), (s.sound = true) ∧ (n < 16) ∧ (s.alive .can n = true) ∧
  (s.gf (caB n) F.can_TRCV_STS_TXD_TMO = 0) :=
  ⟨(flds [(.can, 0, F.can_STS_STATE, 2), (.can, 0, F.can_CTL_CLK80, 1), (.canGlobal, 0, F.canGlobal_OBJ_MAP_COUNT, 4)] (runs [(.can, 0)] onAll)), 0, by decide⟩

/-- The hypotheses of a clause are met. -/
theorem witness_CanChannelStates_10 : ∃ (s : State) (n : Nat), (s.sound = true) ∧ (n < 16) ∧ (s.alive .can n = true) ∧
  (s.gf (caB n) F.can_TRCV_STS_BUS_DOM = 0) :=
  ⟨(flds [(.can, 0, F.can_STS_STATE, 2), (.can, 0, F.can_CTL_CLK80, 1), (.canGlobal, 0, F.canGlobal_OBJ_MAP_COUNT, 4)] (runs [(.can, 0)] onAll)), 0, by decide⟩

/-- The hypotheses of a clause are met. -/
theorem witness_CanChannelStates_11 : ∃ (s : State) (n : Nat), (s.sound = true) ∧ (n < 16) ∧ (s.alive .can n = true) ∧
  (s.gf (caB n) F.can_TRCV_STS_THERMAL = 0) :=
  ⟨(flds [(.can, 0, F.can_STS_STATE, 2), (.can, 0, F.can_CTL_CLK80, 1), (.canGlobal, 0, F.canGlobal_OBJ_MAP_COUNT, 4)] (runs [(.can, 0)] onAll)), 0, by decide⟩

/-- The hypotheses of a clause are met. -/
theorem witness_CanChannelStates_12 : ∃ (s : State) (n b : Nat), (Memory.wf s = true) ∧ (n < 16) ∧ (s.alive .can n =
  true) ∧ (b < 3) :=
  ⟨(flds [(.can, 0, F.can_STS_STATE, 2), (.can, 0, F.can_CTL_CLK80, 1), (.canGlobal, 0, F.canGlobal_OBJ_MAP_COUNT, 4), (.can, 0, F.can_TRCV_STS_BUS_DOM, 1)] (runs [(.can, 0)] onAll)), 0, 1, by decide⟩

/-- The hypotheses of a clause are met. -/
theorem witness_LinTraffic_1 : ∃ (s : State) (n id : Nat), (s.sound = true) ∧ (s.linRuns n = true) ∧ (s.power.linLow =
  false) ∧ (s.gf (liB n) F.lin_LIN_CFG_ROLE = 0) ∧ (s.gf (liB n) F.lin_SCHED_CTL_RUN = 1) ∧ ((s.linCh n).frame = none) ∧
  ((s.linCh n).tx = none) ∧ ((s.linCh n).coll = none) ∧ ((s.linCh n).switch = none) ∧ ((s.linCh n).pos = 0) ∧ (s.linLen n
  = 1) ∧ (id < 64) ∧ (s.gf (liB n) (F.lin_SCHED_ID.at (0x80 * s.gf (liB n) F.lin_SCHED_CTL_ACTIVE)) = id) ∧ (s.gf (liB n)
  (F.lin_SCHED_TYPE.at (0x80 * s.gf (liB n) F.lin_SCHED_CTL_ACTIVE)) = 0) ∧ (s.ftIs n id 2 = true) :=
  ⟨{ (flds [(.lin, 0, F.lin_SCHED_CTL_RUN, 1), (.lin, 0, F.lin_SCHED_LEN_LEN0, 1), (.lin, 0, F.lin_SCHED_ID, 0x10), (.lin, 0, F.lin_SCHED_TYPE, 0), (.lin, 0, F.lin_FT_CTL_VALID.at (16 * 0x10), 1), (.lin, 0, F.lin_FT_CTL_DIR.at 256, 2)] (runs [(.lin, 0)] onAll)) with lin := [] }, 0, 0x10, by decide⟩

/-- The hypotheses of a clause are met. -/
theorem witness_LinTraffic_2 : ∃ (s : State) (n : Nat), (s.sound = true) ∧ (s.linRuns n = true) ∧ (s.gf (liB n)
  F.lin_LIN_CFG_ROLE = 0) ∧ (s.gf (liB n) F.lin_SCHED_CTL_RUN = 1) ∧ ((s.linCh n).frame.isSome = true) ∧ ((s.linCh n).due
  = none) :=
  ⟨{ (flds [(.lin, 0, F.lin_SCHED_CTL_RUN, 1)] (runs [(.lin, 0)] onAll)) with lin := [(0, { LinCh.new with frame := some ⟨0x10, 7, none⟩ })] }, 0, by decide⟩

/-- The hypotheses of a clause are met. -/
theorem witness_LinTraffic_3 : ∃ (s : State) (n id ago rate : Nat), (s.sound = true) ∧ (s.linRuns n = true) ∧ (s.gf (liB
  n) F.lin_LIN_CFG_ROLE = 1) ∧ (s.gf (liB n) F.lin_LIN_CFG_AUTOBAUD = 0) ∧ (id < 64) ∧ (s.ftIs n id 2 = true) :=
  ⟨{ (flds [(.lin, 0, F.lin_LIN_CFG_ROLE, 1), (.lin, 0, F.lin_LIN_CFG_AUTOBAUD, 0), (.lin, 0, F.lin_FT_CTL_VALID.at (16 * 0x10), 1), (.lin, 0, F.lin_FT_CTL_DIR.at 256, 2)] (runs [(.lin, 0)] onAll)) with lin := [] }, 0, 0x10, 5, 19200, by decide⟩

/-- The hypotheses of a clause are met. -/
theorem witness_LinTraffic_4 : ∃ (s : State) (n ago rate pid : Nat), (s.sound = true) ∧ (s.linRuns n = true) ∧ (s.gf (liB
  n) F.lin_LIN_CFG_ROLE = 1) ∧ (s.gf (liB n) F.lin_LIN_CFG_AUTOBAUD = 0) ∧ (pid < 256) ∧ (pid ≠ pidOf (pid % 64)) :=
  ⟨{ (flds [(.lin, 0, F.lin_LIN_CFG_ROLE, 1), (.lin, 0, F.lin_LIN_CFG_AUTOBAUD, 0)] (runs [(.lin, 0)] onAll)) with lin := [] }, 0, 5, 19200, 0x10, by decide⟩

/-- The hypotheses of a clause are met. -/
theorem witness_LinTraffic_5 : ∃ (s : State) (n id time : Nat) (d : Bytes), (s.sound = true) ∧ (n < 8) ∧ (s.alive .lin n
  = true) ∧ (s.lineOn 2 = true) ∧ ((s.linCh n).frame = some ⟨id, time, none⟩) ∧ (id < 64) ∧ ((s.linCh n).due = none) ∧
  (s.ft n id F.lin_FT_CTL_LEN = d.length) ∧ (d.length ≤ 8) ∧ (s.ft n id F.lin_FT_CTL_BRIDGE = 0) ∧ ((s.gf (pageBase
  .pwrWake 0) (F.pwrWake_LINW_CTL_GTS_EN.at (4 * n)) = 0 ∨ id ≠ 0x3C)) :=
  ⟨{ (flds [(.lin, 0, F.lin_FT_CTL_VALID.at (16 * 0x10), 1), (.lin, 0, F.lin_FT_CTL_DIR.at 256, 2), (.lin, 0, F.lin_FT_CTL_LEN.at 256, 2)] (runs [(.lin, 0)] onAll)) with lin := [(0, { LinCh.new with frame := some ⟨0x10, 7, none⟩ })] }, 0, 0x10, 7, [1, 2], by decide⟩

/-- The hypotheses of a clause are met. -/
theorem witness_LinTraffic_6 : ∃ (s : State) (n id time : Nat) (d : Bytes) (c : Byte), (s.sound = true) ∧ (n < 8) ∧
  (s.alive .lin n = true) ∧ (s.lineOn 2 = true) ∧ ((s.linCh n).frame = some ⟨id, time, none⟩) ∧ ((s.linCh n).due = none)
  ∧ (s.ft n id F.lin_FT_CTL_LEN = d.length) ∧ (c ≠ s.linChecksum n id d) :=
  ⟨{ (flds [(.lin, 0, F.lin_FT_CTL_VALID.at (16 * 0x10), 1), (.lin, 0, F.lin_FT_CTL_DIR.at 256, 2), (.lin, 0, F.lin_FT_CTL_LEN.at 256, 2)] (runs [(.lin, 0)] onAll)) with lin := [(0, { LinCh.new with frame := some ⟨0x10, 7, none⟩ })] }, 0, 0x10, 7, [1, 2], 0, by decide⟩

/-- The hypotheses of a clause are met. -/
theorem witness_LinTraffic_7 : ∃ (s : State) (n got : Nat), (s.sound = true) ∧ (n < 8) ∧ (s.alive .lin n = true) ∧
  ((s.linCh n).frame.isSome = true) ∧ ((s.linCh n).due = none) :=
  ⟨{ (flds [] (runs [(.lin, 0)] onAll)) with lin := [(0, { LinCh.new with frame := some ⟨0x10, 7, none⟩ })] }, 0, 1, by decide⟩

/-- The hypotheses of a clause are met. -/
theorem witness_LinTraffic_8 : ∃ (s : State) (n id : Nat) (w : Word), (s.sound = true) ∧ (n < 8) ∧ (s.alive .lin n =
  true) ∧ (id < 64) ∧ (s.ft n id F.lin_FT_CTL_DIR = 1) :=
  ⟨{ (flds [(.lin, 0, F.lin_FT_CTL_DIR.at 256, 1)] (runs [(.lin, 0)] onAll)) with lin := [] }, 0, 0x10, 5, by decide⟩

/-- The hypotheses of a clause are met. -/
theorem witness_LinTraffic_9 : ∃ (s : State) (n id v : Nat) (w : Word), (s.sound = true) ∧ (n < 8) ∧ (s.alive .lin n =
  true) ∧ (id < 64) ∧ (s.ft n id F.lin_FT_CTL_DIR = 1) ∧ (look (fun _ => 2 ^ 32) (s.linCh n).staged id = v) ∧ (v < 2 ^
  32) :=
  ⟨{ (flds [(.lin, 0, F.lin_FT_CTL_DIR.at 256, 1)] (runs [(.lin, 0)] onAll)) with lin := [(0, { LinCh.new with staged := [(0x10, 9)] })] }, 0, 0x10, 9, 6, by decide⟩

/-- The hypotheses of a clause are met. -/
theorem witness_LinTraffic_10 : ∃ (s : State) (n : Nat) (w : Word), (s.sound = true) ∧ (n < 8) ∧ (s.alive .lin n = true)
  ∧ (w.getLsbD 8 = true) ∧ (w.getLsbD 0 = true) :=
  ⟨{ (flds [] (runs [(.lin, 0)] onAll)) with lin := [] }, 0, 0x20101, by decide⟩

/-- The hypotheses of a clause are met. -/
theorem witness_LinTraffic_11 : ∃ (s : State) (n : Nat) (w : Word), (s.sound = true) ∧ (n < 8) ∧ (s.alive .lin n = true)
  ∧ (w.getLsbD 8 = true) ∧ (w.getLsbD 0 = false) :=
  ⟨{ (flds [] (runs [(.lin, 0)] onAll)) with lin := [] }, 0, 0x20100, by decide⟩

/-- The hypotheses of a clause are met. -/
theorem witness_LinTraffic_12 : ∃ (s : State) (n : Nat) (w : Word), (s.sound = true) ∧ (n < 8) ∧ (s.run .lin n = true) ∧
  (s.lineOn 2 = true) ∧ (s.power.linLow = false) ∧ (w.getLsbD 1 = true) :=
  ⟨{ (flds [] (runs [(.lin, 0)] onAll)) with lin := [] }, 0, 2, by decide⟩

/-- The hypotheses of a clause are met. -/
theorem witness_BridgeRouting_1 : ∃ (s : State) (x : BridgeIn) (rest : List BridgeIn), (s.sound = true) ∧ (s.brg.waiting
  = x :: rest) ∧ (s.run .brgGlobal 0 = true) ∧ ((s.routeOff x.msg (s.rtBank (x.time % 2 ^ 32))).bind s.routeAt = none) :=
  ⟨{ (flds [] (runs [(.brgGlobal, 0), (.brgTunnel, 0)] onAll)) with brg := { onAll.brg with waiting := [⟨.can 0 ⟨false, 5, 2, 0, false, [7, 8]⟩, 9⟩] } }, ⟨.can 0 ⟨false, 5, 2, 0, false, [7, 8]⟩, 9⟩, [], by decide⟩

/-- The hypotheses of a clause are met. -/
theorem witness_BridgeRouting_2 : ∃ (s : State) (n m time : Nat) (f c : CanFrame) (r : Route) (rest : List BridgeIn),
  (s.sound = true) ∧ (s.brg.waiting = ⟨.can n f, time⟩ :: rest) ∧ (s.run .brgGlobal 0 = true) ∧ ((s.routeOff (.can n f)
  (s.rtBank (time % 2 ^ 32))).bind s.routeAt = some r) ∧ (r.kettle = none) ∧ (r.tunnel = none) ∧ (r.lin = 0) ∧ (onesOf 24
  r.can = [m]) ∧ (m ≠ n) ∧ (copyCan f (if r.xlate then r.ide else f.ide) (if r.xlate then r.id else f.id) r.fmt r.pad
  r.sdt r.vcid = some c) ∧ (m < s.grade.canChannels) ∧ (s.canFormatOn m (w4Format c.w4) = true) ∧ ((s.copies m).length <
  32) :=
  ⟨{ (flds [] (runs [(.brgGlobal, 0), (.brgTunnel, 0)] (onAll.b2Write 0x06000050 [2, 0, 0, 0x80]))) with brg := { onAll.brg with waiting := [⟨.can 0 ⟨false, 5, 2, 0, false, [7, 8]⟩, 9⟩] } }, 0, 1, 9, ⟨false, 5, 2, 0, false, [7, 8]⟩, ⟨false, 5, 2, 0, false, [7, 8]⟩, { kettle := none, can := 2, lin := 0, tunnel := none, linId := 0, xlate := false, fmt := 0, ide := false, id := 0, pad := 0, sdt := 0, vcid := 0 }, [], by decide⟩

/-- The hypotheses of a clause are met. -/
theorem witness_BridgeRouting_3 : ∃ (s : State) (n m time : Nat) (f c : CanFrame) (r : Route) (rest : List BridgeIn),
  (s.sound = true) ∧ (s.brg.waiting = ⟨.can n f, time⟩ :: rest) ∧ (s.run .brgGlobal 0 = true) ∧ ((s.routeOff (.can n f)
  (s.rtBank (time % 2 ^ 32))).bind s.routeAt = some r) ∧ (r.kettle = none) ∧ (r.tunnel = none) ∧ (r.lin = 0) ∧ (onesOf 24
  r.can = [m]) ∧ (m ≠ n) ∧ (copyCan f (if r.xlate then r.ide else f.ide) (if r.xlate then r.id else f.id) r.fmt r.pad
  r.sdt r.vcid = some c) ∧ (32 ≤ (s.copies m).length) ∧ (s.placeable m [] (s.copies m ++ [c]) = none) :=
  ⟨{ (flds [] (runs [(.brgGlobal, 0), (.brgTunnel, 0)] (onAll.b2Write 0x06000050 [2, 0, 0, 0x80]))) with brg := { onAll.brg with waiting := [⟨.can 0 ⟨false, 5, 2, 0, false, [7, 8]⟩, 9⟩], queues := [(1, List.replicate 32 ⟨false, 5, 2, 0, false, [7, 8]⟩)] } }, 0, 1, 9, ⟨false, 5, 2, 0, false, [7, 8]⟩, ⟨false, 5, 2, 0, false, [7, 8]⟩, { kettle := none, can := 2, lin := 0, tunnel := none, linId := 0, xlate := false, fmt := 0, ide := false, id := 0, pad := 0, sdt := 0, vcid := 0 }, [], by decide⟩

/-- The hypotheses of a clause are met. -/
theorem witness_BridgeRouting_4 : ∃ (s : State) (n m time : Nat) (f : CanFrame) (r : Route) (rest : List BridgeIn),
  (s.sound = true) ∧ (s.brg.waiting = ⟨.can n f, time⟩ :: rest) ∧ (s.run .brgGlobal 0 = true) ∧ ((s.routeOff (.can n f)
  (s.rtBank (time % 2 ^ 32))).bind s.routeAt = some r) ∧ (r.kettle = none) ∧ (r.tunnel = none) ∧ (r.can = 0) ∧ (onesOf 8
  r.lin = [m]) ∧ (s.alive .lin m = true) ∧ (r.linId < 64) ∧ (s.ftIs m r.linId 1 = true) :=
  ⟨{ (flds [(.lin, 0, F.lin_FT_CTL_VALID.at 48, 1), (.lin, 0, F.lin_FT_CTL_DIR.at 48, 1)] (runs [(.brgGlobal, 0), (.brgTunnel, 0)] (onAll.b2Write 0x06000050 [0, 0, 0, 0x80, 0, 1, 3]))) with brg := { onAll.brg with waiting := [⟨.can 0 ⟨false, 5, 2, 0, false, [7, 8]⟩, 9⟩] } }, 0, 0, 9, ⟨false, 5, 2, 0, false, [7, 8]⟩, { kettle := none, can := 0, lin := 1, tunnel := none, linId := 3, xlate := false, fmt := 0, ide := false, id := 0, pad := 0, sdt := 0, vcid := 0 }, [], by decide⟩

/-- The hypotheses of a clause are met. -/
theorem witness_BridgeRouting_5 : ∃ (s : State) (m k a : Nat) (c : CanFrame), (s.sound = true) ∧ (m < 24) ∧ (s.run
  .brgGlobal 0 = true) ∧ (s.placeable m [] (s.copies m) = some (c, k)) ∧ (s.objArea k = some a) ∧ (c.data.length =
  w4Length c.w4) ∧ ((c.ide && w4Xlf c.w4) = false) ∧ (c.id < 2 ^ 29) ∧ (c.w4 < 2 ^ 32) ∧ (c.af < 2 ^ 32) ∧ (s.objOneShot
  k = false) :=
  ⟨{ (flds [(.can, 0, F.can_STS_STATE, 2), (.can, 0, F.can_CTL_CLK80, 1), (.canGlobal, 0, F.canGlobal_OBJ_MAP_COUNT, 4), (.brgGlobal, 0, F.brgGlobal_TX_POOL_COUNT, 4)] (runs [(.can, 0)] (runs [(.brgGlobal, 0)] onAll))).b2wr (objW 0 0) 0xD0000000 with brg := { onAll.brg with queues := [(0, [⟨false, 5, 2, 0, false, [7, 8]⟩])] } }, 0, 0, 64, ⟨false, 5, 2, 0, false, [7, 8]⟩, by decide⟩

/-- The hypotheses of a clause are met. -/
theorem witness_BridgeRouting_6 : ∃ (s : State), (Memory.wf s = true) ∧ (s.alive .brgGlobal 0 = true) ∧ (s.gf bgB
  F.brgGlobal_RT_BANK_DRAINING = 0) :=
  ⟨{ (flds [] (runs [(.brgGlobal, 0), (.brgTunnel, 0)] onAll)) with brg := { onAll.brg with bound := none } }, by decide⟩

/-- The hypotheses of a clause are met. -/
theorem witness_BridgeRouting_7 : ∃ (s : State), (Memory.wf s = true) ∧ (s.alive .brgGlobal 0 = true) ∧ (s.now ≤ s.rtAt)
  :=
  ⟨{ (flds [] (runs [(.brgGlobal, 0), (.brgTunnel, 0)] onAll)) with brg := { onAll.brg with bound := none } }, by decide⟩

/-- The hypotheses of a clause are met. -/
theorem witness_BridgeRouting_8 : ∃ (s : State), (Memory.wf s = true) ∧ (s.alive .brgGlobal 0 = true) :=
  ⟨{ (flds [] (runs [(.brgGlobal, 0), (.brgTunnel, 0)] onAll)) with brg := { onAll.brg with bound := none } }, by decide⟩

/-- The hypotheses of a clause are met. -/
theorem witness_BridgeRouting_9 : ∃ (s : State), (Memory.wf s = true) ∧ (s.alive .brgGlobal 0 = true) ∧ (s.gf bgB
  F.brgGlobal_RT_BANK_DRAINING = 0) ∧ (s.brg.flip = .at_) ∧ (s.rtAt ≤ s.now) :=
  ⟨{ (flds [] (runs [(.brgGlobal, 0), (.brgTunnel, 0)] onAll)) with brg := { onAll.brg with flip := .at_ } }, by decide⟩

/-- The hypotheses of a clause are met. -/
theorem witness_BridgeRouting_10 : ∃ (s : State), (Memory.wf s = true) ∧ (s.alive .brgGlobal 0 = true) ∧ (s.gf bgB
  F.brgGlobal_RT_BANK_DRAINING = 1) ∧ (s.brg.flip = .none) :=
  ⟨{ (flds [(.brgGlobal, 0, F.brgGlobal_RT_BANK_DRAINING, 1)] (runs [(.brgGlobal, 0), (.brgTunnel, 0)] onAll)) with brg := { onAll.brg with bound := none } }, by decide⟩

/-- The hypotheses of a clause are met. -/
theorem witness_TunnelCommands_1 : ∃ (s : State) (n k time : Nat) (f : CanFrame) (r : Route) (rest : List BridgeIn),
  (s.sound = true) ∧ (s.brg.waiting = ⟨.can n f, time⟩ :: rest) ∧ (s.run .brgGlobal 0 = true) ∧ ((s.routeOff (.can n f)
  (s.rtBank (time % 2 ^ 32))).bind s.routeAt = some r) ∧ (r.kettle = none) ∧ (r.tunnel = some k) ∧ (k < 64) ∧ (r.can = 0)
  ∧ (r.lin = 0) ∧ (s.run .brgTunnel 0 = true) ∧ (s.gf btB (F.brgTunnel_TUN_TX_VALID.at (32 * k)) = 1) ∧ (s.gf btB
  (F.brgTunnel_TUN_TX_TAG_EN.at (32 * k)) = 0) ∧ (s.gf btB (F.brgTunnel_TUN_TX_BRIEF.at (32 * k)) = 0) ∧ (s.gf btB
  (F.brgTunnel_TUN_TX_4_HOLD_US.at (32 * k)) ≠ 0) ∧ (1 < s.gf btB (F.brgTunnel_TUN_TX_8_MAX_MSGS.at (32 * k))) ∧ (w4Xlf
  f.w4 = false) ∧ (s.f20Bytes + tunBytes false [acfCan false n time f] ≤ 65536) ∧ ((s.txTun k).opened = none) :=
  ⟨{ (flds [(.brgTunnel, 0, F.brgTunnel_TUN_TX_VALID.at 224, 1), (.brgTunnel, 0, F.brgTunnel_TUN_TX_4_HOLD_US.at 224, 5), (.brgTunnel, 0, F.brgTunnel_TUN_TX_8_MAX_MSGS.at 224, 4)] (runs [(.brgGlobal, 0), (.brgTunnel, 0)] (onAll.b2Write 0x06000050 [0, 0, 0, 0x80, 0x87]))) with brg := { onAll.brg with waiting := [⟨.can 0 ⟨false, 5, 2, 0, false, [7, 8]⟩, 9⟩] } }, 0, 7, 9, ⟨false, 5, 2, 0, false, [7, 8]⟩, { kettle := none, can := 0, lin := 0, tunnel := some 7, linId := 0, xlate := false, fmt := 0, ide := false, id := 0, pad := 0, sdt := 0, vcid := 0 }, [], by decide⟩

/-- The hypotheses of a clause are met. -/
theorem witness_TunnelCommands_2 : ∃ (s : State) (k : Nat) (o : TunOpen) (rest : List TunOpen), (s.sound = true) ∧ (k <
  64) ∧ (s.run .brgTunnel 0 = true) ∧ ((s.txTun k).ready = o :: rest) ∧ (s.gf btB (F.brgTunnel_TUN_TX_TAG_EN.at (32 * k))
  = 0) :=
  ⟨{ (flds [] (runs [(.brgGlobal, 0), (.brgTunnel, 0)] onAll)) with brg := { onAll.brg with tunnels := [(7, ⟨[⟨[[1, 2, 3, 4]], 0, 9⟩], none⟩)] } }, 7, ⟨[[1, 2, 3, 4]], 0, 9⟩, [], by decide⟩

/-- The hypotheses of a clause are met. -/
theorem witness_TunnelCommands_3 : ∃ (s : State) (k : Nat) (o : TunOpen), (s.sound = true) ∧ (k < 64) ∧ (s.run .brgTunnel
  0 = true) ∧ (s.txTun k = ⟨[], some o⟩) ∧ (s.gf btB (F.brgTunnel_TUN_TX_TAG_EN.at (32 * k)) = 0) :=
  ⟨{ (flds [] (runs [(.brgGlobal, 0), (.brgTunnel, 0)] onAll)) with brg := { onAll.brg with tunnels := [(7, ⟨[], some ⟨[[1, 2, 3, 4]], 0, 9⟩⟩)] } }, 7, ⟨[[1, 2, 3, 4]], 0, 9⟩, by decide⟩

/-- The hypotheses of a clause are met. -/
theorem witness_TunnelCommands_4 : ∃ (s : State) (r : Nat) (c : TunCtx), (s.sound = true) ∧ (r < 32) ∧ ((r, c) ∈
  s.brg.ctx) ∧ (s.alive .brgTunnel 0 = true) :=
  ⟨{ (flds [] (runs [(.brgGlobal, 0), (.brgTunnel, 0)] onAll)) with brg := { onAll.brg with ctx := [(3, ⟨1, 2, 3, 4, ⟨false, 5, 2, 0, false, [7, 8]⟩⟩)] } }, 3, ⟨1, 2, 3, 4, ⟨false, 5, 2, 0, false, [7, 8]⟩⟩, by decide⟩

/-- The hypotheses of a clause are met. -/
theorem witness_TunnelCommands_5 : ∃ (s u : State) (f : EgFrame), (s.sound = true) ∧ (s.takeOutput 20 0 = (u, some f)) ∧
  (u.run .brgGlobal 0 = true) ∧ (beAt (withoutFcs f.bytes) 12 2 = 0x22F0) ∧ (s.gf shB F.pipeShared_TPID_ALT_TPID ≠
  0x22F0) ∧ (byteAt (withoutFcs f.bytes) 14 ≠ 0x82) :=
  ⟨{ (flds [] (runs [(.brgGlobal, 0), (.brgTunnel, 0), (.hostEgress, 20)] onAll)) with egress := [(20, { Egress.new with queue := [⟨⟨0, true, 0, 0x100000, 2, 0, 0, 0, 0, 0, 0, false, 0, none, []⟩, (List.replicate 12 1 ++ [0x22, 0xF0] ++ List.replicate 50 0), 2, true, false⟩] })] }, ({ (flds [] (runs [(.brgGlobal, 0), (.brgTunnel, 0), (.hostEgress, 20)] onAll)) with egress := [(20, { Egress.new with queue := [⟨⟨0, true, 0, 0x100000, 2, 0, 0, 0, 0, 0, 0, false, 0, none, []⟩, (List.replicate 12 1 ++ [0x22, 0xF0] ++ List.replicate 50 0), 2, true, false⟩] })] } : State).takeOutput 20 0 |>.1, ⟨⟨0, true, 0, 0x100000, 2, 0, 0, 0, 0, 0, 0, false, 0, none, []⟩, (List.replicate 12 1 ++ [0x22, 0xF0] ++ List.replicate 50 0), 2, true, false⟩, by decide⟩

/-- The hypotheses of a clause are met. -/
theorem witness_TunnelCommands_6 : ∃ (s u : State) (f : EgFrame) (r bus time id seq : Nat) (ide : Bool) (d da sa stream :
  Bytes), (s.sound = true) ∧ (s.takeOutput 20 0 = (u, some f)) ∧ (u.run .brgGlobal 0 = true) ∧ (u.run .brgTunnel 0 =
  true) ∧ (da.length = 6) ∧ (sa.length = 6) ∧ (stream.length = 8) ∧ (d.length ≤ 8) ∧ (seq < 256) ∧ (id < (if ide then 2 ^
  29 else 2 ^ 11)) ∧ (f.bytes = ntscfFrame da sa none seq stream (acfCan false bus time ⟨ide, id, d.length, 0, false,
  d⟩)) ∧ (s.gf shB F.pipeShared_TPID_ALT_TPID ≠ 0x22F0) ∧ (u.rtunFor stream = some r) ∧ (bus < s.grade.canChannels) ∧
  (bitOf (u.rtunF r F.brgTunnel_TUN_RX_CHAN_MASK) bus = true) ∧ ((s.copies bus).length < 32) :=
  ⟨{ (flds [(.brgTunnel, 0, F.brgTunnel_TUN_RX_VALID, 1), (.brgTunnel, 0, F.brgTunnel_TUN_RX_CHAN_MASK, 0xFF), (.brgTunnel, 0, F.brgTunnel_TUN_RX_STREAM_ID_HI_STREAM_ID_HI, 0x01020304), (.brgTunnel, 0, F.brgTunnel_TUN_RX_STREAM_ID_LO_STREAM_ID_LO, 0x05060708)] (runs [(.brgGlobal, 0), (.brgTunnel, 0), (.hostEgress, 20)] onAll)) with egress := [(20, { Egress.new with queue := [⟨⟨0, true, 0, 0x100000, 2, 0, 0, 0, 0, 0, 0, false, 0, none, []⟩, (ntscfFrame [1, 2, 3, 4, 5, 6] [2, 0, 0, 0, 0, 1] none 7 [1, 2, 3, 4, 5, 6, 7, 8] (acfCan false 3 9 ⟨false, 5, 2, 0, false, [7, 8]⟩)), 2, true, false⟩] })] }, ({ (flds [(.brgTunnel, 0, F.brgTunnel_TUN_RX_VALID, 1), (.brgTunnel, 0, F.brgTunnel_TUN_RX_CHAN_MASK, 0xFF), (.brgTunnel, 0, F.brgTunnel_TUN_RX_STREAM_ID_HI_STREAM_ID_HI, 0x01020304), (.brgTunnel, 0, F.brgTunnel_TUN_RX_STREAM_ID_LO_STREAM_ID_LO, 0x05060708)] (runs [(.brgGlobal, 0), (.brgTunnel, 0), (.hostEgress, 20)] onAll)) with egress := [(20, { Egress.new with queue := [⟨⟨0, true, 0, 0x100000, 2, 0, 0, 0, 0, 0, 0, false, 0, none, []⟩, (ntscfFrame [1, 2, 3, 4, 5, 6] [2, 0, 0, 0, 0, 1] none 7 [1, 2, 3, 4, 5, 6, 7, 8] (acfCan false 3 9 ⟨false, 5, 2, 0, false, [7, 8]⟩)), 2, true, false⟩] })] } : State).takeOutput 20 0 |>.1, ⟨⟨0, true, 0, 0x100000, 2, 0, 0, 0, 0, 0, 0, false, 0, none, []⟩, (ntscfFrame [1, 2, 3, 4, 5, 6] [2, 0, 0, 0, 0, 1] none 7 [1, 2, 3, 4, 5, 6, 7, 8] (acfCan false 3 9 ⟨false, 5, 2, 0, false, [7, 8]⟩)), 2, true, false⟩, 0, 3, 9, 5, 7, false, [7, 8], [1, 2, 3, 4, 5, 6], [2, 0, 0, 0, 0, 1], [1, 2, 3, 4, 5, 6, 7, 8], by decide⟩

/-- The hypotheses of a clause are met. -/
theorem witness_TunnelCommands_7 : ∃ (s u : State) (f : EgFrame) (n : Nat), (s.sound = true) ∧ (s.takeOutput 20 0 = (u,
  some f)) ∧ (u.run .brgGlobal 0 = true) ∧ (beAt (withoutFcs f.bytes) (tagsEnd (u.gf shB F.pipeShared_TPID_ALT_TPID)
  (withoutFcs f.bytes) 4 12) 2 ≠ 0x22F0) ∧ (u.segsFor f = [n]) ∧ (u.gf (t1B n) F.t1s_SEG_VLAN_UNTAG_TX = 0) ∧
  (f.bytes.length ≤ u.gf (t1B n) F.t1s_MAX_LEN_BYTES) :=
  ⟨{ (flds [(.t1s, 3, F.t1s_SEG_VLAN_PVID, 0), (.t1s, 3, F.t1s_SEG_VLAN_UNTAG_TX, 0)] (runs [(.brgGlobal, 0), (.brgTunnel, 0), (.hostEgress, 20)] onAll)) with egress := [(20, { Egress.new with queue := [⟨⟨0, true, 0, 0x100000, 2, 0, 0, 0, 0, 0, 0, false, 0, none, []⟩, (List.replicate 64 1), 2, true, false⟩] })] }, ({ (flds [(.t1s, 3, F.t1s_SEG_VLAN_PVID, 0), (.t1s, 3, F.t1s_SEG_VLAN_UNTAG_TX, 0)] (runs [(.brgGlobal, 0), (.brgTunnel, 0), (.hostEgress, 20)] onAll)) with egress := [(20, { Egress.new with queue := [⟨⟨0, true, 0, 0x100000, 2, 0, 0, 0, 0, 0, 0, false, 0, none, []⟩, (List.replicate 64 1), 2, true, false⟩] })] } : State).takeOutput 20 0 |>.1, ⟨⟨0, true, 0, 0x100000, 2, 0, 0, 0, 0, 0, 0, false, 0, none, []⟩, (List.replicate 64 1), 2, true, false⟩, 3, by decide⟩

/-- The hypotheses of a clause are met. -/
theorem witness_TunnelCommands_8 : ∃ (s u : State) (f : EgFrame), (s.sound = true) ∧ (s.takeOutput 20 0 = (u, some f)) ∧
  (u.run .brgGlobal 0 = true) ∧ (beAt (withoutFcs f.bytes) (tagsEnd (u.gf shB F.pipeShared_TPID_ALT_TPID) (withoutFcs
  f.bytes) 4 12) 2 ≠ 0x22F0) ∧ (u.segsFor f = []) :=
  ⟨{ (flds [] (runs [(.brgGlobal, 0), (.brgTunnel, 0), (.hostEgress, 20)] onAll)) with egress := [(20, { Egress.new with queue := [⟨⟨0, true, 0, 0x100000, 2, 0, 0, 0, 0, 0, 0, false, 0, none, []⟩, (List.replicate 64 1), 2, true, false⟩] })] }, ({ (flds [] (runs [(.brgGlobal, 0), (.brgTunnel, 0), (.hostEgress, 20)] onAll)) with egress := [(20, { Egress.new with queue := [⟨⟨0, true, 0, 0x100000, 2, 0, 0, 0, 0, 0, 0, false, 0, none, []⟩, (List.replicate 64 1), 2, true, false⟩] })] } : State).takeOutput 20 0 |>.1, ⟨⟨0, true, 0, 0x100000, 2, 0, 0, 0, 0, 0, 0, false, 0, none, []⟩, (List.replicate 64 1), 2, true, false⟩, by decide⟩

/-- The hypotheses of a clause are met. -/
theorem witness_JaldenLaneCommands_1 : ∃ (s : State) (n : Nat), (s.sound = true) ∧ (s.laneOn n = true) ∧ (s.jlState n =
  0) :=
  ⟨{ (flds [(.brgJalden, 0, F.brgJalden_JL_STS_STATE, 0)] (runs [(.emac, 0), (.brgJalden, 0)] onAll)) with ports := [(0, ⟨5, 0, 0, [], 0, none, false⟩)], jal := { onAll.jal with lanes := [] } }, 0, by decide⟩

/-- The hypotheses of a clause are met. -/
theorem witness_JaldenLaneCommands_2 : ∃ (s : State) (n : Nat), (s.sound = true) ∧ (s.laneOn n = true) ∧ (s.jlUp n =
  true) ∧ (s.jlRole n ≠ 1) ∧ ((s.jl n).outst = []) ∧ ((s.jl n).wait = []) :=
  ⟨{ (flds [(.brgJalden, 0, F.brgJalden_JL_STS_STATE, 2)] (runs [(.emac, 0), (.brgJalden, 0)] onAll)) with ports := [(0, ⟨5, 0, 0, [], 0, none, false⟩)], jal := { onAll.jal with lanes := [(0, { JlLane.new with replay := [⟨4, 1, 0, [1, 2, 3], 16⟩] })] } }, 0, by decide⟩

/-- The hypotheses of a clause are met. -/
theorem witness_JaldenLaneCommands_3 : ∃ (s : State) (n : Nat), (s.sound = true) ∧ (s.laneOn n = true) ∧ (s.jlState n =
  1) ∧ ((s.jl n).peer = false) :=
  ⟨{ (flds [(.brgJalden, 0, F.brgJalden_JL_STS_STATE, 1)] (runs [(.emac, 0), (.brgJalden, 0)] onAll)) with ports := [(0, ⟨5, 0, 0, [], 0, none, false⟩)], jal := { onAll.jal with lanes := [] } }, 0, by decide⟩

/-- The hypotheses of a clause are met. -/
theorem witness_JaldenLaneCommands_4 : ∃ (s : State) (n a cp cn : Nat) (b : Bytes), (s.sound = true) ∧ (s.laneOn n =
  true) ∧ (s.jlState n = 1) ∧ (s.discoverCheck n b = 0) ∧ ((s.jl n).sent = false) :=
  ⟨{ (flds [(.brgJalden, 0, F.brgJalden_JL_STS_STATE, 1), (.brgJalden, 0, F.brgJalden_UNIT_DEPTH, 1), (.brgJalden, 0, F.brgJalden_UNIT_ID, 5), (.brgJalden, 0, F.brgJalden_PATH01_L1, 5)] (runs [(.emac, 0), (.brgJalden, 0)] onAll)) with ports := [(0, ⟨5, 0, 0, [], 0, none, false⟩)], jal := { onAll.jal with lanes := [] } }, 0, 7, 9, 4, [0, 0, 0, 1, 0, 1, 0, 0, 0, 1, 0, 0, 0, 0], by decide⟩

/-- The hypotheses of a clause are met. -/
theorem witness_JaldenLaneCommands_5 : ∃ (s : State) (n a cp cn : Nat) (b : Bytes), (s.sound = true) ∧ (s.laneOn n =
  true) ∧ (s.jlState n = 1) ∧ (s.discoverCheck n b = 0) ∧ ((s.jl n).sent = true) ∧ (byteAt b 9 ≠ 0) ∧ (s.jlRole n ≠ 2) :=
  ⟨{ (flds [(.brgJalden, 0, F.brgJalden_JL_STS_STATE, 1), (.brgJalden, 0, F.brgJalden_UNIT_DEPTH, 1), (.brgJalden, 0, F.brgJalden_UNIT_ID, 5), (.brgJalden, 0, F.brgJalden_PATH01_L1, 5)] (runs [(.emac, 0), (.brgJalden, 0)] onAll)) with ports := [(0, ⟨5, 0, 0, [], 0, none, false⟩)], jal := { onAll.jal with lanes := [(0, { JlLane.new with sent := true })] } }, 0, 7, 9, 4, [0, 0, 0, 1, 0, 1, 0, 0, 0, 1, 0, 0, 0, 0], by decide⟩

/-- The hypotheses of a clause are met. -/
theorem witness_JaldenLaneCommands_6 : ∃ (s : State) (n a cp cn : Nat) (b : Bytes), (s.sound = true) ∧ (s.laneOn n =
  true) ∧ (s.jlUp n = true) ∧ (s.discoverCheck n b = 0) ∧ ((s.jl n).wait = []) :=
  ⟨{ (flds [(.brgJalden, 0, F.brgJalden_JL_STS_STATE, 2), (.brgJalden, 0, F.brgJalden_UNIT_DEPTH, 1), (.brgJalden, 0, F.brgJalden_UNIT_ID, 5), (.brgJalden, 0, F.brgJalden_PATH01_L1, 5)] (runs [(.emac, 0), (.brgJalden, 0)] onAll)) with ports := [(0, ⟨5, 0, 0, [], 0, none, false⟩)], jal := { onAll.jal with lanes := [(0, { JlLane.new with replay := [⟨4, 1, 0, [1, 2, 3], 16⟩] })] } }, 0, 4, 9, 4, [0, 0, 0, 1, 0, 1, 0, 0, 0, 1, 0, 0, 0, 0], by decide⟩

/-- The hypotheses of a clause are met. -/
theorem witness_JaldenLaneCommands_7 : ∃ (s : State) (n a cp cn : Nat) (b : Bytes), (s.sound = true) ∧ (s.laneOn n =
  true) ∧ (s.jlState n = 1) ∧ (s.discoverCheck n b ≠ 0) :=
  ⟨{ (flds [(.brgJalden, 0, F.brgJalden_JL_STS_STATE, 1)] (runs [(.emac, 0), (.brgJalden, 0)] onAll)) with ports := [(0, ⟨5, 0, 0, [], 0, none, false⟩)], jal := { onAll.jal with lanes := [] } }, 0, 7, 9, 4, [0, 1], by decide⟩

/-- The hypotheses of a clause are met. -/
theorem witness_JaldenLaneCommands_8 : ∃ (s : State) (n typ cls seq a cp cn : Nat) (b : Bytes), (s.sound = true) ∧
  (s.laneOn n = true) ∧ (s.jlUp n = true) :=
  ⟨{ (flds [(.brgJalden, 0, F.brgJalden_JL_STS_STATE, 2)] (runs [(.emac, 0), (.brgJalden, 0)] onAll)) with ports := [(0, ⟨5, 0, 0, [], 0, none, false⟩)], jal := { onAll.jal with lanes := [] } }, 0, 1, 0, 0, 0, 0, 0, [1], by decide⟩

/-- The hypotheses of a clause are met. -/
theorem witness_JaldenLaneCommands_9 : ∃ (s : State) (n seq a cp cn : Nat) (b : Bytes), (s.sound = true) ∧ (s.laneOn n =
  true) ∧ (s.jlUp n = true) ∧ ((s.jl n).wait = []) ∧ (seq = (s.jl n).exp) :=
  ⟨{ (flds [(.brgJalden, 0, F.brgJalden_JL_STS_STATE, 2)] (runs [(.emac, 0), (.brgJalden, 0)] onAll)) with ports := [(0, ⟨5, 0, 0, [], 0, none, false⟩)], jal := { onAll.jal with lanes := [(0, { JlLane.new with exp := 3, replay := [⟨4, 1, 0, [1, 2, 3], 16⟩] })] } }, 0, 3, 4, 1, 1, [1, 2], by decide⟩

/-- The hypotheses of a clause are met. -/
theorem witness_JaldenLaneCommands_10 : ∃ (s : State) (n : Nat) (g : JlFrame), (s.sound = true) ∧ (s.laneOn n = true) ∧
  (s.jlUp n = true) ∧ ((s.jl n).replay = [g]) ∧ ((s.jl n).stalls < 3) :=
  ⟨{ (flds [(.brgJalden, 0, F.brgJalden_JL_STS_STATE, 2)] (runs [(.emac, 0), (.brgJalden, 0)] onAll)) with ports := [(0, ⟨5, 0, 0, [], 0, none, false⟩)], jal := { onAll.jal with lanes := [(0, { JlLane.new with replay := [⟨4, 1, 0, [1, 2, 3], 16⟩] })] } }, 0, ⟨4, 1, 0, [1, 2, 3], 16⟩, by decide⟩

/-- The hypotheses of a clause are met. -/
theorem witness_JaldenLaneCommands_11 : ∃ (s : State) (n : Nat) (g : JlFrame), (s.sound = true) ∧ (s.laneOn n = true) ∧
  (s.jlUp n = true) ∧ (s.jlRole n ≠ 1) ∧ ((s.jl n).outst = []) ∧ ((s.jl n).wait = []) ∧ ((s.jl n).replay = [g]) ∧ ((s.jl
  n).stalls = 3) :=
  ⟨{ (flds [(.brgJalden, 0, F.brgJalden_JL_STS_STATE, 2)] (runs [(.emac, 0), (.brgJalden, 0)] onAll)) with ports := [(0, ⟨5, 0, 0, [], 0, none, false⟩)], jal := { onAll.jal with lanes := [(0, { JlLane.new with stalls := 3, replay := [⟨4, 1, 0, [1, 2, 3], 16⟩] })] } }, 0, ⟨4, 1, 0, [1, 2, 3], 16⟩, by decide⟩

/-- The hypotheses of a clause are met. -/
theorem witness_JaldenLaneCommands_12 : ∃ (s : State) (n : Nat), (s.sound = true) ∧ (s.laneOn n = true) ∧ (s.jlUp n =
  true) :=
  ⟨{ (flds [(.brgJalden, 0, F.brgJalden_JL_STS_STATE, 2)] (runs [(.emac, 0), (.brgJalden, 0)] onAll)) with ports := [(0, ⟨5, 0, 0, [], 0, none, false⟩)], jal := { onAll.jal with lanes := [(0, { JlLane.new with retP := 3 })] } }, 0, by decide⟩

/-- The hypotheses of a clause are met. -/
theorem witness_JaldenLaneCommands_13 : ∃ (s : State) (n : Nat) (w : Word), (s.sound = true) ∧ (s.laneOn n = true) ∧
  (s.jlState n = 3) ∧ (w.getLsbD 4 = true) ∧ (s.gf (emB n) F.emac_LINK_STS_BLOCK_LOCK = 0) :=
  ⟨{ (flds [(.brgJalden, 0, F.brgJalden_JL_STS_STATE, 3)] (runs [(.emac, 0), (.brgJalden, 0)] onAll)) with ports := [(0, ⟨5, 0, 0, [], 0, none, false⟩)], jal := { onAll.jal with lanes := [] } }, 0, 0x10, by decide⟩

/-- The hypotheses of a clause are met. -/
theorem witness_RemoteAndTwinCommands_1 : ∃ (s : State) (w : Word) (r : RaccReq), (s.sound = true) ∧ (s.alive .brgJalden
  0 = true) ∧ (w.getLsbD 31 = true) ∧ (bitsOf w.toNat 9 8 ≤ 2) ∧ (s.gf jlB F.brgJalden_RACC_STS_BUSY = 0) ∧ (r = ⟨[s.gf
  jlB F.brgJalden_RACC_DST01_L0, s.gf jlB F.brgJalden_RACC_DST01_L1, s.gf jlB F.brgJalden_RACC_DST23_L2, s.gf jlB
  F.brgJalden_RACC_DST23_L3], bitsOf w.toNat 17 16, bitsOf w.toNat 0 0, bitsOf w.toNat 9 8, s.gf jlB
  F.brgJalden_RACC_ADDR_ADDR, s.gf jlB F.brgJalden_RACC_WDATA_DATA⟩) ∧ (s.raccHop r = .here) :=
  ⟨onAll, 0x80000000, ⟨[0, 0, 0, 0], 0, 0, 0, 0, 0⟩, by decide⟩

/-- The hypotheses of a clause are met. -/
theorem witness_RemoteAndTwinCommands_2 : ∃ (s : State) (w : Word) (r : RaccReq), (s.sound = true) ∧ (s.alive .brgJalden
  0 = true) ∧ (w.getLsbD 31 = true) ∧ (bitsOf w.toNat 9 8 ≤ 2) ∧ (s.gf jlB F.brgJalden_RACC_STS_BUSY = 0) ∧ (r = ⟨[s.gf
  jlB F.brgJalden_RACC_DST01_L0, s.gf jlB F.brgJalden_RACC_DST01_L1, s.gf jlB F.brgJalden_RACC_DST23_L2, s.gf jlB
  F.brgJalden_RACC_DST23_L3], bitsOf w.toNat 17 16, bitsOf w.toNat 0 0, bitsOf w.toNat 9 8, s.gf jlB
  F.brgJalden_RACC_ADDR_ADDR, s.gf jlB F.brgJalden_RACC_WDATA_DATA⟩) ∧ (s.raccHop r = .nowhere) :=
  ⟨onAll, 0x80010000, ⟨[0, 0, 0, 0], 1, 0, 0, 0, 0⟩, by decide⟩

/-- The hypotheses of a clause are met. -/
theorem witness_RemoteAndTwinCommands_3 : ∃ (s : State) (w : Word) (r : RaccReq) (n : Nat), (s.sound = true) ∧ (s.alive
  .brgJalden 0 = true) ∧ (w.getLsbD 31 = true) ∧ (bitsOf w.toNat 9 8 ≤ 2) ∧ (s.gf jlB F.brgJalden_RACC_STS_BUSY = 0) ∧ (r
  = ⟨[s.gf jlB F.brgJalden_RACC_DST01_L0, s.gf jlB F.brgJalden_RACC_DST01_L1, s.gf jlB F.brgJalden_RACC_DST23_L2, s.gf
  jlB F.brgJalden_RACC_DST23_L3], bitsOf w.toNat 17 16, bitsOf w.toNat 0 0, bitsOf w.toNat 9 8, s.gf jlB
  F.brgJalden_RACC_ADDR_ADDR, s.gf jlB F.brgJalden_RACC_WDATA_DATA⟩) ∧ (s.raccHop r = .lane n) ∧ (r.op = 1) ∧ (n < 16) ∧
  ((s.jl n).wait = []) ∧ ((s.jl n).may ⟨0, 2, 0, r.bytes, 16⟩ = true) :=
  ⟨{ (flds [(.brgJalden, 0, F.brgJalden_JL_STS_STATE, 2), (.brgJalden, 0, F.brgJalden_JL_LANE_ROLE, 1)] (runs [(.emac, 0), (.brgJalden, 0)] onAll)) with ports := [(0, ⟨5, 0, 0, [], 0, none, false⟩)], jal := { onAll.jal with lanes := [(0, { JlLane.new with credP := 5 })] } }, 0x80010100, ⟨[0, 0, 0, 0], 1, 0, 1, 0, 0⟩, 0, by decide⟩

/-- The hypotheses of a clause are met. -/
theorem witness_RemoteAndTwinCommands_4 : ∃ (s : State) (r : RaccReq) (v : Nat), (s.sound = true) ∧ (s.alive .brgJalden 0
  = true) ∧ (s.jal.own = some r) ∧ (s.raccHop r = .here) ∧ (r.op = 0) ∧ (v < 2 ^ 32) ∧ (s.gf jlB
  F.brgJalden_RACC_STS_BUSY = 1) ∧ (State.busRead ({ s with jal := { s.jal with own := none } }) r.addr true = (v, true,
  { s with jal := { s.jal with own := none } })) :=
  ⟨{ flds [(.brgJalden, 0, F.brgJalden_RACC_STS_BUSY, 1)] onAll with jal := { onAll.jal with own := some ⟨[0, 0, 0, 0], 0, 0, 0, 0x10040, 0⟩ } }, ⟨[0, 0, 0, 0], 0, 0, 0, 0x10040, 0⟩, ((flds [(.brgJalden, 0, F.brgJalden_RACC_STS_BUSY, 1)] onAll).busRead 0x10040 true).1, by decide⟩

/-- The hypotheses of a clause are met. -/
theorem witness_RemoteAndTwinCommands_5 : ∃ (s : State) (n : Nat) (r : RaccReq), (s.laneOn n = true) ∧ (s.jlUp n = true)
  ∧ (s.raccHop r = .here) ∧ (r.op = 1) :=
  ⟨{ (flds [(.brgJalden, 0, F.brgJalden_JL_STS_STATE, 2)] (runs [(.emac, 0), (.brgJalden, 0)] onAll)) with ports := [(0, ⟨5, 0, 0, [], 0, none, false⟩)], jal := { onAll.jal with lanes := [] } }, 0, ⟨[0, 0, 0, 0], 0, 0, 1, 0x8004C, 0⟩, by decide⟩

/-- The hypotheses of a clause are met. -/
theorem witness_RemoteAndTwinCommands_6 : ∃ (s : State) (n st v : Nat), (s.sound = true) ∧ (s.laneOn n = true) ∧ (s.jlUp
  n = true) ∧ (16 ∈ (s.jl n).outst) ∧ ((s.jl n).wait = []) ∧ (1 ≤ st) ∧ (st < 6) ∧ (s.gf jlB F.brgJalden_RACC_STS_BUSY =
  1) :=
  ⟨{ (flds [(.brgJalden, 0, F.brgJalden_JL_STS_STATE, 2), (.brgJalden, 0, F.brgJalden_RACC_STS_BUSY, 1)] (runs [(.emac, 0), (.brgJalden, 0)] onAll)) with ports := [(0, ⟨5, 0, 0, [], 0, none, false⟩)], jal := { onAll.jal with lanes := [(0, { JlLane.new with outst := [16] })] } }, 0, 2, 7, by decide⟩

/-- The hypotheses of a clause are met. -/
theorem witness_RemoteAndTwinCommands_7 : ∃ (s : State) (n st v : Nat), (s.sound = true) ∧ (s.laneOn n = true) ∧ (s.jlUp
  n = true) ∧ (16 ∈ (s.jl n).outst) ∧ ((s.jl n).wait = []) ∧ (s.gf jlB F.brgJalden_RACC_STS_BUSY = 0) :=
  ⟨{ (flds [(.brgJalden, 0, F.brgJalden_JL_STS_STATE, 2)] (runs [(.emac, 0), (.brgJalden, 0)] onAll)) with ports := [(0, ⟨5, 0, 0, [], 0, none, false⟩)], jal := { onAll.jal with lanes := [(0, { JlLane.new with outst := [16] })] } }, 0, 2, 7, by decide⟩

/-- The hypotheses of a clause are met. -/
theorem witness_RemoteAndTwinCommands_8 : ∃ (s : State) (n : Nat), (s.sound = true) ∧ (n < 16) ∧ (s.alive .brgJalden 0 =
  true) ∧ (s.gf jlB F.brgJalden_RACC_STS_BUSY = 1) ∧ (s.jal.own = none) :=
  ⟨{ flds [(.brgJalden, 0, F.brgJalden_RACC_STS_BUSY, 1)] onAll with jal := { onAll.jal with lanes := [(0, { JlLane.new with outst := [16] })] } }, 0, by decide⟩

/-- The hypotheses of a clause are met. -/
theorem witness_RemoteAndTwinCommands_9 : ∃ (s : State) (n : Nat), (s.sound = true) ∧ (n < 16) ∧ (s.alive .brgJalden 0 =
  true) ∧ (s.jlRole n = 2) ∧ (s.gf jlB F.brgJalden_TWIN_STS_PEER_LOST = 0) ∧ (bitOf (s.gf (pageBase .guardGlobal 0)
  F.guardGlobal_AUTO_DEG_CAUSE) 4 = false) ∧ (s.alive .brgGlobal 0 = true) :=
  ⟨{ (flds [(.brgJalden, 0, F.brgJalden_JL_STS_STATE, 2), (.brgJalden, 0, F.brgJalden_JL_LANE_ROLE, 2), (.guardGlobal, 0, F.guardGlobal_AUTO_DEG_CAUSE, 0)] (runs [(.emac, 0), (.brgJalden, 0)] onAll)) with ports := [(0, ⟨5, 0, 0, [], 0, none, false⟩)], jal := { onAll.jal with lanes := [] } }, 0, by decide⟩

/-- The hypotheses of a clause are met. -/
theorem witness_RemoteAndTwinCommands_10 : ∃ (s : State) (n : Nat) (x : TwinRec) (l : List Nat), (s.sound = true) ∧ (n <
  16) ∧ (s.twinPair = true) ∧ (s.twinLanes = n :: l) ∧ (s.jal.shared = []) ∧ (s.sig.twinChanges = []) ∧ (s.twinNow = [x])
  ∧ ((s.jl n).wait = []) ∧ ((s.jl n).may ⟨0, 5, 0, twinRecBytes x, 16⟩ = true) :=
  ⟨({ (flds [(.brgJalden, 0, F.brgJalden_JL_STS_STATE, 2), (.brgJalden, 0, F.brgJalden_JL_LANE_ROLE, 2), (.brgJalden, 0, shareFdb, 1), (.brgJalden, 0, shareSrf, 0), (.brgJalden, 0, shareNodesFld, 0), (.guardGlobal, 0, F.guardGlobal_PROFILE_ACTIVE, 3)] (runs [(.emac, 0), (.brgJalden, 0)] onAll)) with ports := [(0, ⟨5, 0, 0, [], 0, none, false⟩)], jal := { onAll.jal with lanes := [(0, { JlLane.new with credP := 5 })] } } : State).b2Write 0x04000000 [2, 0, 0, 0, 0, 1, 0x01, 0x80, 0x83, 0, 0, 0, 0, 0, 0, 0], 0, ((({ (flds [(.brgJalden, 0, F.brgJalden_JL_STS_STATE, 2), (.brgJalden, 0, F.brgJalden_JL_LANE_ROLE, 2), (.brgJalden, 0, shareFdb, 1), (.brgJalden, 0, shareSrf, 0), (.brgJalden, 0, shareNodesFld, 0), (.guardGlobal, 0, F.guardGlobal_PROFILE_ACTIVE, 3)] (runs [(.emac, 0), (.brgJalden, 0)] onAll)) with ports := [(0, ⟨5, 0, 0, [], 0, none, false⟩)], jal := { onAll.jal with lanes := [(0, { JlLane.new with credP := 5 })] } } : State).b2Write 0x04000000 [2, 0, 0, 0, 0, 1, 0x01, 0x80, 0x83, 0, 0, 0, 0, 0, 0, 0]).twinNow.getD 0 (.srf 0 0 0)), [], by decide⟩

/-- The hypotheses of a clause are met. -/
theorem witness_RemoteAndTwinCommands_11 : ∃ (s : State) (n i a h : Nat), (s.sound = true) ∧ (n < 16) ∧ (s.twinPair =
  true) ∧ (s.jlRole n = 2) ∧ (s.jlUp n = true) ∧ (i < 1024) ∧ (a < 2 ^ 16) ∧ (h < 2 ^ 32) :=
  ⟨{ (flds [(.brgJalden, 0, F.brgJalden_JL_STS_STATE, 2), (.brgJalden, 0, F.brgJalden_JL_LANE_ROLE, 2), (.guardGlobal, 0, F.guardGlobal_PROFILE_ACTIVE, 3)] (runs [(.emac, 0), (.brgJalden, 0)] onAll)) with ports := [(0, ⟨5, 0, 0, [], 0, none, false⟩)], jal := { onAll.jal with lanes := [] } }, 0, 3, 7, 9, by decide⟩

/-- The hypotheses of a clause are met. -/
theorem witness_RemoteAndTwinCommands_12 : ∃ (s : State) (n k fid port : Nat) (mac : Nat) (e : FdbEntry), (s.sound =
  true) ∧ (n < 16) ∧ (s.twinPair = true) ∧ (s.jlRole n = 2) ∧ (s.jlUp n = true) ∧ (k < 2) ∧ (fid < 4096) ∧ (mac < 2 ^ 48)
  ∧ (s.fdbFind k fid (beBytes 6 mac) = none) ∧ (((s.fdbPlaces k fid (beBytes 6 mac)).map s.fdbAt).find? (fun e =>
  !e.valid) = some e) :=
  ⟨{ (flds [(.brgJalden, 0, F.brgJalden_JL_STS_STATE, 2), (.brgJalden, 0, F.brgJalden_JL_LANE_ROLE, 2), (.guardGlobal, 0, F.guardGlobal_PROFILE_ACTIVE, 3)] (runs [(.emac, 0), (.brgJalden, 0)] onAll)) with ports := [(0, ⟨5, 0, 0, [], 0, none, false⟩)], jal := { onAll.jal with lanes := [] } }, 0, 0, 1, 7, 0x020000000001, ((((onAll.fdbPlaces 0 1 (beBytes 6 0x020000000001)).map onAll.fdbAt).head?).getD (onAll.fdbAt 0)), by decide⟩

/-- The hypotheses of a clause are met. -/
theorem witness_SignalScannerCommands_1 : ∃ (s : State) (i : Nat), (s.sound = true) ∧ (s.run .sigGlobal 0 = true) ∧ (s.gf
  sgB F.sigGlobal_TMO_CTL_SCAN_EN = 1) ∧ (i < (s.bank s.fg).sigs) ∧ (s.sig.deferred.contains i = false) ∧ ((s.sigRec s.fg
  i).valid = true) ∧ ((s.sigRec s.fg i).sink = false) ∧ ((s.sigRec s.fg i).tmoMs ≠ 0) ∧ (bitOf (s.sigFlags s.fg i) 1 =
  false) ∧ ((s.sigRec s.fg i).tmoMs * 1000000 + s.gf sgB F.sigGlobal_TMO_CTL_GRACE_US * 1000 ≤ (s.stamp + 2 ^ 32 -
  s.lastRx s.fg i) % 2 ^ 32) ∧ (s.sig.tmo.length < 256) ∧ (s.run .ktl ((s.pduRec s.fg (s.pduIx s.fg (s.sigRec s.fg
  i).pdu)).cluster) = false) :=
  ⟨{ (flds [] (runs [(.sigGlobal, 0), (.sigNode, 0)] (onAll.b2wr 0x08000000 0x83C00800 |>.b2wr 0x08000004 0x1FFFF |>.b2wr 0x08000008 0x4000001E |>.b2wr 0x0800000C 0xFFFF))) with sig := { onAll.sig with build := none }, time := BitVec.ofNat 92 (40000000 * 2 ^ 28) }, 0, by decide⟩

/-- The hypotheses of a clause are met. -/
theorem witness_SignalScannerCommands_2 : ∃ (s : State) (i : Nat), (s.sound = true) ∧ (s.run .sigGlobal 0 = true) ∧ (s.gf
  sgB F.sigGlobal_TMO_CTL_SCAN_EN = 1) ∧ (i < (s.bank s.fg).sigs) ∧ (s.sig.deferred.contains i = false) ∧ ((s.sigRec s.fg
  i).valid = true) ∧ ((s.sigRec s.fg i).sink = false) ∧ ((s.sigRec s.fg i).tmoMs ≠ 0) ∧ (bitOf (s.sigFlags s.fg i) 1 =
  false) ∧ ((s.sigRec s.fg i).tmoMs * 1000000 + s.gf sgB F.sigGlobal_TMO_CTL_GRACE_US * 1000 ≤ (s.stamp + 2 ^ 32 -
  s.lastRx s.fg i) % 2 ^ 32) ∧ (s.sig.tmo.length < 256) ∧ (s.run .ktl ((s.pduRec s.fg (s.pduIx s.fg (s.sigRec s.fg
  i).pdu)).cluster) = true) ∧ ((s.cl ((s.pduRec s.fg (s.pduIx s.fg (s.sigRec s.fg i).pdu)).cluster)).queue.length < 64)
  :=
  ⟨{ (flds [] (runs [(.sigGlobal, 0), (.sigNode, 0), (.ktl, 0)] (onAll.b2wr 0x08000000 0x83C00800 |>.b2wr 0x08000004 0x1FFFF |>.b2wr 0x08000008 0x4000001E |>.b2wr 0x0800000C 0xFFFF))) with sig := { onAll.sig with build := none }, time := BitVec.ofNat 92 (40000000 * 2 ^ 28) }, 0, by decide⟩

/-- The hypotheses of a clause are met. -/
theorem witness_SignalScannerCommands_3 : ∃ (s : State) (i : Nat), (s.sound = true) ∧ (s.run .sigGlobal 0 = true) ∧ (s.gf
  sgB F.sigGlobal_TMO_CTL_SCAN_EN = 1) ∧ (i < (s.bank s.fg).sigs) ∧ (s.sig.deferred.contains i = false) ∧ ((s.sigRec s.fg
  i).valid = true) ∧ ((s.sigRec s.fg i).sink = false) ∧ ((s.sigRec s.fg i).tmoMs ≠ 0) ∧ (bitOf (s.sigFlags s.fg i) 1 =
  false) ∧ ((s.stamp + 2 ^ 32 - s.lastRx s.fg i) % 2 ^ 32 < (s.sigRec s.fg i).tmoMs * 1000000 + s.gf sgB
  F.sigGlobal_TMO_CTL_GRACE_US * 1000) :=
  ⟨{ (flds [] (runs [(.sigGlobal, 0), (.sigNode, 0)] (onAll.b2wr 0x08000000 0x83C00800 |>.b2wr 0x08000004 0x1FFFF |>.b2wr 0x08000008 0x4000001E |>.b2wr 0x0800000C 0xFFFF))) with sig := { onAll.sig with build := none } }, 0, by decide⟩

/-- The hypotheses of a clause are met. -/
theorem witness_SignalScannerCommands_4 : ∃ (s : State) (j : Nat) (p : PduRec), (s.sound = true) ∧ (s.run .sigGlobal 0 =
  true) ∧ (j < (s.bank s.fg).pdus) ∧ (s.pduRec s.fg j = p) ∧ (p.valid = true) ∧ (p.tx = true) ∧ (p.mode ≠ 1) ∧ (p.period
  ≠ 0) ∧ (s.sig.instant.isSome = true) ∧ (s.nextCyclic j p.period ≤ s.now) ∧ (s.txQueued j = false) ∧ (s.run .ktl
  p.cluster = true) ∧ ((s.cl p.cluster).queue.length < 64) :=
  ⟨{ (flds [] (runs [(.sigGlobal, 0), (.sigNode, 0), (.ktl, 0)] (onAll.b2wr 0x08200000 0xC0000000 |>.b2wr 0x0820000C 10))) with sig := { onAll.sig with instant := some 0 }, time := BitVec.ofNat 92 (40000000 * 2 ^ 28) }, 0, (onAll.b2wr 0x08200000 0xC0000000 |>.b2wr 0x0820000C 10).pduRec 0 0, by decide⟩

/-- The hypotheses of a clause are met. -/
theorem witness_SignalScannerCommands_5 : ∃ (s : State) (j : Nat) (p : PduRec), (s.sound = true) ∧ (s.run .sigGlobal 0 =
  true) ∧ (j < (s.bank s.fg).pdus) ∧ (s.pduRec s.fg j = p) ∧ (p.valid = true) ∧ (p.tx = true) ∧ (p.mode = 1) ∧
  (s.pduChanged s.fg j = true) ∧ (look (fun _ => 0) s.sig.sentAt (32768 * s.fg + j) = 0) ∧ (s.txStarted j = false) ∧
  (s.txQueued j = false) ∧ (s.run .ktl p.cluster = true) ∧ ((s.cl p.cluster).queue.length < 64) :=
  ⟨{ (flds [] (runs [(.sigGlobal, 0), (.sigNode, 0), (.ktl, 0)] (onAll.b2wr 0x08200000 0xC0010000 |>.b2Write 0x08600009 [1]))) with sig := { onAll.sig with build := none } }, 0, (onAll.b2wr 0x08200000 0xC0010000).pduRec 0 0, by decide +kernel⟩

/-- The hypotheses of a clause are met. -/
theorem witness_SignalScannerCommands_6 : ∃ (s : State) (r : StampRec) (rest : List StampRec), (s.sound = true) ∧
  (s.alive .sigGlobal 0 = true) ∧ (s.sig.tmo = r :: rest) :=
  ⟨{ (flds [] (runs [(.sigGlobal, 0), (.sigNode, 0)] (onAll))) with sig := { onAll.sig with tmo := [⟨0x80000005, 7⟩] } }, ⟨0x80000005, 7⟩, [], by decide⟩

/-- The hypotheses of a clause are met. -/
theorem witness_BatchCommands_1 : ∃ (s : State) (b : Nat) (v : Bool), (s.sound = true) ∧ (s.alive .sigGlobal 0 = true) ∧
  (s.gf sgB F.sigGlobal_BUILD_STS_BUSY = 0) ∧ (s.gf sgB F.sigGlobal_BANK_STS_DRAINING = 0) :=
  ⟨{ (flds [] (runs [(.sigGlobal, 0), (.sigNode, 0)] (onAll))) with sig := { onAll.sig with build := none } }, 4, false, by decide⟩

/-- The hypotheses of a clause are met. -/
theorem witness_BatchCommands_2 : ∃ (s : State) (b : Nat), (s.sound = true) ∧ (s.alive .sigGlobal 0 = true) ∧ (s.gf sgB
  F.sigGlobal_BUILD_STS_BUSY = 0) ∧ (s.gf sgB F.sigGlobal_BANK_STS_DRAINING = 0) :=
  ⟨{ (flds [] (runs [(.sigGlobal, 0), (.sigNode, 0)] (onAll))) with sig := { onAll.sig with build := none } }, 4, by decide⟩

/-- The hypotheses of a clause are met. -/
theorem witness_BatchCommands_3 : ∃ (s : State) (j : BuildJob) (corr : Nat), (s.sound = true) ∧ (s.alive .sigGlobal 0 =
  true) ∧ (s.sig.build = some j) ∧ (j.batch < 256) ∧ (j.byVariant = false) ∧ (s.guard.batch = none) ∧ (s.gf ddB
  F.ddr_DDR_STS_READY = 0) :=
  ⟨{ (flds [] (runs [(.sigGlobal, 0), (.sigNode, 0)] (onAll))) with sig := { onAll.sig with build := some ⟨4, false⟩ } }, ⟨4, false⟩, 0, by decide⟩

/-- The hypotheses of a clause are met. -/
theorem witness_BatchCommands_4 : ∃ (s : State) (j : BuildJob) (b corr : Nat), (s.sound = true) ∧ (s.alive .sigGlobal 0 =
  true) ∧ (s.sig.build = some j) ∧ (b < 256) ∧ (s.buildBatch j = some b) ∧ (s.guard.batch = none) :=
  ⟨{ (flds [] (runs [(.sigGlobal, 0), (.sigNode, 0)] (onAll))) with sig := { onAll.sig with build := some ⟨4, false⟩ } }, ⟨4, false⟩, 4, 1, by decide⟩

/-- The hypotheses of a clause are met. -/
theorem witness_BatchCommands_5 : ∃ (s : State), (s.sound = true) ∧ (s.run .sigGlobal 0 = true) ∧ (s.gf sgB
  F.sigGlobal_BANK_STS_DRAINING = 0) ∧ (s.gf sgB F.sigGlobal_BANK_STS_BG_READY = 1) :=
  ⟨{ (flds [(.sigGlobal, 0, F.sigGlobal_BANK_STS_BG_READY, 1)] (runs [(.sigGlobal, 0), (.sigNode, 0)] (onAll))) with sig := { onAll.sig with build := none } }, by decide⟩

/-- The hypotheses of a clause are met. -/
theorem witness_BatchCommands_6 : ∃ (s : State), (s.sound = true) ∧ (s.run .sigGlobal 0 = true) ∧ (s.gf sgB
  F.sigGlobal_BANK_STS_DRAINING = 0) ∧ (s.gf sgB F.sigGlobal_BANK_STS_BG_READY = 0) :=
  ⟨{ (flds [] (runs [(.sigGlobal, 0), (.sigNode, 0)] (onAll))) with sig := { onAll.sig with build := none } }, by decide⟩

/-- The hypotheses of a clause are met. -/
theorem witness_BatchCommands_7 : ∃ (s : State), (s.sound = true) ∧ (s.alive .sigGlobal 0 = true) ∧ (s.now ≤ s.sigAt) :=
  ⟨{ (flds [] (runs [(.sigGlobal, 0), (.sigNode, 0)] (onAll))) with sig := { onAll.sig with build := none } }, by decide⟩

/-- The hypotheses of a clause are met. -/
theorem witness_BatchCommands_8 : ∃ (s : State), (s.sound = true) ∧ (s.alive .sigGlobal 0 = true) :=
  ⟨{ (flds [] (runs [(.sigGlobal, 0), (.sigNode, 0)] (onAll))) with sig := { onAll.sig with build := none } }, by decide⟩

/-- The hypotheses of a clause are met. -/
theorem witness_BatchCommands_9 : ∃ (s : State), (s.sound = true) ∧ (s.run .sigGlobal 0 = true) ∧ (s.gf sgB
  F.sigGlobal_BANK_STS_DRAINING = 0) ∧ (s.gf sgB F.sigGlobal_BANK_STS_BG_READY = 1) ∧ (s.sig.flip = .at_) ∧ (s.sigAt ≤
  s.now) :=
  ⟨{ (flds [(.sigGlobal, 0, F.sigGlobal_BANK_STS_BG_READY, 1)] (runs [(.sigGlobal, 0), (.sigNode, 0)] (onAll))) with sig := { onAll.sig with flip := .at_ } }, by decide⟩

/-- The hypotheses of a clause are met. -/
theorem witness_BatchCommands_10 : ∃ (s : State), (s.sound = true) ∧ (s.alive .sigGlobal 0 = true) ∧ (s.gf sgB
  F.sigGlobal_BANK_STS_DRAINING = 1) ∧ (s.sig.instant.getD 0 + s.gf sgB F.sigGlobal_TMO_CTL_DRAIN_MS * 1000000 ≤ s.now) ∧
  (s.epochBusy ((s.sigEpoch + 7) % 8) = false) ∧ (s.sig.flip = .none) :=
  ⟨{ (flds [(.sigGlobal, 0, F.sigGlobal_BANK_STS_DRAINING, 1)] (runs [(.sigGlobal, 0), (.sigNode, 0)] (onAll))) with sig := { onAll.sig with instant := some 0 }, time := BitVec.ofNat 92 (400000000 * 2 ^ 28) }, by decide⟩

/-- The hypotheses of a clause are met. -/
theorem witness_BatchCommands_11 : ∃ (s : State) (ok : Bool), (s.sound = true) ∧ (s.run .ddr 0 = true) ∧ (s.gf ddB
  F.ddr_DDR_STS_READY = 0) :=
  ⟨runs [(.ddr, 0)] onAll, true, by decide⟩

/-- The hypotheses of a clause are met. -/
theorem witness_NodeDirectoryCommands_1 : ∃ (s : State) (i : Nat) (e : NodeEntry), (s.sound = true) ∧ (s.run .sigNode 0 =
  true) ∧ (s.alive .sigGlobal 0 = true) ∧ (i < 4096) ∧ (look (fun _ => none) s.sig.nodes i = some e) ∧ (e.remote = false)
  ∧ (e.twin = false) ∧ (e.kind < 2) ∧ (s.sig.nodeFifo.length < 64) :=
  ⟨{ (flds [] (runs [(.sigGlobal, 0), (.sigNode, 0)] (onAll))) with sig := { onAll.sig with nodes := [(2, some ⟨false, 0, 3, false, 0, [5, 0, 0, 0, 0, 0], 5, 9⟩)] } }, 2, ⟨false, 0, 3, false, 0, [5, 0, 0, 0, 0, 0], 5, 9⟩, by decide⟩

/-- The hypotheses of a clause are met. -/
theorem witness_NodeDirectoryCommands_2 : ∃ (s : State) (r : Nat) (rest : List Nat), (s.sound = true) ∧ (s.alive .sigNode
  0 = true) ∧ (s.sig.nodeFifo = r :: rest) :=
  ⟨{ (flds [] (runs [(.sigGlobal, 0), (.sigNode, 0)] (onAll))) with sig := { onAll.sig with nodeFifo := [0x80000002] } }, 0x80000002, [], by decide⟩

/-- The hypotheses of a clause are met. -/
theorem witness_NodeDirectoryCommands_3 : ∃ (s : State) (n i : Nat) (x : NodeEntry), (s.sound = true) ∧ (s.run .sigNode 0
  = true) ∧ (s.gf ndB F.sigNode_SUM_CTL_SEND_EN = 1) ∧ (((List.range 16).filter fun n => s.jlUp n && s.jlRole n == 0) =
  [n]) ∧ (s.nodeList = [(i, x)]) ∧ ((s.jl n).wait = []) ∧ ((s.jl n).may ⟨0, 6, 0, ([1, 0, 3, 0] ++
  ({ x with owner := s.unitId } : NodeEntry).bytes true), 16⟩ = true) :=
  ⟨{ (flds [(.brgJalden, 0, F.brgJalden_JL_STS_STATE, 2), (.brgJalden, 0, F.brgJalden_JL_LANE_ROLE, 0), (.sigNode, 0, F.sigNode_SUM_CTL_SEND_EN, 1)] (runs [(.emac, 0), (.brgJalden, 0), (.sigNode, 0)] onAll)) with ports := [(0, ⟨5, 0, 0, [], 0, none, false⟩)], jal := { onAll.jal with lanes := [(0, { JlLane.new with credP := 9 })] }, sig := { onAll.sig with nodes := [(2, some ⟨false, 0, 3, false, 0, [5, 0, 0, 0, 0, 0], 5, 9⟩)] } }, 0, 2, ⟨false, 0, 3, false, 0, [5, 0, 0, 0, 0, 0], 5, 9⟩, by decide⟩

/-- The hypotheses of a clause are met. -/
theorem witness_NodeDirectoryCommands_4 : ∃ (s : State) (n : Nat) (x : NodeEntry) (p : Bool), (s.sound = true) ∧ (s.run
  .sigNode 0 = true) ∧ (s.gf ndB F.sigNode_SUM_CTL_SEND_EN = 1) ∧ (((List.range 16).filter fun n => s.jlUp n && s.jlRole
  n == 0) = [n]) ∧ (s.sig.changes = [(x, p)]) ∧ ((s.jl n).wait = []) ∧ ((s.jl n).may ⟨0, 6, 0, ([1, 0, 0, 0] ++
  ({ x with owner := s.unitId } : NodeEntry).bytes p), 16⟩ = true) :=
  ⟨{ (flds [(.brgJalden, 0, F.brgJalden_JL_STS_STATE, 2), (.brgJalden, 0, F.brgJalden_JL_LANE_ROLE, 0), (.sigNode, 0, F.sigNode_SUM_CTL_SEND_EN, 1)] (runs [(.emac, 0), (.brgJalden, 0), (.sigNode, 0)] onAll)) with ports := [(0, ⟨5, 0, 0, [], 0, none, false⟩)], jal := { onAll.jal with lanes := [(0, { JlLane.new with credP := 9 })] }, sig := { onAll.sig with changes := [(⟨false, 0, 3, false, 0, [5, 0, 0, 0, 0, 0], 5, 9⟩, true)] } }, 0, ⟨false, 0, 3, false, 0, [5, 0, 0, 0, 0, 0], 5, 9⟩, true, by decide⟩

/-- The hypotheses of a clause are met. -/
theorem witness_NodeDirectoryCommands_5 : ∃ (s : State) (n src : Nat) (r : Bytes), (s.sound = true) ∧ (s.jlUp n = true) ∧
  (s.jlRole n = 1) ∧ (s.run .sigNode 0 = true) ∧ (r.length = 16) ∧ (bitOf (leAt r 0 4) 31 = true) ∧ (s.nodeFind
  (childNode (src % 1024) r) = none) ∧ (freeNode 0 s.sig.nodes < 4096) ∧ (s.sig.nodeFifo.length < 64) :=
  ⟨{ (flds [(.brgJalden, 0, F.brgJalden_JL_STS_STATE, 2), (.brgJalden, 0, F.brgJalden_JL_LANE_ROLE, 1)] (runs [(.emac, 0), (.brgJalden, 0), (.sigNode, 0)] onAll)) with ports := [(0, ⟨5, 0, 0, [], 0, none, false⟩)], jal := { onAll.jal with lanes := [(0, { JlLane.new with credP := 9 })] }, sig := { onAll.sig with build := none } }, 0, 7, [0, 0, 0, 0x80, 1, 2, 3, 4, 5, 6, 0, 0, 0, 0, 0, 0], by decide⟩

/-- The hypotheses of a clause are met. -/
theorem witness_NodeDirectoryCommands_6 : ∃ (s : State) (o : Nat), (s.sound = true) ∧ (s.run .sigNode 0 = true) ∧
  (s.sig.holds.contains o = true) :=
  ⟨{ (flds [] (runs [(.sigGlobal, 0), (.sigNode, 0)] (onAll))) with sig := { onAll.sig with holds := [7], nodes := [(2, some ⟨true, 0, 3, false, 7, [5], 5, 9⟩)] } }, 7, by decide⟩

/-- The hypotheses of a clause are met. -/
theorem witness_NodeDirectoryCommands_7 : ∃ (s : State), (s.sound = true) ∧ (s.run .sigNode 0 = true) :=
  ⟨{ (flds [] (runs [(.sigGlobal, 0), (.sigNode, 0)] (onAll))) with sig := { onAll.sig with twinHold := [⟨false, 0, 3, true, 7, [5], 5, 9⟩], nodes := [(2, some ⟨false, 0, 3, true, 7, [5], 5, 9⟩)] } }, by decide⟩

/-- The hypotheses of a clause are met. -/
theorem witness_RecipeArithmetic_1 : ∃ (s : State) (k wait mem : Nat), (s.sound = true) ∧ (s.coreAt k 0x01) ∧ (mem ≠ 2) :=
  ⟨{ flds [(.ktl, 0, F.ktl_JOB_LIMIT_CYCLES, 1000)] (runs [(.ktl, 0)] ((onAll.b2wr (ktlMem 0 + 20) 0x4c48000))) with cores := [(0, { KCore.new with pc := 5, job := some (Job.plain 0 0 0 0 0 0), regs := [0, 0x1007, 9, 0, 0, 0, 0, 0, 0, 0, 0, 0, 0, 0, 0, 0] })] }, 0, 0, 0, by decide⟩

/-- The hypotheses of a clause are met. -/
theorem witness_RecipeArithmetic_2 : ∃ (s : State) (k wait mem : Nat), (s.sound = true) ∧ (s.coreAt k 0x02) ∧ (mem ≠ 2) :=
  ⟨{ flds [(.ktl, 0, F.ktl_JOB_LIMIT_CYCLES, 1000)] (runs [(.ktl, 0)] ((onAll.b2wr (ktlMem 0 + 20) 0x8c48000))) with cores := [(0, { KCore.new with pc := 5, job := some (Job.plain 0 0 0 0 0 0), regs := [0, 0x1007, 9, 0, 0, 0, 0, 0, 0, 0, 0, 0, 0, 0, 0, 0] })] }, 0, 0, 0, by decide⟩

/-- The hypotheses of a clause are met. -/
theorem witness_RecipeArithmetic_3 : ∃ (s : State) (k wait mem : Nat), (s.sound = true) ∧ (s.coreAt k 0x03) ∧ (mem ≠ 2) :=
  ⟨{ flds [(.ktl, 0, F.ktl_JOB_LIMIT_CYCLES, 1000)] (runs [(.ktl, 0)] ((onAll.b2wr (ktlMem 0 + 20) 0xcc48000))) with cores := [(0, { KCore.new with pc := 5, job := some (Job.plain 0 0 0 0 0 0), regs := [0, 0x1007, 9, 0, 0, 0, 0, 0, 0, 0, 0, 0, 0, 0, 0, 0] })] }, 0, 0, 0, by decide⟩

/-- The hypotheses of a clause are met. -/
theorem witness_RecipeArithmetic_4 : ∃ (s : State) (k wait mem : Nat), (s.sound = true) ∧ (s.coreAt k 0x04) ∧ (mem ≠ 2) :=
  ⟨{ flds [(.ktl, 0, F.ktl_JOB_LIMIT_CYCLES, 1000)] (runs [(.ktl, 0)] ((onAll.b2wr (ktlMem 0 + 20) 0x10c48000))) with cores := [(0, { KCore.new with pc := 5, job := some (Job.plain 0 0 0 0 0 0), regs := [0, 0x1007, 9, 0, 0, 0, 0, 0, 0, 0, 0, 0, 0, 0, 0, 0] })] }, 0, 0, 0, by decide⟩

/-- The hypotheses of a clause are met. -/
theorem witness_RecipeArithmetic_5 : ∃ (s : State) (k wait mem : Nat), (s.sound = true) ∧ (s.coreAt k 0x05) ∧ (mem ≠ 2) :=
  ⟨{ flds [(.ktl, 0, F.ktl_JOB_LIMIT_CYCLES, 1000)] (runs [(.ktl, 0)] ((onAll.b2wr (ktlMem 0 + 20) 0x14c48000))) with cores := [(0, { KCore.new with pc := 5, job := some (Job.plain 0 0 0 0 0 0), regs := [0, 0x1007, 9, 0, 0, 0, 0, 0, 0, 0, 0, 0, 0, 0, 0, 0] })] }, 0, 0, 0, by decide⟩

/-- The hypotheses of a clause are met. -/
theorem witness_RecipeArithmetic_6 : ∃ (s : State) (k wait mem : Nat), (s.sound = true) ∧ (s.coreAt k 0x06) ∧ (mem ≠ 2) :=
  ⟨{ flds [(.ktl, 0, F.ktl_JOB_LIMIT_CYCLES, 1000)] (runs [(.ktl, 0)] ((onAll.b2wr (ktlMem 0 + 20) 0x18c48000))) with cores := [(0, { KCore.new with pc := 5, job := some (Job.plain 0 0 0 0 0 0), regs := [0, 0x1007, 9, 0, 0, 0, 0, 0, 0, 0, 0, 0, 0, 0, 0, 0] })] }, 0, 0, 0, by decide⟩

/-- The hypotheses of a clause are met. -/
theorem witness_RecipeArithmetic_7 : ∃ (s : State) (k wait mem : Nat), (s.sound = true) ∧ (s.coreAt k 0x07) ∧ (mem ≠ 2) :=
  ⟨{ flds [(.ktl, 0, F.ktl_JOB_LIMIT_CYCLES, 1000)] (runs [(.ktl, 0)] ((onAll.b2wr (ktlMem 0 + 20) 0x1cc48000))) with cores := [(0, { KCore.new with pc := 5, job := some (Job.plain 0 0 0 0 0 0), regs := [0, 0x1007, 9, 0, 0, 0, 0, 0, 0, 0, 0, 0, 0, 0, 0, 0] })] }, 0, 0, 0, by decide⟩

/-- The hypotheses of a clause are met. -/
theorem witness_RecipeArithmetic_8 : ∃ (s : State) (k wait mem : Nat), (s.sound = true) ∧ (s.coreAt k 0x08) ∧ (mem ≠ 2) :=
  ⟨{ flds [(.ktl, 0, F.ktl_JOB_LIMIT_CYCLES, 1000)] (runs [(.ktl, 0)] ((onAll.b2wr (ktlMem 0 + 20) 0x20c48000))) with cores := [(0, { KCore.new with pc := 5, job := some (Job.plain 0 0 0 0 0 0), regs := [0, 0x1007, 9, 0, 0, 0, 0, 0, 0, 0, 0, 0, 0, 0, 0, 0] })] }, 0, 0, 0, by decide⟩

/-- The hypotheses of a clause are met. -/
theorem witness_RecipeArithmetic_9 : ∃ (s : State) (k wait mem : Nat), (s.sound = true) ∧ (s.coreAt k 0x09) ∧ (mem ≠ 2) :=
  ⟨{ flds [(.ktl, 0, F.ktl_JOB_LIMIT_CYCLES, 1000)] (runs [(.ktl, 0)] ((onAll.b2wr (ktlMem 0 + 20) 0x24c48000))) with cores := [(0, { KCore.new with pc := 5, job := some (Job.plain 0 0 0 0 0 0), regs := [0, 0x1007, 9, 0, 0, 0, 0, 0, 0, 0, 0, 0, 0, 0, 0, 0] })] }, 0, 0, 0, by decide⟩

/-- The hypotheses of a clause are met. -/
theorem witness_RecipeArithmetic_10 : ∃ (s : State) (k wait mem : Nat), (s.sound = true) ∧ (s.coreAt k 0x0A) ∧ (mem ≠ 2)
  :=
  ⟨{ flds [(.ktl, 0, F.ktl_JOB_LIMIT_CYCLES, 1000)] (runs [(.ktl, 0)] ((onAll.b2wr (ktlMem 0 + 20) 0x28c48000))) with cores := [(0, { KCore.new with pc := 5, job := some (Job.plain 0 0 0 0 0 0), regs := [0, 0x1007, 9, 0, 0, 0, 0, 0, 0, 0, 0, 0, 0, 0, 0, 0] })] }, 0, 0, 0, by decide⟩

/-- The hypotheses of a clause are met. -/
theorem witness_RecipeArithmetic_11 : ∃ (s : State) (k wait mem : Nat), (s.sound = true) ∧ (s.coreAt k 0x0B) ∧ (mem ≠ 2)
  :=
  ⟨{ flds [(.ktl, 0, F.ktl_JOB_LIMIT_CYCLES, 1000)] (runs [(.ktl, 0)] ((onAll.b2wr (ktlMem 0 + 20) 0x2cc48000))) with cores := [(0, { KCore.new with pc := 5, job := some (Job.plain 0 0 0 0 0 0), regs := [0, 0x1007, 9, 0, 0, 0, 0, 0, 0, 0, 0, 0, 0, 0, 0, 0] })] }, 0, 0, 0, by decide⟩

/-- The hypotheses of a clause are met. -/
theorem witness_RecipeArithmetic_12 : ∃ (s : State) (k wait mem : Nat), (s.sound = true) ∧ (s.coreAt k 0x0C) ∧ (mem ≠ 2)
  :=
  ⟨{ flds [(.ktl, 0, F.ktl_JOB_LIMIT_CYCLES, 1000)] (runs [(.ktl, 0)] ((onAll.b2wr (ktlMem 0 + 20) 0x30c48000))) with cores := [(0, { KCore.new with pc := 5, job := some (Job.plain 0 0 0 0 0 0), regs := [0, 0x1007, 9, 0, 0, 0, 0, 0, 0, 0, 0, 0, 0, 0, 0, 0] })] }, 0, 0, 0, by decide⟩

/-- The hypotheses of a clause are met. -/
theorem witness_RecipeArithmetic_13 : ∃ (s : State) (k wait mem : Nat), (s.sound = true) ∧ (s.coreAt k 0x0D) ∧ (mem ≠ 2)
  :=
  ⟨{ flds [(.ktl, 0, F.ktl_JOB_LIMIT_CYCLES, 1000)] (runs [(.ktl, 0)] ((onAll.b2wr (ktlMem 0 + 20) 0x34c48000))) with cores := [(0, { KCore.new with pc := 5, job := some (Job.plain 0 0 0 0 0 0), regs := [0, 0x1007, 9, 0, 0, 0, 0, 0, 0, 0, 0, 0, 0, 0, 0, 0] })] }, 0, 0, 0, by decide⟩

/-- The hypotheses of a clause are met. -/
theorem witness_RecipeArithmetic_14 : ∃ (s : State) (k wait mem : Nat), (s.sound = true) ∧ (s.coreAt k 0x10) ∧ (mem ≠ 2)
  :=
  ⟨{ flds [(.ktl, 0, F.ktl_JOB_LIMIT_CYCLES, 1000)] (runs [(.ktl, 0)] ((onAll.b2wr (ktlMem 0 + 20) 0x41c4ffff))) with cores := [(0, { KCore.new with pc := 5, job := some (Job.plain 0 0 0 0 0 0), regs := [0, 0x1007, 9, 0, 0, 0, 0, 0, 0, 0, 0, 0, 0, 0, 0, 0] })] }, 0, 0, 0, by decide⟩

/-- The hypotheses of a clause are met. -/
theorem witness_RecipeArithmetic_15 : ∃ (s : State) (k wait mem : Nat), (s.sound = true) ∧ (s.coreAt k 0x11) ∧ (mem ≠ 2)
  :=
  ⟨{ flds [(.ktl, 0, F.ktl_JOB_LIMIT_CYCLES, 1000)] (runs [(.ktl, 0)] ((onAll.b2wr (ktlMem 0 + 20) 0x44c7ffff))) with cores := [(0, { KCore.new with pc := 5, job := some (Job.plain 0 0 0 0 0 0), regs := [0, 0x1007, 9, 0, 0, 0, 0, 0, 0, 0, 0, 0, 0, 0, 0, 0] })] }, 0, 0, 0, by decide⟩

/-- The hypotheses of a clause are met. -/
theorem witness_RecipeArithmetic_16 : ∃ (s : State) (k wait mem : Nat), (s.sound = true) ∧ (s.coreAt k 0x12) ∧ (mem ≠ 2)
  :=
  ⟨{ flds [(.ktl, 0, F.ktl_JOB_LIMIT_CYCLES, 1000)] (runs [(.ktl, 0)] ((onAll.b2wr (ktlMem 0 + 20) 0x48c7ffff))) with cores := [(0, { KCore.new with pc := 5, job := some (Job.plain 0 0 0 0 0 0), regs := [0, 0x1007, 9, 0, 0, 0, 0, 0, 0, 0, 0, 0, 0, 0, 0, 0] })] }, 0, 0, 0, by decide⟩

/-- The hypotheses of a clause are met. -/
theorem witness_RecipeArithmetic_17 : ∃ (s : State) (k wait mem : Nat), (s.sound = true) ∧ (s.coreAt k 0x13) ∧ (mem ≠ 2)
  :=
  ⟨{ flds [(.ktl, 0, F.ktl_JOB_LIMIT_CYCLES, 1000)] (runs [(.ktl, 0)] ((onAll.b2wr (ktlMem 0 + 20) 0x4cc7ffff))) with cores := [(0, { KCore.new with pc := 5, job := some (Job.plain 0 0 0 0 0 0), regs := [0, 0x1007, 9, 0, 0, 0, 0, 0, 0, 0, 0, 0, 0, 0, 0, 0] })] }, 0, 0, 0, by decide⟩

/-- The hypotheses of a clause are met. -/
theorem witness_RecipeArithmetic_18 : ∃ (s : State) (k wait mem : Nat), (s.sound = true) ∧ (s.coreAt k 0x14) ∧ (mem ≠ 2)
  :=
  ⟨{ flds [(.ktl, 0, F.ktl_JOB_LIMIT_CYCLES, 1000)] (runs [(.ktl, 0)] ((onAll.b2wr (ktlMem 0 + 20) 0x50c48000))) with cores := [(0, { KCore.new with pc := 5, job := some (Job.plain 0 0 0 0 0 0), regs := [0, 0x1007, 9, 0, 0, 0, 0, 0, 0, 0, 0, 0, 0, 0, 0, 0] })] }, 0, 0, 0, by decide⟩

/-- The hypotheses of a clause are met. -/
theorem witness_RecipeArithmetic_19 : ∃ (s : State) (k wait mem : Nat), (s.sound = true) ∧ (s.coreAt k 0x15) ∧ (mem ≠ 2)
  :=
  ⟨{ flds [(.ktl, 0, F.ktl_JOB_LIMIT_CYCLES, 1000)] (runs [(.ktl, 0)] ((onAll.b2wr (ktlMem 0 + 20) 0x54c48000))) with cores := [(0, { KCore.new with pc := 5, job := some (Job.plain 0 0 0 0 0 0), regs := [0, 0x1007, 9, 0, 0, 0, 0, 0, 0, 0, 0, 0, 0, 0, 0, 0] })] }, 0, 0, 0, by decide⟩

/-- The hypotheses of a clause are met. -/
theorem witness_RecipeArithmetic_20 : ∃ (s : State) (k wait mem : Nat), (s.sound = true) ∧ (s.coreAt k 0x16) ∧ (mem ≠ 2)
  :=
  ⟨{ flds [(.ktl, 0, F.ktl_JOB_LIMIT_CYCLES, 1000)] (runs [(.ktl, 0)] ((onAll.b2wr (ktlMem 0 + 20) 0x58c48000))) with cores := [(0, { KCore.new with pc := 5, job := some (Job.plain 0 0 0 0 0 0), regs := [0, 0x1007, 9, 0, 0, 0, 0, 0, 0, 0, 0, 0, 0, 0, 0, 0] })] }, 0, 0, 0, by decide⟩

/-- The hypotheses of a clause are met. -/
theorem witness_RecipeArithmetic_21 : ∃ (s : State) (k wait mem : Nat), (s.sound = true) ∧ (s.coreAt k 0x17) ∧ (mem ≠ 2)
  :=
  ⟨{ flds [(.ktl, 0, F.ktl_JOB_LIMIT_CYCLES, 1000)] (runs [(.ktl, 0)] ((onAll.b2wr (ktlMem 0 + 20) 0x5cc48000))) with cores := [(0, { KCore.new with pc := 5, job := some (Job.plain 0 0 0 0 0 0), regs := [0, 0x1007, 9, 0, 0, 0, 0, 0, 0, 0, 0, 0, 0, 0, 0, 0] })] }, 0, 0, 0, by decide⟩

/-- The hypotheses of a clause are met. -/
theorem witness_RecipeMemoryAndBranches_1 : ∃ (s : State) (k wait mem : Nat) (r : Region) (o : Nat), (s.sound = true) ∧
  (s.coreAt k 0x18) ∧ (mem ≠ 2) ∧ (regionOf (s.raV k + s.immSV k).toNat 1 = some (r, o)) ∧ ((s.raV k + s.immSV k).toNat %
  1 = 0) ∧ (s.badWord k r o 1 (mem == 4) = none) :=
  ⟨{ flds [(.ktl, 0, F.ktl_JOB_LIMIT_CYCLES, 1000)] (runs [(.ktl, 0)] ((onAll.b2wr (ktlMem 0 + 20) 0x60c7fff9).b2wr (ktlMem 0 + 0x201000) 0x8182)) with cores := [(0, { KCore.new with pc := 5, job := some (Job.plain 0 0 0 0 0 0), regs := [0, 0x1007, 9, 0, 0, 0, 0, 0, 0, 0, 0, 0, 0, 0, 0, 0] })] }, 0, 0, 0, .dmem, 0x1000, by decide⟩

/-- The hypotheses of a clause are met. -/
theorem witness_RecipeMemoryAndBranches_2 : ∃ (s : State) (k wait mem : Nat) (r : Region) (o : Nat), (s.sound = true) ∧
  (s.coreAt k 0x19) ∧ (mem ≠ 2) ∧ (regionOf (s.raV k + s.immSV k).toNat 2 = some (r, o)) ∧ ((s.raV k + s.immSV k).toNat %
  2 = 0) ∧ (s.badWord k r o 2 (mem == 4) = none) :=
  ⟨{ flds [(.ktl, 0, F.ktl_JOB_LIMIT_CYCLES, 1000)] (runs [(.ktl, 0)] ((onAll.b2wr (ktlMem 0 + 20) 0x64c7fff9).b2wr (ktlMem 0 + 0x201000) 0x8182)) with cores := [(0, { KCore.new with pc := 5, job := some (Job.plain 0 0 0 0 0 0), regs := [0, 0x1007, 9, 0, 0, 0, 0, 0, 0, 0, 0, 0, 0, 0, 0, 0] })] }, 0, 0, 0, .dmem, 0x1000, by decide⟩

/-- The hypotheses of a clause are met. -/
theorem witness_RecipeMemoryAndBranches_3 : ∃ (s : State) (k wait mem : Nat) (r : Region) (o : Nat), (s.sound = true) ∧
  (s.coreAt k 0x1A) ∧ (mem ≠ 2) ∧ (regionOf (s.raV k + s.immSV k).toNat 4 = some (r, o)) ∧ ((s.raV k + s.immSV k).toNat %
  4 = 0) ∧ (s.badWord k r o 4 (mem == 4) = none) :=
  ⟨{ flds [(.ktl, 0, F.ktl_JOB_LIMIT_CYCLES, 1000)] (runs [(.ktl, 0)] ((onAll.b2wr (ktlMem 0 + 20) 0x68c7fff9).b2wr (ktlMem 0 + 0x201000) 0x8182)) with cores := [(0, { KCore.new with pc := 5, job := some (Job.plain 0 0 0 0 0 0), regs := [0, 0x1007, 9, 0, 0, 0, 0, 0, 0, 0, 0, 0, 0, 0, 0, 0] })] }, 0, 0, 0, .dmem, 0x1000, by decide⟩

/-- The hypotheses of a clause are met. -/
theorem witness_RecipeMemoryAndBranches_4 : ∃ (s : State) (k wait mem : Nat) (r : Region) (o : Nat), (s.sound = true) ∧
  (s.coreAt k 0x1B) ∧ (mem ≠ 2) ∧ (regionOf (s.raV k + s.immSV k).toNat 8 = some (r, o)) ∧ ((s.raV k + s.immSV k).toNat %
  8 = 0) ∧ (s.badWord k r o 8 (mem == 4) = none) :=
  ⟨{ flds [(.ktl, 0, F.ktl_JOB_LIMIT_CYCLES, 1000)] (runs [(.ktl, 0)] ((onAll.b2wr (ktlMem 0 + 20) 0x6cc7fff9).b2wr (ktlMem 0 + 0x201000) 0x8182)) with cores := [(0, { KCore.new with pc := 5, job := some (Job.plain 0 0 0 0 0 0), regs := [0, 0x1007, 9, 0, 0, 0, 0, 0, 0, 0, 0, 0, 0, 0, 0, 0] })] }, 0, 0, 0, .dmem, 0x1000, by decide⟩

/-- The hypotheses of a clause are met. -/
theorem witness_RecipeMemoryAndBranches_5 : ∃ (s : State) (k wait mem : Nat) (r : Region) (o : Nat), (s.sound = true) ∧
  (s.coreAt k 0x1C) ∧ (mem ≠ 2) ∧ (regionOf (s.raV k + s.immSV k).toNat 1 = some (r, o)) ∧ (s.badWord k r o 1 (mem == 4)
  = none) ∧ (r ≠ .rx) ∧ (r ≠ .ctx) ∧ ((s.raV k + s.immSV k).toNat % 1 = 0) :=
  ⟨{ flds [(.ktl, 0, F.ktl_JOB_LIMIT_CYCLES, 1000)] (runs [(.ktl, 0)] ((onAll.b2wr (ktlMem 0 + 20) 0x70c7fff9))) with cores := [(0, { KCore.new with pc := 5, job := some (Job.plain 0 0 0 0 0 0), regs := [0, 0x1007, 9, 0, 0, 0, 0, 0, 0, 0, 0, 0, 0, 0, 0, 0] })] }, 0, 0, 0, .dmem, 0x1000, by decide⟩

/-- The hypotheses of a clause are met. -/
theorem witness_RecipeMemoryAndBranches_6 : ∃ (s : State) (k wait mem : Nat) (r : Region) (o : Nat), (s.sound = true) ∧
  (s.coreAt k 0x1D) ∧ (mem ≠ 2) ∧ (regionOf (s.raV k + s.immSV k).toNat 2 = some (r, o)) ∧ (s.badWord k r o 2 (mem == 4)
  = none) ∧ (r ≠ .rx) ∧ (r ≠ .ctx) ∧ ((s.raV k + s.immSV k).toNat % 2 = 0) :=
  ⟨{ flds [(.ktl, 0, F.ktl_JOB_LIMIT_CYCLES, 1000)] (runs [(.ktl, 0)] ((onAll.b2wr (ktlMem 0 + 20) 0x74c7fff9))) with cores := [(0, { KCore.new with pc := 5, job := some (Job.plain 0 0 0 0 0 0), regs := [0, 0x1007, 9, 0, 0, 0, 0, 0, 0, 0, 0, 0, 0, 0, 0, 0] })] }, 0, 0, 0, .dmem, 0x1000, by decide⟩

/-- The hypotheses of a clause are met. -/
theorem witness_RecipeMemoryAndBranches_7 : ∃ (s : State) (k wait mem : Nat) (r : Region) (o : Nat), (s.sound = true) ∧
  (s.coreAt k 0x1E) ∧ (mem ≠ 2) ∧ (regionOf (s.raV k + s.immSV k).toNat 4 = some (r, o)) ∧ (r ≠ .rx) ∧ (r ≠ .ctx) ∧
  ((s.raV k + s.immSV k).toNat % 4 = 0) :=
  ⟨{ flds [(.ktl, 0, F.ktl_JOB_LIMIT_CYCLES, 1000)] (runs [(.ktl, 0)] ((onAll.b2wr (ktlMem 0 + 20) 0x78c7fff9))) with cores := [(0, { KCore.new with pc := 5, job := some (Job.plain 0 0 0 0 0 0), regs := [0, 0x1007, 9, 0, 0, 0, 0, 0, 0, 0, 0, 0, 0, 0, 0, 0] })] }, 0, 0, 0, .dmem, 0x1000, by decide⟩

/-- The hypotheses of a clause are met. -/
theorem witness_RecipeMemoryAndBranches_8 : ∃ (s : State) (k wait mem : Nat) (r : Region) (o : Nat), (s.sound = true) ∧
  (s.coreAt k 0x1F) ∧ (mem ≠ 2) ∧ (regionOf (s.raV k + s.immSV k).toNat 8 = some (r, o)) ∧ (r ≠ .rx) ∧ (r ≠ .ctx) ∧
  ((s.raV k + s.immSV k).toNat % 8 = 0) :=
  ⟨{ flds [(.ktl, 0, F.ktl_JOB_LIMIT_CYCLES, 1000)] (runs [(.ktl, 0)] ((onAll.b2wr (ktlMem 0 + 20) 0x7cc7fff9))) with cores := [(0, { KCore.new with pc := 5, job := some (Job.plain 0 0 0 0 0 0), regs := [0, 0x1007, 9, 0, 0, 0, 0, 0, 0, 0, 0, 0, 0, 0, 0, 0] })] }, 0, 0, 0, .dmem, 0x1000, by decide⟩

/-- The hypotheses of a clause are met. -/
theorem witness_RecipeMemoryAndBranches_9 : ∃ (s : State) (k wait mem : Nat) (o : Nat), (s.sound = true) ∧ (s.coreAt k
  0x2C) ∧ (mem ≠ 2) ∧ (regionOf (s.raV k).toNat 8 = some (.scratch, o)) ∧ ((s.raV k).toNat % 8 = 0) ∧ (s.badWord k
  .scratch o 8 (mem == 4) = none) :=
  ⟨{ flds [(.ktl, 0, F.ktl_JOB_LIMIT_CYCLES, 1000)] (runs [(.ktl, 0)] ((onAll.b2wr (ktlMem 0 + 20) 0xb0c48000).b2wr (ktlMem 0 + 0x100008) 7)) with cores := [(0, { KCore.new with pc := 5, job := some (Job.plain 0 0 0 0 0 0), regs := [0, 0x10008, 5, 0, 0, 0, 0, 0, 0, 0, 0, 0, 0, 0, 0, 0] })] }, 0, 0, 0, 8, by decide⟩

/-- The hypotheses of a clause are met. -/
theorem witness_RecipeMemoryAndBranches_10 : ∃ (s : State) (k wait mem : Nat), (s.sound = true) ∧ (s.coreAt k 0x20) ∧
  (mem ≠ 2) :=
  ⟨{ flds [(.ktl, 0, F.ktl_JOB_LIMIT_CYCLES, 1000)] (runs [(.ktl, 0)] ((onAll.b2wr (ktlMem 0 + 20) 0x80c7fffc))) with cores := [(0, { KCore.new with pc := 5, job := some (Job.plain 0 0 0 0 0 0), regs := [0, 0x1007, 9, 0, 0, 0, 0, 0, 0, 0, 0, 0, 0, 0, 0, 0] })] }, 0, 0, 0, by decide⟩

/-- The hypotheses of a clause are met. -/
theorem witness_RecipeMemoryAndBranches_11 : ∃ (s : State) (k wait mem : Nat), (s.sound = true) ∧ (s.coreAt k 0x21) ∧
  (mem ≠ 2) :=
  ⟨{ flds [(.ktl, 0, F.ktl_JOB_LIMIT_CYCLES, 1000)] (runs [(.ktl, 0)] ((onAll.b2wr (ktlMem 0 + 20) 0x84c7fffc))) with cores := [(0, { KCore.new with pc := 5, job := some (Job.plain 0 0 0 0 0 0), regs := [0, 0x1007, 9, 0, 0, 0, 0, 0, 0, 0, 0, 0, 0, 0, 0, 0] })] }, 0, 0, 0, by decide⟩

/-- The hypotheses of a clause are met. -/
theorem witness_RecipeMemoryAndBranches_12 : ∃ (s : State) (k wait mem : Nat), (s.sound = true) ∧ (s.coreAt k 0x22) ∧
  (mem ≠ 2) :=
  ⟨{ flds [(.ktl, 0, F.ktl_JOB_LIMIT_CYCLES, 1000)] (runs [(.ktl, 0)] ((onAll.b2wr (ktlMem 0 + 20) 0x88c7fffc))) with cores := [(0, { KCore.new with pc := 5, job := some (Job.plain 0 0 0 0 0 0), regs := [0, 0x1007, 9, 0, 0, 0, 0, 0, 0, 0, 0, 0, 0, 0, 0, 0] })] }, 0, 0, 0, by decide⟩

/-- The hypotheses of a clause are met. -/
theorem witness_RecipeMemoryAndBranches_13 : ∃ (s : State) (k wait mem : Nat), (s.sound = true) ∧ (s.coreAt k 0x23) ∧
  (mem ≠ 2) :=
  ⟨{ flds [(.ktl, 0, F.ktl_JOB_LIMIT_CYCLES, 1000)] (runs [(.ktl, 0)] ((onAll.b2wr (ktlMem 0 + 20) 0x8cc7fffc))) with cores := [(0, { KCore.new with pc := 5, job := some (Job.plain 0 0 0 0 0 0), regs := [0, 0x1007, 9, 0, 0, 0, 0, 0, 0, 0, 0, 0, 0, 0, 0, 0] })] }, 0, 0, 0, by decide⟩

/-- The hypotheses of a clause are met. -/
theorem witness_RecipeMemoryAndBranches_14 : ∃ (s : State) (k wait mem : Nat), (s.sound = true) ∧ (s.coreAt k 0x24) ∧
  (mem ≠ 2) :=
  ⟨{ flds [(.ktl, 0, F.ktl_JOB_LIMIT_CYCLES, 1000)] (runs [(.ktl, 0)] ((onAll.b2wr (ktlMem 0 + 20) 0x90c7fffc))) with cores := [(0, { KCore.new with pc := 5, job := some (Job.plain 0 0 0 0 0 0), regs := [0, 0x1007, 9, 0, 0, 0, 0, 0, 0, 0, 0, 0, 0, 0, 0, 0] })] }, 0, 0, 0, by decide⟩

/-- The hypotheses of a clause are met. -/
theorem witness_RecipeMemoryAndBranches_15 : ∃ (s : State) (k wait mem : Nat), (s.sound = true) ∧ (s.coreAt k 0x25) ∧
  (mem ≠ 2) :=
  ⟨{ flds [(.ktl, 0, F.ktl_JOB_LIMIT_CYCLES, 1000)] (runs [(.ktl, 0)] ((onAll.b2wr (ktlMem 0 + 20) 0x94c7fffc))) with cores := [(0, { KCore.new with pc := 5, job := some (Job.plain 0 0 0 0 0 0), regs := [0, 0x1007, 9, 0, 0, 0, 0, 0, 0, 0, 0, 0, 0, 0, 0, 0] })] }, 0, 0, 0, by decide⟩

/-- The hypotheses of a clause are met. -/
theorem witness_RecipeMemoryAndBranches_16 : ∃ (s : State) (k wait mem : Nat), (s.sound = true) ∧ (s.coreAt k 0x26) ∧
  (mem ≠ 2) :=
  ⟨{ flds [(.ktl, 0, F.ktl_JOB_LIMIT_CYCLES, 1000)] (runs [(.ktl, 0)] ((onAll.b2wr (ktlMem 0 + 20) 0x98c63456))) with cores := [(0, { KCore.new with pc := 5, job := some (Job.plain 0 0 0 0 0 0), regs := [0, 0x1007, 9, 0, 0, 0, 0, 0, 0, 0, 0, 0, 0, 0, 0, 0] })] }, 0, 0, 0, by decide⟩

/-- The hypotheses of a clause are met. -/
theorem witness_RecipeMemoryAndBranches_17 : ∃ (s : State) (k wait mem : Nat), (s.sound = true) ∧ (s.coreAt k 0x27) ∧
  (mem ≠ 2) :=
  ⟨{ flds [(.ktl, 0, F.ktl_JOB_LIMIT_CYCLES, 1000)] (runs [(.ktl, 0)] ((onAll.b2wr (ktlMem 0 + 20) 0x9cc48000))) with cores := [(0, { KCore.new with pc := 5, job := some (Job.plain 0 0 0 0 0 0), regs := [0, 0x1007, 9, 0, 0, 0, 0, 0, 0, 0, 0, 0, 0, 0, 0, 0] })] }, 0, 0, 0, by decide⟩

/-- The hypotheses of a clause are met. -/
theorem witness_RecipeFieldsAndSignals_1 : ∃ (s : State) (k wait mem : Nat), (s.sound = true) ∧ (s.coreAt k 0x28) ∧ (mem
  ≠ 2) ∧ ((fieldSpec (s.recipeWord k % 2 ^ 22)).outside = false) :=
  ⟨{ flds [(.ktl, 0, F.ktl_JOB_LIMIT_CYCLES, 1000)] (runs [(.ktl, 0)] ((onAll.b2wr (ktlMem 0 + 20) 0xa0d1c004))) with cores := [(0, { KCore.new with pc := 5, job := some ({ Job.plain 0 0 0 0 0 0 with data := [0x81, 0x7F, 0x55, 0xAA] }), regs := [0, 0x11c004, 9, 4, 0, 0, 0, 0, 0, 0, 0, 0, 0, 0, 0, 0] })] }, 0, 0, 0, by decide⟩

/-- The hypotheses of a clause are met. -/
theorem witness_RecipeFieldsAndSignals_2 : ∃ (s : State) (k wait mem : Nat), (s.sound = true) ∧ (s.coreAt k 0x2A) ∧ (mem
  ≠ 2) ∧ ((fieldSpec ((s.raV k).toNat % 2 ^ 22)).outside = false) :=
  ⟨{ flds [(.ktl, 0, F.ktl_JOB_LIMIT_CYCLES, 1000)] (runs [(.ktl, 0)] ((onAll.b2wr (ktlMem 0 + 20) 0xa8c48000))) with cores := [(0, { KCore.new with pc := 5, job := some ({ Job.plain 0 0 0 0 0 0 with data := [0x81, 0x7F, 0x55, 0xAA] }), regs := [0, 0x11c004, 9, 4, 0, 0, 0, 0, 0, 0, 0, 0, 0, 0, 0, 0] })] }, 0, 0, 0, by decide⟩

/-- The hypotheses of a clause are met. -/
theorem witness_RecipeFieldsAndSignals_3 : ∃ (s : State) (k wait mem : Nat), (s.sound = true) ∧ (s.coreAt k 0x29) ∧ (mem
  ≠ 2) ∧ ((fieldSpec (s.recipeWord k % 2 ^ 22)).outside = false) :=
  ⟨{ flds [(.ktl, 0, F.ktl_JOB_LIMIT_CYCLES, 1000)] (runs [(.ktl, 0)] ((onAll.b2wr (ktlMem 0 + 20) 0xa4d1c004))) with cores := [(0, { KCore.new with pc := 5, job := some ({ Job.plain 0 0 0 0 0 0 with data := [0x81, 0x7F, 0x55, 0xAA] }), regs := [0, 0x11c004, 9, 4, 0, 0, 0, 0, 0, 0, 0, 0, 0, 0, 0, 0] })] }, 0, 0, 0, by decide⟩

/-- The hypotheses of a clause are met. -/
theorem witness_RecipeFieldsAndSignals_4 : ∃ (s : State) (k wait mem : Nat), (s.sound = true) ∧ (s.coreAt k 0x2B) ∧ (mem
  ≠ 2) ∧ ((fieldSpec ((s.raV k).toNat % 2 ^ 22)).outside = false) :=
  ⟨{ flds [(.ktl, 0, F.ktl_JOB_LIMIT_CYCLES, 1000)] (runs [(.ktl, 0)] ((onAll.b2wr (ktlMem 0 + 20) 0xacc48000))) with cores := [(0, { KCore.new with pc := 5, job := some ({ Job.plain 0 0 0 0 0 0 with data := [0x81, 0x7F, 0x55, 0xAA] }), regs := [0, 0x11c004, 9, 4, 0, 0, 0, 0, 0, 0, 0, 0, 0, 0, 0, 0] })] }, 0, 0, 0, by decide⟩

/-- The hypotheses of a clause are met. -/
theorem witness_RecipeFieldsAndSignals_5 : ∃ (s : State) (k wait mem : Nat), (s.sound = true) ∧ (s.coreAt k 0x30) ∧ (mem
  ≠ 2) :=
  ⟨{ flds [(.ktl, 0, F.ktl_JOB_LIMIT_CYCLES, 1000)] (runs [(.ktl, 0)] ((onAll.b2wr (ktlMem 0 + 20) 0xc0c40001).b2wr 0x08000004 0x1FFFF)) with cores := [(0, { KCore.new with pc := 5, job := some (Job.plain 0 0 0 0 0 0), regs := [0, 0x1007, 9, 0, 0, 0, 0, 0, 0, 0, 0, 0, 0, 0, 0, 0] })] }, 0, 0, 0, by decide⟩

/-- The hypotheses of a clause are met. -/
theorem witness_RecipeFieldsAndSignals_6 : ∃ (s : State) (k wait mem : Nat), (s.sound = true) ∧ (s.coreAt k 0x31) ∧ (mem
  ≠ 2) :=
  ⟨{ flds [(.ktl, 0, F.ktl_JOB_LIMIT_CYCLES, 1000)] (runs [(.ktl, 0)] ((onAll.b2wr (ktlMem 0 + 20) 0xc4c40001).b2wr 0x08000004 0x1FFFF)) with cores := [(0, { KCore.new with pc := 5, job := some (Job.plain 0 0 0 0 0 0), regs := [0, 0x1007, 9, 0, 0, 0, 0, 0, 0, 0, 0, 0, 0, 0, 0, 0] })] }, 0, 0, 0, by decide⟩

/-- The hypotheses of a clause are met. -/
theorem witness_RecipeFieldsAndSignals_7 : ∃ (s : State) (k wait mem : Nat), (s.sound = true) ∧ (s.coreAt k 0x34) ∧ (mem
  ≠ 2) :=
  ⟨{ flds [(.ktl, 0, F.ktl_JOB_LIMIT_CYCLES, 1000)] (runs [(.ktl, 0)] ((onAll.b2wr (ktlMem 0 + 20) 0xd0c40001).b2wr 0x08000004 0x1FFFF)) with cores := [(0, { KCore.new with pc := 5, job := some (Job.plain 0 0 0 0 0 0), regs := [0, 0x1007, 9, 0, 0, 0, 0, 0, 0, 0, 0, 0, 0, 0, 0, 0] })] }, 0, 0, 0, by decide⟩

/-- The hypotheses of a clause are met. -/
theorem witness_RecipeFieldsAndSignals_8 : ∃ (s : State) (k wait mem : Nat), (s.sound = true) ∧ (s.coreAt k 0x37) ∧ (mem
  ≠ 2) :=
  ⟨{ flds [(.ktl, 0, F.ktl_JOB_LIMIT_CYCLES, 1000)] (runs [(.ktl, 0)] ((onAll.b2wr (ktlMem 0 + 20) 0xdcc40001).b2wr 0x08000004 0x1FFFF)) with cores := [(0, { KCore.new with pc := 5, job := some (Job.plain 0 0 0 0 0 0), regs := [0, 0x1007, 9, 0, 0, 0, 0, 0, 0, 0, 0, 0, 0, 0, 0, 0] })] }, 0, 0, 0, by decide⟩

/-- The hypotheses of a clause are met. -/
theorem witness_RecipeFieldsAndSignals_9 : ∃ (s : State) (k wait mem : Nat), (s.sound = true) ∧ (s.coreAt k 0x36) ∧ (mem
  ≠ 2) :=
  ⟨{ flds [(.ktl, 0, F.ktl_JOB_LIMIT_CYCLES, 1000)] (runs [(.ktl, 0)] ((onAll.b2wr (ktlMem 0 + 20) 0xd8c48000))) with cores := [(0, { KCore.new with pc := 5, job := some (Job.plain 0 0 0 0 0 0), regs := [0, 0x1007, 9, 0, 0, 0, 0, 0, 0, 0, 0, 0, 0, 0, 0, 0] })] }, 0, 0, 0, by decide⟩

/-- The hypotheses of a clause are met. -/
theorem witness_RecipeFieldsAndSignals_10 : ∃ (s : State) (k wait mem : Nat) (b j : Nat), (s.sound = true) ∧ (s.coreAt k
  0x38) ∧ (mem ≠ 2) ∧ (s.jobBank k = b) ∧ (s.pduArg k (raOf (s.recipeWord k)) = j) :=
  ⟨{ flds [(.ktl, 0, F.ktl_JOB_LIMIT_CYCLES, 1000)] (runs [(.ktl, 0)] ((onAll.b2wr (ktlMem 0 + 20) 0xe0c48000))) with cores := [(0, { KCore.new with pc := 5, job := some (Job.plain 0 0 0 0 0 0), regs := [0, 0x1007, 9, 0, 0, 0, 0, 0, 0, 0, 0, 0, 0, 0, 0, 0] })] }, 0, 0, 0, 0, 0, by decide⟩

/-- The hypotheses of a clause are met. -/
theorem witness_RecipeFieldsAndSignals_11 : ∃ (s : State) (k wait mem : Nat) (i : Nat), (s.sound = true) ∧ (s.coreAt k
  0x35) ∧ (mem ≠ 2) ∧ (s.sigArg k (raOf (s.recipeWord k)) = i) ∧ ((s.sigRec (s.jobBank k) i).sink = false) :=
  ⟨{ flds [(.ktl, 0, F.ktl_JOB_LIMIT_CYCLES, 1000)] (runs [(.ktl, 0)] ((onAll.b2wr (ktlMem 0 + 20) 0xd4c48000).b2wr 0x08000000 0x83C00800 |>.b2wr 0x08000004 0x1FFFF)) with cores := [(0, { KCore.new with pc := 5, job := some (Job.plain 0 0 0 0 0 0), regs := [0, 0x1007, 9, 0, 0, 0, 0, 0, 0, 0, 0, 0, 0, 0, 0, 0] })] }, 0, 0, 0, 0, by decide⟩

/-- The hypotheses of a clause are met. -/
theorem witness_RecipeFieldsAndSignals_12 : ∃ (s : State) (k wait mem : Nat) (i j : Nat), (s.sound = true) ∧ (s.coreAt k
  0x35) ∧ (mem ≠ 2) ∧ (s.sigArg k (raOf (s.recipeWord k)) = i) ∧ ((s.sigRec (s.jobBank k) i).sink = true) ∧ (s.pduIx
  (s.jobBank k) (s.sigRec (s.jobBank k) i).pdu = j) ∧ (extend (s.sigRec (s.jobBank k) i).len (s.sigRec (s.jobBank k)
  i).signed (s.rbV k).toNat ≠ s.sigVal (s.jobBank k) i) :=
  ⟨{ flds [(.ktl, 0, F.ktl_JOB_LIMIT_CYCLES, 1000)] (runs [(.ktl, 0)] ((onAll.b2wr (ktlMem 0 + 20) 0xd4c48000).b2wr 0x08000000 0xC3C00800)) with cores := [(0, { KCore.new with pc := 5, job := some (Job.plain 0 0 0 0 0 0), regs := [0, 0x1007, 9, 0, 0, 0, 0, 0, 0, 0, 0, 0, 0, 0, 0, 0] })] }, 0, 0, 0, 0, 0, by decide⟩

/-- The hypotheses of a clause are met. -/
theorem witness_RecipeFieldsAndSignals_13 : ∃ (s : State) (k wait mem : Nat) (i : Nat), (s.sound = true) ∧ (s.coreAt k
  0x32) ∧ (mem ≠ 2) ∧ (s.sigArg k (raOf (s.recipeWord k)) = i) ∧ ((s.sigRec (s.jobBank k) i).valid = true) ∧ ((s.sigRec
  (s.jobBank k) i).sink = false) ∧ ((s.sigRec (s.jobBank k) i).next = 0x1FFFF) ∧ ((fieldPos (s.sigRec (s.jobBank k) i).be
  (s.sigRec (s.jobBank k) i).start (s.sigRec (s.jobBank k) i).len).any (8 * (s.xr k 3).toNat ≤ ·) = false) ∧ (bitOf
  (s.sigFlags (s.jobBank k) i) 1 = false) :=
  ⟨{ flds [(.ktl, 0, F.ktl_JOB_LIMIT_CYCLES, 1000)] (runs [(.ktl, 0)] ((onAll.b2wr (ktlMem 0 + 20) 0xc8c48000).b2wr 0x08000000 0x83C00800 |>.b2wr 0x08000004 0x1FFFF)) with cores := [(0, { KCore.new with pc := 5, job := some ({ Job.plain 0 0 0 0 0 0 with data := [0x81, 0x7F, 0x55, 0xAA] }), regs := [0, 0, 9, 4, 0, 0, 0, 0, 0, 0, 0, 0, 0, 0, 0, 0] })] }, 0, 0, 0, 0, by decide⟩

/-- The hypotheses of a clause are met. -/
theorem witness_RecipeFieldsAndSignals_14 : ∃ (s : State) (k wait mem : Nat) (i : Nat), (s.sound = true) ∧ (s.coreAt k
  0x32) ∧ (mem ≠ 2) ∧ (s.sigArg k (raOf (s.recipeWord k)) = i) ∧ (((s.sigRec (s.jobBank k) i).valid = false ∨ ((s.sigRec
  (s.jobBank k) i).sink = false ∧ (fieldPos (s.sigRec (s.jobBank k) i).be (s.sigRec (s.jobBank k) i).start (s.sigRec
  (s.jobBank k) i).len).any (8 * (s.xr k 3).toNat ≤ ·) = true))) :=
  ⟨{ flds [(.ktl, 0, F.ktl_JOB_LIMIT_CYCLES, 1000)] (runs [(.ktl, 0)] ((onAll.b2wr (ktlMem 0 + 20) 0xc8c48000))) with cores := [(0, { KCore.new with pc := 5, job := some (Job.plain 0 0 0 0 0 0), regs := [0, 0x1007, 9, 0, 0, 0, 0, 0, 0, 0, 0, 0, 0, 0, 0, 0] })] }, 0, 0, 0, 0, by decide⟩

/-- The hypotheses of a clause are met. -/
theorem witness_RecipeFieldsAndSignals_15 : ∃ (s : State) (k wait mem : Nat) (i m : Nat), (s.sound = true) ∧ (s.coreAt k
  0x33) ∧ (mem ≠ 2) ∧ (s.sigArg k (raOf (s.recipeWord k)) = i) ∧ ((s.sigRec (s.jobBank k) i).valid = true) ∧ ((s.sigRec
  (s.jobBank k) i).next ≠ 0x1FFFF) ∧ (s.sigIx (s.jobBank k) (s.sigRec (s.jobBank k) i).next = m) ∧ ((s.sigRec (s.jobBank
  k) m).next = 0x1FFFF) ∧ ((s.sigRec (s.jobBank k) m).xform = 0) :=
  ⟨{ flds [(.ktl, 0, F.ktl_JOB_LIMIT_CYCLES, 1000)] (runs [(.ktl, 0)] ((onAll.b2wr (ktlMem 0 + 20) 0xccc48000).b2wr 0x083FF00C 2 |>.b2wr 0x08000000 0x83C00800 |>.b2wr 0x08000004 1 |>.b2wr 0x08000010 0xC3C00800 |>.b2wr 0x08000014 0x1FFFF |>.b2wr 0x08400000 77)) with cores := [(0, { KCore.new with pc := 5, job := some (Job.plain 0 0 0 0 0 0), regs := [0, 0, 0, 0, 0, 0, 0, 0, 0, 0, 0, 0, 0, 0, 0, 0] })] }, 0, 0, 0, 0, 1, by decide⟩

/-- The hypotheses of a clause are met. -/
theorem witness_RecipeChecksAndTransmit_1 : ∃ (s : State) (k wait uwait mem : Nat) (j : Nat), (s.sound = true) ∧
  (s.coreAt k 0x39) ∧ (mem ≠ 2) ∧ (s.pduArg k (raOf (s.recipeWord k)) = j) ∧ ((s.pduRec (s.jobBank k) j).e2e = false) :=
  ⟨{ flds [(.ktl, 0, F.ktl_JOB_LIMIT_CYCLES, 1000)] (runs [(.ktl, 0)] ((onAll.b2wr (ktlMem 0 + 20) 0xe4c48000))) with cores := [(0, { KCore.new with pc := 5, job := some (Job.plain 0 0 0 0 0 0), regs := [0, 0x1007, 9, 0, 0, 0, 0, 0, 0, 0, 0, 0, 0, 0, 0, 0] })] }, 0, 0, 0, 0, 0, by decide⟩

/-- The hypotheses of a clause are met. -/
theorem witness_RecipeChecksAndTransmit_2 : ∃ (s : State) (k wait uwait mem : Nat) (j cnt : Nat), (s.sound = true) ∧
  (s.coreAt k 0x39) ∧ (mem ≠ 2) ∧ (mem ≠ 5) ∧ (mem ≠ 6) ∧ (s.pduArg k (raOf (s.recipeWord k)) = j) ∧ ((s.pduRec
  (s.jobBank k) j).e2e = true) ∧ (s.run .crc (s.pduRec (s.jobBank k) j).unit = true) ∧ (s.crcUnit (s.pduRec (s.jobBank k)
  j).unit = .idle) ∧ ((s.pduRec (s.jobBank k) j).crcPos + (s.crcCfg (s.pduRec (s.jobBank k) j).unit).bytes ≤ s.rxLen k) ∧
  ((s.crcCfg (s.pduRec (s.jobBank k) j).unit).unfield (slice (s.rxWin k) (s.pduRec (s.jobBank k) j).crcPos (s.crcCfg
  (s.pduRec (s.jobBank k) j).unit).bytes) = (s.crcCfg (s.pduRec (s.jobBank k) j).unit).calc (e2eCover (s.crcCfg (s.pduRec
  (s.jobBank k) j).unit) (s.pduRec (s.jobBank k) j) (s.rxWin k))) ∧ (fieldGet (s.rxWin k) false (s.pduRec (s.jobBank k)
  j).cntPos (s.pduRec (s.jobBank k) j).cntBits = cnt) ∧ ((bitOf (s.b2 (pduSt (s.jobBank k) j + 9)).toNat 1 = false ∨
  (s.pduRec (s.jobBank k) j).cntBits = 0 ∨ ((cnt + 2 ^ 15 - (s.b2 (pduSt (s.jobBank k) j + 8)).toNat % 2 ^ (s.pduRec
  (s.jobBank k) j).cntBits) % 2 ^ (s.pduRec (s.jobBank k) j).cntBits ≠ 0 ∧ (cnt + 2 ^ 15 - (s.b2 (pduSt (s.jobBank k) j +
  8)).toNat % 2 ^ (s.pduRec (s.jobBank k) j).cntBits) % 2 ^ (s.pduRec (s.jobBank k) j).cntBits ≤ (s.pduRec (s.jobBank k)
  j).maxDelta))) :=
  ⟨{ flds [(.ktl, 0, F.ktl_JOB_LIMIT_CYCLES, 1000), (.crc, 2, F.crc_CFG_WIDTH, 8), (.crc, 2, F.crc_POLY_LO_POLY, 0x1D), (.crc, 2, F.crc_INIT_LO_INIT, 0xFF), (.crc, 2, F.crc_CFG_INV, 1), (.crc, 2, F.crc_CFG_REFIN, 0), (.crc, 2, F.crc_CFG_REFOUT, 0)] (runs [(.ktl, 0), (.crc, 2), (.sigGlobal, 0)] ((onAll.b2wr (ktlMem 0 + 20) 0xe4c48000).b2wr 0x08200000 0x80000003 |>.b2Write 0x08200010 [0x82, 0x24, 0, 0, 8, 0, 0xEE, 1] |>.b2Write 0x08600008 [5, 2])) with cores := [(0, { KCore.new with pc := 5, job := some ({ Job.plain 0 0 0 0 0 0 with data := [0x37, 0x07, 0x55, 0xAA] }), regs := [0, 0, 9, 4, 0, 0, 0, 0, 0, 0, 0, 0, 0, 0, 0, 0] })] }, 0, 0, 0, 0, 0, 7, by decide⟩

/-- The hypotheses of a clause are met. -/
theorem witness_RecipeChecksAndTransmit_3 : ∃ (s : State) (k wait uwait mem : Nat) (j cnt : Nat), (s.sound = true) ∧
  (s.coreAt k 0x39) ∧ (mem ≠ 2) ∧ (mem ≠ 5) ∧ (mem ≠ 6) ∧ (s.pduArg k (raOf (s.recipeWord k)) = j) ∧ ((s.pduRec
  (s.jobBank k) j).e2e = true) ∧ (s.run .crc (s.pduRec (s.jobBank k) j).unit = true) ∧ (s.crcUnit (s.pduRec (s.jobBank k)
  j).unit = .idle) ∧ ((s.pduRec (s.jobBank k) j).crcPos + (s.crcCfg (s.pduRec (s.jobBank k) j).unit).bytes ≤ s.rxLen k) ∧
  ((s.crcCfg (s.pduRec (s.jobBank k) j).unit).unfield (slice (s.rxWin k) (s.pduRec (s.jobBank k) j).crcPos (s.crcCfg
  (s.pduRec (s.jobBank k) j).unit).bytes) = (s.crcCfg (s.pduRec (s.jobBank k) j).unit).calc (e2eCover (s.crcCfg (s.pduRec
  (s.jobBank k) j).unit) (s.pduRec (s.jobBank k) j) (s.rxWin k))) ∧ (fieldGet (s.rxWin k) false (s.pduRec (s.jobBank k)
  j).cntPos (s.pduRec (s.jobBank k) j).cntBits = cnt) ∧ (bitOf (s.b2 (pduSt (s.jobBank k) j + 9)).toNat 1 = true) ∧
  ((s.pduRec (s.jobBank k) j).cntBits ≠ 0) ∧ ((cnt + 2 ^ 15 - (s.b2 (pduSt (s.jobBank k) j + 8)).toNat % 2 ^ (s.pduRec
  (s.jobBank k) j).cntBits) % 2 ^ (s.pduRec (s.jobBank k) j).cntBits = 0) :=
  ⟨{ flds [(.ktl, 0, F.ktl_JOB_LIMIT_CYCLES, 1000), (.crc, 2, F.crc_CFG_WIDTH, 8), (.crc, 2, F.crc_POLY_LO_POLY, 0x1D), (.crc, 2, F.crc_INIT_LO_INIT, 0xFF), (.crc, 2, F.crc_CFG_INV, 1), (.crc, 2, F.crc_CFG_REFIN, 0), (.crc, 2, F.crc_CFG_REFOUT, 0)] (runs [(.ktl, 0), (.crc, 2), (.sigGlobal, 0)] ((onAll.b2wr (ktlMem 0 + 20) 0xe4c48000).b2wr 0x08200000 0x80000003 |>.b2Write 0x08200010 [0x82, 0x24, 0, 0, 8, 0, 0xEE, 1] |>.b2Write 0x08600008 [7, 2])) with cores := [(0, { KCore.new with pc := 5, job := some ({ Job.plain 0 0 0 0 0 0 with data := [0x37, 0x07, 0x55, 0xAA] }), regs := [0, 0, 9, 4, 0, 0, 0, 0, 0, 0, 0, 0, 0, 0, 0, 0] })] }, 0, 0, 0, 0, 0, 7, by decide⟩

/-- The hypotheses of a clause are met. -/
theorem witness_RecipeChecksAndTransmit_4 : ∃ (s : State) (k wait uwait mem : Nat) (j : Nat), (s.sound = true) ∧
  (s.coreAt k 0x39) ∧ (mem ≠ 2) ∧ (mem ≠ 5) ∧ (mem ≠ 6) ∧ (s.pduArg k (raOf (s.recipeWord k)) = j) ∧ ((s.pduRec
  (s.jobBank k) j).e2e = true) ∧ (s.run .crc (s.pduRec (s.jobBank k) j).unit = true) ∧ (s.crcUnit (s.pduRec (s.jobBank k)
  j).unit = .idle) ∧ ((s.pduRec (s.jobBank k) j).crcPos + (s.crcCfg (s.pduRec (s.jobBank k) j).unit).bytes ≤ s.rxLen k) ∧
  (¬ ((s.crcCfg (s.pduRec (s.jobBank k) j).unit).unfield (slice (s.rxWin k) (s.pduRec (s.jobBank k) j).crcPos (s.crcCfg
  (s.pduRec (s.jobBank k) j).unit).bytes) = (s.crcCfg (s.pduRec (s.jobBank k) j).unit).calc (e2eCover (s.crcCfg (s.pduRec
  (s.jobBank k) j).unit) (s.pduRec (s.jobBank k) j) (s.rxWin k)))) :=
  ⟨{ flds [(.ktl, 0, F.ktl_JOB_LIMIT_CYCLES, 1000), (.crc, 2, F.crc_CFG_WIDTH, 8), (.crc, 2, F.crc_POLY_LO_POLY, 0x1D), (.crc, 2, F.crc_INIT_LO_INIT, 0xFF), (.crc, 2, F.crc_CFG_INV, 1), (.crc, 2, F.crc_CFG_REFIN, 0), (.crc, 2, F.crc_CFG_REFOUT, 0)] (runs [(.ktl, 0), (.crc, 2), (.sigGlobal, 0)] ((onAll.b2wr (ktlMem 0 + 20) 0xe4c48000).b2wr 0x08200000 0x80000003 |>.b2Write 0x08200010 [0x82, 0x24, 0, 0, 8, 0, 0xEE, 1] |>.b2Write 0x08600008 [5, 2])) with cores := [(0, { KCore.new with pc := 5, job := some ({ Job.plain 0 0 0 0 0 0 with data := [0x37, 0x07, 0x54, 0xAA] }), regs := [0, 0, 9, 4, 0, 0, 0, 0, 0, 0, 0, 0, 0, 0, 0, 0] })] }, 0, 0, 0, 0, 0, by decide⟩

/-- The hypotheses of a clause are met. -/
theorem witness_RecipeChecksAndTransmit_5 : ∃ (s : State) (k wait uwait mem : Nat) (j : Nat), (s.sound = true) ∧
  (s.coreAt k 0x3B) ∧ (mem ≠ 2) ∧ (mem ≠ 5) ∧ (mem ≠ 6) ∧ (s.pduArg k (raOf (s.recipeWord k)) = j) ∧ ((s.pduRec
  (s.jobBank k) j).e2e = true) ∧ (s.run .crc (s.pduRec (s.jobBank k) j).unit = true) ∧ (s.crcUnit (s.pduRec (s.jobBank k)
  j).unit = .idle) ∧ ((s.pduRec (s.jobBank k) j).cntBits = 0) :=
  ⟨{ flds [(.ktl, 0, F.ktl_JOB_LIMIT_CYCLES, 1000), (.crc, 2, F.crc_CFG_WIDTH, 8), (.crc, 2, F.crc_POLY_LO_POLY, 0x1D), (.crc, 2, F.crc_INIT_LO_INIT, 0xFF), (.crc, 2, F.crc_CFG_INV, 1), (.crc, 2, F.crc_CFG_REFIN, 0), (.crc, 2, F.crc_CFG_REFOUT, 0)] (runs [(.ktl, 0), (.crc, 2), (.sigGlobal, 0)] ((onAll.b2wr (ktlMem 0 + 20) 0xecc48000).b2wr 0x08200000 0x80000003 |>.b2Write 0x08200010 [0x82, 0x24, 0, 0, 8, 0, 0xEE, 1] |>.b2Write 0x08600008 [0] |>.b2Write 0x08200011 [0x20])) with cores := [(0, { KCore.new with pc := 5, job := some ({ Job.plain 0 0 0 0 0 0 with data := [0x37, 0x07, 0x55, 0xAA] }), regs := [0, 0, 9, 4, 0, 0, 0, 0, 0, 0, 0, 0, 0, 0, 0, 0] })] }, 0, 0, 0, 0, 0, by decide⟩

/-- The hypotheses of a clause are met. -/
theorem witness_RecipeChecksAndTransmit_6 : ∃ (s : State) (k wait uwait mem : Nat) (j c : Nat) (win : Bytes), (s.sound =
  true) ∧ (s.coreAt k 0x3B) ∧ (mem ≠ 2) ∧ (mem ≠ 5) ∧ (mem ≠ 6) ∧ (s.pduArg k (raOf (s.recipeWord k)) = j) ∧ ((s.pduRec
  (s.jobBank k) j).e2e = true) ∧ (s.run .crc (s.pduRec (s.jobBank k) j).unit = true) ∧ (s.crcUnit (s.pduRec (s.jobBank k)
  j).unit = .idle) ∧ ((s.pduRec (s.jobBank k) j).cntBits ≠ 0) ∧ (((s.b2 (pduSt (s.jobBank k) j + 8)).toNat + 1) % 2 ^
  (s.pduRec (s.jobBank k) j).cntBits = c) ∧ (fieldPut (s.txWin k) false (s.pduRec (s.jobBank k) j).cntPos (s.pduRec
  (s.jobBank k) j).cntBits c = win) :=
  ⟨{ flds [(.ktl, 0, F.ktl_JOB_LIMIT_CYCLES, 1000), (.crc, 2, F.crc_CFG_WIDTH, 8), (.crc, 2, F.crc_POLY_LO_POLY, 0x1D), (.crc, 2, F.crc_INIT_LO_INIT, 0xFF), (.crc, 2, F.crc_CFG_INV, 1), (.crc, 2, F.crc_CFG_REFIN, 0), (.crc, 2, F.crc_CFG_REFOUT, 0)] (runs [(.ktl, 0), (.crc, 2), (.sigGlobal, 0)] ((onAll.b2wr (ktlMem 0 + 20) 0xecc48000).b2wr 0x08200000 0x80000003 |>.b2Write 0x08200010 [0x82, 0x24, 0, 0, 8, 0, 0xEE, 1] |>.b2Write 0x08600008 [7, 0])) with cores := [(0, { KCore.new with pc := 5, job := some ({ Job.plain 0 0 0 0 0 0 with data := [0x37, 0x07, 0x55, 0xAA] }), regs := [0, 0, 9, 4, 0, 0, 0, 0, 0, 0, 0, 0, 0, 0, 0, 0] })] }, 0, 0, 0, 0, 0, 8, fieldPut (KCore.new.tx ++ List.replicate 2048 0) false 8 4 8, by decide⟩

/-- The hypotheses of a clause are met. -/
theorem witness_RecipeChecksAndTransmit_7 : ∃ (s : State) (k wait mem : Nat) (j : Nat) (win : Bytes), (s.sound = true) ∧
  (s.coreAt k 0x3A) ∧ (mem ≠ 2) ∧ (s.pduArg k (raOf (s.recipeWord k)) = j) ∧ ((s.pduSinks (s.jobBank k) (s.pduRec
  (s.jobBank k) j)).foldl (fun (x : Bytes) i => fieldPut x (s.sigRec (s.jobBank k) i).be (s.sigRec (s.jobBank k) i).start
  (s.sigRec (s.jobBank k) i).len (s.sigVal (s.jobBank k) i)) (putBytes (s.txWin k) 0 (List.replicate (s.pduRec (s.jobBank
  k) j).len (s.pduRec (s.jobBank k) j).fill)) = win) :=
  ⟨{ flds [(.ktl, 0, F.ktl_JOB_LIMIT_CYCLES, 1000)] (runs [(.ktl, 0)] ((onAll.b2wr (ktlMem 0 + 20) 0xe8c48000).b2wr 0x08200000 0xC0000003 |>.b2Write 0x08200010 [0x82, 0x24, 0, 0, 8, 0, 0xEE, 1] |>.b2wr 0x08200008 0x00001000 |>.b2wr 0x08000000 0xC0C00000 |>.b2wr 0x08400000 9)) with cores := [(0, { KCore.new with pc := 5, job := some (Job.plain 0 0 0 0 0 0), regs := [0, 0x1007, 9, 0, 0, 0, 0, 0, 0, 0, 0, 0, 0, 0, 0, 0] })] }, 0, 0, 0, 0, (([0xEE, 0xEE, 0xEE, 0xEE] : Bytes) ++ List.replicate 2044 0), by decide⟩

/-- The hypotheses of a clause are met. -/
theorem witness_RecipeChecksAndTransmit_8 : ∃ (s : State) (k wait mem : Nat) (j : Nat), (s.sound = true) ∧ (s.coreAt k
  0x3C) ∧ (mem ≠ 2) ∧ (s.pduArg k (raOf (s.recipeWord k)) = j) ∧ ((s.pduRec (s.jobBank k) j).tx = true) ∧ (s.on (sgB +
  0x20 * (s.pduRec (s.jobBank k) j).stream) F.sigGlobal_OUT_STREAM_VALID = true) ∧ (s.outBytes (k / 8) + (s.streamFrames
  (s.pduRec (s.jobBank k) j).stream (pduMessages (s.pduRec (s.jobBank k) j) s.now ((s.txWin k).take (s.pduRec (s.jobBank
  k) j).len))).foldl (fun a f => a + 8 + f.length) 0 ≤ 32768) :=
  ⟨{ flds [(.ktl, 0, F.ktl_JOB_LIMIT_CYCLES, 1000), (.sigGlobal, 0, F.sigGlobal_OUT_STREAM_VALID.at 0x20, 1), (.sigGlobal, 0, F.sigGlobal_OUT_STREAM_DA_LO_DA_LO.at 0x20, 5)] (runs [(.ktl, 0), (.sigGlobal, 0)] ((onAll.b2wr (ktlMem 0 + 20) 0xf0c48000).b2wr 0x08200000 0xC0000003 |>.b2Write 0x08200010 [0x82, 0x24, 0, 0, 8, 0, 0xEE, 1])) with cores := [(0, { KCore.new with pc := 5, job := some (Job.plain 0 0 0 0 0 0), regs := [0, 0x1007, 9, 0, 0, 0, 0, 0, 0, 0, 0, 0, 0, 0, 0, 0] })] }, 0, 0, 0, 0, by decide⟩

/-- The hypotheses of a clause are met. -/
theorem witness_RecipeChecksAndTransmit_9 : ∃ (s : State) (k wait mem : Nat) (j : Nat), (s.sound = true) ∧ (s.coreAt k
  0x3C) ∧ (mem ≠ 2) ∧ (s.pduArg k (raOf (s.recipeWord k)) = j) ∧ ((s.pduRec (s.jobBank k) j).tx = true) ∧ (s.on (sgB +
  0x20 * (s.pduRec (s.jobBank k) j).stream) F.sigGlobal_OUT_STREAM_VALID = true) ∧ (32768 < s.outBytes (k / 8) +
  (s.streamFrames (s.pduRec (s.jobBank k) j).stream (pduMessages (s.pduRec (s.jobBank k) j) s.now ((s.txWin k).take
  (s.pduRec (s.jobBank k) j).len))).foldl (fun a f => a + 8 + f.length) 0) :=
  ⟨{ flds [(.ktl, 0, F.ktl_JOB_LIMIT_CYCLES, 1000), (.sigGlobal, 0, F.sigGlobal_OUT_STREAM_VALID.at 0x20, 1), (.sigGlobal, 0, F.sigGlobal_OUT_STREAM_DA_LO_DA_LO.at 0x20, 5)] (runs [(.ktl, 0), (.sigGlobal, 0)] ((onAll.b2wr (ktlMem 0 + 20) 0xf0c48000).b2wr 0x08200000 0xC0000003 |>.b2Write 0x08200010 [0x82, 0x24, 0, 0, 8, 0, 0xEE, 1])) with cores := [(0, { KCore.new with pc := 5, job := some (Job.plain 0 0 0 0 0 0), regs := [0, 0x1007, 9, 0, 0, 0, 0, 0, 0, 0, 0, 0, 0, 0, 0, 0] })], fwd := { onAll.fwd with waiting := List.replicate 21 ⟨21, 5, List.replicate 1600 0, [96], false, 0, none, 0, none⟩ } }, 0, 0, 0, 0, by decide⟩

/-- The hypotheses of a clause are met. -/
theorem witness_RecipeChecksAndTransmit_10 : ∃ (s : State) (k wait mem : Nat) (j : Nat), (s.sound = true) ∧ (s.coreAt k
  0x3C) ∧ (mem ≠ 2) ∧ (s.pduArg k (raOf (s.recipeWord k)) = j) ∧ ((s.pduRec (s.jobBank k) j).tx = true) ∧ (s.on (sgB +
  0x20 * (s.pduRec (s.jobBank k) j).stream) F.sigGlobal_OUT_STREAM_VALID = false) :=
  ⟨{ flds [(.ktl, 0, F.ktl_JOB_LIMIT_CYCLES, 1000)] (runs [(.ktl, 0), (.sigGlobal, 0)] ((onAll.b2wr (ktlMem 0 + 20) 0xf0c48000).b2wr 0x08200000 0xC0000003 |>.b2Write 0x08200010 [0x82, 0x24, 0, 0, 8, 0, 0xEE, 1])) with cores := [(0, { KCore.new with pc := 5, job := some (Job.plain 0 0 0 0 0 0), regs := [0, 0x1007, 9, 0, 0, 0, 0, 0, 0, 0, 0, 0, 0, 0, 0, 0] })] }, 0, 0, 0, 0, by decide⟩

/-- The hypotheses of a clause are met. -/
theorem witness_RecipeChecksAndTransmit_11 : ∃ (s : State) (k wait uwait mem : Nat) (u size base n : Nat) (r : Region),
  (s.sound = true) ∧ (s.coreAt k 0x3D) ∧ (modeOf (s.recipeWord k) = 0) ∧ (mem ≠ 2) ∧ (mem ≠ 5) ∧ (mem ≠ 6) ∧ (bitsOf
  (s.recipeWord k) 13 10 = u) ∧ (s.run .crc u = true) ∧ (s.crcUnit u = .idle) ∧ (cvuWindow (bitsOf (s.recipeWord k) 9 8)
  = (r, size, base)) ∧ ((s.rbV k).toNat = n) ∧ ((s.raV k).toNat + n ≤ size) ∧ (s.badWord k r (s.raV k).toNat n (mem == 4)
  = none) :=
  ⟨{ flds [(.ktl, 0, F.ktl_JOB_LIMIT_CYCLES, 1000), (.crc, 2, F.crc_CFG_WIDTH, 8), (.crc, 2, F.crc_POLY_LO_POLY, 0x1D), (.crc, 2, F.crc_INIT_LO_INIT, 0xFF), (.crc, 2, F.crc_CFG_INV, 1), (.crc, 2, F.crc_CFG_REFIN, 0), (.crc, 2, F.crc_CFG_REFOUT, 0)] (runs [(.ktl, 0), (.crc, 2)] ((onAll.b2wr (ktlMem 0 + 20) 0xf4c48a00).b2Write 0x0A200010 [0x31, 0x32, 0x33, 0x34])) with cores := [(0, { KCore.new with pc := 5, job := some (Job.plain 0 0 0 0 0 0), regs := [0, 16, 4, 5, 0, 0, 0, 0, 0, 0, 0, 0, 0, 0, 0, 0] })] }, 0, 0, 0, 0, 2, 0x4000, 0, 4, .dmem, by decide⟩

/-- The hypotheses of a clause are met. -/
theorem witness_RecipeChecksAndTransmit_12 : ∃ (s : State) (k wait uwait mem : Nat) (u size base n : Nat) (r : Region),
  (s.sound = true) ∧ (s.coreAt k 0x3D) ∧ (modeOf (s.recipeWord k) = 1) ∧ (mem ≠ 2) ∧ (mem ≠ 5) ∧ (mem ≠ 6) ∧ (bitsOf
  (s.recipeWord k) 13 10 = u) ∧ (s.run .crc u = true) ∧ (s.crcUnit u = .idle) ∧ (cvuWindow (bitsOf (s.recipeWord k) 9 8)
  = (r, size, base)) ∧ ((s.rbV k).toNat = n) ∧ ((s.raV k).toNat + n ≤ size) ∧ (s.badWord k r (s.raV k).toNat n (mem == 4)
  = none) :=
  ⟨{ flds [(.ktl, 0, F.ktl_JOB_LIMIT_CYCLES, 1000), (.crc, 2, F.crc_CFG_WIDTH, 8), (.crc, 2, F.crc_POLY_LO_POLY, 0x1D), (.crc, 2, F.crc_INIT_LO_INIT, 0xFF), (.crc, 2, F.crc_CFG_INV, 1), (.crc, 2, F.crc_CFG_REFIN, 0), (.crc, 2, F.crc_CFG_REFOUT, 0)] (runs [(.ktl, 0), (.crc, 2)] ((onAll.b2wr (ktlMem 0 + 20) 0xf4c48a20).b2Write 0x0A200010 [0x31, 0x32, 0x33, 0x34])) with cores := [(0, { KCore.new with pc := 5, job := some (Job.plain 0 0 0 0 0 0), regs := [0, 16, 4, 5, 0, 0, 0, 0, 0, 0, 0, 0, 0, 0, 0, 0] })] }, 0, 0, 0, 0, 2, 0x4000, 0, 4, .dmem, by decide⟩

/-- The hypotheses of a clause are met. -/
theorem witness_RecipeChecksAndTransmit_13 : ∃ (s : State) (k wait uwait mem : Nat) (u : Nat), (s.sound = true) ∧
  (s.coreAt k 0x3D) ∧ (modeOf (s.recipeWord k) = 2) ∧ (mem ≠ 2) ∧ (mem ≠ 5) ∧ (mem ≠ 6) ∧ (bitsOf (s.recipeWord k) 13 10
  = u) ∧ (s.run .crc u = true) ∧ (s.crcUnit u = .idle) :=
  ⟨{ flds [(.ktl, 0, F.ktl_JOB_LIMIT_CYCLES, 1000), (.crc, 2, F.crc_CFG_WIDTH, 8), (.crc, 2, F.crc_POLY_LO_POLY, 0x1D), (.crc, 2, F.crc_INIT_LO_INIT, 0xFF), (.crc, 2, F.crc_CFG_INV, 1), (.crc, 2, F.crc_CFG_REFIN, 0), (.crc, 2, F.crc_CFG_REFOUT, 0)] (runs [(.ktl, 0), (.crc, 2)] ((onAll.b2wr (ktlMem 0 + 20) 0xf4c48a40).b2Write 0x0A200010 [0x31, 0x32, 0x33, 0x34])) with cores := [(0, { KCore.new with pc := 5, job := some (Job.plain 0 0 0 0 0 0), regs := [0, 16, 4, 5, 0, 0, 0, 0, 0, 0, 0, 0, 0, 0, 0, 0] })] }, 0, 0, 0, 0, 2, by decide⟩

/-- The hypotheses of a clause are met. -/
theorem witness_RecipeChecksAndTransmit_14 : ∃ (s : State) (k wait uwait mem : Nat) (u size base n : Nat) (r : Region),
  (s.sound = true) ∧ (s.coreAt k 0x3D) ∧ (modeOf (s.recipeWord k) = 3) ∧ (mem ≠ 2) ∧ (mem ≠ 5) ∧ (mem ≠ 6) ∧ (bitsOf
  (s.recipeWord k) 13 10 = u) ∧ (s.run .crc u = true) ∧ (s.crcUnit u = .idle) ∧ (cvuWindow (bitsOf (s.recipeWord k) 9 8)
  = (r, size, base)) ∧ ((s.rbV k).toNat = n) ∧ ((s.raV k).toNat + n ≤ size) ∧ (s.badWord k r (s.raV k).toNat n (mem == 4)
  = none) ∧ ((s.crcCfg u).bytes ≤ n) :=
  ⟨{ flds [(.ktl, 0, F.ktl_JOB_LIMIT_CYCLES, 1000), (.crc, 2, F.crc_CFG_WIDTH, 8), (.crc, 2, F.crc_POLY_LO_POLY, 0x1D), (.crc, 2, F.crc_INIT_LO_INIT, 0xFF), (.crc, 2, F.crc_CFG_INV, 1), (.crc, 2, F.crc_CFG_REFIN, 0), (.crc, 2, F.crc_CFG_REFOUT, 0)] (runs [(.ktl, 0), (.crc, 2)] ((onAll.b2wr (ktlMem 0 + 20) 0xf4c48a60).b2Write 0x0A200010 [0x31, 0x32, 0x33, 0x34])) with cores := [(0, { KCore.new with pc := 5, job := some (Job.plain 0 0 0 0 0 0), regs := [0, 16, 4, 5, 0, 0, 0, 0, 0, 0, 0, 0, 0, 0, 0, 0] })] }, 0, 0, 0, 0, 2, 0x4000, 0, 4, .dmem, by decide⟩

/-- The hypotheses of a clause are met. -/
theorem witness_RecipeChecksAndTransmit_15 : ∃ (s : State) (k wait uwait mem : Nat) (u size base n : Nat) (r : Region),
  (s.sound = true) ∧ (s.coreAt k 0x3D) ∧ (modeOf (s.recipeWord k) = 4) ∧ (mem ≠ 2) ∧ (mem ≠ 5) ∧ (mem ≠ 6) ∧ (bitsOf
  (s.recipeWord k) 13 10 = u) ∧ (s.run .crc u = true) ∧ (s.crcUnit u = .idle) ∧ (cvuWindow (bitsOf (s.recipeWord k) 9 8)
  = (r, size, base)) ∧ ((s.rbV k).toNat = n) ∧ ((s.raV k).toNat + n + (s.crcCfg u).bytes ≤ size) ∧ (s.badWord k r (s.raV
  k).toNat n (mem == 4) = none) ∧ (r = .dmem ∨ r = .scratch) ∧ (s.partBad k r ((s.raV k).toNat + n) (s.crcCfg u).bytes =
  none) :=
  ⟨{ flds [(.ktl, 0, F.ktl_JOB_LIMIT_CYCLES, 1000), (.crc, 2, F.crc_CFG_WIDTH, 8), (.crc, 2, F.crc_POLY_LO_POLY, 0x1D), (.crc, 2, F.crc_INIT_LO_INIT, 0xFF), (.crc, 2, F.crc_CFG_INV, 1), (.crc, 2, F.crc_CFG_REFIN, 0), (.crc, 2, F.crc_CFG_REFOUT, 0)] (runs [(.ktl, 0), (.crc, 2)] ((onAll.b2wr (ktlMem 0 + 20) 0xf4c48a80).b2Write 0x0A200010 [0x31, 0x32, 0x33, 0x34])) with cores := [(0, { KCore.new with pc := 5, job := some (Job.plain 0 0 0 0 0 0), regs := [0, 16, 4, 5, 0, 0, 0, 0, 0, 0, 0, 0, 0, 0, 0, 0] })] }, 0, 0, 0, 0, 2, 0x4000, 0, 4, .dmem, by decide⟩

/-- The hypotheses of a clause are met. -/
theorem witness_RecipeChecksAndTransmit_16 : ∃ (s : State) (k wait mem : Nat), (s.sound = true) ∧ (s.coreAt k 0x3E) ∧
  (mem ≠ 2) :=
  ⟨{ flds [(.ktl, 0, F.ktl_JOB_LIMIT_CYCLES, 1000)] (runs [(.ktl, 0)] ((onAll.b2wr (ktlMem 0 + 20) 0xf8c48000))) with cores := [(0, { KCore.new with pc := 5, job := some (Job.plain 0 0 0 0 0 0), regs := [0, 0x1007, 9, 0, 0, 0, 0, 0, 0, 0, 0, 0, 0, 0, 0, 0] })] }, 0, 0, 0, by decide⟩

/-- The hypotheses of a clause are met. -/
theorem witness_RecipeChecksAndTransmit_17 : ∃ (s : State) (k wait mem : Nat), (s.sound = true) ∧ (s.coreAt k 0x3F) ∧
  (mem ≠ 2) :=
  ⟨{ flds [(.ktl, 0, F.ktl_JOB_LIMIT_CYCLES, 1000)] (runs [(.ktl, 0)] ((onAll.b2wr (ktlMem 0 + 20) 0xfcc48000))) with cores := [(0, { KCore.new with pc := 5, job := some (Job.plain 0 0 0 0 0 0), regs := [0, 0x1007, 9, 0, 0, 0, 0, 0, 0, 0, 0, 0, 0, 0, 0, 0] })] }, 0, 0, 0, by decide⟩

/-- The hypotheses of a clause are met. -/
theorem witness_RecipeChecksAndTransmit_18 : ∃ (s : State) (k wait mem : Nat), (s.sound = true) ∧ (s.coreBegins k) ∧
  (unlisted (opOf (s.recipeWord k)) = true) ∧ (mem ≠ 2) :=
  ⟨{ flds [(.ktl, 0, F.ktl_JOB_LIMIT_CYCLES, 1000)] (runs [(.ktl, 0)] ((onAll.b2wr (ktlMem 0 + 20) 0x00000000))) with cores := [(0, { KCore.new with pc := 5, job := some (Job.plain 0 0 0 0 0 0), regs := [0, 0x1007, 9, 0, 0, 0, 0, 0, 0, 0, 0, 0, 0, 0, 0, 0] })] }, 0, 0, 0, by decide⟩

/-- The hypotheses of a clause are met. -/
theorem witness_RecipeFaults_1 : ∃ (s : State) (k wait mem : Nat), (s.sound = true) ∧ (s.coreAt k 0x1B) ∧ (mem ≠ 2) ∧
  (regionOf (s.raV k + s.immSV k).toNat 8 = none) :=
  ⟨{ flds [(.ktl, 0, F.ktl_JOB_LIMIT_CYCLES, 1000)] (runs [(.ktl, 0)] ((onAll.b2wr (ktlMem 0 + 20) 0x6cc40000))) with cores := [(0, { KCore.new with pc := 5, job := some (Job.plain 0 0 0 0 0 0), regs := [0, 0x4000, 5, 0, 0, 0, 0, 0, 0, 0, 0, 0, 0, 0, 0, 0] })] }, 0, 0, 0, by decide⟩

/-- The hypotheses of a clause are met. -/
theorem witness_RecipeFaults_2 : ∃ (s : State) (k wait mem : Nat), (s.sound = true) ∧ (s.coreAt k 0x1F) ∧ (mem ≠ 2) ∧
  ((regionOf (s.raV k + s.immSV k).toNat 8).isSome = true) ∧ ((regionOf (s.raV k + s.immSV k).toNat 8).map (·.1) ≠ some
  .rx) ∧ ((regionOf (s.raV k + s.immSV k).toNat 8).map (·.1) ≠ some .ctx) ∧ ((s.raV k + s.immSV k).toNat % 8 ≠ 0) :=
  ⟨{ flds [(.ktl, 0, F.ktl_JOB_LIMIT_CYCLES, 1000)] (runs [(.ktl, 0)] ((onAll.b2wr (ktlMem 0 + 20) 0x7cc40000))) with cores := [(0, { KCore.new with pc := 5, job := some (Job.plain 0 0 0 0 0 0), regs := [0, 0x1007, 9, 0, 0, 0, 0, 0, 0, 0, 0, 0, 0, 0, 0, 0] })] }, 0, 0, 0, by decide⟩

/-- The hypotheses of a clause are met. -/
theorem witness_RecipeFaults_3 : ∃ (s : State) (k wait mem : Nat) (o x : Nat), (s.sound = true) ∧ (s.coreAt k 0x1C) ∧
  (mem ≠ 2) ∧ (regionOf (s.raV k + s.immSV k).toNat 1 = some (.dmem, o)) ∧ (s.badWord k .dmem o 1 (mem == 4) = some x) :=
  ⟨{ flds [(.ktl, 0, F.ktl_JOB_LIMIT_CYCLES, 1000)] (runs [(.ktl, 0)] ((onAll.b2wr (ktlMem 0 + 20) 0x70c40000))) with cores := [(0, { KCore.new with pc := 5, job := some (Job.plain 0 0 0 0 0 0), regs := [0, 0x1007, 9, 0, 0, 0, 0, 0, 0, 0, 0, 0, 0, 0, 0, 0] })] }, 0, 0, 4, 0x1007, 0x0A201004, by decide⟩

/-- The hypotheses of a clause are met. -/
theorem witness_RecipeFaults_4 : ∃ (s : State) (k wait mem : Nat), (s.sound = true) ∧ (s.coreAt k 0x2C) ∧ (mem ≠ 2) ∧
  ((regionOf (s.raV k).toNat 8).map (·.1) ≠ some .scratch) :=
  ⟨{ flds [(.ktl, 0, F.ktl_JOB_LIMIT_CYCLES, 1000)] (runs [(.ktl, 0)] ((onAll.b2wr (ktlMem 0 + 20) 0xb0c48000))) with cores := [(0, { KCore.new with pc := 5, job := some (Job.plain 0 0 0 0 0 0), regs := [0, 0x1007, 9, 0, 0, 0, 0, 0, 0, 0, 0, 0, 0, 0, 0, 0] })] }, 0, 0, 0, by decide⟩

/-- The hypotheses of a clause are met. -/
theorem witness_RecipeFaults_5 : ∃ (s : State) (k wait mem : Nat), (s.sound = true) ∧ (s.coreAt k 0x2A) ∧ (mem ≠ 2) ∧
  ((fieldSpec ((s.raV k).toNat % 2 ^ 22)).outside = true) :=
  ⟨{ flds [(.ktl, 0, F.ktl_JOB_LIMIT_CYCLES, 1000)] (runs [(.ktl, 0)] ((onAll.b2wr (ktlMem 0 + 20) 0xa8c48000))) with cores := [(0, { KCore.new with pc := 5, job := some (Job.plain 0 0 0 0 0 0), regs := [0, 0x1ffff, 0, 0, 0, 0, 0, 0, 0, 0, 0, 0, 0, 0, 0, 0] })] }, 0, 0, 0, by decide⟩

/-- The hypotheses of a clause are met. -/
theorem witness_RecipeFaults_6 : ∃ (s : State) (k wait mem : Nat) (i : Nat), (s.sound = true) ∧ (s.coreAt k 0x32) ∧ (mem
  ≠ 2) ∧ (s.sigArg k (raOf (s.recipeWord k)) = i) ∧ ((s.sigRec (s.jobBank k) i).valid = true) ∧ ((s.sigRec (s.jobBank k)
  i).sink = true) :=
  ⟨{ flds [(.ktl, 0, F.ktl_JOB_LIMIT_CYCLES, 1000)] (runs [(.ktl, 0)] ((onAll.b2wr (ktlMem 0 + 20) 0xc8c48000).b2wr 0x08000000 0xC3C00800)) with cores := [(0, { KCore.new with pc := 5, job := some (Job.plain 0 0 0 0 0 0), regs := [0, 0x1007, 9, 0, 0, 0, 0, 0, 0, 0, 0, 0, 0, 0, 0, 0] })] }, 0, 0, 0, 0, by decide⟩

/-- The hypotheses of a clause are met. -/
theorem witness_RecipeFaults_7 : ∃ (s : State) (k wait mem : Nat) (j : Nat), (s.sound = true) ∧ (s.coreAt k 0x3C) ∧ (mem
  ≠ 2) ∧ (s.pduArg k (raOf (s.recipeWord k)) = j) ∧ ((s.pduRec (s.jobBank k) j).tx = false) :=
  ⟨{ flds [(.ktl, 0, F.ktl_JOB_LIMIT_CYCLES, 1000)] (runs [(.ktl, 0)] ((onAll.b2wr (ktlMem 0 + 20) 0xf0c48000))) with cores := [(0, { KCore.new with pc := 5, job := some (Job.plain 0 0 0 0 0 0), regs := [0, 0x1007, 9, 0, 0, 0, 0, 0, 0, 0, 0, 0, 0, 0, 0, 0] })] }, 0, 0, 0, 0, by decide⟩

/-- The hypotheses of a clause are met. -/
theorem witness_RecipeFaults_8 : ∃ (s : State) (k wait uwait mem : Nat) (u : Nat), (s.sound = true) ∧ (s.coreAt k 0x3D) ∧
  (5 ≤ modeOf (s.recipeWord k)) ∧ (mem ≠ 2) ∧ (bitsOf (s.recipeWord k) 13 10 = u) :=
  ⟨{ flds [(.ktl, 0, F.ktl_JOB_LIMIT_CYCLES, 1000), (.crc, 2, F.crc_CFG_WIDTH, 8), (.crc, 2, F.crc_POLY_LO_POLY, 0x1D), (.crc, 2, F.crc_INIT_LO_INIT, 0xFF), (.crc, 2, F.crc_CFG_INV, 1), (.crc, 2, F.crc_CFG_REFIN, 0), (.crc, 2, F.crc_CFG_REFOUT, 0)] (runs [(.ktl, 0), (.crc, 2)] ((onAll.b2wr (ktlMem 0 + 20) 0xf4c48ac0).b2Write 0x0A200010 [0x31, 0x32, 0x33, 0x34])) with cores := [(0, { KCore.new with pc := 5, job := some (Job.plain 0 0 0 0 0 0), regs := [0, 16, 4, 5, 0, 0, 0, 0, 0, 0, 0, 0, 0, 0, 0, 0] })] }, 0, 0, 0, 0, 2, by decide⟩

/-- The hypotheses of a clause are met. -/
theorem witness_RecipeFaults_9 : ∃ (s : State) (k wait uwait mem : Nat) (u : Nat), (s.sound = true) ∧ (s.coreAt k 0x3D) ∧
  (modeOf (s.recipeWord k) = 2) ∧ (mem ≠ 2) ∧ (bitsOf (s.recipeWord k) 13 10 = u) ∧ (s.run .crc u = false) ∧ (s.crcUnit u
  = .idle) :=
  ⟨{ flds [(.ktl, 0, F.ktl_JOB_LIMIT_CYCLES, 1000)] (runs [(.ktl, 0)] ((onAll.b2wr (ktlMem 0 + 20) 0xf4c48840))) with cores := [(0, { KCore.new with pc := 5, job := some (Job.plain 0 0 0 0 0 0), regs := [0, 0x1007, 9, 0, 0, 0, 0, 0, 0, 0, 0, 0, 0, 0, 0, 0] })] }, 0, 0, 0, 0, 2, by decide⟩

/-- The hypotheses of a clause are met. -/
theorem witness_RecipeFaults_10 : ∃ (s : State) (k wait mem : Nat), (s.sound = true) ∧ (s.coreAt k 0x01) ∧ (mem = 2) :=
  ⟨{ flds [(.ktl, 0, F.ktl_JOB_LIMIT_CYCLES, 1000)] (runs [(.ktl, 0)] ((onAll.b2wr (ktlMem 0 + 20) 0x4c48000))) with cores := [(0, { KCore.new with pc := 5, job := some (Job.plain 0 0 0 0 0 0), regs := [0, 0x1007, 9, 0, 0, 0, 0, 0, 0, 0, 0, 0, 0, 0, 0, 0] })] }, 0, 0, 2, by decide⟩

/-- The hypotheses of a clause are met. -/
theorem witness_KettleCommands_1 : ∃ (s u : State) (f : EgFrame) (c bus time id seq b ep j : Nat) (ide : Bool) (d sa :
  Bytes), (s.sound = true) ∧ (s.takeOutput 21 0 = (u, some f)) ∧ (c < 4) ∧ (u.run .ktl c = true) ∧ (u.run .sigGlobal 0 =
  true) ∧ (sa.length = 6) ∧ (d.length ≤ 8) ∧ (bus < 32) ∧ (seq < 256) ∧ (id < (if ide then 2 ^ 29 else 2 ^ 11)) ∧ (8 ≤
  f.info.hdr.length) ∧ (f.bytes = ntscfFrame ((u.macOf bgB F.brgGlobal_KTL_MAC_HI_MAC F.brgGlobal_KTL_MAC_LO_MAC).take 5
  ++ [BitVec.ofNat 8 c]) sa none seq [0, 0, 0, 0, 0, 0, 0, 0] (acfCan false bus time ⟨ide, id, d.length, 0, false, d⟩)) ∧
  (u.gf shB F.pipeShared_TPID_ALT_TPID ≠ 0x22F0) ∧ (u.epochOf (beAt f.info.hdr 4 4) = some (b, ep)) ∧ (u.pduFind b 0 bus
  (b2n ide) id = some j) ∧ ((u.pduRec b j).cluster = c) ∧ ((u.pduRec b j).gapUs = 0) ∧ ((u.pduRec b j).nodeEn = false) ∧
  (((u.cl c).queue.filter fun x => x.kind == 0).length < 48) ∧ ((u.cl c).queue.length < 64) :=
  ⟨{ (flds [(.brgGlobal, 0, F.brgGlobal_KTL_MAC_HI_MAC, 0x0200)] (runs [(.ktl, 0), (.brgGlobal, 0), (.sigGlobal, 0), (.hostEgress, 21)] (onAll.b2wr 0x08200000 0x81800001 |>.b2wr 0x0833F8C0 0x80000005 |>.b2Write 0x0833F8C4 [3, 0, 0, 0]))) with egress := [(21, { Egress.new with queue := [⟨⟨20, true, 0, 0x200000, 2, 0, 0, 0, 0, 0, 0, false, 0, none, [3, 0, 0, 0, 0, 0, 0, 9]⟩, (ntscfFrame [2, 0, 0, 0, 0, 0] [2, 0, 0, 0, 0, 1] none 7 [0, 0, 0, 0, 0, 0, 0, 0] (acfCan false 3 9 ⟨false, 5, 2, 0, false, [7, 8]⟩)), 2, true, false⟩] })] }, ({ (flds [(.brgGlobal, 0, F.brgGlobal_KTL_MAC_HI_MAC, 0x0200)] (runs [(.ktl, 0), (.brgGlobal, 0), (.sigGlobal, 0), (.hostEgress, 21)] (onAll.b2wr 0x08200000 0x81800001 |>.b2wr 0x0833F8C0 0x80000005 |>.b2Write 0x0833F8C4 [3, 0, 0, 0]))) with egress := [(21, { Egress.new with queue := [⟨⟨20, true, 0, 0x200000, 2, 0, 0, 0, 0, 0, 0, false, 0, none, [3, 0, 0, 0, 0, 0, 0, 9]⟩, (ntscfFrame [2, 0, 0, 0, 0, 0] [2, 0, 0, 0, 0, 1] none 7 [0, 0, 0, 0, 0, 0, 0, 0] (acfCan false 3 9 ⟨false, 5, 2, 0, false, [7, 8]⟩)), 2, true, false⟩] })] } : State).takeOutput 21 0 |>.1, ⟨⟨20, true, 0, 0x200000, 2, 0, 0, 0, 0, 0, 0, false, 0, none, [3, 0, 0, 0, 0, 0, 0, 9]⟩, (ntscfFrame [2, 0, 0, 0, 0, 0] [2, 0, 0, 0, 0, 1] none 7 [0, 0, 0, 0, 0, 0, 0, 0] (acfCan false 3 9 ⟨false, 5, 2, 0, false, [7, 8]⟩)), 2, true, false⟩, 0, 3, 9, 5, 7, 0, 0, 0, false, [7, 8], [2, 0, 0, 0, 0, 1], by decide⟩

/-- The hypotheses of a clause are met. -/
theorem witness_KettleCommands_2 : ∃ (s u : State) (f : EgFrame) (c : Nat), (s.sound = true) ∧ (s.takeOutput 21 0 = (u,
  some f)) ∧ (c = 0) ∧ (u.alive .ktl 0 = true) ∧ ((withoutFcs f.bytes).take 5 ≠ (u.macOf bgB F.brgGlobal_KTL_MAC_HI_MAC
  F.brgGlobal_KTL_MAC_LO_MAC).take 5) :=
  ⟨{ (flds [] (runs [(.ktl, 0), (.brgGlobal, 0), (.sigGlobal, 0), (.hostEgress, 21)] (onAll))) with egress := [(21, { Egress.new with queue := [⟨⟨20, true, 0, 0x200000, 2, 0, 0, 0, 0, 0, 0, false, 0, none, [3, 0, 0, 0, 0, 0, 0, 9]⟩, (List.replicate 64 1), 2, true, false⟩] })] }, ({ (flds [] (runs [(.ktl, 0), (.brgGlobal, 0), (.sigGlobal, 0), (.hostEgress, 21)] (onAll))) with egress := [(21, { Egress.new with queue := [⟨⟨20, true, 0, 0x200000, 2, 0, 0, 0, 0, 0, 0, false, 0, none, [3, 0, 0, 0, 0, 0, 0, 9]⟩, (List.replicate 64 1), 2, true, false⟩] })] } : State).takeOutput 21 0 |>.1, ⟨⟨20, true, 0, 0x200000, 2, 0, 0, 0, 0, 0, 0, false, 0, none, [3, 0, 0, 0, 0, 0, 0, 9]⟩, (List.replicate 64 1), 2, true, false⟩, 0, by decide⟩

/-- The hypotheses of a clause are met. -/
theorem witness_KettleCommands_3 : ∃ (s : State) (c origin bus : Nat) (x : KtlCtx), (s.sound = true) ∧ (c < 4) ∧ (s.alive
  .ktl c = true) ∧ (x ∈ (s.cl c).ctxs) ∧ (x.origin = origin) ∧ (x.ctx.bus = bus) :=
  ⟨{ (flds [] (runs [(.ktl, 0), (.sigGlobal, 0)] (onAll))) with clusters := [(0, ⟨[], [⟨1, 7, ⟨1, 2, 3, 4, ⟨false, 5, 2, 0, false, [7, 8]⟩⟩⟩], []⟩)], cores := [] }, 0, 1, 2, ⟨1, 7, ⟨1, 2, 3, 4, ⟨false, 5, 2, 0, false, [7, 8]⟩⟩⟩, by decide⟩

/-- The hypotheses of a clause are met. -/
theorem witness_KettleCommands_4 : ∃ (s : State) (c n : Nat) (j : Job), (s.sound = true) ∧ (c < 4) ∧ (s.run .ktl c =
  true) ∧ (s.nextJob c = some j) ∧ (s.idleCore c = some n) :=
  ⟨{ (flds [(.ktl, 0, F.ktl_CORE_EN_MASK, 0xFE)] (runs [(.ktl, 0), (.sigGlobal, 0)] (onAll))) with clusters := [(0, ⟨[{ Job.plain 0 3 0 0 9 0 with chan := 3, data := [7, 8] }], [], []⟩)], cores := [] }, 0, 1, { Job.plain 0 3 0 0 9 0 with chan := 3, data := [7, 8] }, by decide⟩

/-- The hypotheses of a clause are met. -/
theorem witness_KettleCommands_5 : ∃ (s : State) (k : Nat), (s.sound = true) ∧ (s.coreRuns k = true) ∧ ((s.kc k).mid =
  none) ∧ (s.jobLimit k ≤ (s.kc k).cycles) :=
  ⟨{ flds [(.ktl, 0, F.ktl_JOB_LIMIT_CYCLES, 1000)] (runs [(.ktl, 0)] ((onAll.b2wr (ktlMem 0 + 20) 0x4c48000))) with cores := [(0, { KCore.new with pc := 5, job := some (Job.plain 0 0 0 0 0 0), regs := [0, 0x1007, 9, 0, 0, 0, 0, 0, 0, 0, 0, 0, 0, 0, 0, 0], cycles := 1000 })] }, 0, by decide⟩

/-- The hypotheses of a clause are met. -/
theorem witness_KettleCommands_6 : ∃ (s : State) (k : Nat) (w : Word), (s.sound = true) ∧ (s.domOn 3 = true) ∧ (k < 32) ∧
  (s.alive .ktl (k / 8) = true) ∧ (s.unwatched (ktB (k / 8) + 0x10C + 0x20 * (k % 8))) ∧ (w.getLsbD 0 = true) ∧ ((s.kc
  k).halted = true) :=
  ⟨{ (flds [] (runs [(.ktl, 0), (.sigGlobal, 0)] (onAll))) with clusters := [], cores := [(0, { KCore.new with halted := true })] }, 0, 1, by decide⟩

/-- The hypotheses of a clause are met. -/
theorem witness_ServoStep_1 : ∃ (s : State) (e : Int) (rest : List Int), (s.sound = true) ∧ (s.run .timeClock 0 = true) ∧
  (s.timed.samples = e :: rest) ∧ (((s.gf tcB F.timeClock_SERVO_STS_STATE = 1 ∧ s.gf tcB F.timeClock_STEP_THRESH_NS <
  e.natAbs) ∨ (2 ≤ s.gf tcB F.timeClock_SERVO_STS_STATE ∧ s.gf tcB F.timeClock_STEP_THRESH_NS < e.natAbs ∧ e.natAbs ≤
  s.gf tcB F.timeClock_STEP_MAX_NS ∧ s.gf tcB F.timeClock_SERVO_CTL_STEP_EN = 1))) :=
  ⟨{ (flds [(.timeClock, 0, F.timeClock_SERVO_STS_STATE, 1)] (runs [(.timeClock, 0), (.timeGptp, 0), (.timePulse, 0), (.timeSched, 0)] onAll)) with timed := { onAll.timed with samples := [30000] } }, 30000, [], by decide⟩

/-- The hypotheses of a clause are met. -/
theorem witness_ClockAndServo_1 : ∃ (s : State) (e : Int) (rest : List Int), (s.sound = true) ∧ (s.run .timeClock 0 =
  true) ∧ (s.timed.samples = e :: rest) ∧ (((s.gf tcB F.timeClock_SERVO_STS_STATE = 1 ∧ e.natAbs ≤ s.gf tcB
  F.timeClock_STEP_THRESH_NS) ∨ (2 ≤ s.gf tcB F.timeClock_SERVO_STS_STATE ∧ e.natAbs ≤ s.gf tcB F.timeClock_STEP_MAX_NS ∧
  (e.natAbs ≤ s.gf tcB F.timeClock_STEP_THRESH_NS ∨ s.gf tcB F.timeClock_SERVO_CTL_STEP_EN = 0)))) :=
  ⟨{ (flds [(.timeClock, 0, F.timeClock_SERVO_STS_STATE, 2)] (runs [(.timeClock, 0), (.timeGptp, 0), (.timePulse, 0), (.timeSched, 0)] onAll)) with timed := { onAll.timed with samples := [40] } }, 40, [], by decide⟩

/-- The hypotheses of a clause are met. -/
theorem witness_ClockAndServo_2 : ∃ (s : State) (e : Int) (rest : List Int), (s.sound = true) ∧ (s.run .timeClock 0 =
  true) ∧ (s.timed.samples = e :: rest) ∧ (s.gf tcB F.timeClock_SERVO_STS_STATE = 1) ∧ (e.natAbs ≤ s.gf tcB
  F.timeClock_STEP_THRESH_NS) ∧ (e.natAbs ≤ s.gf tcB F.timeClock_LOCK_NS) ∧ (s.timed.n + 1 = s.gf tcB
  F.timeClock_LOCK_CNT) :=
  ⟨{ (flds [(.timeClock, 0, F.timeClock_SERVO_STS_STATE, 1)] (runs [(.timeClock, 0), (.timeGptp, 0), (.timePulse, 0), (.timeSched, 0)] onAll)) with timed := { onAll.timed with n := 3, samples := [40] } }, 40, [], by decide⟩

/-- The hypotheses of a clause are met. -/
theorem witness_ClockAndServo_3 : ∃ (s : State) (e : Int) (rest : List Int), (s.sound = true) ∧ (s.run .timeClock 0 =
  true) ∧ (s.timed.samples = e :: rest) ∧ (s.gf tcB F.timeClock_SERVO_STS_STATE = 1) ∧ (e.natAbs ≤ s.gf tcB
  F.timeClock_STEP_THRESH_NS) ∧ ((¬ e.natAbs ≤ s.gf tcB F.timeClock_LOCK_NS ∨ s.timed.n + 1 ≠ s.gf tcB
  F.timeClock_LOCK_CNT)) :=
  ⟨{ (flds [(.timeClock, 0, F.timeClock_SERVO_STS_STATE, 1)] (runs [(.timeClock, 0), (.timeGptp, 0), (.timePulse, 0), (.timeSched, 0)] onAll)) with timed := { onAll.timed with n := 2, samples := [40] } }, 40, [], by decide⟩

/-- The hypotheses of a clause are met. -/
theorem witness_ClockAndServo_4 : ∃ (s : State) (e : Int) (rest : List Int) (a b : Nat), (s.sound = true) ∧ (s.run
  .timeClock 0 = true) ∧ (s.timed.samples = e :: rest) ∧ (2 ≤ s.gf tcB F.timeClock_SERVO_STS_STATE) ∧ (s.gf tcB
  F.timeClock_STEP_MAX_NS < e.natAbs) ∧ (s.gf tcB F.timeClock_REFUSE_CNT_TOTAL = a) ∧ (s.gf tcB
  F.timeClock_REFUSE_CNT_CONSEC = b) :=
  ⟨{ (flds [(.timeClock, 0, F.timeClock_SERVO_STS_STATE, 2), (.timeClock, 0, F.timeClock_REFUSE_LIM_LIM, 1)] (runs [(.timeClock, 0), (.timeGptp, 0), (.timePulse, 0), (.timeSched, 0)] onAll)) with timed := { onAll.timed with samples := [4800000] } }, 4800000, [], 0, 0, by decide⟩

/-- The hypotheses of a clause are met. -/
theorem witness_ClockAndServo_5 : ∃ (s : State) (w : Word), (s.sound = true) ∧ (s.run .timeClock 0 = true) ∧ (s.unwatched
  (tcB + 0x04C)) ∧ (w.getLsbD 0 = true) ∧ (w.getLsbD 16 = false) ∧ (s.gf tcB F.timeClock_SERVO_STS_STATE = 0) ∧ (bitsOf
  w.toNat 2 1 ≤ 2) :=
  ⟨{ (flds [] (runs [(.timeClock, 0), (.timeGptp, 0), (.timePulse, 0), (.timeSched, 0)] onAll)) with timed := { onAll.timed with n := 0 } }, 1, by decide⟩

/-- The hypotheses of a clause are met. -/
theorem witness_ClockAndServo_6 : ∃ (s : State) (w : Word), (s.sound = true) ∧ (s.run .timeClock 0 = true) ∧ (s.unwatched
  (tcB + 0x04C)) ∧ (w.getLsbD 0 = false) ∧ (s.gf tcB F.timeClock_SERVO_STS_STATE ≠ 0) :=
  ⟨{ (flds [(.timeClock, 0, F.timeClock_SERVO_STS_STATE, 2)] (runs [(.timeClock, 0), (.timeGptp, 0), (.timePulse, 0), (.timeSched, 0)] onAll)) with timed := { onAll.timed with n := 0 } }, 0, by decide⟩

/-- The hypotheses of a clause are met. -/
theorem witness_ClockAndServo_7 : ∃ (s : State) (w : Word), (s.sound = true) ∧ (s.run .timeClock 0 = true) ∧ (s.unwatched
  (tcB + 0x04C)) ∧ (w.getLsbD 0 = true) ∧ (w.getLsbD 16 = true) ∧ (s.gf tcB F.timeClock_SERVO_STS_STATE ≠ 0) :=
  ⟨{ (flds [(.timeClock, 0, F.timeClock_SERVO_STS_STATE, 3)] (runs [(.timeClock, 0), (.timeGptp, 0), (.timePulse, 0), (.timeSched, 0)] onAll)) with timed := { onAll.timed with n := 0 } }, 0x10001, by decide⟩

/-- The hypotheses of a clause are met. -/
theorem witness_ClockAndServo_8 : ∃ (s : State), (s.sound = true) ∧ (s.run .timeClock 0 = true) ∧ (s.gf tcB
  F.timeClock_SERVO_STS_STATE = 2) ∧ ((s.gf tcB F.timeClock_SERVO_CTL_SRC = 1 ∨ s.gf tcB F.timeClock_SERVO_CTL_SRC = 2))
  ∧ (s.timed.samples = []) :=
  ⟨{ (flds [(.timeClock, 0, F.timeClock_SERVO_STS_STATE, 2), (.timeClock, 0, F.timeClock_SERVO_CTL_SRC, 1)] (runs [(.timeClock, 0), (.timeGptp, 0), (.timePulse, 0), (.timeSched, 0)] onAll)) with timed := { onAll.timed with n := 0 } }, by decide⟩

/-- The hypotheses of a clause are met. -/
theorem witness_ClockAndServo_9 : ∃ (s : State) (w : Word), (s.sound = true) ∧ (s.run .timeClock 0 = true) ∧ (s.unwatched
  (tcB + 0x070)) ∧ (w.getLsbD 0 = true) ∧ ((w.getLsbD 1 = true ∨ (toSigned 64 (s.g64 tcB F.timeClock_STEP_LO_NS
  F.timeClock_STEP_HI_NS)).natAbs ≤ s.gf tcB F.timeClock_STEP_MAX_NS)) :=
  ⟨{ (flds [(.timeClock, 0, F.timeClock_STEP_LO_NS, 500)] (runs [(.timeClock, 0), (.timeGptp, 0), (.timePulse, 0), (.timeSched, 0)] onAll)) with timed := { onAll.timed with n := 0 } }, 1, by decide⟩

/-- The hypotheses of a clause are met. -/
theorem witness_ClockAndServo_10 : ∃ (s : State) (w : Word), (s.sound = true) ∧ (s.run .timeClock 0 = true) ∧
  (s.unwatched (tcB + 0x070)) ∧ (w.getLsbD 0 = true) ∧ (w.getLsbD 1 = false) ∧ (s.gf tcB F.timeClock_STEP_MAX_NS <
  (toSigned 64 (s.g64 tcB F.timeClock_STEP_LO_NS F.timeClock_STEP_HI_NS)).natAbs) :=
  ⟨{ (flds [(.timeClock, 0, F.timeClock_STEP_LO_NS, 0x200000)] (runs [(.timeClock, 0), (.timeGptp, 0), (.timePulse, 0), (.timeSched, 0)] onAll)) with timed := { onAll.timed with n := 0 } }, 1, by decide⟩

/-- The hypotheses of a clause are met. -/
theorem witness_ClockAndServo_11 : ∃ (s : State) (d : Int) (fo : Bool) (rest : List (Int × Bool)), (s.sound = true) ∧
  (s.run .timeClock 0 = true) ∧ (s.timed.steps = (d, fo) :: rest) :=
  ⟨{ (flds [] (runs [(.timeClock, 0), (.timeGptp, 0), (.timePulse, 0), (.timeSched, 0)] onAll)) with timed := { onAll.timed with steps := [(-7, false)] } }, -7, false, [], by decide⟩

/-- The hypotheses of a clause are met. -/
theorem witness_GptpCommands_1 : ∃ (s u : State) (f : EgFrame) (m : Bytes), (s.sound = true) ∧ (s.takeOutput 22 0 = (u,
  some f)) ∧ (s.run .timeGptp 0 = true) ∧ (s.ptpOf f.bytes = some m) ∧ (s.ptpKind f.info.src m = 1) ∧ (s.on tgB
  F.timeGptp_GPTP_CTL_COPY = false) :=
  ⟨{ (flds [(.timeGptp, 0, F.timeGptp_PORT_EN_MASK, 0xFFFF)] (runs [(.timeGptp, 0), (.timeClock, 0), (.emac, 3), (.hostEgress, 22), (.hostQueue, 0), (.hostGlobal, 0)] onAll)) with egress := [(22, { Egress.new with queue := [⟨⟨3, true, 0, 0x400000, 7, 0, 0, 0, 0, 1000, 0, false, 0, none, []⟩, ([0x01, 0x80, 0xC2, 0, 0, 0x0E, 2, 0, 0, 0, 0, 9, 0x88, 0xF7] ++ ([0x12, 0x12, 0, 54, 0, 0, 0, 0] ++ List.replicate 22 0 ++ [0, 7, 0, 0] ++ List.replicate 20 0) ++ [1, 2, 3, 4]), 2, true, false⟩] })], timed := { onAll.timed with n := 0 } }, ({ (flds [(.timeGptp, 0, F.timeGptp_PORT_EN_MASK, 0xFFFF)] (runs [(.timeGptp, 0), (.timeClock, 0), (.emac, 3), (.hostEgress, 22), (.hostQueue, 0), (.hostGlobal, 0)] onAll)) with egress := [(22, { Egress.new with queue := [⟨⟨3, true, 0, 0x400000, 7, 0, 0, 0, 0, 1000, 0, false, 0, none, []⟩, ([0x01, 0x80, 0xC2, 0, 0, 0x0E, 2, 0, 0, 0, 0, 9, 0x88, 0xF7] ++ ([0x12, 0x12, 0, 54, 0, 0, 0, 0] ++ List.replicate 22 0 ++ [0, 7, 0, 0] ++ List.replicate 20 0) ++ [1, 2, 3, 4]), 2, true, false⟩] })], timed := { onAll.timed with n := 0 } } : State).takeOutput 22 0 |>.1, ⟨⟨3, true, 0, 0x400000, 7, 0, 0, 0, 0, 1000, 0, false, 0, none, []⟩, ([0x01, 0x80, 0xC2, 0, 0, 0x0E, 2, 0, 0, 0, 0, 9, 0x88, 0xF7] ++ ([0x12, 0x12, 0, 54, 0, 0, 0, 0] ++ List.replicate 22 0 ++ [0, 7, 0, 0] ++ List.replicate 20 0) ++ [1, 2, 3, 4]), 2, true, false⟩, ([0x12, 0x12, 0, 54, 0, 0, 0, 0] ++ List.replicate 22 0 ++ [0, 7, 0, 0] ++ List.replicate 20 0), by decide⟩

/-- The hypotheses of a clause are met. -/
theorem witness_GptpCommands_2 : ∃ (s : State) (n : Nat), (s.sound = true) ∧ (n < 16) ∧ (s.alive .emac n = true) ∧ (s.run
  .timeGptp 0 = true) ∧ (bitOf (s.gf tgB F.timeGptp_PORT_EN_MASK) n = true) :=
  ⟨{ (flds [(.timeGptp, 0, F.timeGptp_PORT_EN_MASK, 0xFFFF)] (runs [(.timeGptp, 0), (.timeClock, 0), (.emac, 3), (.hostEgress, 22), (.hostQueue, 0), (.hostGlobal, 0)] onAll)) with egress := [(22, { Egress.new with queue := [⟨⟨3, true, 0, 0x400000, 7, 0, 0, 0, 0, 1000, 0, false, 0, none, []⟩, ([0x01, 0x80, 0xC2, 0, 0, 0x0E, 2, 0, 0, 0, 0, 9, 0x88, 0xF7] ++ List.replicate 20 0 ++ [1, 2, 3, 4]), 2, true, false⟩] })], timed := { onAll.timed with n := 0 } }, 3, by decide⟩

/-- The hypotheses of a clause are met. -/
theorem witness_GptpCommands_3 : ∃ (s u : State) (f : EgFrame) (m : Bytes), (s.sound = true) ∧ (s.takeOutput 22 0 = (u,
  some f)) ∧ (s.run .timeGptp 0 = true) ∧ (s.ptpOf f.bytes = some m) ∧ (s.ptpKind f.info.src m = 2) ∧ (s.on tgB
  F.timeGptp_GPTP_CTL_COPY = false) ∧ ((s.pdPort f.info.src).busy = true) ∧ (beAt m 30 2 = (s.pdPort f.info.src).seq) ∧
  (slice m 44 10 = portIdent f.info.src) ∧ (byteAt m 0 % 16 = 3) :=
  ⟨{ (flds [(.timeGptp, 0, F.timeGptp_PORT_EN_MASK, 0xFFFF)] (runs [(.timeGptp, 0), (.timeClock, 0), (.emac, 3), (.hostEgress, 22), (.hostQueue, 0), (.hostGlobal, 0)] onAll)) with egress := [(22, { Egress.new with queue := [⟨⟨3, true, 0, 0x400000, 7, 0, 0, 0, 0, 1000, 0, false, 0, none, []⟩, ([0x01, 0x80, 0xC2, 0, 0, 0x0E, 2, 0, 0, 0, 0, 9, 0x88, 0xF7] ++ ([0x13, 0x12, 0, 54, 0, 0, 0, 0] ++ List.replicate 22 0 ++ [0, 7, 0, 0] ++ List.replicate 10 0 ++ portIdent 3) ++ [1, 2, 3, 4]), 2, true, false⟩] })], timed := { onAll.timed with pd := [(3, ⟨7, true, some 5, none, none, none⟩)] } }, ({ (flds [(.timeGptp, 0, F.timeGptp_PORT_EN_MASK, 0xFFFF)] (runs [(.timeGptp, 0), (.timeClock, 0), (.emac, 3), (.hostEgress, 22), (.hostQueue, 0), (.hostGlobal, 0)] onAll)) with egress := [(22, { Egress.new with queue := [⟨⟨3, true, 0, 0x400000, 7, 0, 0, 0, 0, 1000, 0, false, 0, none, []⟩, ([0x01, 0x80, 0xC2, 0, 0, 0x0E, 2, 0, 0, 0, 0, 9, 0x88, 0xF7] ++ ([0x13, 0x12, 0, 54, 0, 0, 0, 0] ++ List.replicate 22 0 ++ [0, 7, 0, 0] ++ List.replicate 10 0 ++ portIdent 3) ++ [1, 2, 3, 4]), 2, true, false⟩] })], timed := { onAll.timed with pd := [(3, ⟨7, true, some 5, none, none, none⟩)] } } : State).takeOutput 22 0 |>.1, ⟨⟨3, true, 0, 0x400000, 7, 0, 0, 0, 0, 1000, 0, false, 0, none, []⟩, ([0x01, 0x80, 0xC2, 0, 0, 0x0E, 2, 0, 0, 0, 0, 9, 0x88, 0xF7] ++ ([0x13, 0x12, 0, 54, 0, 0, 0, 0] ++ List.replicate 22 0 ++ [0, 7, 0, 0] ++ List.replicate 10 0 ++ portIdent 3) ++ [1, 2, 3, 4]), 2, true, false⟩, ([0x13, 0x12, 0, 54, 0, 0, 0, 0] ++ List.replicate 22 0 ++ [0, 7, 0, 0] ++ List.replicate 10 0 ++ portIdent 3), (by first | decide | rfl), (by first | decide | rfl), (by first | decide | rfl), (by first | decide | rfl), (by first | decide | rfl), (by first | decide | rfl), (by first | decide | rfl), (by first | decide | rfl), (by first | decide | rfl), (by first | decide | rfl)⟩

/-- The hypotheses of a clause are met. -/
theorem witness_GptpCommands_4 : ∃ (s u : State) (f : EgFrame) (m : Bytes) (t1 t4 : Nat) (t2 : Int), (s.sound = true) ∧
  (s.takeOutput 22 0 = (u, some f)) ∧ (s.run .timeGptp 0 = true) ∧ (s.ptpOf f.bytes = some m) ∧ (s.ptpKind f.info.src m =
  2) ∧ (s.on tgB F.timeGptp_GPTP_CTL_COPY = false) ∧ ((s.pdPort f.info.src).busy = true) ∧ (beAt m 30 2 = (s.pdPort
  f.info.src).seq) ∧ (slice m 44 10 = portIdent f.info.src) ∧ (byteAt m 0 % 16 = 10) ∧ ((s.pdPort f.info.src).t1 = some
  t1) ∧ ((s.pdPort f.info.src).resp = some (t2, t4)) ∧ ((s.pdPort f.info.src).last = none) :=
  ⟨{ (flds [(.timeGptp, 0, F.timeGptp_PORT_EN_MASK, 0xFFFF)] (runs [(.timeGptp, 0), (.timeClock, 0), (.emac, 3), (.hostEgress, 22), (.hostQueue, 0), (.hostGlobal, 0)] onAll)) with egress := [(22, { Egress.new with queue := [⟨⟨3, true, 0, 0x400000, 7, 0, 0, 0, 0, 1000, 0, false, 0, none, []⟩, ([0x01, 0x80, 0xC2, 0, 0, 0x0E, 2, 0, 0, 0, 0, 9, 0x88, 0xF7] ++ ([0x1A, 0x12, 0, 54, 0, 0, 0, 0] ++ List.replicate 22 0 ++ [0, 7, 0, 0] ++ List.replicate 10 0 ++ portIdent 3) ++ [1, 2, 3, 4]), 2, true, false⟩] })], timed := { onAll.timed with pd := [(3, ⟨7, true, some 5, some (9, 30), none, none⟩)] } }, ({ (flds [(.timeGptp, 0, F.timeGptp_PORT_EN_MASK, 0xFFFF)] (runs [(.timeGptp, 0), (.timeClock, 0), (.emac, 3), (.hostEgress, 22), (.hostQueue, 0), (.hostGlobal, 0)] onAll)) with egress := [(22, { Egress.new with queue := [⟨⟨3, true, 0, 0x400000, 7, 0, 0, 0, 0, 1000, 0, false, 0, none, []⟩, ([0x01, 0x80, 0xC2, 0, 0, 0x0E, 2, 0, 0, 0, 0, 9, 0x88, 0xF7] ++ ([0x1A, 0x12, 0, 54, 0, 0, 0, 0] ++ List.replicate 22 0 ++ [0, 7, 0, 0] ++ List.replicate 10 0 ++ portIdent 3) ++ [1, 2, 3, 4]), 2, true, false⟩] })], timed := { onAll.timed with pd := [(3, ⟨7, true, some 5, some (9, 30), none, none⟩)] } } : State).takeOutput 22 0 |>.1, ⟨⟨3, true, 0, 0x400000, 7, 0, 0, 0, 0, 1000, 0, false, 0, none, []⟩, ([0x01, 0x80, 0xC2, 0, 0, 0x0E, 2, 0, 0, 0, 0, 9, 0x88, 0xF7] ++ ([0x1A, 0x12, 0, 54, 0, 0, 0, 0] ++ List.replicate 22 0 ++ [0, 7, 0, 0] ++ List.replicate 10 0 ++ portIdent 3) ++ [1, 2, 3, 4]), 2, true, false⟩, ([0x1A, 0x12, 0, 54, 0, 0, 0, 0] ++ List.replicate 22 0 ++ [0, 7, 0, 0] ++ List.replicate 10 0 ++ portIdent 3), 5, 30, 9, (by first | decide | rfl), (by first | decide | rfl), (by first | decide | rfl), (by first | decide | rfl), (by first | decide | rfl), (by first | decide | rfl), (by first | decide | rfl), (by first | decide | rfl), (by first | decide | rfl), (by first | decide | rfl), (by first | decide | rfl), (by first | decide | rfl), (by first | decide | rfl)⟩

/-- The hypotheses of a clause are met. -/
theorem witness_GptpCommands_5 : ∃ (s u : State) (f : EgFrame) (m : Bytes) (t1 t4 u4 : Nat) (t2 u3 : Int), (s.sound =
  true) ∧ (s.takeOutput 22 0 = (u, some f)) ∧ (s.run .timeGptp 0 = true) ∧ (s.ptpOf f.bytes = some m) ∧ (s.ptpKind
  f.info.src m = 2) ∧ (s.on tgB F.timeGptp_GPTP_CTL_COPY = false) ∧ ((s.pdPort f.info.src).busy = true) ∧ (beAt m 30 2 =
  (s.pdPort f.info.src).seq) ∧ (slice m 44 10 = portIdent f.info.src) ∧ (byteAt m 0 % 16 = 10) ∧ ((s.pdPort
  f.info.src).t1 = some t1) ∧ ((s.pdPort f.info.src).resp = some (t2, t4)) ∧ ((s.pdPort f.info.src).last = some (u3, u4))
  ∧ (u4 < t4) :=
  ⟨{ (flds [(.timeGptp, 0, F.timeGptp_PORT_EN_MASK, 0xFFFF)] (runs [(.timeGptp, 0), (.timeClock, 0), (.emac, 3), (.hostEgress, 22), (.hostQueue, 0), (.hostGlobal, 0)] onAll)) with egress := [(22, { Egress.new with queue := [⟨⟨3, true, 0, 0x400000, 7, 0, 0, 0, 0, 1000, 0, false, 0, none, []⟩, ([0x01, 0x80, 0xC2, 0, 0, 0x0E, 2, 0, 0, 0, 0, 9, 0x88, 0xF7] ++ ([0x1A, 0x12, 0, 54, 0, 0, 0, 0] ++ List.replicate 22 0 ++ [0, 7, 0, 0] ++ List.replicate 10 0 ++ portIdent 3) ++ [1, 2, 3, 4]), 2, true, false⟩] })], timed := { onAll.timed with pd := [(3, ⟨7, true, some 5, some (9, 30), none, some (-70, 20)⟩)] } }, ({ (flds [(.timeGptp, 0, F.timeGptp_PORT_EN_MASK, 0xFFFF)] (runs [(.timeGptp, 0), (.timeClock, 0), (.emac, 3), (.hostEgress, 22), (.hostQueue, 0), (.hostGlobal, 0)] onAll)) with egress := [(22, { Egress.new with queue := [⟨⟨3, true, 0, 0x400000, 7, 0, 0, 0, 0, 1000, 0, false, 0, none, []⟩, ([0x01, 0x80, 0xC2, 0, 0, 0x0E, 2, 0, 0, 0, 0, 9, 0x88, 0xF7] ++ ([0x1A, 0x12, 0, 54, 0, 0, 0, 0] ++ List.replicate 22 0 ++ [0, 7, 0, 0] ++ List.replicate 10 0 ++ portIdent 3) ++ [1, 2, 3, 4]), 2, true, false⟩] })], timed := { onAll.timed with pd := [(3, ⟨7, true, some 5, some (9, 30), none, some (-70, 20)⟩)] } } : State).takeOutput 22 0 |>.1, ⟨⟨3, true, 0, 0x400000, 7, 0, 0, 0, 0, 1000, 0, false, 0, none, []⟩, ([0x01, 0x80, 0xC2, 0, 0, 0x0E, 2, 0, 0, 0, 0, 9, 0x88, 0xF7] ++ ([0x1A, 0x12, 0, 54, 0, 0, 0, 0] ++ List.replicate 22 0 ++ [0, 7, 0, 0] ++ List.replicate 10 0 ++ portIdent 3) ++ [1, 2, 3, 4]), 2, true, false⟩, ([0x1A, 0x12, 0, 54, 0, 0, 0, 0] ++ List.replicate 22 0 ++ [0, 7, 0, 0] ++ List.replicate 10 0 ++ portIdent 3), 5, 30, 20, 9, -70, (by first | decide | rfl), (by first | decide | rfl), (by first | decide | rfl), (by first | decide | rfl), (by first | decide | rfl), (by first | decide | rfl), (by first | decide | rfl), (by first | decide | rfl), (by first | decide | rfl), (by first | decide | rfl), (by first | decide | rfl), (by first | decide | rfl), (by first | decide | rfl), (by first | decide | rfl)⟩

/-- The hypotheses of a clause are met. -/
theorem witness_GptpCommands_6 : ∃ (s u : State) (f : EgFrame) (m : Bytes) (d : Nat), (s.sound = true) ∧ (s.takeOutput 22
  0 = (u, some f)) ∧ (s.run .timeGptp 0 = true) ∧ (s.ptpOf f.bytes = some m) ∧ (s.ptpKind f.info.src m = 3) ∧ (s.on tgB
  F.timeGptp_GPTP_CTL_COPY = false) ∧ (s.instOf (byteAt m 4) = some d) ∧ (byteAt m 0 % 16 = 0) ∧ (bitOf (byteAt m 6) 1 =
  true) ∧ (s.ginst d F.timeGptp_INST_CTL_GM = 0) ∧ (s.ginst d F.timeGptp_INST_CTL_SLAVE_PORT = f.info.src) ∧ (bitOf (s.gf
  tgB F.timeGptp_PDELAY_OK_MASK) f.info.src = true) :=
  ⟨{ (flds [(.timeGptp, 0, F.timeGptp_PORT_EN_MASK, 0xFFFF), (.timeGptp, 0, F.timeGptp_INST_CTL_EN, 1), (.timeGptp, 0, F.timeGptp_INST_CTL_SLAVE_PORT, 3), (.timeGptp, 0, F.timeGptp_PDELAY_OK_MASK, 0xFFFF), (.timeGptp, 0, F.timeGptp_MASTER_MASK_MASK, 0x8)] (runs [(.timeGptp, 0), (.timeClock, 0), (.emac, 3), (.hostEgress, 22), (.hostQueue, 0), (.hostGlobal, 0)] onAll)) with egress := [(22, { Egress.new with queue := [⟨⟨3, true, 0, 0x400000, 7, 0, 0, 0, 0, 1000, 0, false, 0, none, []⟩, ([0x01, 0x80, 0xC2, 0, 0, 0x0E, 2, 0, 0, 0, 0, 9, 0x88, 0xF7] ++ ([0x10, 0x12, 0, 54, 0, 0, 2, 0] ++ List.replicate 22 0 ++ [0, 7, 0, 0] ++ List.replicate 20 0) ++ [1, 2, 3, 4]), 2, true, false⟩] })], timed := { onAll.timed with n := 0 } }, ({ (flds [(.timeGptp, 0, F.timeGptp_PORT_EN_MASK, 0xFFFF), (.timeGptp, 0, F.timeGptp_INST_CTL_EN, 1), (.timeGptp, 0, F.timeGptp_INST_CTL_SLAVE_PORT, 3), (.timeGptp, 0, F.timeGptp_PDELAY_OK_MASK, 0xFFFF), (.timeGptp, 0, F.timeGptp_MASTER_MASK_MASK, 0x8)] (runs [(.timeGptp, 0), (.timeClock, 0), (.emac, 3), (.hostEgress, 22), (.hostQueue, 0), (.hostGlobal, 0)] onAll)) with egress := [(22, { Egress.new with queue := [⟨⟨3, true, 0, 0x400000, 7, 0, 0, 0, 0, 1000, 0, false, 0, none, []⟩, ([0x01, 0x80, 0xC2, 0, 0, 0x0E, 2, 0, 0, 0, 0, 9, 0x88, 0xF7] ++ ([0x10, 0x12, 0, 54, 0, 0, 2, 0] ++ List.replicate 22 0 ++ [0, 7, 0, 0] ++ List.replicate 20 0) ++ [1, 2, 3, 4]), 2, true, false⟩] })], timed := { onAll.timed with n := 0 } } : State).takeOutput 22 0 |>.1, ⟨⟨3, true, 0, 0x400000, 7, 0, 0, 0, 0, 1000, 0, false, 0, none, []⟩, ([0x01, 0x80, 0xC2, 0, 0, 0x0E, 2, 0, 0, 0, 0, 9, 0x88, 0xF7] ++ ([0x10, 0x12, 0, 54, 0, 0, 2, 0] ++ List.replicate 22 0 ++ [0, 7, 0, 0] ++ List.replicate 20 0) ++ [1, 2, 3, 4]), 2, true, false⟩, ([0x10, 0x12, 0, 54, 0, 0, 2, 0] ++ List.replicate 22 0 ++ [0, 7, 0, 0] ++ List.replicate 20 0), 0, by decide⟩

/-- The hypotheses of a clause are met. -/
theorem witness_GptpCommands_7 : ∃ (s u : State) (f : EgFrame) (m : Bytes) (d : Nat) (x : SyncIn), (s.sound = true) ∧
  (s.takeOutput 22 0 = (u, some f)) ∧ (s.run .timeGptp 0 = true) ∧ (s.ptpOf f.bytes = some m) ∧ (s.ptpKind f.info.src m =
  3) ∧ (s.on tgB F.timeGptp_GPTP_CTL_COPY = false) ∧ (s.instOf (byteAt m 4) = some d) ∧ (byteAt m 0 % 16 = 8) ∧ (s.ginst
  d F.timeGptp_INST_CTL_GM = 0) ∧ (s.ginst d F.timeGptp_INST_CTL_SLAVE_PORT = f.info.src) ∧ (bitOf (s.gf tgB
  F.timeGptp_PDELAY_OK_MASK) f.info.src = true) ∧ (s.timed.syncIn = [(d, x)]) ∧ (x.seq = beAt m 30 2) ∧ (s.timed.syncOut
  = []) :=
  ⟨{ (flds [(.timeGptp, 0, F.timeGptp_PORT_EN_MASK, 0xFFFF), (.timeGptp, 0, F.timeGptp_INST_CTL_EN, 1), (.timeGptp, 0, F.timeGptp_INST_CTL_SLAVE_PORT, 3), (.timeGptp, 0, F.timeGptp_PDELAY_OK_MASK, 0xFFFF), (.timeGptp, 0, F.timeGptp_MASTER_MASK_MASK, 0x8)] (runs [(.timeGptp, 0), (.timeClock, 0), (.emac, 3), (.hostEgress, 22), (.hostQueue, 0), (.hostGlobal, 0)] onAll)) with egress := [(22, { Egress.new with queue := [⟨⟨3, true, 0, 0x400000, 7, 0, 0, 0, 0, 1000, 0, false, 0, none, []⟩, ([0x01, 0x80, 0xC2, 0, 0, 0x0E, 2, 0, 0, 0, 0, 9, 0x88, 0xF7] ++ ([0x18, 0x12, 0, 54, 0, 0, 0, 0] ++ List.replicate 22 0 ++ [0, 7, 0, 0] ++ List.replicate 20 0) ++ [1, 2, 3, 4]), 2, true, false⟩] })], timed := { onAll.timed with syncIn := [(0, ⟨7, 500, 0⟩)] } }, ({ (flds [(.timeGptp, 0, F.timeGptp_PORT_EN_MASK, 0xFFFF), (.timeGptp, 0, F.timeGptp_INST_CTL_EN, 1), (.timeGptp, 0, F.timeGptp_INST_CTL_SLAVE_PORT, 3), (.timeGptp, 0, F.timeGptp_PDELAY_OK_MASK, 0xFFFF), (.timeGptp, 0, F.timeGptp_MASTER_MASK_MASK, 0x8)] (runs [(.timeGptp, 0), (.timeClock, 0), (.emac, 3), (.hostEgress, 22), (.hostQueue, 0), (.hostGlobal, 0)] onAll)) with egress := [(22, { Egress.new with queue := [⟨⟨3, true, 0, 0x400000, 7, 0, 0, 0, 0, 1000, 0, false, 0, none, []⟩, ([0x01, 0x80, 0xC2, 0, 0, 0x0E, 2, 0, 0, 0, 0, 9, 0x88, 0xF7] ++ ([0x18, 0x12, 0, 54, 0, 0, 0, 0] ++ List.replicate 22 0 ++ [0, 7, 0, 0] ++ List.replicate 20 0) ++ [1, 2, 3, 4]), 2, true, false⟩] })], timed := { onAll.timed with syncIn := [(0, ⟨7, 500, 0⟩)] } } : State).takeOutput 22 0 |>.1, ⟨⟨3, true, 0, 0x400000, 7, 0, 0, 0, 0, 1000, 0, false, 0, none, []⟩, ([0x01, 0x80, 0xC2, 0, 0, 0x0E, 2, 0, 0, 0, 0, 9, 0x88, 0xF7] ++ ([0x18, 0x12, 0, 54, 0, 0, 0, 0] ++ List.replicate 22 0 ++ [0, 7, 0, 0] ++ List.replicate 20 0) ++ [1, 2, 3, 4]), 2, true, false⟩, ([0x18, 0x12, 0, 54, 0, 0, 0, 0] ++ List.replicate 22 0 ++ [0, 7, 0, 0] ++ List.replicate 20 0), 0, ⟨7, 500, 0⟩, by decide⟩

/-- The hypotheses of a clause are met. -/
theorem witness_GptpCommands_8 : ∃ (s u : State) (f : EgFrame) (m : Bytes) (d tx : Nat) (x : SyncIn) (y : SyncOut) (stay
  : Int), (s.sound = true) ∧ (s.takeOutput 22 0 = (u, some f)) ∧ (s.run .timeGptp 0 = true) ∧ (s.ptpOf f.bytes = some m)
  ∧ (s.ptpKind f.info.src m = 3) ∧ (s.on tgB F.timeGptp_GPTP_CTL_COPY = false) ∧ (s.instOf (byteAt m 4) = some d) ∧
  (byteAt m 0 % 16 = 8) ∧ (s.ginst d F.timeGptp_INST_CTL_SLAVE_PORT = f.info.src) ∧ (bitOf (s.gf tgB
  F.timeGptp_PDELAY_OK_MASK) f.info.src = true) ∧ (s.timed.syncIn = [(d, x)]) ∧ (x.seq = beAt m 30 2) ∧ (s.timed.syncOut
  = [y]) ∧ (y.inst = d) ∧ (y.gm = false) ∧ (y.rx = beAt m 30 2) ∧ (y.tx = some tx) ∧ (y.info = none) ∧ (stay = 65536 *
  ((tx : Int) - x.stamp + s.gf tgB (F.timeGptp_LINK_DELAY_NS.at (16 * f.info.src)))) :=
  ⟨{ (flds [(.timeGptp, 0, F.timeGptp_PORT_EN_MASK, 0xFFFF), (.timeGptp, 0, F.timeGptp_INST_CTL_EN, 1), (.timeGptp, 0, F.timeGptp_INST_CTL_SLAVE_PORT, 3), (.timeGptp, 0, F.timeGptp_PDELAY_OK_MASK, 0xFFFF), (.timeGptp, 0, F.timeGptp_MASTER_MASK_MASK, 0x8)] (runs [(.timeGptp, 0), (.timeClock, 0), (.emac, 3), (.hostEgress, 22), (.hostQueue, 0), (.hostGlobal, 0)] onAll)) with egress := [(22, { Egress.new with queue := [⟨⟨3, true, 0, 0x400000, 7, 0, 0, 0, 0, 1000, 0, false, 0, none, []⟩, ([0x01, 0x80, 0xC2, 0, 0, 0x0E, 2, 0, 0, 0, 0, 9, 0x88, 0xF7] ++ ([0x18, 0x12, 0, 54, 0, 0, 0, 0] ++ List.replicate 22 0 ++ [0, 7, 0, 0] ++ List.replicate 20 0) ++ [1, 2, 3, 4]), 2, true, false⟩] })], timed := { onAll.timed with syncIn := [(0, ⟨7, 500, 0⟩)], syncOut := [⟨0, 5, 9, false, 7, some 900, none⟩] } }, ({ (flds [(.timeGptp, 0, F.timeGptp_PORT_EN_MASK, 0xFFFF), (.timeGptp, 0, F.timeGptp_INST_CTL_EN, 1), (.timeGptp, 0, F.timeGptp_INST_CTL_SLAVE_PORT, 3), (.timeGptp, 0, F.timeGptp_PDELAY_OK_MASK, 0xFFFF), (.timeGptp, 0, F.timeGptp_MASTER_MASK_MASK, 0x8)] (runs [(.timeGptp, 0), (.timeClock, 0), (.emac, 3), (.hostEgress, 22), (.hostQueue, 0), (.hostGlobal, 0)] onAll)) with egress := [(22, { Egress.new with queue := [⟨⟨3, true, 0, 0x400000, 7, 0, 0, 0, 0, 1000, 0, false, 0, none, []⟩, ([0x01, 0x80, 0xC2, 0, 0, 0x0E, 2, 0, 0, 0, 0, 9, 0x88, 0xF7] ++ ([0x18, 0x12, 0, 54, 0, 0, 0, 0] ++ List.replicate 22 0 ++ [0, 7, 0, 0] ++ List.replicate 20 0) ++ [1, 2, 3, 4]), 2, true, false⟩] })], timed := { onAll.timed with syncIn := [(0, ⟨7, 500, 0⟩)], syncOut := [⟨0, 5, 9, false, 7, some 900, none⟩] } } : State).takeOutput 22 0 |>.1, ⟨⟨3, true, 0, 0x400000, 7, 0, 0, 0, 0, 1000, 0, false, 0, none, []⟩, ([0x01, 0x80, 0xC2, 0, 0, 0x0E, 2, 0, 0, 0, 0, 9, 0x88, 0xF7] ++ ([0x18, 0x12, 0, 54, 0, 0, 0, 0] ++ List.replicate 22 0 ++ [0, 7, 0, 0] ++ List.replicate 20 0) ++ [1, 2, 3, 4]), 2, true, false⟩, ([0x18, 0x12, 0, 54, 0, 0, 0, 0] ++ List.replicate 22 0 ++ [0, 7, 0, 0] ++ List.replicate 20 0), 0, 900, ⟨7, 500, 0⟩, ⟨0, 5, 9, false, 7, some 900, none⟩, 65536 * 400, by decide⟩

/-- The hypotheses of a clause are met. -/
theorem witness_GptpCommands_9 : ∃ (s : State) (d : Nat), (s.sound = true) ∧ (d < 4) ∧ (s.run .timeGptp 0 = true) ∧
  (s.ginst d F.timeGptp_INST_CTL_EN = 1) ∧ (s.ginst d F.timeGptp_INST_CTL_GM = 1) :=
  ⟨{ (flds [(.timeGptp, 0, F.timeGptp_PORT_EN_MASK, 0xFFFF), (.timeGptp, 0, F.timeGptp_INST_CTL_EN, 1), (.timeGptp, 0, F.timeGptp_INST_CTL_SLAVE_PORT, 3), (.timeGptp, 0, F.timeGptp_PDELAY_OK_MASK, 0xFFFF), (.timeGptp, 0, F.timeGptp_MASTER_MASK_MASK, 0x8), (.timeGptp, 0, F.timeGptp_INST_CTL_GM, 1)] (runs [(.timeGptp, 0), (.timeClock, 0), (.emac, 3), (.hostEgress, 22), (.hostQueue, 0), (.hostGlobal, 0)] onAll)) with egress := [(22, { Egress.new with queue := [⟨⟨3, true, 0, 0x400000, 7, 0, 0, 0, 0, 1000, 0, false, 0, none, []⟩, ([0x01, 0x80, 0xC2, 0, 0, 0x0E, 2, 0, 0, 0, 0, 9, 0x88, 0xF7] ++ List.replicate 20 0 ++ [1, 2, 3, 4]), 2, true, false⟩] })], timed := { onAll.timed with n := 0 } }, 0, by decide⟩

/-- The hypotheses of a clause are met. -/
theorem witness_GptpCommands_10 : ∃ (s : State) (d : Nat), (s.sound = true) ∧ (d < 4) ∧ (s.alive .timeGptp 0 = true) ∧
  (s.ginst d F.timeGptp_INST_CTL_SYNCED = 1) ∧ (s.alive .timeClock 0 = true) :=
  ⟨{ (flds [(.timeGptp, 0, F.timeGptp_PORT_EN_MASK, 0xFFFF), (.timeGptp, 0, F.timeGptp_INST_CTL_EN, 1), (.timeGptp, 0, F.timeGptp_INST_CTL_SLAVE_PORT, 3), (.timeGptp, 0, F.timeGptp_PDELAY_OK_MASK, 0xFFFF), (.timeGptp, 0, F.timeGptp_MASTER_MASK_MASK, 0x8), (.timeGptp, 0, F.timeGptp_INST_CTL_SYNCED, 1), (.timeClock, 0, F.timeClock_SERVO_STS_STATE, 2)] (runs [(.timeGptp, 0), (.timeClock, 0), (.emac, 3), (.hostEgress, 22), (.hostQueue, 0), (.hostGlobal, 0)] onAll)) with egress := [(22, { Egress.new with queue := [⟨⟨3, true, 0, 0x400000, 7, 0, 0, 0, 0, 1000, 0, false, 0, none, []⟩, ([0x01, 0x80, 0xC2, 0, 0, 0x0E, 2, 0, 0, 0, 0, 9, 0x88, 0xF7] ++ List.replicate 20 0 ++ [1, 2, 3, 4]), 2, true, false⟩] })], timed := { onAll.timed with n := 0 } }, 0, by decide⟩

/-- The hypotheses of a clause are met. -/
theorem witness_GptpCommands_11 : ∃ (s u : State) (f : EgFrame) (n : Nat) (posted : Bytes), (s.sound = true) ∧
  (s.takeOutput 22 0 = (u, some f)) ∧ (((s.ptpOf f.bytes).map (s.ptpKind f.info.src)).getD 0 = 0) ∧ (s.gf tgB
  F.timeGptp_GPTP_CTL_HOST_Q = n) ∧ (s.queueBusy n = false) ∧ (s.queueRuns n = true) ∧ (s.run .hostGlobal 0 = true) ∧
  ((s.hq n).tx = false) ∧ ((s.hq n).fifo = false) ∧ (f.bad = false) ∧ (0 < (withoutFcs f.bytes).length) ∧ ((withoutFcs
  f.bytes).length ≤ (s.hq n).bufLen) ∧ (s.qf n F.hostQueue_HEAD_INDEX < (s.hq n).size) ∧ (s.qf n F.hostQueue_TAIL_INDEX <
  (s.hq n).size) ∧ (s.qf n F.hostQueue_TAIL_INDEX ≠ s.qf n F.hostQueue_HEAD_INDEX) :=
  ⟨{ (flds [(.timeGptp, 0, F.timeGptp_PORT_EN_MASK, 0xFFFF), (.hostQueue, 0, F.hostQueue_Q_CTL_RUN, 1), (.hostQueue, 0, F.hostQueue_TAIL_INDEX, 1)] (runs [(.timeGptp, 0), (.timeClock, 0), (.emac, 3), (.hostEgress, 22), (.hostQueue, 0), (.hostGlobal, 0)] onAll)) with egress := [(22, { Egress.new with queue := [⟨⟨3, true, 0, 0x400000, 7, 0, 0, 0, 0, 1000, 0, false, 0, none, []⟩, ([0x01, 0x80, 0xC2, 0, 0, 0x0E, 2, 0, 0, 0, 0, 9, 0x88, 0xF7] ++ ([0x1b, 0x12, 0, 54, 0, 0, 0, 0] ++ List.replicate 22 0 ++ [0, 7, 0, 0] ++ List.replicate 20 0) ++ [1, 2, 3, 4]), 2, true, false⟩] })], timed := { onAll.timed with n := 0 }, hostQ := [(0, ⟨0x40000, 0, 2048, 0⟩)] }, ({ (flds [(.timeGptp, 0, F.timeGptp_PORT_EN_MASK, 0xFFFF), (.hostQueue, 0, F.hostQueue_Q_CTL_RUN, 1), (.hostQueue, 0, F.hostQueue_TAIL_INDEX, 1)] (runs [(.timeGptp, 0), (.timeClock, 0), (.emac, 3), (.hostEgress, 22), (.hostQueue, 0), (.hostGlobal, 0)] onAll)) with egress := [(22, { Egress.new with queue := [⟨⟨3, true, 0, 0x400000, 7, 0, 0, 0, 0, 1000, 0, false, 0, none, []⟩, ([0x01, 0x80, 0xC2, 0, 0, 0x0E, 2, 0, 0, 0, 0, 9, 0x88, 0xF7] ++ ([0x1b, 0x12, 0, 54, 0, 0, 0, 0] ++ List.replicate 22 0 ++ [0, 7, 0, 0] ++ List.replicate 20 0) ++ [1, 2, 3, 4]), 2, true, false⟩] })], timed := { onAll.timed with n := 0 }, hostQ := [(0, ⟨0x40000, 0, 2048, 0⟩)] } : State).takeOutput 22 0 |>.1, ⟨⟨3, true, 0, 0x400000, 7, 0, 0, 0, 0, 1000, 0, false, 0, none, []⟩, ([0x01, 0x80, 0xC2, 0, 0, 0x0E, 2, 0, 0, 0, 0, 9, 0x88, 0xF7] ++ ([0x1b, 0x12, 0, 54, 0, 0, 0, 0] ++ List.replicate 22 0 ++ [0, 7, 0, 0] ++ List.replicate 20 0) ++ [1, 2, 3, 4]), 2, true, false⟩, 0, [], by decide⟩

/-- The hypotheses of a clause are met. -/
theorem witness_PulsesCapturesSlots_1 : ∃ (s : State) (k at_ : Nat) (x : PpsOut), (s.sound = true) ∧ (k < 4) ∧ (s.run
  .timePulse 0 = true) ∧ (s.pps k = x) ∧ (x.next = some at_) ∧ (at_ ≤ s.now) :=
  ⟨{ (flds [] (runs [(.timeClock, 0), (.timeGptp, 0), (.timePulse, 0), (.timeSched, 0)] onAll)) with timed := { onAll.timed with outs := [(1, ⟨0, 0, 10, some 0, none⟩)] } }, 1, 0, ⟨0, 0, 10, some 0, none⟩, by decide⟩

/-- The hypotheses of a clause are met. -/
theorem witness_PulsesCapturesSlots_2 : ∃ (s : State) (k at_ : Nat), (s.sound = true) ∧ (k < 4) ∧ ((s.pps k).closes =
  some at_) ∧ (at_ ≤ s.now) ∧ (((s.pps k).period = 0 ∨ (s.pps k).width < (s.pps k).period ∨ (s.pps k).next = none)) :=
  ⟨{ (flds [] (runs [(.timeClock, 0), (.timeGptp, 0), (.timePulse, 0), (.timeSched, 0)] onAll)) with timed := { onAll.timed with outs := [(1, ⟨0, 0, 10, none, some 0⟩)] } }, 1, 0, by decide⟩

/-- The hypotheses of a clause are met. -/
theorem witness_PulsesCapturesSlots_3 : ∃ (s : State) (k at_ : Nat), (s.sound = true) ∧ (k < 4) ∧ ((s.pps k).next = some
  at_) ∧ ((s.pps k).period ≠ 0) ∧ ((s.pps k).period ≤ (s.pps k).width) :=
  ⟨{ (flds [] (runs [(.timeClock, 0), (.timeGptp, 0), (.timePulse, 0), (.timeSched, 0)] onAll)) with timed := { onAll.timed with outs := [(1, ⟨0, 10, 10, some 5, some 0⟩)] } }, 1, 5, by decide⟩

/-- The hypotheses of a clause are met. -/
theorem witness_PulsesCapturesSlots_4 : ∃ (s : State) (i ago : Nat) (fa : Bool), (s.sound = true) ∧ (i < 2) ∧ (s.run
  .timePulse 0 = true) ∧ (s.gf tpB (F.timePulse_CAP_CTL_EN.at (32 * i)) = 1) ∧ (s.gf tpB (F.timePulse_CAP_CTL_EDGE.at (32
  * i)) = b2n fa) ∧ (s.gf tpB (F.timePulse_CAP_CTL_FILT_NS.at (32 * i)) ≤ ago) ∧ ((s.capFifo i).length < 8) :=
  ⟨{ (flds [(.timePulse, 0, F.timePulse_CAP_CTL_EN, 1), (.timeClock, 0, F.timeClock_SERVO_CTL_SRC, 1), (.timeClock, 0, F.timeClock_SERVO_STS_STATE, 2)] (runs [(.timeClock, 0), (.timeGptp, 0), (.timePulse, 0), (.timeSched, 0)] onAll)) with timed := { onAll.timed with n := 0 } }, 0, 25, false, by decide⟩

/-- The hypotheses of a clause are met. -/
theorem witness_PulsesCapturesSlots_5 : ∃ (s : State) (i ago : Nat) (fa : Bool), (s.sound = true) ∧ (i < 2) ∧ (s.run
  .timePulse 0 = true) ∧ (s.gf tpB (F.timePulse_CAP_CTL_EN.at (32 * i)) = 1) ∧ (s.gf tpB (F.timePulse_CAP_CTL_EDGE.at (32
  * i)) = b2n fa) ∧ (s.gf tpB (F.timePulse_CAP_CTL_FILT_NS.at (32 * i)) ≤ ago) ∧ (8 ≤ (s.capFifo i).length) :=
  ⟨{ (flds [(.timePulse, 0, F.timePulse_CAP_CTL_EN, 1)] (runs [(.timeClock, 0), (.timeGptp, 0), (.timePulse, 0), (.timeSched, 0)] onAll)) with timed := { onAll.timed with caps := [(0, List.replicate 8 (1, 2))] } }, 0, 25, false, by decide⟩

/-- The hypotheses of a clause are met. -/
theorem witness_PulsesCapturesSlots_6 : ∃ (s : State) (i q c : Nat) (rest : List (Nat × Nat)), (s.sound = true) ∧ (i < 2)
  ∧ (s.alive .timePulse 0 = true) ∧ (s.capFifo i = (q, c) :: rest) ∧ (q < 256) :=
  ⟨{ (flds [] (runs [(.timeClock, 0), (.timeGptp, 0), (.timePulse, 0), (.timeSched, 0)] onAll)) with timed := { onAll.timed with caps := [(0, [(3, 2 ^ 33)])] } }, 0, 3, 2 ^ 33, [], by decide⟩

/-- The hypotheses of a clause are met. -/
theorem witness_PulsesCapturesSlots_7 : ∃ (s : State) (k : Nat) (w : Word), (s.sound = true) ∧ (k < 16) ∧ (s.alive
  .timeSched 0 = true) ∧ (s.unwatched (tsB + 0x110 + 32 * k)) ∧ (w = 0x80000000) ∧ ((s.timed.slots.any fun x => x.1 == k)
  = false) :=
  ⟨{ (flds [(.timeSched, 0, F.timeSched_ADDR_OFFSET.at 64, 0x8004C), (.timeSched, 0, F.timeSched_SLOT_CTL_FIRED.at 64, 1)] (runs [(.timeClock, 0), (.timeGptp, 0), (.timePulse, 0), (.timeSched, 0)] onAll)) with timed := { onAll.timed with n := 0 } }, 2, 0x80000000, by decide⟩

/-- The hypotheses of a clause are met. -/
theorem witness_PulsesCapturesSlots_8 : ∃ (s r : State) (k : Nat) (x : Slot) (late e : Bool), (s.sound = true) ∧ (k < 16)
  ∧ (s.run .timeSched 0 = true) ∧ (s.timed.slots = [(k, x)]) ∧ (x.at_ ≤ s.now) ∧ (State.busWriteLate .host x.addr
  (BitVec.ofNat 32 x.data) late s = (r, e)) ∧ (r.timed.slots = [(k, x)]) ∧ (r.alive .timeSched 0 = true) :=
  ⟨{ (flds [] (runs [(.timeClock, 0), (.timeGptp, 0), (.timePulse, 0), (.timeSched, 0)] onAll)) with timed := { onAll.timed with slots := [(2, ⟨0, 0x8004C, 1, true, none⟩)] } }, State.busWriteLate .host 0x8004C 1 false ({ (flds [] (runs [(.timeClock, 0), (.timeGptp, 0), (.timePulse, 0), (.timeSched, 0)] onAll)) with timed := { onAll.timed with slots := [(2, ⟨0, 0x8004C, 1, true, none⟩)] } }) |>.1, 2, ⟨0, 0x8004C, 1, true, none⟩, false, State.busWriteLate .host 0x8004C 1 false ({ (flds [] (runs [(.timeClock, 0), (.timeGptp, 0), (.timePulse, 0), (.timeSched, 0)] onAll)) with timed := { onAll.timed with slots := [(2, ⟨0, 0x8004C, 1, true, none⟩)] } }) |>.2, by decide⟩

/-- The hypotheses of a clause are met. -/
theorem witness_KilnCommands_1 : ∃ (s : State) (w : Word), (s.sound = true) ∧ (s.run .kilnMain 0 = true) ∧ (s.kiln.cmd =
  none) ∧ (s.unwatched (kmB + 0x044)) ∧ (bitsOf w.toNat 25 24 ≤ 2) :=
  ⟨{ (flds [] (runs [(.kilnMain, 0), (.ciphBlock, 0), (.ciphGlobal, 0)] onAll)) with kiln := { onAll.kiln with draws := 0 } }, 0x05, by decide⟩

/-- The hypotheses of a clause are met. -/
theorem witness_KilnCommands_2 : ∃ (s : State) (w : Word), (s.sound = true) ∧ (s.run .kilnMain 0 = true) ∧ (s.kiln.cmd =
  none) ∧ (s.unwatched (kmB + 0x044)) ∧ (bitsOf w.toNat 25 24 ≤ 2) :=
  ⟨{ (flds [] (runs [(.kilnMain, 0), (.ciphBlock, 0), (.ciphGlobal, 0)] onAll)) with kiln := { onAll.kiln with draws := 0 } }, 0x05, by decide⟩

/-- The hypotheses of a clause are met. -/
theorem witness_KilnCommands_3 : ∃ (s : State) (w : Word), (s.sound = true) ∧ (s.run .kilnMain 0 = true) ∧ (s.kiln.cmd =
  none) ∧ (s.unwatched (kmB + 0x044)) ∧ (bitsOf w.toNat 25 24 ≤ 2) :=
  ⟨{ (flds [] (runs [(.kilnMain, 0), (.ciphBlock, 0), (.ciphGlobal, 0)] onAll)) with kiln := { onAll.kiln with draws := 0 } }, 0x05, by decide⟩

/-- The hypotheses of a clause are met. -/
theorem witness_KilnCommands_4 : ∃ (s : State) (w : Word), (s.sound = true) ∧ (s.run .kilnMain 0 = true) ∧ (s.kiln.cmd =
  none) ∧ (s.unwatched (kmB + 0x044)) ∧ (bitsOf w.toNat 25 24 ≤ 2) :=
  ⟨{ (flds [] (runs [(.kilnMain, 0), (.ciphBlock, 0), (.ciphGlobal, 0)] onAll)) with kiln := { onAll.kiln with draws := 0 } }, 0x05, by decide⟩

/-- The hypotheses of a clause are met. -/
theorem witness_KilnCommands_5 : ∃ (s : State) (w : Word), (s.sound = true) ∧ (s.run .kilnMain 0 = true) ∧ (s.kiln.cmd =
  none) ∧ (s.unwatched (kmB + 0x044)) ∧ (bitsOf w.toNat 25 24 ≤ 2) :=
  ⟨{ (flds [] (runs [(.kilnMain, 0), (.ciphBlock, 0), (.ciphGlobal, 0)] onAll)) with kiln := { onAll.kiln with draws := 0 } }, 0x05, by decide⟩

/-- The hypotheses of a clause are met. -/
theorem witness_KilnCommands_6 : ∃ (s : State) (w : Word), (s.sound = true) ∧ (s.run .kilnMain 0 = true) ∧ (s.kiln.cmd =
  none) ∧ (s.unwatched (kmB + 0x044)) ∧ (bitsOf w.toNat 25 24 ≤ 2) :=
  ⟨{ (flds [] (runs [(.kilnMain, 0), (.ciphBlock, 0), (.ciphGlobal, 0)] onAll)) with kiln := { onAll.kiln with draws := 0 } }, 0x05, by decide⟩

/-- The hypotheses of a clause are met. -/
theorem witness_KilnCommands_7 : ∃ (s : State) (w : Word), (s.sound = true) ∧ (s.run .kilnMain 0 = true) ∧ (s.kiln.cmd =
  none) ∧ (s.unwatched (kmB + 0x044)) ∧ (bitsOf w.toNat 25 24 ≤ 2) :=
  ⟨{ (flds [] (runs [(.kilnMain, 0), (.ciphBlock, 0), (.ciphGlobal, 0)] onAll)) with kiln := { onAll.kiln with draws := 0 } }, 0x05, by decide⟩

/-- The hypotheses of a clause are met. -/
theorem witness_KilnCommands_8 : ∃ (s : State) (w : Word), (s.sound = true) ∧ (s.run .kilnMain 0 = true) ∧ (s.kiln.cmd =
  none) ∧ (s.unwatched (kmB + 0x044)) ∧ (bitsOf w.toNat 25 24 ≤ 2) :=
  ⟨{ (flds [] (runs [(.kilnMain, 0), (.ciphBlock, 0), (.ciphGlobal, 0)] onAll)) with kiln := { onAll.kiln with draws := 0 } }, 0x05, by decide⟩

/-- The hypotheses of a clause are met. -/
theorem witness_KilnCommands_9 : ∃ (s : State) (c : KilnCmd), (s.sound = true) ∧ (s.kiln.cmd = some c) ∧ (s.alive
  .kilnMain 0 = true) ∧ (s.kiln.alarm = .normal) ∧ (c.op = 0) ∧ (bitOf c.word 26 = false) ∧ (s.lifecycle ≠ 2) ∧
  (s.lifecycle ≠ 4) ∧ (usageFits c.typ c.usage = true) ∧ (c.stagedAll (keyBytes c.typ) = true) :=
  ⟨{ (flds [(.kilnMain, 0, F.kilnMain_STAGE_STS_WORDS, 0xFF), (.kilnId, 0, F.kilnId_LC_STS_STATE, 1)] (runs [(.kilnMain, 0), (.ciphBlock, 0), (.ciphGlobal, 0)] onAll)) with kiln := { onAll.kiln with cmd := some ⟨0x80001003, 1, 0x66E94B, List.replicate 8 0, 255⟩, draws := 0 } }, ⟨0x80001003, 1, 0x66E94B, List.replicate 8 0, 255⟩, by decide⟩

/-- The hypotheses of a clause are met. -/
theorem witness_KilnCommands_10 : ∃ (s : State) (c : KilnCmd), (s.sound = true) ∧ (s.kiln.cmd = some c) ∧ (s.alive
  .kilnMain 0 = true) ∧ (s.kiln.alarm = .normal) ∧ (c.op = 0) ∧ ((s.lifecycle = 4 ∨ (bitOf c.word 26 = false ∧
  s.lifecycle = 2))) :=
  ⟨{ (flds [(.kilnMain, 0, F.kilnMain_STAGE_STS_WORDS, 0xFF), (.kilnId, 0, F.kilnId_LC_STS_STATE, 2)] (runs [(.kilnMain, 0), (.ciphBlock, 0), (.ciphGlobal, 0)] onAll)) with kiln := { onAll.kiln with cmd := some ⟨0x80001003, 1, 5, List.replicate 8 0, 255⟩, draws := 0 } }, ⟨0x80001003, 1, 5, List.replicate 8 0, 255⟩, by decide⟩

/-- The hypotheses of a clause are met. -/
theorem witness_KilnCommands_11 : ∃ (s : State) (c : KilnCmd) (kt : Nat) (k : Bytes), (s.sound = true) ∧ (s.kiln.cmd =
  some c) ∧ (s.alive .kilnMain 0 = true) ∧ (s.kiln.alarm = .normal) ∧ (c.op = 0) ∧ (bitOf c.word 26 = true) ∧
  (s.lifecycle ≠ 4) ∧ (usageFits c.typ c.usage = true) ∧ (c.stagedAll (keyBytes c.typ) = true) ∧ (bitOf c.word 27 =
  false) ∧ (s.keyFor c.src 1 = some (kt, k)) ∧ (kt < 2) :=
  ⟨{ (flds [(.kilnMain, 0, F.kilnMain_STAGE_STS_WORDS, 0xFF), (.kilnId, 0, F.kilnId_LC_STS_STATE, 2), (.kilnSlot, 0, F.kilnSlot_SLOT_ATTR_USAGE.at 16, 2), (.kilnSlot, 0, F.kilnSlot_SLOT_ATTR_TYPE.at 16, 1)] (runs [(.kilnMain, 0), (.ciphBlock, 0), (.ciphGlobal, 0)] onAll)) with kiln := { onAll.kiln with cmd := some ⟨0x84001003, 1, 0xFDE4FB, [0x63E97779, 0x05818A2A, 0x93C8191E, 0x7D6E8AE7, 0, 0, 0, 0], 255⟩, slots := [(4, ⟨some ⟨[0, 1, 2, 3, 4, 5, 6, 7, 8, 9, 10, 11, 12, 13, 14, 15, 16, 17, 18, 19, 20, 21, 22, 23, 24, 25, 26, 27, 28, 29, 30, 31], List.replicate 32 0⟩, none, none⟩)], c0 := 0x64E8C3F9CE0F5BA2 } }, ⟨0x84001003, 1, 0xFDE4FB, [0x63E97779, 0x05818A2A, 0x93C8191E, 0x7D6E8AE7, 0, 0, 0, 0], 255⟩, 1, [0, 1, 2, 3, 4, 5, 6, 7, 8, 9, 10, 11, 12, 13, 14, 15, 16, 17, 18, 19, 20, 21, 22, 23, 24, 25, 26, 27, 28, 29, 30, 31], by decide⟩

/-- The hypotheses of a clause are met. -/
theorem witness_KilnCommands_12 : ∃ (s : State) (c : KilnCmd) (k : Bytes), (s.sound = true) ∧ (s.kiln.cmd = some c) ∧
  (s.alive .kilnMain 0 = true) ∧ (s.kiln.alarm = .normal) ∧ (c.op = 0) ∧ (bitOf c.word 26 = true) ∧ (s.lifecycle ≠ 4) ∧
  (usageFits c.typ c.usage = true) ∧ (c.stagedAll (keyBytes c.typ) = true) ∧ (bitOf c.word 27 = true) ∧ (s.kiln.kek.map
  Masked.value = some k) :=
  ⟨{ (flds [(.kilnMain, 0, F.kilnMain_STAGE_STS_WORDS, 0xFF), (.kilnId, 0, F.kilnId_LC_STS_STATE, 2)] (runs [(.kilnMain, 0), (.ciphBlock, 0), (.ciphGlobal, 0)] onAll)) with kiln := { onAll.kiln with cmd := some ⟨0x8c001003, 1, 0xFDE4FB, [0x63E97779, 0x05818A2A, 0x93C8191E, 0x7D6E8AE7, 0, 0, 0, 0], 255⟩, kek := some ⟨[0, 1, 2, 3, 4, 5, 6, 7, 8, 9, 10, 11, 12, 13, 14, 15, 16, 17, 18, 19, 20, 21, 22, 23, 24, 25, 26, 27, 28, 29, 30, 31], List.replicate 32 0⟩, c0 := 0x64E8C3F9CE0F5BA2 } }, ⟨0x8c001003, 1, 0xFDE4FB, [0x63E97779, 0x05818A2A, 0x93C8191E, 0x7D6E8AE7, 0, 0, 0, 0], 255⟩, [0, 1, 2, 3, 4, 5, 6, 7, 8, 9, 10, 11, 12, 13, 14, 15, 16, 17, 18, 19, 20, 21, 22, 23, 24, 25, 26, 27, 28, 29, 30, 31], by decide⟩

/-- The hypotheses of a clause are met. -/
theorem witness_KilnCommands_13 : ∃ (s : State) (c : KilnCmd), (s.sound = true) ∧ (s.kiln.cmd = some c) ∧ (s.alive
  .kilnMain 0 = true) ∧ (s.kiln.alarm = .normal) ∧ (c.op = 1) ∧ (s.lifecycle ≠ 4) ∧ (c.stagedAll 16 = true) :=
  ⟨{ (flds [(.kilnMain, 0, F.kilnMain_STAGE_STS_WORDS, 0xFF)] (runs [(.kilnMain, 0), (.ciphBlock, 0), (.ciphGlobal, 0)] onAll)) with kiln := { onAll.kiln with cmd := some ⟨0x90001003, 1, 0, List.replicate 8 0, 255⟩, draws := 0 } }, ⟨0x90001003, 1, 0, List.replicate 8 0, 255⟩, by decide⟩

/-- The hypotheses of a clause are met. -/
theorem witness_KilnCommands_14 : ∃ (s : State) (c : KilnCmd) (typ : Nat) (k : Bytes), (s.sound = true) ∧ (s.kiln.cmd =
  some c) ∧ (s.alive .kilnMain 0 = true) ∧ (s.kiln.alarm = .normal) ∧ (c.op = 2) ∧ (s.lifecycle ≠ 4) ∧ (usageFits c.typ
  c.usage = true) ∧ (s.keyFor c.src 2 = some (typ, k)) ∧ (s.kf F.kilnMain_DRV_CTL_PRF = 0) :=
  ⟨{ (flds [(.kilnSlot, 0, F.kilnSlot_SLOT_ATTR_USAGE.at 16, 4)] (runs [(.kilnMain, 0), (.ciphBlock, 0), (.ciphGlobal, 0)] onAll)) with kiln := { onAll.kiln with cmd := some ⟨0xa0001003, 1, 0, List.replicate 8 0, 255⟩, slots := [(4, ⟨some ⟨[1, 2, 3, 4, 5, 6, 7, 8, 9, 10, 11, 12, 13, 14, 15, 16], List.replicate 16 0⟩, none, none⟩)] } }, ⟨0xa0001003, 1, 0, List.replicate 8 0, 255⟩, 0, [1, 2, 3, 4, 5, 6, 7, 8, 9, 10, 11, 12, 13, 14, 15, 16], by decide⟩

/-- The hypotheses of a clause are met. -/
theorem witness_KilnCommands_15 : ∃ (s : State) (c : KilnCmd) (typ : Nat) (k : Bytes), (s.sound = true) ∧ (s.kiln.cmd =
  some c) ∧ (s.alive .kilnMain 0 = true) ∧ (s.kiln.alarm = .normal) ∧ (c.op = 2) ∧ (s.lifecycle ≠ 4) ∧ (usageFits c.typ
  c.usage = true) ∧ (s.keyFor c.src 2 = some (typ, k)) ∧ (typ < 2) ∧ (s.kf F.kilnMain_DRV_CTL_PRF = 1) :=
  ⟨{ (flds [(.kilnSlot, 0, F.kilnSlot_SLOT_ATTR_USAGE.at 16, 4), (.kilnMain, 0, F.kilnMain_DRV_CTL_PRF, 1)] (runs [(.kilnMain, 0), (.ciphBlock, 0), (.ciphGlobal, 0)] onAll)) with kiln := { onAll.kiln with cmd := some ⟨0xa0001003, 1, 0, List.replicate 8 0, 255⟩, slots := [(4, ⟨some ⟨[1, 2, 3, 4, 5, 6, 7, 8, 9, 10, 11, 12, 13, 14, 15, 16], List.replicate 16 0⟩, none, none⟩)] } }, ⟨0xa0001003, 1, 0, List.replicate 8 0, 255⟩, 0, [1, 2, 3, 4, 5, 6, 7, 8, 9, 10, 11, 12, 13, 14, 15, 16], by decide⟩

/-- The hypotheses of a clause are met. -/
theorem witness_KilnCommands_16 : ∃ (s : State) (c : KilnCmd) (x : ShadowKey), (s.sound = true) ∧ (s.kiln.cmd = some c) ∧
  (s.alive .kilnMain 0 = true) ∧ (s.kiln.alarm = .normal) ∧ (c.op = 3) ∧ (s.lifecycle ≠ 4) ∧ ((s.slot c.slot).shadow =
  some x) :=
  ⟨{ (flds [] (runs [(.kilnMain, 0), (.ciphBlock, 0), (.ciphGlobal, 0)] onAll)) with kiln := { onAll.kiln with cmd := some ⟨0xb0001003, 1, 0, List.replicate 8 0, 255⟩, slots := [(3, ⟨none, some ⟨⟨[1, 2, 3, 4, 5, 6, 7, 8, 9, 10, 11, 12, 13, 14, 15, 16], List.replicate 16 0⟩, 0, 1⟩, none⟩)] } }, ⟨0xb0001003, 1, 0, List.replicate 8 0, 255⟩, ⟨⟨[1, 2, 3, 4, 5, 6, 7, 8, 9, 10, 11, 12, 13, 14, 15, 16], List.replicate 16 0⟩, 0, 1⟩, by decide⟩

/-- The hypotheses of a clause are met. -/
theorem witness_KilnCommands_17 : ∃ (s : State) (c : KilnCmd), (s.sound = true) ∧ (s.kiln.cmd = some c) ∧ (s.alive
  .kilnMain 0 = true) ∧ (s.kiln.alarm = .normal) ∧ (c.op = 3) ∧ (s.lifecycle ≠ 4) ∧ ((s.slot c.slot).shadow = none) :=
  ⟨{ (flds [] (runs [(.kilnMain, 0), (.ciphBlock, 0), (.ciphGlobal, 0)] onAll)) with kiln := { onAll.kiln with cmd := some ⟨0xb0001003, 1, 0, List.replicate 8 0, 255⟩, draws := 0 } }, ⟨0xb0001003, 1, 0, List.replicate 8 0, 255⟩, by decide⟩

/-- The hypotheses of a clause are met. -/
theorem witness_KilnCommands_18 : ∃ (s : State) (c : KilnCmd), (s.sound = true) ∧ (s.kiln.cmd = some c) ∧ (s.alive
  .kilnMain 0 = true) ∧ (s.kiln.alarm = .normal) ∧ (c.op = 4) ∧ (s.lifecycle ≠ 4) :=
  ⟨{ (flds [] (runs [(.kilnMain, 0), (.ciphBlock, 0), (.ciphGlobal, 0)] onAll)) with kiln := { onAll.kiln with cmd := some ⟨0xc0001003, 1, 0, List.replicate 8 0, 255⟩, draws := 0 } }, ⟨0xc0001003, 1, 0, List.replicate 8 0, 255⟩, by decide⟩

/-- The hypotheses of a clause are met. -/
theorem witness_KilnCommands_19 : ∃ (s : State) (c : KilnCmd), (s.sound = true) ∧ (s.kiln.cmd = some c) ∧ (s.alive
  .kilnMain 0 = true) ∧ (s.kiln.alarm = .normal) ∧ (c.op = 5) :=
  ⟨{ (flds [] (runs [(.kilnMain, 0), (.ciphBlock, 0), (.ciphGlobal, 0)] onAll)) with kiln := { onAll.kiln with cmd := some ⟨0xd0001003, 1, 0, List.replicate 8 0, 255⟩, at_ := some (3, 9) } }, ⟨0xd0001003, 1, 0, List.replicate 8 0, 255⟩, by decide⟩

/-- The hypotheses of a clause are met. -/
theorem witness_KilnCommands_20 : ∃ (s : State) (c : KilnCmd), (s.sound = true) ∧ (s.kiln.cmd = some c) ∧ (s.alive
  .kilnMain 0 = true) ∧ (s.kiln.alarm = .normal) ∧ (c.op = 6) :=
  ⟨{ (flds [] (runs [(.kilnMain, 0), (.ciphBlock, 0), (.ciphGlobal, 0)] onAll)) with kiln := { onAll.kiln with cmd := some ⟨0xe0001003, 1, 0, List.replicate 8 0, 255⟩, slots := [(3, ⟨some ⟨[1, 2, 3, 4, 5, 6, 7, 8, 9, 10, 11, 12, 13, 14, 15, 16], List.replicate 16 0⟩, none, none⟩)] } }, ⟨0xe0001003, 1, 0, List.replicate 8 0, 255⟩, by decide⟩

/-- The hypotheses of a clause are met. -/
theorem witness_KilnCommands_21 : ∃ (s : State) (c : KilnCmd), (s.sound = true) ∧ (s.kiln.cmd = some c) ∧ (s.alive
  .kilnMain 0 = true) ∧ (s.kiln.alarm = .normal) ∧ (c.op = 7) :=
  ⟨{ (flds [] (runs [(.kilnMain, 0), (.ciphBlock, 0), (.ciphGlobal, 0)] onAll)) with kiln := { onAll.kiln with cmd := some ⟨0xf0001003, 1, 0, List.replicate 8 0, 255⟩, slots := [(3, ⟨some ⟨[1, 2, 3, 4, 5, 6, 7, 8, 9, 10, 11, 12, 13, 14, 15, 16], List.replicate 16 0⟩, none, none⟩)] } }, ⟨0xf0001003, 1, 0, List.replicate 8 0, 255⟩, by decide⟩

/-- The hypotheses of a clause are met. -/
theorem witness_KilnCommands_22 : ∃ (s : State) (c : KilnCmd), (s.sound = true) ∧ (s.kiln.cmd = some c) ∧ (s.alive
  .kilnMain 0 = true) ∧ (s.kiln.alarm ≠ .normal) :=
  ⟨{ (flds [] (runs [(.kilnMain, 0), (.ciphBlock, 0), (.ciphGlobal, 0)] onAll)) with kiln := { onAll.kiln with cmd := some ⟨0xe0001003, 1, 0, List.replicate 8 0, 255⟩, alarm := .alarm } }, ⟨0xe0001003, 1, 0, List.replicate 8 0, 255⟩, by decide⟩

/-- The hypotheses of a clause are met. -/
theorem witness_KilnCommands_23 : ∃ (s : State) (i at_ : Nat), (s.sound = true) ∧ (s.alive .kilnMain 0 = true) ∧
  (s.kiln.alarm = .normal) ∧ (s.kiln.at_ = some (i, at_)) ∧ (at_ ≤ s.now) :=
  ⟨{ (flds [] (runs [(.kilnMain, 0), (.ciphBlock, 0), (.ciphGlobal, 0)] onAll)) with kiln := { onAll.kiln with at_ := some (3, 0), slots := [(3, ⟨none, some ⟨⟨[1, 2, 3, 4, 5, 6, 7, 8, 9, 10, 11, 12, 13, 14, 15, 16], List.replicate 16 0⟩, 0, 1⟩, none⟩)] } }, 3, 0, by decide⟩

/-- The hypotheses of a clause are met. -/
theorem witness_KilnCommands_24 : ∃ (s : State) (k : Nat) (w : Word), (s.sound = true) ∧ (k < 8) ∧ (s.run .kilnMain 0 =
  true) ∧ (s.unwatched (kmB + 0x060 + 4 * k)) :=
  ⟨{ (flds [] (runs [(.kilnMain, 0), (.ciphBlock, 0), (.ciphGlobal, 0)] onAll)) with kiln := { onAll.kiln with draws := 0 } }, 5, 77, by decide⟩

/-- The hypotheses of a clause are met. -/
theorem witness_KilnCommands_25 : ∃ (s : State), (s.sound = true) ∧ (s.kiln.cmd = none) :=
  ⟨{ (flds [(.kilnMain, 0, F.kilnMain_STAGE_STS_WORDS, 0xFF)] (runs [(.kilnMain, 0), (.ciphBlock, 0), (.ciphGlobal, 0)] onAll)) with kiln := { onAll.kiln with stage := [1, 2, 3, 4, 5, 6, 7, 8] } }, by decide⟩

/-- The hypotheses of a clause are met. -/
theorem witness_LifecycleAlarmRandom_1 : ∃ (s : State) (target : Nat), (s.sound = true) ∧ (s.alive .kilnId 0 = true) ∧
  (s.run .kilnMain 0 = true) ∧ (s.unwatched (kiB + 0x044)) ∧ (1 ≤ target) ∧ (target ≤ 4) ∧ (s.kiln.cmd = none) ∧
  (s.kiln.alarm = .normal) ∧ (s.kiln.advanced = false) ∧ ((target = s.lifecycle + 1 ∨ (s.lifecycle = 0 ∧ target = 2) ∨
  (s.lifecycle ≠ 4 ∧ target = 4))) ∧ (¬ (s.lifecycle = 2 ∧ target = 3)) :=
  ⟨{ (flds [(.kilnId, 0, F.kilnId_LC_STS_STATE, 0)] (runs [(.kilnMain, 0), (.ciphBlock, 0), (.ciphGlobal, 0)] onAll)) with kiln := { onAll.kiln with draws := 0 } }, 2, by decide⟩

/-- The hypotheses of a clause are met. -/
theorem witness_LifecycleAlarmRandom_2 : ∃ (s : State) (target : Nat), (s.sound = true) ∧ (s.alive .kilnId 0 = true) ∧
  (s.run .kilnMain 0 = true) ∧ (s.unwatched (kiB + 0x044)) ∧ (1 ≤ target) ∧ (target ≤ 4) ∧ (s.kiln.cmd = none) ∧
  (s.kiln.alarm = .normal) ∧ ((s.kiln.advanced = true ∨ ¬ (target = s.lifecycle + 1 ∨ (s.lifecycle = 0 ∧ target = 2) ∨
  (s.lifecycle ≠ 4 ∧ target = 4)))) :=
  ⟨{ (flds [(.kilnId, 0, F.kilnId_LC_STS_STATE, 0)] (runs [(.kilnMain, 0), (.ciphBlock, 0), (.ciphGlobal, 0)] onAll)) with kiln := { onAll.kiln with draws := 0 } }, 3, by decide⟩

/-- The hypotheses of a clause are met. -/
theorem witness_LifecycleAlarmRandom_3 : ∃ (s : State) (target : Nat), (s.sound = true) ∧ (s.alive .kilnId 0 = true) ∧
  (s.run .kilnMain 0 = true) ∧ (s.unwatched (kiB + 0x044)) ∧ (1 ≤ target) ∧ (target ≤ 4) ∧ (s.kiln.cmd = none) ∧
  (s.kiln.alarm = .normal) ∧ (s.kiln.advanced = false) ∧ (s.lifecycle = 2) ∧ (target = 3) :=
  ⟨{ (flds [(.kilnId, 0, F.kilnId_LC_STS_STATE, 2)] (runs [(.kilnMain, 0), (.ciphBlock, 0), (.ciphGlobal, 0)] onAll)) with kiln := { onAll.kiln with draws := 0 } }, 3, by decide⟩

/-- The hypotheses of a clause are met. -/
theorem witness_LifecycleAlarmRandom_4 : ∃ (s : State) (r : Bytes), (s.sound = true) ∧ (s.alive .kilnId 0 = true) ∧
  (s.idf F.kilnId_LC_STS_ID_RDY = 0) ∧ (s.kiln.alarm = .normal) ∧ (s.root = some r) ∧ (s.fab.seedWait = false) :=
  ⟨{ (flds [(.kilnId, 0, F.kilnId_LC_STS_STATE, 0)] (runs [(.kilnMain, 0), (.ciphBlock, 0), (.ciphGlobal, 0)] onAll)) with kiln := { onAll.kiln with draws := 0 } }, testRoot, by decide⟩

/-- The hypotheses of a clause are met. -/
theorem witness_LifecycleAlarmRandom_5 : ∃ (s : State), (s.sound = true) ∧ (s.rngRuns = true) ∧ (s.alive .kilnMain 0 =
  true) ∧ (s.kiln.sweep = none) :=
  ⟨{ (flds [(.kilnMain, 0, F.kilnMain_RNG_STS_RUN, 1)] (runs [(.kilnMain, 0), (.ciphBlock, 0), (.ciphGlobal, 0)] onAll)) with kiln := { onAll.kiln with draws := 0 } }, by decide⟩

/-- The hypotheses of a clause are met. -/
theorem witness_LifecycleAlarmRandom_6 : ∃ (s : State) (e : Nat), (s.sound = true) ∧ (s.rngRuns = true) ∧ (s.kiln.sweep =
  some e) ∧ (e + 1 < 1040) :=
  ⟨{ (flds [(.kilnMain, 0, F.kilnMain_RNG_STS_RUN, 1)] (runs [(.kilnMain, 0), (.ciphBlock, 0), (.ciphGlobal, 0)] onAll)) with kiln := { onAll.kiln with sweep := some 3, slots := [(3, ⟨some ⟨[1, 2, 3, 4, 5, 6, 7, 8, 9, 10, 11, 12, 13, 14, 15, 16], List.replicate 16 0⟩, none, none⟩)] } }, 3, by decide⟩

/-- The hypotheses of a clause are met. -/
theorem witness_LifecycleAlarmRandom_7 : ∃ (s : State) (e : Nat), (s.sound = true) ∧ (s.rngRuns = true) ∧ (s.kiln.sweep =
  some e) ∧ (1040 ≤ e + 1) :=
  ⟨{ (flds [(.kilnMain, 0, F.kilnMain_RNG_STS_RUN, 1)] (runs [(.kilnMain, 0), (.ciphBlock, 0), (.ciphGlobal, 0)] onAll)) with kiln := { onAll.kiln with sweep := some 1039 } }, 1039, by decide⟩

/-- The hypotheses of a clause are met. -/
theorem witness_LifecycleAlarmRandom_8 : ∃ (s : State), (s.sound = true) ∧ (s.rngRuns = true) ∧ ((s.grade.lockstep = true
  ∨ 2 ^ 20 ≤ s.kiln.draws)) :=
  ⟨{ (flds [(.kilnMain, 0, F.kilnMain_RNG_STS_RUN, 1)] (runs [(.kilnMain, 0), (.ciphBlock, 0), (.ciphGlobal, 0)] onAll)) with kiln := { onAll.kiln with draws := 2 ^ 20 } }, by decide⟩

/-- The hypotheses of a clause are met. -/
theorem witness_LifecycleAlarmRandom_9 : ∃ (s : State) (apt : Bool), (s.sound = true) ∧ (s.alive .kilnMain 0 = true) :=
  ⟨{ (flds [(.kilnMain, 0, F.kilnMain_RNG_STS_RUN, 1)] (runs [(.kilnMain, 0), (.ciphBlock, 0), (.ciphGlobal, 0)] onAll)) with kiln := { onAll.kiln with draws := 0 } }, true, by decide⟩

/-- The hypotheses of a clause are met. -/
theorem witness_LifecycleAlarmRandom_10 : ∃ (s : State), (s.sound = true) ∧ (s.alive .kilnMain 0 = true) ∧ (s.unwatched
  (kmB + 0x0B4)) ∧ (s.kiln.nonced = true) ∧ (s.fab.seedWait = false) :=
  ⟨{ (flds [(.kilnMain, 0, F.kilnMain_RNG_STS_FAIL, 1)] (runs [(.kilnMain, 0), (.ciphBlock, 0), (.ciphGlobal, 0)] onAll)) with kiln := { onAll.kiln with nonced := true } }, by decide⟩

/-- The hypotheses of a clause are met. -/
theorem witness_LifecycleAlarmRandom_11 : ∃ (s : State), (s.sound = true) ∧ (s.alive .kilnMain 0 = true) ∧ (s.unwatched
  (kmB + 0x0B4)) ∧ (s.kiln.nonced = false) ∧ (s.fab.seedWait = false) :=
  ⟨{ (flds [(.kilnMain, 0, F.kilnMain_RNG_STS_FAIL, 1)] (runs [(.kilnMain, 0), (.ciphBlock, 0), (.ciphGlobal, 0)] onAll)) with kiln := { onAll.kiln with nonced := false } }, by decide⟩

/-- The hypotheses of a clause are met. -/
theorem witness_LifecycleAlarmRandom_12 : ∃ (s : State), (s.sound = true) ∧ (s.alive .kilnMain 0 = true) ∧ (s.unwatched
  (kmB + 0x0B4)) ∧ (s.fab.seedWait = true) :=
  ⟨{ ({ (flds [(.kilnMain, 0, F.kilnMain_RNG_STS_FAIL, 1)] (runs [(.kilnMain, 0), (.ciphBlock, 0), (.ciphGlobal, 0)] onAll)) with kiln := { onAll.kiln with draws := 0 } }) with fab := { onAll.fab with seedWait := true } }, by decide⟩

/-- The hypotheses of a clause are met. -/
theorem witness_LifecycleAlarmRandom_13 : ∃ (s : State), (s.sound = true) ∧ (s.alive .kilnMain 0 = true) ∧ (s.rngRuns =
  true) ∧ (s.kiln.draws < 2 ^ 20) :=
  ⟨{ (flds [(.kilnMain, 0, F.kilnMain_RNG_STS_RUN, 1)] (runs [(.kilnMain, 0), (.ciphBlock, 0), (.ciphGlobal, 0)] onAll)) with kiln := { onAll.kiln with drbg := (List.replicate 32 7, List.replicate 16 9) } }, by decide⟩

/-- The hypotheses of a clause are met. -/
theorem witness_LifecycleAlarmRandom_14 : ∃ (s : State), (s.sound = true) ∧ (s.domOn 3 = true) ∧ (s.rngRuns = false) :=
  ⟨{ (flds [] (runs [(.kilnMain, 0), (.ciphBlock, 0), (.ciphGlobal, 0)] onAll)) with kiln := { onAll.kiln with draws := 0 } }, by decide⟩

/-- The hypotheses of a clause are met. -/
theorem witness_LifecycleAlarmRandom_15 : ∃ (s : State) (cause : Nat), (s.sound = true) ∧ (s.alive .kilnMain 0 = true) ∧
  (cause < 3) ∧ (s.kiln.alarm = .normal) ∧ ((∀ n ∈ List.range 16, s.secSending n = false)) :=
  ⟨{ (flds [] (runs [(.kilnMain, 0), (.ciphBlock, 0), (.ciphGlobal, 0)] onAll)) with kiln := { onAll.kiln with slots := [(3, ⟨some ⟨[1, 2, 3, 4, 5, 6, 7, 8, 9, 10, 11, 12, 13, 14, 15, 16], List.replicate 16 0⟩, none, none⟩)], cmd := some ⟨0, 0, 0, [], 0⟩ } }, 1, by decide⟩

/-- The hypotheses of a clause are met. -/
theorem witness_LifecycleAlarmRandom_16 : ∃ (s : State) (cause n : Nat), (s.sound = true) ∧ (s.alive .kilnMain 0 = true)
  ∧ (cause < 3) ∧ (s.kiln.alarm = .normal) ∧ (n < 16) ∧ (s.secSending n = true) :=
  ⟨{ { (flds [] (runs [(.kilnMain, 0), (.ciphBlock, 0), (.ciphGlobal, 0)] onAll)) with kiln := { onAll.kiln with draws := 0 } } with egress := [(0, { Egress.new with sending := some ⟨⟨⟨0, true, 0, 1, 2, 0, 0, 0, 0, 0, 0, false, 0, none, []⟩, List.replicate 64 0, 1, true, false⟩, ⟨false, none, []⟩, some ⟨[], [], [], none⟩, 5, 0⟩ })] }, 1, 0, by decide⟩

/-- The hypotheses of a clause are met. -/
theorem witness_LifecycleAlarmRandom_17 : ∃ (s : State) (cause : Nat), (s.sound = true) ∧ (s.alive .kilnMain 0 = true) ∧
  (cause < 3) ∧ ((s.kiln.alarm = .alarm ∨ s.kiln.alarm = .erasing)) :=
  ⟨{ (flds [] (runs [(.kilnMain, 0), (.ciphBlock, 0), (.ciphGlobal, 0)] onAll)) with kiln := { onAll.kiln with alarm := .alarm } }, 2, by decide⟩

/-- The hypotheses of a clause are met. -/
theorem witness_LifecycleAlarmRandom_18 : ∃ (s : State), (s.sound = true) ∧ (s.kiln.alarm = .erasing) :=
  ⟨{ (flds [] (runs [(.kilnMain, 0), (.ciphBlock, 0), (.ciphGlobal, 0)] onAll)) with kiln := { onAll.kiln with alarm := .erasing, stage := [1, 2, 3, 4, 5, 6, 7, 8] } }, by decide⟩

/-- The hypotheses of a clause are met. -/
theorem witness_LifecycleAlarmRandom_19 : ∃ (s : State) (w : Word), (s.sound = true) ∧ (s.alive .kilnMain 0 = true) ∧
  (s.unwatched (kmB + 0x0A8)) ∧ (w.getLsbD 0 = true) ∧ (s.kiln.alarm = .alarm) ∧ (bitOf (s.kf F.kilnMain_ALARM_STS_CAUSE)
  5 = false) :=
  ⟨{ (flds [(.kilnMain, 0, F.kilnMain_ALARM_STS_CAUSE, 2)] (runs [(.kilnMain, 0), (.ciphBlock, 0), (.ciphGlobal, 0)] onAll)) with kiln := { onAll.kiln with alarm := .alarm } }, 1, by decide⟩

/-- The hypotheses of a clause are met. -/
theorem witness_LifecycleAlarmRandom_20 : ∃ (s : State) (r : Bytes), (s.sound = true) ∧ (s.alive .kilnMain 0 = true) ∧
  (s.kiln.alarm = .restoring) ∧ (s.root = some r) :=
  ⟨{ (flds [(.kilnId, 0, F.kilnId_LC_STS_STATE, 0), (.kilnMain, 0, F.kilnMain_ALARM_STS_ALARM, 1)] (runs [(.kilnMain, 0), (.ciphBlock, 0), (.ciphGlobal, 0)] onAll)) with kiln := { onAll.kiln with alarm := .restoring } }, testRoot, by decide⟩

/-- The hypotheses of a clause are met. -/
theorem witness_LifecycleAlarmRandom_21 : ∃ (s : State) (unit port : Nat) (tx : Bool), (s.sound = true) ∧ (s.alive
  .ciphGlobal 0 = true) ∧ (unit = 4) ∧ (s.kiln.lastParity = none) :=
  ⟨{ (flds [] (runs [(.kilnMain, 0), (.ciphBlock, 0), (.ciphGlobal, 0)] onAll)) with kiln := { onAll.kiln with block := some ⟨0, 0, none⟩ } }, 4, 0, false, by decide⟩

/-- The hypotheses of a clause are met. -/
theorem witness_LifecycleAlarmRandom_22 : ∃ (s : State) (unit port c : Nat) (tx : Bool), (s.sound = true) ∧ (s.alive
  .kilnMain 0 = true) ∧ (s.alive .ciphGlobal 0 = true) ∧ (unit < 4) ∧ (s.grade.hasPipeline unit = true) ∧ (16 ≤ port) ∧
  (s.kiln.lastParity = some c) ∧ (s.cycles - c ≤ s.kf F.kilnMain_ALARM_CFG_PARITY_WIN_MS * 200000) ∧ (s.kiln.alarm =
  .normal) ∧ ((∀ n ∈ List.range 16, s.secSending n = false)) :=
  ⟨{ (flds [] (runs [(.kilnMain, 0), (.ciphBlock, 0), (.ciphGlobal, 0)] onAll)) with kiln := { onAll.kiln with lastParity := some 0 } }, 1, 16, 0, false, by decide⟩

/-- The hypotheses of a clause are met. -/
theorem witness_LifecycleAlarmRandom_23 : ∃ (s : State) (unit port : Nat) (x : Sending), (s.sound = true) ∧ (s.alive
  .ciphGlobal 0 = true) ∧ (unit < 4) ∧ (s.grade.hasPipeline unit = true) ∧ (port < 16) ∧ (s.pipelineOf port true = unit)
  ∧ ((s.eg port).sending = some x) ∧ (x.prot.isSome = true) :=
  ⟨{ { (flds [] (runs [(.kilnMain, 0), (.ciphBlock, 0), (.ciphGlobal, 0)] onAll)) with kiln := { onAll.kiln with draws := 0 } } with egress := [(0, { Egress.new with sending := some ⟨⟨⟨0, true, 0, 1, 2, 0, 0, 0, 0, 0, 0, false, 0, none, []⟩, List.replicate 64 0, 1, true, false⟩, ⟨false, none, []⟩, some ⟨[], [], [], none⟩, 5, 0⟩ })] }, 2, 0, ⟨⟨⟨0, true, 0, 1, 2, 0, 0, 0, 0, 0, 0, false, 0, none, []⟩, List.replicate 64 0, 1, true, false⟩, ⟨false, none, []⟩, some ⟨[], [], [], none⟩, 5, 0⟩, by decide⟩

/-- The hypotheses of a clause are met. -/
theorem witness_BlockUnit_1 : ∃ (s : State), (s.sound = true) ∧ (s.domOn 3 = true) ∧ (s.run .ciphBlock 0 = true) ∧
  (s.kiln.block = none) ∧ (s.unwatched (cbB + 0x040)) :=
  ⟨{ (flds [] (runs [(.kilnMain, 0), (.ciphBlock, 0), (.ciphGlobal, 0)] onAll)) with kiln := { onAll.kiln with slots := [(3, ⟨some ⟨[1, 2, 3, 4, 5, 6, 7, 8, 9, 10, 11, 12, 13, 14, 15, 16], List.replicate 16 0⟩, none, none⟩)] } }, by decide⟩

/-- The hypotheses of a clause are met. -/
theorem witness_BlockUnit_2 : ∃ (s : State) (i : Nat), (s.sound = true) ∧ (s.domOn 3 = true) ∧ (s.run .ciphBlock 0 =
  true) ∧ (s.kiln.block = none) ∧ (s.unwatched (cbB + 0x040)) ∧ (i < 1024) :=
  ⟨{ (flds [] (runs [(.kilnMain, 0), (.ciphBlock, 0), (.ciphGlobal, 0)] onAll)) with kiln := { onAll.kiln with slots := [(3, ⟨some ⟨[1, 2, 3, 4, 5, 6, 7, 8, 9, 10, 11, 12, 13, 14, 15, 16], List.replicate 16 0⟩, none, none⟩)] } }, 3, by decide⟩

/-- The hypotheses of a clause are met. -/
theorem witness_BlockUnit_3 : ∃ (s : State) (i : Nat), (s.sound = true) ∧ (s.domOn 3 = true) ∧ (s.run .ciphBlock 0 =
  true) ∧ (s.kiln.block = none) ∧ (s.unwatched (cbB + 0x040)) ∧ (i < 1024) :=
  ⟨{ (flds [] (runs [(.kilnMain, 0), (.ciphBlock, 0), (.ciphGlobal, 0)] onAll)) with kiln := { onAll.kiln with slots := [(3, ⟨some ⟨[1, 2, 3, 4, 5, 6, 7, 8, 9, 10, 11, 12, 13, 14, 15, 16], List.replicate 16 0⟩, none, none⟩)] } }, 3, by decide⟩

/-- The hypotheses of a clause are met. -/
theorem witness_BlockUnit_4 : ∃ (s : State) (i : Nat), (s.sound = true) ∧ (s.domOn 3 = true) ∧ (s.run .ciphBlock 0 =
  true) ∧ (s.kiln.block = none) ∧ (s.unwatched (cbB + 0x040)) ∧ (i < 1024) :=
  ⟨{ (flds [] (runs [(.kilnMain, 0), (.ciphBlock, 0), (.ciphGlobal, 0)] onAll)) with kiln := { onAll.kiln with slots := [(3, ⟨some ⟨[1, 2, 3, 4, 5, 6, 7, 8, 9, 10, 11, 12, 13, 14, 15, 16], List.replicate 16 0⟩, none, none⟩)] } }, 3, by decide⟩

/-- The hypotheses of a clause are met. -/
theorem witness_BlockUnit_5 : ∃ (s : State), (s.sound = true) ∧ (s.domOn 3 = true) ∧ (s.run .ciphBlock 0 = true) ∧
  (s.kiln.block = none) ∧ (s.unwatched (cbB + 0x040)) :=
  ⟨{ (flds [] (runs [(.kilnMain, 0), (.ciphBlock, 0), (.ciphGlobal, 0)] onAll)) with kiln := { onAll.kiln with slots := [(3, ⟨some ⟨[1, 2, 3, 4, 5, 6, 7, 8, 9, 10, 11, 12, 13, 14, 15, 16], List.replicate 16 0⟩, none, none⟩)] } }, by decide⟩

/-- The hypotheses of a clause are met. -/
theorem witness_BlockUnit_6 : ∃ (s : State) (i : Nat), (s.sound = true) ∧ (s.domOn 3 = true) ∧ (s.run .ciphBlock 0 =
  true) ∧ (s.kiln.block = none) ∧ (s.unwatched (cbB + 0x040)) ∧ (i < 1024) :=
  ⟨{ (flds [] (runs [(.kilnMain, 0), (.ciphBlock, 0), (.ciphGlobal, 0)] onAll)) with kiln := { onAll.kiln with slots := [(3, ⟨some ⟨[1, 2, 3, 4, 5, 6, 7, 8, 9, 10, 11, 12, 13, 14, 15, 16], List.replicate 16 0⟩, none, none⟩)] } }, 3, by decide⟩

/-- The hypotheses of a clause are met. -/
theorem witness_BlockUnit_7 : ∃ (s : State) (j : BlockJob), (s.sound = true) ∧ (s.alive .ciphGlobal 0 = true) ∧ (s.alive
  .ciphBlock 0 = true) ∧ (s.kiln.block = some j) ∧ (s.kiln.alarm = .normal) ∧ (bitsOf j.word 27 24 = 0) :=
  ⟨{ (flds [] (runs [(.kilnMain, 0), (.ciphBlock, 0), (.ciphGlobal, 0)] onAll)) with kiln := { onAll.kiln with block := some ⟨0x80000003, 3, none⟩ } }, ⟨0x80000003, 3, none⟩, by decide⟩

/-- The hypotheses of a clause are met. -/
theorem witness_BlockUnit_8 : ∃ (s : State) (j : BlockJob) (k : Bytes), (s.sound = true) ∧ (s.alive .ciphGlobal 0 = true)
  ∧ (s.alive .ciphBlock 0 = true) ∧ (s.kiln.block = some j) ∧ (s.kiln.alarm = .normal) ∧ (bitsOf j.word 27 24 = 1) ∧
  (j.keyFor 4 = some k) :=
  ⟨{ (flds [] (runs [(.kilnMain, 0), (.ciphBlock, 0), (.ciphGlobal, 0)] onAll)) with kiln := { onAll.kiln with block := some ⟨0x81000003, 3, some (0, 16, ⟨[1, 2, 3, 4, 5, 6, 7, 8, 9, 10, 11, 12, 13, 14, 15, 16], List.replicate 16 0⟩)⟩ } }, ⟨0x81000003, 3, some (0, 16, ⟨[1, 2, 3, 4, 5, 6, 7, 8, 9, 10, 11, 12, 13, 14, 15, 16], List.replicate 16 0⟩)⟩, [1, 2, 3, 4, 5, 6, 7, 8, 9, 10, 11, 12, 13, 14, 15, 16], by decide⟩

/-- The hypotheses of a clause are met. -/
theorem witness_BlockUnit_9 : ∃ (s : State) (j : BlockJob) (k : Bytes), (s.sound = true) ∧ (s.alive .ciphGlobal 0 = true)
  ∧ (s.alive .ciphBlock 0 = true) ∧ (s.kiln.block = some j) ∧ (s.kiln.alarm = .normal) ∧ (bitsOf j.word 27 24 = 2) ∧
  (j.keyFor 3 = some k) :=
  ⟨{ (flds [] (runs [(.kilnMain, 0), (.ciphBlock, 0), (.ciphGlobal, 0)] onAll)) with kiln := { onAll.kiln with block := some ⟨0x82000003, 3, some (0, 8, ⟨[1, 2, 3, 4, 5, 6, 7, 8, 9, 10, 11, 12, 13, 14, 15, 16], List.replicate 16 0⟩)⟩ } }, ⟨0x82000003, 3, some (0, 8, ⟨[1, 2, 3, 4, 5, 6, 7, 8, 9, 10, 11, 12, 13, 14, 15, 16], List.replicate 16 0⟩)⟩, [1, 2, 3, 4, 5, 6, 7, 8, 9, 10, 11, 12, 13, 14, 15, 16], by decide⟩

/-- The hypotheses of a clause are met. -/
theorem witness_BlockUnit_10 : ∃ (s : State) (j : BlockJob) (k : Bytes), (s.sound = true) ∧ (s.alive .ciphGlobal 0 =
  true) ∧ (s.alive .ciphBlock 0 = true) ∧ (s.kiln.block = some j) ∧ (s.kiln.alarm = .normal) ∧ (bitsOf j.word 27 24 = 3)
  ∧ (16 ≤ j.len) ∧ (j.keyFor 3 = some k) :=
  ⟨{ (flds [] (runs [(.kilnMain, 0), (.ciphBlock, 0), (.ciphGlobal, 0)] onAll)) with kiln := { onAll.kiln with block := some ⟨0x83000003, 20, some (0, 8, ⟨[1, 2, 3, 4, 5, 6, 7, 8, 9, 10, 11, 12, 13, 14, 15, 16], List.replicate 16 0⟩)⟩ } }, ⟨0x83000003, 20, some (0, 8, ⟨[1, 2, 3, 4, 5, 6, 7, 8, 9, 10, 11, 12, 13, 14, 15, 16], List.replicate 16 0⟩)⟩, [1, 2, 3, 4, 5, 6, 7, 8, 9, 10, 11, 12, 13, 14, 15, 16], by decide⟩

/-- The hypotheses of a clause are met. -/
theorem witness_BlockUnit_11 : ∃ (s : State) (j : BlockJob) (d : Masked), (s.sound = true) ∧ (s.alive .ciphGlobal 0 =
  true) ∧ (s.alive .ciphBlock 0 = true) ∧ (s.kiln.block = some j) ∧ (s.kiln.alarm = .normal) ∧ (bitsOf j.word 27 24 = 4)
  ∧ (j.len = 32) ∧ (s.rngRuns = true) ∧ (s.kiln.scalar = some d) :=
  ⟨{ (flds [(.kilnMain, 0, F.kilnMain_RNG_STS_RUN, 1)] (runs [(.kilnMain, 0), (.ciphBlock, 0), (.ciphGlobal, 0)] onAll)) with kiln := { onAll.kiln with block := some ⟨0x84000003, 32, none⟩, scalar := some ⟨[1, 2, 3, 4, 5, 6, 7, 8, 9, 10, 11, 12, 13, 14, 15, 16], List.replicate 16 0⟩ } }, ⟨0x84000003, 32, none⟩, ⟨[1, 2, 3, 4, 5, 6, 7, 8, 9, 10, 11, 12, 13, 14, 15, 16], List.replicate 16 0⟩, by decide⟩

/-- The hypotheses of a clause are met. -/
theorem witness_BlockUnit_12 : ∃ (s : State) (j : BlockJob) (k : Bytes), (s.sound = true) ∧ (s.alive .ciphGlobal 0 =
  true) ∧ (s.alive .ciphBlock 0 = true) ∧ (s.kiln.block = some j) ∧ (s.kiln.alarm = .normal) ∧ (bitsOf j.word 27 24 = 5)
  ∧ (j.len = 16) ∧ (j.keyFor 5 = some k) :=
  ⟨{ (flds [] (runs [(.kilnMain, 0), (.ciphBlock, 0), (.ciphGlobal, 0)] onAll)) with kiln := { onAll.kiln with block := some ⟨0x85000003, 16, some (0, 32, ⟨[1, 2, 3, 4, 5, 6, 7, 8, 9, 10, 11, 12, 13, 14, 15, 16], List.replicate 16 0⟩)⟩ } }, ⟨0x85000003, 16, some (0, 32, ⟨[1, 2, 3, 4, 5, 6, 7, 8, 9, 10, 11, 12, 13, 14, 15, 16], List.replicate 16 0⟩)⟩, [1, 2, 3, 4, 5, 6, 7, 8, 9, 10, 11, 12, 13, 14, 15, 16], by decide⟩

/-- The hypotheses of a clause are met. -/
theorem witness_BlockUnit_13 : ∃ (s : State) (j : BlockJob), (s.sound = true) ∧ (s.alive .ciphGlobal 0 = true) ∧ (s.alive
  .ciphBlock 0 = true) ∧ (s.kiln.block = some j) ∧ (s.kiln.alarm = .normal) ∧ (bitsOf j.word 27 24 = 5) ∧ (j.len ≠ 16) :=
  ⟨{ (flds [] (runs [(.kilnMain, 0), (.ciphBlock, 0), (.ciphGlobal, 0)] onAll)) with kiln := { onAll.kiln with block := some ⟨0x85000003, 15, some (0, 32, ⟨[1, 2, 3, 4, 5, 6, 7, 8, 9, 10, 11, 12, 13, 14, 15, 16], List.replicate 16 0⟩)⟩ } }, ⟨0x85000003, 15, some (0, 32, ⟨[1, 2, 3, 4, 5, 6, 7, 8, 9, 10, 11, 12, 13, 14, 15, 16], List.replicate 16 0⟩)⟩, by decide⟩

/-- The hypotheses of a clause are met. -/
theorem witness_BlockUnit_14 : ∃ (s : State) (j : BlockJob), (s.sound = true) ∧ (s.alive .ciphGlobal 0 = true) ∧ (s.alive
  .ciphBlock 0 = true) ∧ (s.kiln.block = some j) ∧ (s.kiln.alarm = .normal) ∧ (bitsOf j.word 27 24 = 1) ∧ (j.keyFor 4 =
  none) :=
  ⟨{ (flds [] (runs [(.kilnMain, 0), (.ciphBlock, 0), (.ciphGlobal, 0)] onAll)) with kiln := { onAll.kiln with block := some ⟨0x81000003, 3, some (0, 8, ⟨[1, 2, 3, 4, 5, 6, 7, 8, 9, 10, 11, 12, 13, 14, 15, 16], List.replicate 16 0⟩)⟩ } }, ⟨0x81000003, 3, some (0, 8, ⟨[1, 2, 3, 4, 5, 6, 7, 8, 9, 10, 11, 12, 13, 14, 15, 16], List.replicate 16 0⟩)⟩, by decide⟩

/-- The hypotheses of a clause are met. -/
theorem witness_SuppliesAndDomains_1 : ∃ (s : State) (r : Nat), (s.sound = true) ∧ (r < 10) ∧ (r ≠ 0) ∧ ((railBefore
  r).all (fun q => s.railGood q) = true) ∧ (s.power.release = false) :=
  ⟨{ (flds [(.pwrMain, 0, F.pwrMain_SUPPLY_STS_GOOD, 5)] (runs [] onAll)) with power := { State.reset.power with fails := 0 } }, 3, by decide⟩

/-- The hypotheses of a clause are met. -/
theorem witness_SuppliesAndDomains_2 : ∃ (s : State) (late high : Bool), (s.sound = true) ∧ (s.power.release = false) :=
  ⟨{ (flds [(.pwrMain, 0, F.pwrMain_SUPPLY_STS_GOOD, 5)] (runs [] onAll)) with power := { State.reset.power with fails := 0 } }, true, true, by decide⟩

/-- The hypotheses of a clause are met. -/
theorem witness_SuppliesAndDomains_3 : ∃ (s : State) (r : Nat), (s.sound = true) ∧ (r < 10) ∧ (r ≠ 0) ∧ ((railBefore
  r).all (fun q => s.railGood q) = true) ∧ (s.power.release = true) ∧ (s.power.hold = false) ∧ (s.domOn 3 = false) ∧
  ((List.range 10).all (fun q => q == r || q == 1 || s.railGood q) = true) ∧ (s.power.resetN = false) ∧ (s.jtag.test = 0)
  :=
  ⟨{ (flds [(.pwrMain, 0, F.pwrMain_SUPPLY_STS_GOOD, 0x1FF), (.pwrMain, 0, F.pwrMain_PSTATE_STATE, 0)] (runs [] { State.reset with regs := [(0x2004C, 0)] })) with power := { State.reset.power with release := true } }, 9, by decide⟩

/-- The hypotheses of a clause are met. -/
theorem witness_SuppliesAndDomains_4 : ∃ (s : State) (r : Nat) (late high : Bool), (s.sound = true) ∧ (s.domOn 3 = false)
  ∧ (r < 10) ∧ (r ≠ 1) ∧ (((railBefore r).any (fun q => !s.railGood q) = true ∨ late = true ∨ high = true)) :=
  ⟨{ (flds [(.pwrMain, 0, F.pwrMain_SUPPLY_STS_GOOD, 5)] (runs [] { State.reset with regs := [(0x2004C, 0)] })) with power := { State.reset.power with fails := 0 } }, 4, true, true, by decide⟩

/-- The hypotheses of a clause are met. -/
theorem witness_SuppliesAndDomains_5 : ∃ (s : State) (r : Nat) (late high : Bool), (s.sound = true) ∧ (s.domOn 3 = true)
  ∧ (r < 10) ∧ (r ≠ 1) ∧ (((railBefore r).any (fun q => !s.railGood q) = true ∨ late = true ∨ high = true)) :=
  ⟨{ (flds [(.pwrMain, 0, F.pwrMain_SUPPLY_STS_GOOD, 5)] (runs [] onAll)) with power := { State.reset.power with fails := 0 } }, 4, true, true, by decide⟩

/-- The hypotheses of a clause are met. -/
theorem witness_SuppliesAndDomains_6 : ∃ (s : State) (r : Nat), (s.sound = true) ∧ (s.domOn 3 = true) ∧ (r < 10) ∧ (r ≠
  1) ∧ (s.railGood r = true) :=
  ⟨{ (flds [] (runs [] onAll)) with power := { State.reset.power with fails := 0 } }, 7, by decide⟩

/-- The hypotheses of a clause are met. -/
theorem witness_SuppliesAndDomains_7 : ∃ (s : State) (r : Nat), (s.sound = true) ∧ (r < 10) ∧ ((r = 1 ∨ s.domOn 3 =
  false)) ∧ (s.railGood r = true) :=
  ⟨{ (flds [] (runs [] onAll)) with power := { State.reset.power with fails := 0 } }, 1, by decide⟩

/-- The hypotheses of a clause are met. -/
theorem witness_SuppliesAndDomains_8 : ∃ (s : State), (s.sound = true) ∧ (s.power.hold = true) ∧ (s.railsGood = true) ∧
  (s.pstate ≠ 0) ∧ (s.power.resetN = false) ∧ (s.jtag.test = 0) :=
  ⟨{ (flds [(.pwrMain, 0, F.pwrMain_SUPPLY_STS_SEQ_ERR, 8)] (runs [] { State.reset with regs := [(0x2004C, 0)] })) with power := { State.reset.power with hold := true } }, by decide⟩

/-- The hypotheses of a clause are met. -/
theorem witness_SuppliesAndDomains_9 : ∃ (s : State), (s.sound = true) ∧ (s.pstate = 0) ∧ (s.railsGood = true) ∧
  (s.power.hold = false) ∧ (s.power.resetN = false) ∧ (s.jtag.test = 0) :=
  ⟨{ (flds [(.pwrMain, 0, F.pwrMain_PSTATE_STATE, 0)] (runs [] { State.reset with regs := [(0x2004C, 0)] })) with power := { State.reset.power with fails := 0 } }, by decide⟩

/-- The hypotheses of a clause are met. -/
theorem witness_SuppliesAndDomains_10 : ∃ (s : State) (mv : Nat), (s.sound = true) :=
  ⟨onAll, 4100, by decide⟩

/-- The hypotheses of a clause are met. -/
theorem witness_SuppliesAndDomains_11 : ∃ (s : State), (s.sound = true) :=
  ⟨onAll, by decide⟩

/-- The hypotheses of a clause are met. -/
theorem witness_SuppliesAndDomains_12 : ∃ (s : State), (s.sound = true) :=
  ⟨flds [(.pwrMain, 0, F.pwrMain_SUPPLY_STS_VSUP_OV, 1)] onAll, by decide⟩

/-- The hypotheses of a clause are met. -/
theorem witness_SuppliesAndDomains_13 : ∃ (s : State), (s.sound = true) :=
  ⟨onAll, by decide⟩

/-- The hypotheses of a clause are met. -/
theorem witness_SuppliesAndDomains_14 : ∃ (s : State) (tj : Nat), (s.sound = true) :=
  ⟨onAll, 0xB8, by decide⟩

/-- The hypotheses of a clause are met. -/
theorem witness_SuppliesAndDomains_15 : ∃ (s : State) (tj : Nat), (s.sound = true) ∧ (214 ≤ tj) ∧ (s.awake = true) ∧
  ((s.power.entry = none ∨ s.gf pwB F.pwrMain_PSTATE_ENTRY = 1)) :=
  ⟨onAll, 214, by decide⟩

/-- The hypotheses of a clause are met. -/
theorem witness_SuppliesAndDomains_16 : ∃ (s : State) (tj : Nat), (s.sound = true) ∧ (s.power.hot = true) ∧ (tj < 194) ∧
  ((s.pstate = 1 ∨ s.pstate = 2)) ∧ (s.power.entry = none) ∧ (s.power.woken = true) :=
  ⟨{ (flds [(.pwrMain, 0, F.pwrMain_PSTATE_STATE, 1)] (runs [] { State.reset with regs := [(0x2004C, 0)] })) with power := { State.reset.power with hot := true, woken := true } }, 100, by decide⟩

/-- The hypotheses of a clause are met. -/
theorem witness_SuppliesAndDomains_17 : ∃ (s : State) (w : Word), (s.sound = true) ∧ (s.domOn 3 = true) ∧ (s.dieLost =
  false) ∧ (s.unwatched (pwB + 0x048)) ∧ (s.power.entry = none) :=
  ⟨onAll, 0x7FFE, by decide⟩

/-- The hypotheses of a clause are met. -/
theorem witness_SuppliesAndDomains_18 : ∃ (s : State) (n : Nat), (s.sound = true) ∧ (s.domBusy = some n) ∧ (s.power.entry
  = none) ∧ (1 ≤ n) ∧ (n ≤ 14) ∧ (n ≠ 3) ∧ ((List.range 15).all (fun m => m == n || m == 3 || bitOf s.domReq m == bitOf
  s.domSts m) = true) ∧ (bitOf s.domReq n = true) ∧ (bitOf s.domSts n = false) ∧ (n ≠ 2) ∧ (n ≠ 6) ∧ (n ≠ 7) :=
  ⟨flds [(.pwrMain, 0, F.pwrMain_DOM_STS_ON, 0x1FFF), (.pwrMain, 0, F.pwrMain_DOM_REQ_ON, 0x3FFF), (.pwrMain, 0, F.pwrMain_DOM_BUSY_BUSY, 0x2000)] onAll, 14, by decide⟩

/-- The hypotheses of a clause are met. -/
theorem witness_SuppliesAndDomains_19 : ∃ (s : State) (n : Nat), (s.sound = true) ∧ (s.domBusy = some n) ∧ (s.power.entry
  = none) ∧ (1 ≤ n) ∧ (n ≤ 14) ∧ (n ≠ 3) ∧ ((List.range 15).all (fun m => m == n || m == 3 || bitOf s.domReq m == bitOf
  s.domSts m) = true) ∧ (bitOf s.domReq n = false) ∧ (bitOf s.domSts n = true) ∧ (s.domWaits n = false) ∧ ((s.domSlices
  n).all (fun i => s.sliceState i == 2) = true) :=
  ⟨flds [(.pwrMain, 0, F.pwrMain_DOM_REQ_ON, 0x1FFF), (.pwrMain, 0, F.pwrMain_DOM_BUSY_BUSY, 0x2000)] onAll, 14, by decide⟩

/-- The hypotheses of a clause are met. -/
theorem witness_SuppliesAndDomains_20 : ∃ (s : State) (n : Nat), (s.sound = true) ∧ (s.domBusy = some n) ∧ (s.power.entry
  = none) ∧ (1 ≤ n) ∧ (n ≤ 14) ∧ (n ≠ 3) ∧ ((List.range 15).all (fun m => m == n || m == 3 || bitOf s.domReq m == bitOf
  s.domSts m) = true) ∧ (bitOf s.domReq n = false) ∧ (bitOf s.domSts n = true) ∧ (s.domWaits n = true) :=
  ⟨(flds [(.pwrMain, 0, F.pwrMain_DOM_REQ_ON, 0x3F7F), (.pwrMain, 0, F.pwrMain_DOM_BUSY_BUSY, 0x80)] onAll).setPst .ciphBlock 0 .quiescing, 8, by decide⟩

/-- The hypotheses of a clause are met. -/
theorem witness_EntryAndWake_1 : ∃ (s : State) (w : Word), (s.sound = true) ∧ (s.dieLost = false) ∧ (s.unwatched (pwB +
  0x044)) ∧ (s.domOn 3 = true) ∧ (3 ≤ s.pstate) ∧ (s.power.entry = none) ∧ (s.gf wkB F.pwrWake_WAKE_SRC_SRC = 0) :=
  ⟨runs [(.can, 0), (.lin, 0)] onAll, 0, by decide⟩

/-- The hypotheses of a clause are met. -/
theorem witness_EntryAndWake_2 : ∃ (s : State) (w : Word), (s.sound = true) ∧ (s.domOn 3 = true) ∧ (s.dieLost = false) ∧
  (s.unwatched (pwB + 0x044)) ∧ (s.gf wkB F.pwrWake_WAKE_SRC_SRC ≠ 0) :=
  ⟨flds [(.pwrWake, 0, F.pwrWake_WAKE_SRC_SRC, 8)] onAll, 1, by decide⟩

/-- The hypotheses of a clause are met. -/
theorem witness_EntryAndWake_3 : ∃ (s : State), (s.sound = true) ∧ (s.domOn 3 = true) ∧ (3 ≤ s.pstate) ∧ (s.power.entry =
  none) ∧ (s.gf wkB F.pwrWake_WAKE_SRC_SRC = 0) ∧ (s.gf pwB F.pwrMain_LP_CTL_AUTO = 1) ∧ (s.run .pwrRing 0 = true) ∧
  ((List.range 8).any (fun k => s.nf k F.pwrRing_NM_CTL_EN == 1) = true) ∧ ((List.range 8).all (fun k => s.nf k
  F.pwrRing_NM_CTL_EN == 0 || s.nmState k == 5) = true) :=
  ⟨flds [(.pwrMain, 0, F.pwrMain_LP_CTL_AUTO, 1), (.pwrRing, 0, F.pwrRing_NM_CTL_EN, 1), (.pwrRing, 0, F.pwrRing_NM_STS_STATE, 5)] (runs [(.pwrRing, 0)] onAll), by decide⟩

/-- The hypotheses of a clause are met. -/
theorem witness_EntryAndWake_4 : ∃ (s : State) (c : Nat), (s.sound = true) ∧ (s.power.entry = some c) ∧ (3 ≤ s.pstate) ∧
  (s.domBusy = none) ∧ (s.nextSwitch = none) ∧ (s.entryStopped = false) :=
  ⟨{ (flds [(.pwrMain, 0, F.pwrMain_PSTATE_ENTRY, 1)] (runs [] { State.reset with regs := [(0x2004C, 0)] })) with power := { State.reset.power with entry := some 0 } }, 0, by decide⟩

/-- The hypotheses of a clause are met. -/
theorem witness_EntryAndWake_5 : ∃ (s : State) (c : Nat), (s.sound = true) ∧ (s.power.entry = some c) ∧ (s.domBusy =
  none) ∧ (s.nextSwitch = none) ∧ (s.power.woken = true) ∧ (s.power.hot = false) ∧ (s.domOn 3 = false) :=
  ⟨{ (flds [] (runs [] { State.reset with regs := [(0x2004C, 0)] })) with power := { State.reset.power with entry := some 0, woken := true } }, 0, by decide⟩

/-- The hypotheses of a clause are met. -/
theorem witness_EntryAndWake_6 : ∃ (s : State) (i held : Nat) (falling : Bool), (s.sound = true) ∧ (i < 8) ∧ (s.pstate ≠
  0) ∧ (s.gf wkB (F.pwrWake_WAKE_CFG_EN.at (4 * i)) = 1) ∧ ((s.gf wkB (F.pwrWake_WAKE_CFG_EDGE.at (4 * i)) = 2 ∨ s.gf wkB
  (F.pwrWake_WAKE_CFG_EDGE.at (4 * i)) = b2n falling)) ∧ (s.gf wkB (F.pwrWake_WAKE_CFG_FILT.at (4 * i)) ≤ held) :=
  ⟨{ (flds [(.pwrMain, 0, F.pwrMain_PSTATE_STATE, 1), (.pwrWake, 0, F.pwrWake_WAKE_CFG_EN, 1)] (runs [] { State.reset with regs := [(0x2004C, 0)] })) with power := { State.reset.power with fails := 0 } }, 0, 20, false, by decide⟩

/-- The hypotheses of a clause are met. -/
theorem witness_EntryAndWake_7 : ∃ (s : State) (i held : Nat) (falling : Bool), (s.sound = true) ∧ (i < 8) ∧ (s.gf wkB
  (F.pwrWake_WAKE_CFG_EN.at (4 * i)) = 1) ∧ (held < s.gf wkB (F.pwrWake_WAKE_CFG_FILT.at (4 * i))) :=
  ⟨{ (flds [(.pwrWake, 0, F.pwrWake_WAKE_CFG_EN, 1)] (runs [] onAll)) with power := { State.reset.power with fails := 0 } }, 0, 15, false, by decide⟩

/-- The hypotheses of a clause are met. -/
theorem witness_EntryAndWake_8 : ∃ (s : State) (n : Nat) (f : CanFrame), (s.sound = true) ∧ (s.canStandby n = true) ∧
  ((s.gf wkB (F.pwrWake_CANW_CTL_MODE.at (32 * n)) = 1 ∨ s.gf wkB (F.pwrWake_CANW_CTL_MODE.at (32 * n)) = 3)) :=
  ⟨{ (flds [(.pwrWake, 0, F.pwrWake_CANW_CTL_MODE, 1), (.can, 0, F.can_TRCV_STS_STATE, 2)] (runs [(.can, 0)] onAll)) with power := { State.reset.power with fails := 0 } }, 0, ⟨false, 5, 0, 0, false, []⟩, by decide⟩

/-- The hypotheses of a clause are met. -/
theorem witness_EntryAndWake_9 : ∃ (s : State) (n : Nat) (f : CanFrame), (s.sound = true) ∧ (s.canStandby n = true) ∧ (2
  ≤ s.gf wkB (F.pwrWake_CANW_CTL_MODE.at (32 * n))) ∧ (w4Format (canNorm f).w4 = 0) ∧ (s.wakeFrame n (canNorm f) = true)
  :=
  ⟨{ (flds [(.pwrWake, 0, F.pwrWake_CANW_CTL_MODE, 2), (.pwrWake, 0, F.pwrWake_CANW_ID_ID, 5), (.pwrWake, 0, F.pwrWake_CANW_MASK_MASK, 0x7FF), (.pwrWake, 0, F.pwrWake_CANW_CTL_DATA_EN, 0), (.can, 0, F.can_TRCV_STS_STATE, 2)] (runs [(.can, 0)] onAll)) with power := { State.reset.power with fails := 0 } }, 0, ⟨false, 5, 0, 0, false, []⟩, by decide⟩

/-- The hypotheses of a clause are met. -/
theorem witness_EntryAndWake_10 : ∃ (s : State) (n : Nat) (f : CanFrame), (s.sound = true) ∧ (s.canStandby n = true) ∧ (2
  ≤ s.gf wkB (F.pwrWake_CANW_CTL_MODE.at (32 * n))) ∧ (w4Format (canNorm f).w4 = 0) ∧ (s.wakeFrame n (canNorm f) = false)
  :=
  ⟨{ (flds [(.pwrWake, 0, F.pwrWake_CANW_CTL_MODE, 2), (.pwrWake, 0, F.pwrWake_CANW_ID_ID, 7), (.pwrWake, 0, F.pwrWake_CANW_STS_FEC, 3), (.can, 0, F.can_TRCV_STS_STATE, 2)] (runs [] onAll)) with power := { State.reset.power with fails := 0 } }, 0, ⟨false, 5, 0, 0, false, []⟩, by decide⟩

/-- The hypotheses of a clause are met. -/
theorem witness_EntryAndWake_11 : ∃ (s : State) (n : Nat) (f : CanFrame), (s.sound = true) ∧ (s.canStandby n = true) ∧ (2
  ≤ s.gf wkB (F.pwrWake_CANW_CTL_MODE.at (32 * n))) ∧ (w4Format (canNorm f).w4 = 0) ∧ (s.gf wkB
  (F.pwrWake_CANW_STS_FEC.at (32 * n)) ≠ 31) :=
  ⟨{ (flds [(.pwrWake, 0, F.pwrWake_CANW_CTL_MODE, 2), (.can, 0, F.can_TRCV_STS_STATE, 2)] (runs [] onAll)) with power := { State.reset.power with fails := 0 } }, 0, ⟨false, 5, 0, 0, false, []⟩, by decide⟩

/-- The hypotheses of a clause are met. -/
theorem witness_EntryAndWake_12 : ∃ (s : State) (n : Nat) (f : CanFrame), (s.sound = true) ∧ (s.canStandby n = true) ∧ (2
  ≤ s.gf wkB (F.pwrWake_CANW_CTL_MODE.at (32 * n))) ∧ (w4Format (canNorm f).w4 = 0) ∧ (s.gf wkB
  (F.pwrWake_CANW_STS_FEC.at (32 * n)) = 31) :=
  ⟨{ (flds [(.pwrWake, 0, F.pwrWake_CANW_CTL_MODE, 2), (.pwrWake, 0, F.pwrWake_CANW_STS_FEC, 31), (.can, 0, F.can_TRCV_STS_STATE, 2)] (runs [] onAll)) with power := { State.reset.power with fails := 0 } }, 0, ⟨false, 5, 0, 0, false, []⟩, by decide⟩

/-- The hypotheses of a clause are met. -/
theorem witness_EntryAndWake_13 : ∃ (s : State) (n : Nat), (s.sound = true) ∧ (n < 8) ∧ (s.linArmed n = true) ∧ (s.domOn
  3 = true) ∧ (s.dieLost = false) ∧ (s.pstate ≠ 0) ∧ (s.on (liB n) F.lin_LIN_TRCV_STATE = true) :=
  ⟨{ (flds [(.pwrWake, 0, F.pwrWake_LINW_CTL_EN, 1), (.lin, 0, F.lin_LIN_TRCV_STATE, 1)] (runs [(.lin, 0)] onAll)) with power := { State.reset.power with fails := 0 } }, 0, by decide⟩

/-- The hypotheses of a clause are met. -/
theorem witness_EntryAndWake_14 : ∃ (s : State) (n : Nat), (s.sound = true) ∧ (s.linRuns n = true) ∧ (s.on (liB n)
  F.lin_LIN_CFG_ROLE = true) ∧ (s.gf wkB (F.pwrWake_LINW_CTL_IDLE_EN.at (4 * n)) = 1) :=
  ⟨{ (flds [(.lin, 0, F.lin_LIN_CFG_ROLE, 1), (.lin, 0, F.lin_LIN_STS_STATE, 1)] (runs [(.lin, 0)] onAll)) with power := { State.reset.power with fails := 0 } }, 0, by decide⟩

/-- The hypotheses of a clause are met. -/
theorem witness_EntryAndWake_15 : ∃ (s : State), (s.sound = true) ∧ (s.power.waking = 1) ∧ (s.railsGood = true) ∧
  (s.power.hold = false) ∧ (s.power.resetN = false) ∧ (s.jtag.test = 0) :=
  ⟨{ (flds [(.pwrMain, 0, F.pwrMain_PSTATE_STATE, 1)] (runs [] { State.reset with regs := [(0x2004C, 0)] })) with power := { State.reset.power with waking := 1, events := [(272, 3)] } }, by decide⟩

/-- The hypotheses of a clause are met. -/
theorem witness_EntryAndWake_16 : ∃ (s : State), (s.sound = true) ∧ (s.power.waking = 1) ∧ (s.railsGood = false) ∧
  (s.pstate < 3) :=
  ⟨{ (flds [(.pwrMain, 0, F.pwrMain_PSTATE_STATE, 1), (.pwrMain, 0, F.pwrMain_SUPPLY_STS_GOOD, 0x1FF)] (runs [] { State.reset with regs := [(0x2004C, 0)] })) with power := { State.reset.power with waking := 1, fails := 1 } }, by decide⟩

/-- The hypotheses of a clause are met. -/
theorem witness_EntryAndWake_17 : ∃ (s : State), (s.sound = true) ∧ (s.power.waking = 2) :=
  ⟨{ (flds [(.pwrMain, 0, F.pwrMain_PSTATE_STATE, 1)] (runs [] { State.reset with regs := [(0x2004C, 0)] })) with power := { State.reset.power with waking := 2, fails := 1 } }, by decide⟩

/-- The hypotheses of a clause are met. -/
theorem witness_EntryAndWake_18 : ∃ (s : State) (w : Word), (s.sound = true) ∧ (s.domOn 3 = true) ∧ (s.dieLost = false) ∧
  (s.unwatched (wkB + 0x044)) ∧ (w.getLsbD 31 = true) :=
  ⟨flds [(.pwrWake, 0, F.pwrWake_WAKE_FIRST_VALID, 1)] onAll, 0x80000000, by decide⟩

/-- The hypotheses of a clause are met. -/
theorem witness_EntryAndWake_19 : ∃ (s : State) (n : Nat) (w : Word), (s.sound = true) ∧ (s.domOn 3 = true) ∧ (s.dieLost
  = false) ∧ (s.unwatched (wkB + 0x118 + 32 * n)) ∧ (n < 16) ∧ (w.getLsbD 0 = true) ∧ ((s.canCh n).susp = false) ∧ (¬ n ∈
  s.power.suspend) :=
  ⟨flds [(.pwrWake, 0, F.pwrWake_CANW_CTL_MODE.at 32, 1)] onAll, 1, 1, by decide⟩

/-- The hypotheses of a clause are met. -/
theorem witness_EntryAndWake_20 : ∃ (s : State) (n : Nat), (s.sound = true) ∧ (n ∈ s.power.suspend) ∧ (n < 16) ∧ (s.alive
  .can n = true) ∧ (s.canOnWire n = none) ∧ (s.canState n ≠ 4) ∧ (s.canState n ≠ 5) :=
  ⟨{ (flds [(.can, 1, F.can_STS_STATE, 2)] (runs [(.can, 1)] onAll)) with power := { State.reset.power with suspend := [1] } }, 1, by decide⟩

/-- The hypotheses of a clause are met. -/
theorem witness_SleepRing_1 : ∃ (s : State) (k : Nat) (w : Word), (s.sound = true) ∧ (k < 8) ∧ (s.run .pwrRing 0 = true)
  ∧ (s.unwatched (rgB + 0x100 + 64 * k)) ∧ (s.nmState k = 0) ∧ (w.getLsbD 31 = true) ∧ (bitsOf w.toNat 28 24 <
  s.grade.canChannels) ∧ (s.canState (bitsOf w.toNat 28 24) ≠ 2) ∧ (s.canState (bitsOf w.toNat 28 24) ≠ 3) :=
  ⟨runs [(.pwrRing, 0)] onAll, 1, 0xC0200000, by decide⟩

/-- The hypotheses of a clause are met. -/
theorem witness_SleepRing_2 : ∃ (s : State) (k : Nat) (w : Word), (s.sound = true) ∧ (k < 8) ∧ (s.run .pwrRing 0 = true)
  ∧ (s.unwatched (rgB + 0x100 + 64 * k)) ∧ (w.getLsbD 31 = false) :=
  ⟨{ (flds [(.pwrRing, 0, F.pwrRing_NM_CTL_EN, 1), (.pwrRing, 0, F.pwrRing_NM_CTL_ADDR, 0x10), (.pwrRing, 0, F.pwrRing_NM_STS_STATE, 2)] (runs [(.pwrRing, 0), (.can, 0)] onAll)) with nm := [] }, 0, 0, by decide⟩

/-- The hypotheses of a clause are met. -/
theorem witness_SleepRing_3 : ∃ (s : State) (k kind i : Nat), (s.sound = true) ∧ (k < 8) ∧ (s.run .pwrRing 0 = true) ∧ (1
  ≤ kind) ∧ (kind ≤ 5) ∧ (s.nmState k = 2) ∧ (s.nmFree k) :=
  ⟨{ (flds [(.pwrRing, 0, F.pwrRing_NM_CTL_EN, 1), (.pwrRing, 0, F.pwrRing_NM_CTL_ADDR, 0x10), (.pwrRing, 0, F.pwrRing_NM_STS_STATE, 2), (.pwrRing, 0, F.pwrRing_NM_CTL_SLEEP_OK, 1)] (runs [(.pwrRing, 0), (.can, 0)] onAll)) with nm := [] }, 0, 1, 3, by decide⟩

/-- The hypotheses of a clause are met. -/
theorem witness_SleepRing_4 : ∃ (s : State) (k kind i : Nat), (s.sound = true) ∧ (k < 8) ∧ (s.run .pwrRing 0 = true) ∧ (1
  ≤ kind) ∧ (kind ≤ 5) ∧ (s.nmState k = 4) ∧ (s.nmFree k) :=
  ⟨{ (flds [(.pwrRing, 0, F.pwrRing_NM_CTL_EN, 1), (.pwrRing, 0, F.pwrRing_NM_CTL_ADDR, 0x10), (.pwrRing, 0, F.pwrRing_NM_STS_STATE, 4), (.pwrRing, 0, F.pwrRing_NM_CTL_SLEEP_OK, 1), (.pwrRing, 0, F.pwrRing_NM_CTL_EN.at 64, 1), (.pwrRing, 0, F.pwrRing_NM_CTL_SLEEP_OK.at 64, 1), (.pwrRing, 0, F.pwrRing_NM_STS_STATE.at 64, 2)] (runs [(.pwrRing, 0), (.can, 0)] onAll)) with nm := [] }, 0, 1, 3, by decide⟩

/-- The hypotheses of a clause are met. -/
theorem witness_SleepRing_5 : ∃ (s : State) (k kind i : Nat), (s.sound = true) ∧ (k < 8) ∧ (s.run .pwrRing 0 = true) ∧ (1
  ≤ kind) ∧ (kind ≤ 5) ∧ (s.nmState k = 4) ∧ (s.nmFree k) ∧ ((List.range 8).all (fun i => i == k || !bitOf (s.nf i
  F.pwrRing_NM_LINK_LINK) k || s.nmState i == 0) = true) :=
  ⟨{ (flds [(.pwrRing, 0, F.pwrRing_NM_CTL_EN, 1), (.pwrRing, 0, F.pwrRing_NM_CTL_ADDR, 0x10), (.pwrRing, 0, F.pwrRing_NM_STS_STATE, 4), (.pwrRing, 0, F.pwrRing_NM_CTL_SLEEP_OK, 1)] (runs [(.pwrRing, 0), (.can, 0)] onAll)) with nm := [] }, 0, 1, 3, by decide⟩

/-- The hypotheses of a clause are met. -/
theorem witness_SleepRing_6 : ∃ (s : State) (k kind i : Nat), (s.sound = true) ∧ (k < 8) ∧ (s.run .pwrRing 0 = true) ∧ (1
  ≤ kind) ∧ (kind ≤ 5) ∧ (s.nmState k = 5) ∧ ((s.canState (s.nf k F.pwrRing_NM_CTL_CHAN) ≠ 2 ∧ s.canState (s.nf k
  F.pwrRing_NM_CTL_CHAN) ≠ 3)) :=
  ⟨{ (flds [(.pwrRing, 0, F.pwrRing_NM_CTL_EN, 1), (.pwrRing, 0, F.pwrRing_NM_CTL_ADDR, 0x10), (.pwrRing, 0, F.pwrRing_NM_STS_STATE, 5), (.pwrRing, 0, F.pwrRing_NM_CTL_SLEEP_OK, 1)] (runs [(.pwrRing, 0), (.can, 0)] onAll)) with nm := [] }, 0, 1, 3, by decide⟩

/-- The hypotheses of a clause are met. -/
theorem witness_SleepRing_7 : ∃ (s : State) (k a : Nat) (d : Bytes), (s.sound = true) ∧ (k < 8) ∧ (s.alive .pwrRing 0 =
  true) ∧ (s.canReceives (s.nf k F.pwrRing_NM_CTL_CHAN) = true) ∧ (d.length = 8) ∧ (a < 256) ∧ (s.nmState k = 2) ∧ (bitOf
  (byteAt d 1) 5 = false) ∧ ((bitOf (byteAt d 1) 0 = true ∨ bitOf (byteAt d 1) 1 = true)) ∧ (byteAt d 0 = s.nf k
  F.pwrRing_NM_CTL_ADDR) :=
  ⟨{ (flds [(.pwrRing, 0, F.pwrRing_NM_CTL_EN, 1), (.pwrRing, 0, F.pwrRing_NM_CTL_ADDR, 0x10), (.pwrRing, 0, F.pwrRing_NM_STS_STATE, 2), (.can, 0, F.can_STS_STATE, 2)] (runs [(.pwrRing, 0), (.can, 0)] onAll)) with nm := [] }, 0, 0x20, [0x10, 1, 2, 0, 0, 0, 0, 0], by decide⟩

/-- The hypotheses of a clause are met. -/
theorem witness_SleepRing_8 : ∃ (s : State) (k a : Nat) (d : Bytes), (s.sound = true) ∧ (k < 8) ∧ (s.alive .pwrRing 0 =
  true) ∧ (s.canReceives (s.nf k F.pwrRing_NM_CTL_CHAN) = true) ∧ (d.length = 8) ∧ (a < 256) ∧ (s.nmState k = 2) ∧ (bitOf
  (byteAt d 1) 5 = true) ∧ (s.nf k F.pwrRing_NM_CTL_SLEEP_OK = 1) :=
  ⟨{ (flds [(.pwrRing, 0, F.pwrRing_NM_CTL_EN, 1), (.pwrRing, 0, F.pwrRing_NM_CTL_ADDR, 0x10), (.pwrRing, 0, F.pwrRing_NM_STS_STATE, 2), (.can, 0, F.can_STS_STATE, 2), (.pwrRing, 0, F.pwrRing_NM_CTL_SLEEP_OK, 1)] (runs [(.pwrRing, 0), (.can, 0)] onAll)) with nm := [] }, 0, 0x20, [0x10, 0x31, 2, 0, 0, 0, 0, 0], by decide⟩

/-- The hypotheses of a clause are met. -/
theorem witness_SleepRing_9 : ∃ (s : State) (k a : Nat) (d : Bytes), (s.sound = true) ∧ (k < 8) ∧ (s.alive .pwrRing 0 =
  true) ∧ (s.canReceives (s.nf k F.pwrRing_NM_CTL_CHAN) = true) ∧ (d.length = 8) ∧ (a < 256) ∧ (s.nmState k = 2) ∧ (bitOf
  (byteAt d 1) 5 = true) ∧ (s.nf k F.pwrRing_NM_CTL_SLEEP_OK = 0) ∧ (s.nmFree k) :=
  ⟨{ (flds [(.pwrRing, 0, F.pwrRing_NM_CTL_EN, 1), (.pwrRing, 0, F.pwrRing_NM_CTL_ADDR, 0x10), (.pwrRing, 0, F.pwrRing_NM_STS_STATE, 2), (.can, 0, F.can_STS_STATE, 2)] (runs [(.pwrRing, 0), (.can, 0)] onAll)) with nm := [] }, 0, 0x20, [0x10, 0x31, 2, 0, 0, 0, 0, 0], by decide⟩

/-- The hypotheses of a clause are met. -/
theorem witness_SleepRing_10 : ∃ (s : State) (k a : Nat) (d : Bytes), (s.sound = true) ∧ (k < 8) ∧ (s.alive .pwrRing 0 =
  true) ∧ (s.canReceives (s.nf k F.pwrRing_NM_CTL_CHAN) = true) ∧ (d.length = 8) ∧ (a < 256) ∧ (s.nmState k = 3) ∧
  ((bitOf (byteAt d 1) 0 = true ∨ bitOf (byteAt d 1) 1 = true)) :=
  ⟨{ (flds [(.pwrRing, 0, F.pwrRing_NM_CTL_EN, 1), (.pwrRing, 0, F.pwrRing_NM_CTL_ADDR, 0x10), (.pwrRing, 0, F.pwrRing_NM_STS_STATE, 3), (.can, 0, F.can_STS_STATE, 2)] (runs [(.pwrRing, 0), (.can, 0)] onAll)) with nm := [] }, 0, 0x20, [0x30, 2, 0, 0, 0, 0, 0, 0], by decide⟩

/-- The hypotheses of a clause are met. -/
theorem witness_SleepRing_11 : ∃ (s : State) (k a : Nat) (d : Bytes), (s.sound = true) ∧ (k < 8) ∧ (s.alive .pwrRing 0 =
  true) ∧ (s.canReceives (s.nf k F.pwrRing_NM_CTL_CHAN) = true) ∧ (d.length = 8) ∧ (a < 256) ∧ (s.nmState k = 4) ∧ (bitOf
  (byteAt d 1) 5 = false) :=
  ⟨{ (flds [(.pwrRing, 0, F.pwrRing_NM_CTL_EN, 1), (.pwrRing, 0, F.pwrRing_NM_CTL_ADDR, 0x10), (.pwrRing, 0, F.pwrRing_NM_STS_STATE, 4), (.can, 0, F.can_STS_STATE, 2)] (runs [(.pwrRing, 0), (.can, 0)] onAll)) with nm := [] }, 0, 0x20, [0x30, 2, 0, 0, 0, 0, 0, 0], by decide⟩

/-- The hypotheses of a clause are met. -/
theorem witness_SleepRing_12 : ∃ (s : State) (k i : Nat) (d : Bytes), (s.sound = true) ∧ (k < 8) ∧ (i / 256 % 8 ≠ s.nf k
  F.pwrRing_NM_CTL_BASE) :=
  ⟨{ (flds [(.pwrRing, 0, F.pwrRing_NM_CTL_EN, 1), (.pwrRing, 0, F.pwrRing_NM_CTL_ADDR, 0x10), (.pwrRing, 0, F.pwrRing_NM_STS_STATE, 2), (.can, 0, F.can_STS_STATE, 2)] (runs [(.pwrRing, 0), (.can, 0)] onAll)) with nm := [] }, 0, 0x120, [0x10, 1, 2, 0, 0, 0, 0, 0], by decide⟩

/-- The hypotheses of a clause are met. -/
theorem witness_SleepRing_13 : ∃ (s : State) (k n ago ecc : Nat) (f : CanFrame), (s.sound = true) ∧ (k < 8) ∧ (s.alive
  .pwrRing 0 = true) ∧ (s.nf k F.pwrRing_NM_CTL_CHAN = n) ∧ (s.nmState k ≠ 0) ∧ (s.nmState k ≠ 5) ∧ (s.canReceives n =
  true) ∧ ((canNorm f).ide = false) ∧ (w4Format (canNorm f).w4 = 0) ∧ ((canNorm f).data.length = 8) ∧ ((canNorm f).id /
  256 % 8 = s.nf k F.pwrRing_NM_CTL_BASE) :=
  ⟨{ (flds [(.pwrRing, 0, F.pwrRing_NM_CTL_EN, 1), (.pwrRing, 0, F.pwrRing_NM_CTL_ADDR, 0x10), (.pwrRing, 0, F.pwrRing_NM_STS_STATE, 2), (.can, 0, F.can_STS_STATE, 2)] (runs [(.pwrRing, 0), (.can, 0)] onAll)) with nm := [] }, 0, 0, 1000, 0, ⟨false, 0x20, 8, 0, false, [0x10, 1, 2, 0, 0, 0, 0, 0]⟩, by decide⟩

/-- The hypotheses of a clause are met. -/
theorem witness_SleepRing_14 : ∃ (s : State) (k : Nat), (s.sound = true) ∧ (k < 8) ∧ (s.nmState k = 2) ∧ ((s.nmOf
  k).token = true) ∧ (s.nmFree k) :=
  ⟨{ (flds [(.pwrRing, 0, F.pwrRing_NM_CTL_EN, 1), (.pwrRing, 0, F.pwrRing_NM_CTL_ADDR, 0x10), (.pwrRing, 0, F.pwrRing_NM_STS_STATE, 2), (.pwrRing, 0, F.pwrRing_NM_CTL_SLEEP_OK, 1)] (runs [(.pwrRing, 0), (.can, 0)] onAll)) with nm := [(0, ⟨none, none, true, none⟩)] }, 0, by decide⟩

/-- The hypotheses of a clause are met. -/
theorem witness_SleepRing_15 : ∃ (s : State) (k : Nat) (m : NmMsg), (s.sound = true) ∧ (k < 8) ∧ (s.alive .pwrRing 0 =
  true) ∧ ((s.nmOf k).msg = some m) ∧ ((s.nmOf k).next = none) ∧ (s.objReq (s.nmObj k) = false) ∧ (bitsOf (s.objRd
  (s.nmObj k) 7) 23 20 = 1) ∧ (((s.nmState k = 2 ∧ m.ack = true) ∨ (s.nmState k = 3 ∧ m.kind = 2 ∧ m.ind = true))) :=
  ⟨{ { (flds [(.pwrRing, 0, F.pwrRing_NM_CTL_EN, 1), (.pwrRing, 0, F.pwrRing_NM_CTL_ADDR, 0x10), (.pwrRing, 0, F.pwrRing_NM_STS_STATE, 2), (.pwrRing, 0, F.pwrRing_NM_CTL_SLEEP_OK, 1)] (runs [(.pwrRing, 0), (.can, 0)] onAll)) with nm := [(0, ⟨some ⟨0, true, true, 3, 0⟩, none, false, none⟩)] } with bar2 := [(0x0700001E, 0x10)] }, 0, ⟨0, true, true, 3, 0⟩, by decide⟩

/-- The hypotheses of a clause are met. -/
theorem witness_SleepRing_16 : ∃ (s : State) (k : Nat), (s.sound = true) ∧ (k < 8) ∧ (s.nmState k = 2) ∧ (s.nmFree k) :=
  ⟨{ (flds [(.pwrRing, 0, F.pwrRing_NM_CTL_EN, 1), (.pwrRing, 0, F.pwrRing_NM_CTL_ADDR, 0x10), (.pwrRing, 0, F.pwrRing_NM_STS_STATE, 2)] (runs [(.pwrRing, 0), (.can, 0)] onAll)) with nm := [] }, 0, by decide⟩

/-- The hypotheses of a clause are met. -/
theorem witness_SleepRing_17 : ∃ (s : State) (k : Nat), (s.sound = true) ∧ (k < 8) ∧ (s.alive .pwrRing 0 = true) ∧
  (s.nmState k = 2) ∧ ((s.nmOf k).msg.isSome = true) :=
  ⟨{ (flds [(.pwrRing, 0, F.pwrRing_NM_CTL_EN, 1), (.pwrRing, 0, F.pwrRing_NM_CTL_ADDR, 0x10), (.pwrRing, 0, F.pwrRing_NM_STS_STATE, 2)] (runs [(.pwrRing, 0), (.can, 0)] onAll)) with nm := [(0, ⟨some ⟨1, false, false, 0, 0⟩, none, false, none⟩)] }, 0, by decide⟩

/-- The hypotheses of a clause are met. -/
theorem witness_SleepRing_18 : ∃ (s : State) (k : Nat), (s.sound = true) ∧ (k < 8) ∧ (s.nmState k = 3) ∧ (s.nmFree k) :=
  ⟨{ (flds [(.pwrRing, 0, F.pwrRing_NM_CTL_EN, 1), (.pwrRing, 0, F.pwrRing_NM_CTL_ADDR, 0x10), (.pwrRing, 0, F.pwrRing_NM_STS_STATE, 3)] (runs [(.pwrRing, 0), (.can, 0)] onAll)) with nm := [] }, 0, by decide⟩

/-- The hypotheses of a clause are met. -/
theorem witness_SleepRing_19 : ∃ (s : State) (k : Nat), (s.sound = true) ∧ (k < 8) ∧ (s.alive .pwrRing 0 = true) ∧
  (s.nmState k = 4) :=
  ⟨{ (flds [(.pwrRing, 0, F.pwrRing_NM_CTL_EN, 1), (.pwrRing, 0, F.pwrRing_NM_CTL_ADDR, 0x10), (.pwrRing, 0, F.pwrRing_NM_STS_STATE, 4)] (runs [(.pwrRing, 0), (.can, 0)] onAll)) with nm := [] }, 0, by decide⟩

/-- The hypotheses of a clause are met. -/
theorem witness_SleepRing_20 : ∃ (s : State) (k a : Nat), (s.sound = true) ∧ (k < 8) ∧ (s.nmState k ≠ 0) ∧ (a < 256) ∧ (a
  ≠ s.nf k F.pwrRing_NM_CTL_ADDR) ∧ (s.nmListed k a = true) :=
  ⟨{ (flds [(.pwrRing, 0, F.pwrRing_NM_CTL_EN, 1), (.pwrRing, 0, F.pwrRing_NM_CTL_ADDR, 0x10), (.pwrRing, 0, F.pwrRing_NM_STS_STATE, 2), (.pwrRing, 0, F.pwrRing_NM_TABLE_LISTED.at 4, 2)] (runs [(.pwrRing, 0), (.can, 0)] onAll)) with nm := [] }, 0, 33, by decide⟩

/-- The hypotheses of a clause are met. -/
theorem witness_RecorderCommands_1 : ∃ (s : State), (s.sound = true) ∧ (s.takes 6 0) ∧ (s.cask.clocked = true) :=
  ⟨{ (flds [(.caskRec, 0, F.caskRec_REGION_CFG_UNITS, 4), (.caskRec, 0, F.caskRec_STS_SCANNED, 1), (.qspi, 0, F.qspi_FLASH_INFO_TYPE, 1)] (onAll.setPst .caskRec 0 .run)) with cask := { onAll.cask with clocked := true }, flash := [] }, by decide⟩

/-- The hypotheses of a clause are met. -/
theorem witness_RecorderCommands_2 : ∃ (s : State), (s.sound = true) ∧ (s.domOn 3 = true) ∧ (s.cask.clocked = true) ∧
  (s.on caB0 F.caskRec_STS_SCANNED = true) ∧ (s.cask.lost = 0) ∧ (61440 < s.cask.bytes + 28) ∧ (s.gf caB0
  F.caskRec_LOST_COUNT ≠ 0) :=
  ⟨{ (flds [(.caskRec, 0, F.caskRec_REGION_CFG_UNITS, 4), (.caskRec, 0, F.caskRec_STS_SCANNED, 1), (.qspi, 0, F.qspi_FLASH_INFO_TYPE, 1), (.caskRec, 0, F.caskRec_LOST_COUNT, 3)] (onAll.setPst .caskRec 0 .run)) with cask := { onAll.cask with clocked := true, buf := List.replicate 240 ⟨4, 0, false, 7, 1, 1, 9, List.replicate 228 0, none⟩ }, flash := [] }, by decide⟩

/-- The hypotheses of a clause are met. -/
theorem witness_RecorderCommands_3 : ∃ (s : State) (w : Word), (s.sound = true) ∧ (s.dieLost = false) ∧ (s.unwatched
  (caB0 + 0x200)) ∧ (bitsOf w.toNat 22 16 ≤ 64) ∧ (s.takes 3 (bitsOf w.toNat 22 16)) :=
  ⟨{ (flds [(.caskRec, 0, F.caskRec_REGION_CFG_UNITS, 4), (.caskRec, 0, F.caskRec_STS_SCANNED, 1), (.qspi, 0, F.qspi_FLASH_INFO_TYPE, 1)] (onAll.setPst .caskRec 0 .run)) with cask := { onAll.cask with lost := 0 }, flash := [] }, 0x80040007, by decide⟩

/-- The hypotheses of a clause are met. -/
theorem witness_RecorderCommands_4 : ∃ (s : State) (u : Nat) (r : CaskRec) (rest : List CaskRec), (s.sound = true) ∧
  (s.caskWrites = true) ∧ (s.cask.buf = r :: rest) ∧ (s.nand = false) ∧ (s.cask.unit = some u) ∧ (s.cask.off + r.len ≤
  s.caskUnitBytes) ∧ (s.flashBytes (s.caskPos u) r.len = List.replicate r.len 0xFF) :=
  ⟨{ (flds [(.caskRec, 0, F.caskRec_REGION_CFG_UNITS, 4), (.caskRec, 0, F.caskRec_STS_SCANNED, 1), (.qspi, 0, F.qspi_FLASH_INFO_TYPE, 1)] (onAll.setPst .caskRec 0 .run)) with cask := { onAll.cask with buf := [⟨6, 0, false, 7, 1, 1, 9, [], none⟩], unit := some 1, off := 64 }, flash := [] }, 1, ⟨6, 0, false, 7, 1, 1, 9, [], none⟩, [], by decide⟩

/-- The hypotheses of a clause are met. -/
theorem witness_RecorderCommands_5 : ∃ (s : State) (u : Nat) (r : CaskRec) (rest : List CaskRec) (g : Bytes), (s.sound =
  true) ∧ (s.caskWrites = true) ∧ (s.cask.buf = r :: rest) ∧ (s.nand = false) ∧ (s.cask.unit = some u) ∧ (s.cask.off +
  r.len ≤ s.caskUnitBytes) ∧ (g.length = r.len) ∧ (g ≠ r.bytes 0xFF) :=
  ⟨{ (flds [(.caskRec, 0, F.caskRec_REGION_CFG_UNITS, 4), (.caskRec, 0, F.caskRec_STS_SCANNED, 1), (.qspi, 0, F.qspi_FLASH_INFO_TYPE, 1)] (onAll.setPst .caskRec 0 .run)) with cask := { onAll.cask with buf := [⟨6, 0, false, 7, 1, 1, 9, [], none⟩], unit := some 1, off := 64 }, flash := [] }, 1, ⟨6, 0, false, 7, 1, 1, 9, [], none⟩, [], List.replicate 28 0, by decide⟩

/-- The hypotheses of a clause are met. -/
theorem witness_RecorderCommands_6 : ∃ (s : State) (u : Nat) (r : CaskRec) (rest : List CaskRec) (v : Nat), (s.sound =
  true) ∧ (s.caskWrites = true) ∧ (s.cask.buf = r :: rest) ∧ (s.nand = false) ∧ (s.cask.unit = some u) ∧ (s.caskUnitBytes
  < s.cask.off + r.len) ∧ (s.nextUnit = some v) ∧ ((s.unitHeader v).isSome = true) :=
  ⟨{ (flds [(.caskRec, 0, F.caskRec_REGION_CFG_UNITS, 4), (.caskRec, 0, F.caskRec_STS_SCANNED, 1), (.qspi, 0, F.qspi_FLASH_INFO_TYPE, 1), (.caskRec, 0, F.caskRec_REGION_CFG_UNIT_SIZE, 0)] (onAll.setPst .caskRec 0 .run)) with cask := { onAll.cask with buf := [⟨6, 0, false, 7, 1, 1, 9, [], none⟩], unit := some 3, off := 4090 }, flash := [(0, 67), (1, 65), (2, 83), (3, 75), (4, 1), (5, 0), (6, 165), (7, 0), (8, 5), (9, 0), (10, 0), (11, 0), (12, 7), (13, 0), (14, 0), (15, 0), (16, 1), (17, 0), (18, 0), (19, 0), (20, 2), (21, 0), (22, 0), (23, 0), (24, 0), (25, 0), (26, 0), (27, 0), (28, 0), (29, 0), (30, 0), (31, 0), (32, 0), (33, 0), (34, 0), (35, 0), (36, 0), (37, 0), (38, 0), (39, 0), (40, 0), (41, 0), (42, 0), (43, 0), (44, 0), (45, 0), (46, 0), (47, 0), (48, 0), (49, 0), (50, 0), (51, 0), (52, 0), (53, 0), (54, 0), (55, 0), (56, 0), (57, 0), (58, 0), (59, 0), (60, 229), (61, 107), (62, 63), (63, 2)] }, 3, ⟨6, 0, false, 7, 1, 1, 9, [], none⟩, [], 0, by decide⟩

/-- The hypotheses of a clause are met. -/
theorem witness_RecorderCommands_7 : ∃ (s : State) (u : Nat) (r : CaskRec) (rest : List CaskRec) (v : Nat), (s.sound =
  true) ∧ (s.caskWrites = true) ∧ (s.cask.buf = r :: rest) ∧ (s.nand = false) ∧ (s.cask.unit = some u) ∧ (s.caskUnitBytes
  < s.cask.off + r.len) ∧ (s.nextUnit = some v) ∧ (s.unitHeader v = none) :=
  ⟨{ (flds [(.caskRec, 0, F.caskRec_REGION_CFG_UNITS, 4), (.caskRec, 0, F.caskRec_STS_SCANNED, 1), (.qspi, 0, F.qspi_FLASH_INFO_TYPE, 1), (.caskRec, 0, F.caskRec_REGION_CFG_UNIT_SIZE, 0)] (onAll.setPst .caskRec 0 .run)) with cask := { onAll.cask with buf := [⟨6, 0, false, 7, 1, 1, 9, [], none⟩], unit := some 3, off := 4090 }, flash := [] }, 3, ⟨6, 0, false, 7, 1, 1, 9, [], none⟩, [], 0, by decide⟩

/-- The hypotheses of a clause are met. -/
theorem witness_RecorderCommands_8 : ∃ (s : State) (u : Nat), (s.sound = true) ∧ (s.caskWrites = true) ∧ (s.nand = true)
  ∧ (s.caskImage ≠ []) ∧ (s.cask.unit = some u) ∧ (s.cask.off + 2048 ≤ s.caskUnitBytes) ∧ (s.flashBytes (s.caskPos u)
  ((s.caskImage.flatMap fun r => r.bytes 0xA5).length) = List.replicate ((s.caskImage.flatMap fun r => r.bytes
  0xA5).length) 0xFF) ∧ ((s.caskImage.length < s.cask.buf.length ∨ s.pst .caskRec 0 = .quiescing)) :=
  ⟨{ (flds [(.caskRec, 0, F.caskRec_REGION_CFG_UNITS, 4), (.caskRec, 0, F.caskRec_STS_SCANNED, 1), (.qspi, 0, F.qspi_FLASH_INFO_TYPE, 1), (.qspi, 0, F.qspi_FLASH_INFO_TYPE, 2), (.caskRec, 0, F.caskRec_REGION_CFG_UNIT_SIZE, 2)] (onAll.setPst .caskRec 0 .quiescing)) with cask := { onAll.cask with buf := [⟨6, 0, false, 7, 1, 1, 9, [], none⟩], unit := some 1, off := 2048 }, flash := [] }, 1, by decide⟩

/-- The hypotheses of a clause are met. -/
theorem witness_RecorderCommands_9 : ∃ (s : State) (u : Nat), (s.sound = true) ∧ (s.caskWrites = true) ∧ (s.nand = true)
  ∧ (s.caskImage ≠ []) ∧ (s.cask.unit = some u) ∧ (s.cask.off + 2048 ≤ s.caskUnitBytes) ∧ (s.flashBytes (s.caskPos u)
  ((s.caskImage.flatMap fun r => r.bytes 0xA5).length) = List.replicate ((s.caskImage.flatMap fun r => r.bytes
  0xA5).length) 0xFF) :=
  ⟨{ (flds [(.caskRec, 0, F.caskRec_REGION_CFG_UNITS, 4), (.caskRec, 0, F.caskRec_STS_SCANNED, 1), (.qspi, 0, F.qspi_FLASH_INFO_TYPE, 1), (.qspi, 0, F.qspi_FLASH_INFO_TYPE, 2), (.caskRec, 0, F.caskRec_REGION_CFG_UNIT_SIZE, 2)] (onAll.setPst .caskRec 0 .run)) with cask := { onAll.cask with buf := [⟨6, 0, false, 7, 1, 1, 9, [], none⟩], unit := some 1, off := 2048 }, flash := [] }, 1, by decide⟩

/-- The hypotheses of a clause are met. -/
theorem witness_RecorderCommands_10 : ∃ (s : State) (u : Nat), (s.sound = true) ∧ (s.caskWrites = true) ∧ (s.nand = true)
  ∧ (s.caskImage ≠ []) ∧ (s.cask.unit = some u) ∧ (s.cask.off + 2048 ≤ s.caskUnitBytes) ∧ (s.flashBytes (s.caskPos u)
  ((s.caskImage.flatMap fun r => r.bytes 0xA5).length) = List.replicate ((s.caskImage.flatMap fun r => r.bytes
  0xA5).length) 0xFF) ∧ (s.run .caskRec 0 = true) ∧ (s.unwatched (caB0 + 0x090)) ∧ (s.gf caB0 F.caskRec_STS_BUSY = 0) ∧
  (s.flashFound = true) ∧ (s.caskUnits ≠ 0) :=
  ⟨{ (flds [(.caskRec, 0, F.caskRec_REGION_CFG_UNITS, 4), (.caskRec, 0, F.caskRec_STS_SCANNED, 1), (.qspi, 0, F.qspi_FLASH_INFO_TYPE, 1), (.qspi, 0, F.qspi_FLASH_INFO_TYPE, 2), (.caskRec, 0, F.caskRec_REGION_CFG_UNIT_SIZE, 2)] (onAll.setPst .caskRec 0 .run)) with cask := { onAll.cask with buf := [⟨6, 0, false, 7, 1, 1, 9, [], none⟩], unit := some 1, off := 2048 }, flash := [] }, 1, by decide⟩

/-- The hypotheses of a clause are met. -/
theorem witness_RecorderCommands_11 : ∃ (s : State) (u : Nat), (s.sound = true) ∧ (s.caskWrites = true) ∧ (s.nand = true)
  ∧ (s.caskImage ≠ []) ∧ (s.cask.unit = some u) ∧ (s.cask.off + 2048 ≤ s.caskUnitBytes) ∧ (s.unitBad u = false) :=
  ⟨{ (flds [(.caskRec, 0, F.caskRec_REGION_CFG_UNITS, 4), (.caskRec, 0, F.caskRec_STS_SCANNED, 1), (.qspi, 0, F.qspi_FLASH_INFO_TYPE, 1), (.qspi, 0, F.qspi_FLASH_INFO_TYPE, 2), (.caskRec, 0, F.caskRec_REGION_CFG_UNIT_SIZE, 2)] (onAll.setPst .caskRec 0 .run)) with cask := { onAll.cask with buf := [⟨6, 0, false, 7, 1, 1, 9, [], none⟩], unit := some 1, off := 2048 }, flash := [] }, 1, by decide⟩

/-- The hypotheses of a clause are met. -/
theorem witness_RecorderCommands_12 : ∃ (s : State) (u : Nat), (s.sound = true) ∧ (s.run .caskRec 0 = true) ∧
  (s.unwatched (caB0 + 0x090)) ∧ (s.gf caB0 F.caskRec_STS_BUSY = 0) ∧ (s.flashFound = true) ∧ (s.caskUnits ≠ 0) ∧
  (s.oldestUnit = some u) ∧ (s.cask.unit ≠ some u) :=
  ⟨{ (flds [(.caskRec, 0, F.caskRec_REGION_CFG_UNITS, 4), (.caskRec, 0, F.caskRec_STS_SCANNED, 1), (.qspi, 0, F.qspi_FLASH_INFO_TYPE, 1), (.caskRec, 0, F.caskRec_REGION_CFG_UNIT_SIZE, 0)] (onAll.setPst .caskRec 0 .run)) with cask := { onAll.cask with unit := some 1 }, flash := [(0, 67), (1, 65), (2, 83), (3, 75), (4, 1), (5, 0), (6, 165), (7, 0), (8, 5), (9, 0), (10, 0), (11, 0), (12, 7), (13, 0), (14, 0), (15, 0), (16, 1), (17, 0), (18, 0), (19, 0), (20, 2), (21, 0), (22, 0), (23, 0), (24, 0), (25, 0), (26, 0), (27, 0), (28, 0), (29, 0), (30, 0), (31, 0), (32, 0), (33, 0), (34, 0), (35, 0), (36, 0), (37, 0), (38, 0), (39, 0), (40, 0), (41, 0), (42, 0), (43, 0), (44, 0), (45, 0), (46, 0), (47, 0), (48, 0), (49, 0), (50, 0), (51, 0), (52, 0), (53, 0), (54, 0), (55, 0), (56, 0), (57, 0), (58, 0), (59, 0), (60, 229), (61, 107), (62, 63), (63, 2)] }, 0, by decide⟩

/-- The hypotheses of a clause are met. -/
theorem witness_RecorderCommands_13 : ∃ (s : State), (s.sound = true) ∧ (s.run .caskRec 0 = true) ∧ (s.unwatched (caB0 +
  0x090)) ∧ (s.gf caB0 F.caskRec_STS_BUSY = 0) ∧ (s.flashFound = true) ∧ (s.caskUnits ≠ 0) :=
  ⟨{ (flds [(.caskRec, 0, F.caskRec_REGION_CFG_UNITS, 4), (.caskRec, 0, F.caskRec_STS_SCANNED, 1), (.qspi, 0, F.qspi_FLASH_INFO_TYPE, 1)] (onAll.setPst .caskRec 0 .run)) with cask := { onAll.cask with lost := 0 }, flash := [] }, by decide⟩

/-- The hypotheses of a clause are met. -/
theorem witness_RecorderCommands_14 : ∃ (s : State), (s.sound = true) ∧ (s.run .caskRec 0 = true) ∧ (s.unwatched (caB0 +
  0x090)) ∧ (s.gf caB0 F.caskRec_STS_BUSY = 0) ∧ (s.flashFound = true) ∧ (s.caskUnits ≠ 0) :=
  ⟨{ (flds [(.caskRec, 0, F.caskRec_REGION_CFG_UNITS, 4), (.caskRec, 0, F.caskRec_STS_SCANNED, 1), (.qspi, 0, F.qspi_FLASH_INFO_TYPE, 1)] (onAll.setPst .caskRec 0 .run)) with cask := { onAll.cask with lost := 0 }, flash := [] }, by decide⟩

/-- The hypotheses of a clause are met. -/
theorem witness_RecorderCommands_15 : ∃ (s : State) (u : Nat), (s.sound = true) ∧ (s.sup.master = 2) ∧ (s.sup.tableDue =
  false) ∧ (s.cask.job = some .free) ∧ (s.nand = false) ∧ (s.oldestUnit = some u) :=
  ⟨{ (flds [(.caskRec, 0, F.caskRec_REGION_CFG_UNITS, 4), (.caskRec, 0, F.caskRec_STS_SCANNED, 1), (.qspi, 0, F.qspi_FLASH_INFO_TYPE, 1), (.caskRec, 0, F.caskRec_REGION_CFG_UNIT_SIZE, 0)] (onAll.setPst .caskRec 0 .run)) with cask := { onAll.cask with job := some .free, unit := some 1 }, flash := [(0, 67), (1, 65), (2, 83), (3, 75), (4, 1), (5, 0), (6, 165), (7, 0), (8, 5), (9, 0), (10, 0), (11, 0), (12, 7), (13, 0), (14, 0), (15, 0), (16, 1), (17, 0), (18, 0), (19, 0), (20, 2), (21, 0), (22, 0), (23, 0), (24, 0), (25, 0), (26, 0), (27, 0), (28, 0), (29, 0), (30, 0), (31, 0), (32, 0), (33, 0), (34, 0), (35, 0), (36, 0), (37, 0), (38, 0), (39, 0), (40, 0), (41, 0), (42, 0), (43, 0), (44, 0), (45, 0), (46, 0), (47, 0), (48, 0), (49, 0), (50, 0), (51, 0), (52, 0), (53, 0), (54, 0), (55, 0), (56, 0), (57, 0), (58, 0), (59, 0), (60, 229), (61, 107), (62, 63), (63, 2)], sup := { onAll.sup with master := 2 } }, 0, by decide⟩

/-- The hypotheses of a clause are met. -/
theorem witness_RecorderCommands_16 : ∃ (s : State), (s.sound = true) ∧ (s.sup.master = 2) ∧ (s.sup.tableDue = false) ∧
  (s.cask.job = some .eraseAll) ∧ (s.nand = false) ∧ (2 ≤ s.caskUnits) :=
  ⟨{ (flds [(.caskRec, 0, F.caskRec_REGION_CFG_UNITS, 4), (.caskRec, 0, F.caskRec_STS_SCANNED, 1), (.qspi, 0, F.qspi_FLASH_INFO_TYPE, 1), (.caskRec, 0, F.caskRec_REGION_CFG_UNIT_SIZE, 0)] (onAll.setPst .caskRec 0 .run)) with cask := { onAll.cask with job := some .eraseAll }, flash := [(0, 67), (1, 65), (2, 83), (3, 75), (4, 1), (5, 0), (6, 165), (7, 0), (8, 5), (9, 0), (10, 0), (11, 0), (12, 7), (13, 0), (14, 0), (15, 0), (16, 1), (17, 0), (18, 0), (19, 0), (20, 2), (21, 0), (22, 0), (23, 0), (24, 0), (25, 0), (26, 0), (27, 0), (28, 0), (29, 0), (30, 0), (31, 0), (32, 0), (33, 0), (34, 0), (35, 0), (36, 0), (37, 0), (38, 0), (39, 0), (40, 0), (41, 0), (42, 0), (43, 0), (44, 0), (45, 0), (46, 0), (47, 0), (48, 0), (49, 0), (50, 0), (51, 0), (52, 0), (53, 0), (54, 0), (55, 0), (56, 0), (57, 0), (58, 0), (59, 0), (60, 229), (61, 107), (62, 63), (63, 2)], sup := { onAll.sup with master := 2 } }, by decide⟩

/-- The hypotheses of a clause are met. -/
theorem witness_RecorderCommands_17 : ∃ (s : State) (o : Nat), (s.sound = true) ∧ (s.sup.master = 2) ∧ (s.sup.tableDue =
  false) ∧ (s.cask.job = some (.read o)) ∧ (s.nand = false) :=
  ⟨{ (flds [(.caskRec, 0, F.caskRec_REGION_CFG_UNITS, 4), (.caskRec, 0, F.caskRec_STS_SCANNED, 1), (.qspi, 0, F.qspi_FLASH_INFO_TYPE, 1)] (onAll.setPst .caskRec 0 .run)) with cask := { onAll.cask with job := some (.read 0) }, flash := [], sup := { onAll.sup with master := 2 } }, 0, by decide⟩

/-- The hypotheses of a clause are met. -/
theorem witness_RecorderCommands_18 : ∃ (s : State), (s.sound = true) ∧ (s.run .caskRec 0 = true) ∧ (s.cask.scan = 1) ∧
  (s.flashFound = true) :=
  ⟨{ (flds [(.caskRec, 0, F.caskRec_REGION_CFG_UNITS, 4), (.caskRec, 0, F.caskRec_STS_SCANNED, 1), (.qspi, 0, F.qspi_FLASH_INFO_TYPE, 1)] (onAll.setPst .caskRec 0 .run)) with cask := { onAll.cask with scan := 1 }, flash := [] }, by decide⟩

/-- The hypotheses of a clause are met. -/
theorem witness_RecorderCommands_19 : ∃ (s : State), (s.sound = true) ∧ (s.run .caskRec 0 = true) ∧ (s.cask.scan = 2) ∧
  (s.masterFree = true) ∧ (s.nand = false) ∧ (0 < s.caskUnits) ∧ (s.headers = []) ∧ (s.cask.bytes + 36 ≤ 65536) :=
  ⟨{ (flds [(.caskRec, 0, F.caskRec_REGION_CFG_UNITS, 4), (.caskRec, 0, F.caskRec_STS_SCANNED, 1), (.qspi, 0, F.qspi_FLASH_INFO_TYPE, 1)] (onAll.setPst .caskRec 0 .run)) with cask := { onAll.cask with scan := 2 }, flash := [] }, by decide⟩

/-- The hypotheses of a clause are met. -/
theorem witness_RecorderCommands_20 : ∃ (s : State) (u p : Nat) (h : CaskHeader), (s.sound = true) ∧ (s.run .caskRec 0 =
  true) ∧ (s.cask.scan = 2) ∧ (s.masterFree = true) ∧ (s.nand = false) ∧ (newestOf s.headers = some (u, h)) ∧ ((s.walked
  u h).resume = some p) ∧ (s.cask.bytes + 36 ≤ 65536) :=
  ⟨{ (flds [(.caskRec, 0, F.caskRec_REGION_CFG_UNITS, 4), (.caskRec, 0, F.caskRec_STS_SCANNED, 1), (.qspi, 0, F.qspi_FLASH_INFO_TYPE, 1), (.caskRec, 0, F.caskRec_REGION_CFG_UNIT_SIZE, 0)] (onAll.setPst .caskRec 0 .run)) with cask := { onAll.cask with scan := 2 }, flash := [(0, 67), (1, 65), (2, 83), (3, 75), (4, 1), (5, 0), (6, 165), (7, 0), (8, 5), (9, 0), (10, 0), (11, 0), (12, 7), (13, 0), (14, 0), (15, 0), (16, 1), (17, 0), (18, 0), (19, 0), (20, 2), (21, 0), (22, 0), (23, 0), (24, 0), (25, 0), (26, 0), (27, 0), (28, 0), (29, 0), (30, 0), (31, 0), (32, 0), (33, 0), (34, 0), (35, 0), (36, 0), (37, 0), (38, 0), (39, 0), (40, 0), (41, 0), (42, 0), (43, 0), (44, 0), (45, 0), (46, 0), (47, 0), (48, 0), (49, 0), (50, 0), (51, 0), (52, 0), (53, 0), (54, 0), (55, 0), (56, 0), (57, 0), (58, 0), (59, 0), (60, 229), (61, 107), (62, 63), (63, 2)] }, 0, 64, ⟨5, 7, 1, 2⟩, by decide⟩

/-- The hypotheses of a clause are met. -/
theorem witness_CountersAndTap_1 : ∃ (s : State) (ev i n c : Nat), (s.sound = true) ∧ (c < 16) :=
  ⟨{ (flds [(.caskCnt, 0, F.caskCnt_PERF_CTL_RUN, 1), (.caskCnt, 0, F.caskCnt_PSEL_EVSEL, 0x10)] (runs [(.caskCnt, 0), (.caskTap, 0)] onAll)) with cask := { onAll.cask with lost := 0 } }, 0x10, 3, 2, 0, by decide⟩

/-- The hypotheses of a clause are met. -/
theorem witness_CountersAndTap_2 : ∃ (s : State) (w : Word), (s.sound = true) ∧ (s.alive .caskCnt 0 = true) ∧
  (s.unwatched (ccB + 0x040)) ∧ (w.getLsbD 1 = false) :=
  ⟨{ (flds [(.caskCnt, 0, F.caskCnt_CNT_LO_COUNT, 9)] (runs [(.caskCnt, 0), (.caskTap, 0)] onAll)) with cask := { onAll.cask with lost := 0 } }, 0, by decide⟩

/-- The hypotheses of a clause are met. -/
theorem witness_CountersAndTap_3 : ∃ (s : State) (w : Word), (s.sound = true) ∧ (s.alive .caskCnt 0 = true) ∧
  (s.unwatched (ccB + 0x040)) :=
  ⟨{ (flds [] (runs [(.caskCnt, 0), (.caskTap, 0)] onAll)) with cask := { onAll.cask with perfAt := some 3 } }, 0x100, by decide⟩

/-- The hypotheses of a clause are met. -/
theorem witness_CountersAndTap_4 : ∃ (s : State) (d : Nat), (s.sound = true) ∧ (s.alive .caskCnt 0 = true) ∧
  (s.cask.perfAt = some d) ∧ (d ≤ s.now) :=
  ⟨{ (flds [(.caskCnt, 0, F.caskCnt_PERF_CTL_RUN_NEXT, 1)] (runs [(.caskCnt, 0), (.caskTap, 0)] onAll)) with cask := { onAll.cask with perfAt := some 0 } }, 0, by decide⟩

/-- The hypotheses of a clause are met. -/
theorem witness_CountersAndTap_5 : ∃ (s : State) (d : Nat), (s.cask.perfAt = some d) ∧ (s.now < d) :=
  ⟨{ (flds [] (runs [(.caskCnt, 0), (.caskTap, 0)] onAll)) with cask := { onAll.cask with perfAt := some 9 } }, 9, by decide⟩

/-- The hypotheses of a clause are met. -/
theorem witness_CountersAndTap_6 : ∃ (s : State) (w : Word), (s.sound = true) ∧ (s.alive .caskCnt 0 = true) ∧
  (s.unwatched (ccB + 0x04C)) :=
  ⟨{ (flds [(.caskCnt, 0, F.caskCnt_CNT_LO_COUNT, 9)] (runs [(.caskCnt, 0), (.caskTap, 0)] onAll)) with cask := { onAll.cask with lost := 0 } }, 1, by decide⟩

/-- The hypotheses of a clause are met. -/
theorem witness_CountersAndTap_7 : ∃ (s : State) (r : TapRec) (rest : List TapRec), (s.sound = true) ∧ (s.alive .caskTap
  0 = true) ∧ (s.tap.fifo = r :: rest) :=
  ⟨{ { (flds [] (runs [(.caskCnt, 0), (.caskTap, 0)] onAll)) with cask := { onAll.cask with lost := 0 } } with tap := { onAll.tap with fifo := [⟨0x80000001, 2, 3, 4⟩] } }, ⟨0x80000001, 2, 3, 4⟩, [], by decide⟩

/-- The hypotheses of a clause are met. -/
theorem witness_CountersAndTap_8 : ∃ (s : State), (s.alive .caskTap 0 = true) ∧ (s.tap.fifo = []) :=
  ⟨{ (flds [] (runs [(.caskCnt, 0), (.caskTap, 0)] onAll)) with cask := { onAll.cask with lost := 0 } }, by decide⟩

/-- The hypotheses of a clause are met. -/
theorem witness_FlashAndBoot_1 : ∃ (s : State) (w : Word), (s.sound = true) ∧ (s.run .qspi 0 = true) ∧ (s.unwatched (qsB
  + 0x048)) ∧ (s.gf qsB F.qspi_HCMD_BUSY = 0) ∧ ((¬ (s.lifecycle = 2 ∨ s.lifecycle = 4) ∨ bitsOf w.toNat 23 16 ∈
  hcmdAllowed)) :=
  ⟨{ (flds [] (runs [(.svc, 0), (.upd, 0), (.qspi, 0)] onAll)) with sup := { onAll.sup with phase := .firmware }, rack := { onAll.rack with coord := 0 } }, 0x80030010, by decide⟩

/-- The hypotheses of a clause are met. -/
theorem witness_FlashAndBoot_2 : ∃ (s : State) (w : Word), (s.sound = true) ∧ (s.alive .qspi 0 = true) ∧ (s.unwatched
  (qsB + 0x048)) ∧ (s.gf qsB F.qspi_HCMD_BUSY = 0) ∧ ((s.run .qspi 0 = false ∨ ((s.lifecycle = 2 ∨ s.lifecycle = 4) ∧ ¬
  bitsOf w.toNat 23 16 ∈ hcmdAllowed))) :=
  ⟨{ (flds [(.kilnId, 0, F.kilnId_LC_STS_STATE, 2)] (runs [(.svc, 0), (.upd, 0), (.qspi, 0)] onAll)) with sup := { onAll.sup with phase := .firmware }, rack := { onAll.rack with coord := 0 } }, 0x80020010, by decide⟩

/-- The hypotheses of a clause are met. -/
theorem witness_FlashAndBoot_3 : ∃ (s : State) (j : FlashJob), (s.sound = true) ∧ (s.sup.hostJob = some j) ∧ (s.alive
  .qspi 0 = true) ∧ (s.nand = false) ∧ (s.flashFound = true) ∧ (j.op = 0x02) ∧ (j.len ≤ 256) ∧ (s.sup.master = 3) ∧
  (s.sup.tableDue = false) :=
  ⟨{ (flds [(.qspi, 0, F.qspi_FLASH_INFO_TYPE, 1)] (runs [(.svc, 0), (.upd, 0), (.qspi, 0)] onAll)) with sup := { onAll.sup with hostJob := some ⟨0x02, 64, 8⟩, master := 3 }, rack := { onAll.rack with coord := 0 } }, ⟨0x02, 64, 8⟩, by decide⟩

/-- The hypotheses of a clause are met. -/
theorem witness_FlashAndBoot_4 : ∃ (s : State) (j : FlashJob), (s.sound = true) ∧ (s.sup.hostJob = some j) ∧ (s.alive
  .qspi 0 = true) ∧ (s.nand = false) ∧ (s.flashFound = true) ∧ (j.op = 0x03) ∧ (j.len ≤ 256) ∧ (s.sup.master = 3) ∧
  (s.sup.tableDue = false) :=
  ⟨{ (flds [(.qspi, 0, F.qspi_FLASH_INFO_TYPE, 1)] (runs [(.svc, 0), (.upd, 0), (.qspi, 0)] onAll)) with sup := { onAll.sup with hostJob := some ⟨0x03, 64, 8⟩, master := 3 }, rack := { onAll.rack with coord := 0 } }, ⟨0x03, 64, 8⟩, by decide⟩

/-- The hypotheses of a clause are met. -/
theorem witness_FlashAndBoot_5 : ∃ (s : State) (j : FlashJob), (s.sound = true) ∧ (s.sup.hostJob = some j) ∧ (s.alive
  .qspi 0 = true) ∧ (s.nand = false) ∧ (s.flashFound = true) ∧ (j.op = 0x20) ∧ (j.len ≤ 256) ∧ (s.sup.master = 3) ∧
  (s.sup.tableDue = false) :=
  ⟨{ (flds [(.qspi, 0, F.qspi_FLASH_INFO_TYPE, 1)] (runs [(.svc, 0), (.upd, 0), (.qspi, 0)] onAll)) with sup := { onAll.sup with hostJob := some ⟨0x20, 64, 8⟩, master := 3 }, rack := { onAll.rack with coord := 0 } }, ⟨0x20, 64, 8⟩, by decide⟩

/-- The hypotheses of a clause are met. -/
theorem witness_FlashAndBoot_6 : ∃ (s : State) (j : FlashJob), (s.sound = true) ∧ (s.sup.hostJob = some j) ∧ (s.alive
  .qspi 0 = true) ∧ (s.nand = false) ∧ (s.flashFound = true) ∧ (j.op = 0xD8) ∧ (j.len ≤ 256) ∧ (s.sup.master = 3) ∧
  (s.sup.tableDue = false) :=
  ⟨{ (flds [(.qspi, 0, F.qspi_FLASH_INFO_TYPE, 1)] (runs [(.svc, 0), (.upd, 0), (.qspi, 0)] onAll)) with sup := { onAll.sup with hostJob := some ⟨0xD8, 64, 8⟩, master := 3 }, rack := { onAll.rack with coord := 0 } }, ⟨0xD8, 64, 8⟩, by decide⟩

/-- The hypotheses of a clause are met. -/
theorem witness_FlashAndBoot_7 : ∃ (s : State) (j : FlashJob) (ecc : Nat), (s.sound = true) ∧ (s.sup.hostJob = some j) ∧
  (s.alive .qspi 0 = true) ∧ (s.nand = true) ∧ (s.flashFound = true) ∧ (j.op = 0x13) ∧ (j.len ≤ 256) ∧ (s.sup.master = 3)
  ∧ (s.sup.tableDue = false) ∧ (2 ≤ ecc) ∧ (ecc ≤ 3) :=
  ⟨{ (flds [(.qspi, 0, F.qspi_FLASH_INFO_TYPE, 2)] (runs [(.svc, 0), (.upd, 0), (.qspi, 0)] onAll)) with sup := { onAll.sup with hostJob := some ⟨0x13, 0, 8⟩, master := 3 }, rack := { onAll.rack with coord := 0 } }, ⟨0x13, 0, 8⟩, 3, by decide⟩

/-- The hypotheses of a clause are met. -/
theorem witness_FlashAndBoot_8 : ∃ (s : State) (j : FlashJob) (d : Bytes), (s.sound = true) ∧ (s.sup.hostJob = some j) ∧
  (s.alive .qspi 0 = true) ∧ (s.nand = false) ∧ (s.sup.master = 3) ∧ (s.sup.tableDue = false) :=
  ⟨{ (flds [(.qspi, 0, F.qspi_FLASH_INFO_TYPE, 1)] (runs [(.svc, 0), (.upd, 0), (.qspi, 0)] onAll)) with sup := { onAll.sup with hostJob := some ⟨0x02, 64, 8⟩, master := 3 }, rack := { onAll.rack with coord := 0 } }, ⟨0x02, 64, 8⟩, [], by decide⟩

/-- The hypotheses of a clause are met. -/
theorem witness_FlashAndBoot_9 : ∃ (s : State) (sfdp : Bool) (ident size unit : Nat) (ecc : List (Nat × Nat)), (s.sound =
  true) ∧ (s.domOn 3 = true) ∧ (s.sup.phase = .off) ∧ (s.sup.master ≤ 1) ∧ (s.lifecycle ≠ 4) ∧ (size < 64) :=
  ⟨{ (flds [] (runs [(.svc, 0), (.upd, 0), (.qspi, 0)] onAll)) with sup := { onAll.sup with phase := .off }, rack := { onAll.rack with coord := 0 } }, false, 0, 5, 4096, [], by decide⟩

/-- The hypotheses of a clause are met. -/
theorem witness_FlashAndBoot_10 : ∃ (s : State) (sfdp : Bool) (ident size unit : Nat), (s.sound = true) ∧ (s.domOn 3 =
  true) ∧ (s.sup.phase = .off) ∧ (s.sup.master ≤ 1) ∧ (s.lifecycle = 4) ∧ (s.sup.tableDue = false) :=
  ⟨{ (flds [(.kilnId, 0, F.kilnId_LC_STS_STATE, 4)] (runs [(.svc, 0), (.upd, 0), (.qspi, 0)] onAll)) with sup := { onAll.sup with phase := .off }, rack := { onAll.rack with coord := 0 } }, true, 0, 24, 4096, by decide⟩

/-- The hypotheses of a clause are met. -/
theorem witness_FlashAndBoot_11 : ∃ (s : State) (x : Nat), (s.sound = true) ∧ (s.domOn 3 = true) ∧ (s.sup.phase =
  .bootRom) ∧ (s.sup.master ≤ 1) ∧ (s.sup.unread = []) ∧ (s.sup.tableDue = false) ∧ ((s.gf svcB F.svc_MBX_STS_BUSY = 0 ∨
  (s.sup.resume = 1 ∨ s.sup.resume = 2 ∨ s.sup.resume = 3))) ∧ (s.flashFound = true) ∧ (s.slotState 0 0 ≠ 3) ∧
  (s.slotState 0 1 ≠ 3) ∧ (s.chooseFw = some x) ∧ (s.rack.part = 0) ∧ (s.rack.held = []) :=
  ⟨{ (flds [(.upd, 0, F.upd_SLOT_STS_STATE_A, 4), (.qspi, 0, F.qspi_FLASH_INFO_TYPE, 1)] (runs [(.svc, 0), (.upd, 0), (.qspi, 0)] onAll)) with sup := { onAll.sup with phase := .bootRom, master := 1 }, rack := { onAll.rack with coord := 0 } }, 0, by decide⟩

/-- The hypotheses of a clause are met. -/
theorem witness_FlashAndBoot_12 : ∃ (s : State), (s.sound = true) ∧ (s.domOn 3 = true) ∧ (s.sup.phase = .bootRom) ∧
  (s.sup.master ≤ 1) ∧ (s.sup.unread = []) ∧ (s.sup.tableDue = false) ∧ ((s.gf svcB F.svc_MBX_STS_BUSY = 0 ∨
  (s.sup.resume = 1 ∨ s.sup.resume = 2 ∨ s.sup.resume = 3))) ∧ (s.slotState 0 0 ≠ 3) ∧ (s.slotState 0 1 ≠ 3) ∧
  ((s.chooseFw = none ∨ s.flashFound = false)) ∧ (s.rack.held = []) :=
  ⟨{ (flds [] (runs [(.svc, 0), (.upd, 0), (.qspi, 0)] onAll)) with sup := { onAll.sup with phase := .bootRom, master := 1 }, rack := { onAll.rack with coord := 0 } }, by decide⟩

/-- The hypotheses of a clause are met. -/
theorem witness_FlashAndBoot_13 : ∃ (s : State), (s.sound = true) ∧ (s.mbxReady) :=
  ⟨{ (flds [(.svc, 0, F.svc_FW_VERSION_VERSION, 9)] (runs [(.svc, 0), (.upd, 0), (.qspi, 0)] onAll)) with sup := { onAll.sup with phase := .firmware }, rack := { onAll.rack with coord := 0 } }, by decide⟩

/-- The hypotheses of a clause are met. -/
theorem witness_FlashAndBoot_14 : ∃ (s : State), (s.sound = true) ∧ (s.mbxReady) :=
  ⟨{ (flds [] (runs [(.svc, 0), (.upd, 0), (.qspi, 0)] onAll)) with sup := { onAll.sup with phase := .firmware }, rack := { onAll.rack with coord := 0 } }, by decide⟩

/-- The hypotheses of a clause are met. -/
theorem witness_FlashAndBoot_15 : ∃ (s : State) (op : Nat), (s.sound = true) ∧ (s.mbxReady) ∧ (¬ op % 256 ∈ mbxOps) :=
  ⟨{ (flds [] (runs [(.svc, 0), (.upd, 0), (.qspi, 0)] onAll)) with sup := { onAll.sup with phase := .firmware }, rack := { onAll.rack with coord := 0 } }, 3, by decide⟩

/-- The hypotheses of a clause are met. -/
theorem witness_FlashAndBoot_16 : ∃ (s : State), (s.sound = true) ∧ (s.domOn 3 = true) ∧ (s.sup.phase ≠ .off) ∧
  (s.sup.job = none) ∧ (s.sup.remote = none) ∧ (s.sup.resume ≠ 1) :=
  ⟨{ (flds [] (runs [(.svc, 0), (.upd, 0), (.qspi, 0)] onAll)) with sup := { onAll.sup with phase := .firmware }, rack := { onAll.rack with coord := 0 } }, by decide⟩

/-- The hypotheses of a clause are met. -/
theorem witness_FlashAndBoot_17 : ∃ (s : State), (s.sound = true) ∧ (s.domOn 3 = true) ∧ (s.sup.phase ≠ .off) ∧
  ((s.sup.job.any (fun j => j.origin.isNone) = true ∨ s.sup.remote.isSome = true ∨ s.sup.resume = 1)) ∧ (s.sup.job.all
  (fun j => j.origin.isNone) = true) :=
  ⟨{ (flds [(.svc, 0, F.svc_MBX_STS_BUSY, 1)] (runs [(.svc, 0), (.upd, 0), (.qspi, 0)] onAll)) with sup := { onAll.sup with phase := .firmware, job := some ⟨0x10, [1, 4096, 0, 0, 0, 0, 0, 0], [], none⟩ }, rack := { onAll.rack with coord := 0 } }, by decide⟩

/-- The hypotheses of a clause are met. -/
theorem witness_FlashAndBoot_18 : ∃ (s : State) (j : MbxJob) (p : List Nat), (s.sound = true) ∧ (s.domOn 3 = true) ∧
  (s.sup.phase ≠ .off) ∧ (s.sup.job = some j) ∧ (j.origin = some p) :=
  ⟨{ (flds [] (runs [(.svc, 0), (.upd, 0), (.qspi, 0)] onAll)) with sup := { onAll.sup with phase := .firmware, job := some ⟨0x10, [1, 4096, 0, 0], [], some [1, 0, 0, 0]⟩ }, rack := { onAll.rack with coord := 0 } }, ⟨0x10, [1, 4096, 0, 0], [], some [1, 0, 0, 0]⟩, [1, 0, 0, 0], by decide⟩

/-- The hypotheses of a clause are met. -/
theorem witness_MailboxCommands_1 : ∃ (s : State), (s.sound = true) ∧ (s.mbxReady) ∧ (s.masterFree = true) ∧
  (s.sup.unread = []) ∧ (argPath (s.mbxArg 2) (s.mbxArg 3) = s.unitPath) :=
  ⟨{ (flds [] (runs [(.svc, 0), (.upd, 0), (.qspi, 0)] onAll)) with sup := { onAll.sup with phase := .firmware }, rack := { onAll.rack with coord := 0 } }, by decide⟩

/-- The hypotheses of a clause are met. -/
theorem witness_MailboxCommands_2 : ∃ (s : State), (s.sound = true) ∧ (s.mbxReady) ∧ (s.masterFree = false) ∧ (argPath
  (s.mbxArg 2) (s.mbxArg 3) = s.unitPath) :=
  ⟨{ (flds [] (runs [(.svc, 0), (.upd, 0), (.qspi, 0)] onAll)) with sup := { onAll.sup with phase := .firmware, master := 3 }, rack := { onAll.rack with coord := 0 } }, by decide⟩

/-- The hypotheses of a clause are met. -/
theorem witness_MailboxCommands_3 : ∃ (s : State) (p n : Nat), (s.sup.phase = .firmware) :=
  ⟨{ (flds [] (runs [(.svc, 0), (.upd, 0), (.qspi, 0)] onAll)) with sup := { onAll.sup with phase := .firmware }, rack := { onAll.rack with coord := 0 } }, 2, 9, by decide⟩

/-- The hypotheses of a clause are met. -/
theorem witness_MailboxCommands_4 : ∃ (s : State) (j : MbxJob), (s.sound = true) ∧ (s.alive .svc 0 = true) ∧ (s.sup.phase
  = .firmware) ∧ (s.sup.job = some j) ∧ (j.op = 0x10) ∧ (j.origin = none) ∧ (s.rack.held = []) ∧ (s.sup.master = 1) ∧
  (j.args.getD 0 0 < 4) :=
  ⟨{ (flds [(.svc, 0, F.svc_MBX_STS_BUSY, 1)] (runs [(.svc, 0), (.upd, 0), (.qspi, 0)] onAll)) with sup := { onAll.sup with job := some ⟨0x10, [1, 4096, 0, 0, 0, 0, 0, 0], [], none⟩, phase := .firmware, master := 1 }, rack := { onAll.rack with coord := 0 } }, ⟨0x10, [1, 4096, 0, 0, 0, 0, 0, 0], [], none⟩, by decide⟩

/-- The hypotheses of a clause are met. -/
theorem witness_MailboxCommands_5 : ∃ (s : State) (g : Staging), (s.sound = true) ∧ (s.mbxReady) ∧ (s.masterFree = true)
  ∧ (s.sup.unread = []) ∧ (s.sup.staging = some g) ∧ (s.sup.target = none) ∧ ((s.mbxArg 0 % 2048 = 0 ∧ s.mbxArg 0 < g.len
  ∧ (if s.mbxArg 0 + 2048 < g.len then s.mbxArg 1 = 2048 else s.mbxArg 0 + s.mbxArg 1 = g.len))) ∧ ((s.mbxData (min 2048
  (s.mbxArg 1))).length = s.mbxArg 1) ∧ (0 < s.mbxArg 0) ∧ (0 ∈ g.blocks) ∧ (¬ s.mbxArg 0 ∈ g.blocks) :=
  ⟨{ (flds [(.svc, 0, F.svc_MBX_ARG_DATA.at 0, 2048), (.svc, 0, F.svc_MBX_ARG_DATA.at 4, 16)] (runs [(.svc, 0), (.upd, 0), (.qspi, 0)] onAll)) with sup := { onAll.sup with phase := .firmware, staging := some ⟨1, 1, 2064, [0]⟩ }, rack := { onAll.rack with coord := 0 } }, ⟨1, 1, 2064, [0]⟩, by decide⟩

/-- The hypotheses of a clause are met. -/
theorem witness_MailboxCommands_6 : ∃ (s : State) (g : Staging), (s.sound = true) ∧ (s.mbxReady) ∧ (s.masterFree = true)
  ∧ (s.sup.unread = []) ∧ (s.sup.staging = some g) ∧ (s.sup.target = none) ∧ ((s.mbxArg 0 % 2048 = 0 ∧ s.mbxArg 0 < g.len
  ∧ (if s.mbxArg 0 + 2048 < g.len then s.mbxArg 1 = 2048 else s.mbxArg 0 + s.mbxArg 1 = g.len))) ∧ ((s.mbxData (min 2048
  (s.mbxArg 1))).length = s.mbxArg 1) ∧ (s.mbxArg 0 = 0) ∧ (¬ 0 ∈ g.blocks) ∧ (g.part < 4) :=
  ⟨{ (flds [(.svc, 0, F.svc_MBX_ARG_DATA.at 0, 0), (.svc, 0, F.svc_MBX_ARG_DATA.at 4, 16)] (runs [(.svc, 0), (.upd, 0), (.qspi, 0)] onAll)) with sup := { onAll.sup with phase := .firmware, staging := some ⟨1, 1, 16, []⟩ }, rack := { onAll.rack with coord := 0 } }, ⟨1, 1, 16, []⟩, by decide⟩

/-- The hypotheses of a clause are met. -/
theorem witness_MailboxCommands_7 : ∃ (s : State) (g : Staging), (s.sound = true) ∧ (s.mbxReady) ∧ (s.masterFree = true)
  ∧ (s.sup.unread = []) ∧ (s.sup.staging = some g) ∧ (s.sup.target = none) ∧ ((s.mbxArg 0 % 2048 = 0 ∧ s.mbxArg 0 < g.len
  ∧ (if s.mbxArg 0 + 2048 < g.len then s.mbxArg 1 = 2048 else s.mbxArg 0 + s.mbxArg 1 = g.len))) ∧ ((s.mbxData (min 2048
  (s.mbxArg 1))).length = s.mbxArg 1) ∧ (0 < s.mbxArg 0) ∧ (0 ∈ g.blocks) ∧ (¬ s.mbxArg 0 ∈ g.blocks) :=
  ⟨{ (flds [(.svc, 0, F.svc_MBX_ARG_DATA.at 0, 2048), (.svc, 0, F.svc_MBX_ARG_DATA.at 4, 16)] (runs [(.svc, 0), (.upd, 0), (.qspi, 0)] onAll)) with sup := { onAll.sup with phase := .firmware, staging := some ⟨1, 1, 2064, [0]⟩ }, rack := { onAll.rack with coord := 0 } }, ⟨1, 1, 2064, [0]⟩, by decide⟩

/-- The hypotheses of a clause are met. -/
theorem witness_MailboxCommands_8 : ∃ (s : State) (g : Staging) (p : Bool), (s.sound = true) ∧ (s.mbxReady) ∧
  (s.masterFree = true) ∧ (s.sup.unread = []) ∧ (s.sup.staging = some g) ∧ (s.sup.target = none) ∧ ((s.mbxData (min 2048
  (s.mbxArg 1))).length = s.mbxArg 1) ∧ ((¬ (s.mbxArg 0 % 2048 = 0 ∧ s.mbxArg 0 < g.len ∧ (if s.mbxArg 0 + 2048 < g.len
  then s.mbxArg 1 = 2048 else s.mbxArg 0 + s.mbxArg 1 = g.len)) ∨ (s.mbxArg 0 ∈ g.blocks ∧ s.partRead (partId g.part
  g.slot) (s.mbxArg 0) (s.mbxArg 1) ≠ (s.mbxData (min 2048 (s.mbxArg 1)))))) :=
  ⟨{ (flds [(.svc, 0, F.svc_MBX_ARG_DATA.at 0, 100), (.svc, 0, F.svc_MBX_ARG_DATA.at 4, 16)] (runs [(.svc, 0), (.upd, 0), (.qspi, 0)] onAll)) with sup := { onAll.sup with phase := .firmware, staging := some ⟨1, 1, 2064, [0]⟩ }, rack := { onAll.rack with coord := 0 } }, ⟨1, 1, 2064, [0]⟩, true, by decide⟩

/-- The hypotheses of a clause are met. -/
theorem witness_MailboxCommands_9 : ∃ (s : State) (g : Staging), (s.sound = true) ∧ (s.mbxReady) ∧ (s.masterFree = true)
  ∧ (s.sup.unread = []) ∧ (s.sup.staging = some g) ∧ (s.sup.target = none) :=
  ⟨{ (flds [] (runs [(.svc, 0), (.upd, 0), (.qspi, 0)] onAll)) with sup := { onAll.sup with phase := .firmware, staging := some ⟨1, 1, 2064, [0]⟩ }, rack := { onAll.rack with coord := 0 } }, ⟨1, 1, 2064, [0]⟩, by decide⟩

/-- The hypotheses of a clause are met. -/
theorem witness_MailboxCommands_10 : ∃ (s : State) (g : Staging) (j : MbxJob), (s.sound = true) ∧ (s.alive .svc 0 = true)
  ∧ (s.sup.phase = .firmware) ∧ (s.sup.job = some j) ∧ (j.op = 0x12) ∧ (j.origin = none) ∧ (s.rack.held = []) ∧
  (s.sup.master = 1) ∧ (s.sup.unread = []) ∧ (s.sup.staging = some g) ∧ (g.part < 4) :=
  ⟨{ (flds [(.svc, 0, F.svc_MBX_STS_BUSY, 1)] (runs [(.svc, 0), (.upd, 0), (.qspi, 0)] onAll)) with sup := { onAll.sup with job := some ⟨0x12, [0, 0, 0, 0, 0, 0, 0, 0], [], none⟩, phase := .firmware, master := 1, staging := some ⟨1, 1, 2064, [0, 2048]⟩ }, rack := { onAll.rack with coord := 0 } }, ⟨1, 1, 2064, [0, 2048]⟩, ⟨0x12, [0, 0, 0, 0, 0, 0, 0, 0], [], none⟩, by decide⟩

/-- The hypotheses of a clause are met. -/
theorem witness_MailboxCommands_11 : ∃ (s : State) (g : Staging), (s.sound = true) ∧ (s.mbxReady) ∧ (s.masterFree = true)
  ∧ (s.sup.unread = []) ∧ (s.sup.staging = some g) ∧ (s.sup.target = none) ∧ (g.part < 4) :=
  ⟨{ (flds [] (runs [(.svc, 0), (.upd, 0), (.qspi, 0)] onAll)) with sup := { onAll.sup with phase := .firmware, staging := some ⟨1, 1, 2064, [0]⟩ }, rack := { onAll.rack with coord := 0 } }, ⟨1, 1, 2064, [0]⟩, by decide⟩

/-- The hypotheses of a clause are met. -/
theorem witness_MailboxCommands_12 : ∃ (s : State), (s.sound = true) ∧ (s.mbxReady) ∧ (s.masterFree = true) ∧
  (s.sup.unread = []) :=
  ⟨{ (flds [] (runs [(.svc, 0), (.upd, 0), (.qspi, 0)] onAll)) with sup := { onAll.sup with phase := .firmware }, rack := { onAll.rack with coord := 0 } }, by decide⟩

/-- The hypotheses of a clause are met. -/
theorem witness_MailboxCommands_13 : ∃ (s : State), (s.sound = true) ∧ (s.mbxReady) :=
  ⟨{ (flds [] (runs [(.svc, 0), (.upd, 0), (.qspi, 0)] onAll)) with sup := { onAll.sup with phase := .firmware }, rack := { onAll.rack with coord := 0 } }, by decide⟩

/-- The hypotheses of a clause are met. -/
theorem witness_MailboxCommands_14 : ∃ (s : State), (s.sound = true) ∧ (s.mbxReady) ∧ (s.masterFree = true) ∧
  (s.sup.unread = []) :=
  ⟨{ (flds [] (runs [(.svc, 0), (.upd, 0), (.qspi, 0)] onAll)) with sup := { onAll.sup with phase := .firmware }, rack := { onAll.rack with coord := 0 } }, by decide⟩

/-- The hypotheses of a clause are met. -/
theorem witness_MailboxCommands_15 : ∃ (s : State), (s.sound = true) ∧ (s.mbxReady) :=
  ⟨{ (flds [] (runs [(.svc, 0), (.upd, 0), (.qspi, 0)] onAll)) with sup := { onAll.sup with phase := .firmware }, rack := { onAll.rack with coord := 0 } }, by decide⟩

/-- The hypotheses of a clause are met. -/
theorem witness_MailboxCommands_16 : ∃ (s : State) (j : MbxJob), (s.sound = true) ∧ (s.alive .svc 0 = true) ∧
  (s.sup.phase = .firmware) ∧ (s.sup.job = some j) ∧ (j.op = 0x40) ∧ (j.origin = none) ∧ (s.rack.held = []) ∧
  (s.sup.tableDue = false) :=
  ⟨{ (flds [(.svc, 0, F.svc_MBX_STS_BUSY, 1)] (runs [(.svc, 0), (.upd, 0), (.qspi, 0)] onAll)) with sup := { onAll.sup with job := some ⟨0x40, [1, 0, 0, 0, 0, 0, 0, 0], List.replicate 32 3, none⟩, phase := .firmware }, rack := { onAll.rack with coord := 0 } }, ⟨0x40, [1, 0, 0, 0, 0, 0, 0, 0], List.replicate 32 3, none⟩, by decide⟩

/-- The hypotheses of a clause are met. -/
theorem witness_MailboxCommands_17 : ∃ (s : State) (m : UpdMsg) (p : Bool), (s.sound = true) ∧ (s.alive .svc 0 = true) ∧
  (m.target = s.unitPath) ∧ (s.sup.phase = .firmware) ∧ ((s.sup.job.isSome = true ∨ s.gf svcB F.svc_MBX_STS_BUSY = 1)) :=
  ⟨{ (flds [(.svc, 0, F.svc_MBX_STS_BUSY, 1)] (runs [(.svc, 0), (.upd, 0), (.qspi, 0)] onAll)) with sup := { onAll.sup with phase := .firmware }, rack := { onAll.rack with coord := 0 } }, ⟨[0, 0, 0, 0], [1, 0, 0, 0], 0, 0, 0, 0, beBytes 4 3 ++ List.replicate 16 0⟩, true, by decide⟩

/-- The hypotheses of a clause are met. -/
theorem witness_MailboxCommands_18 : ∃ (s : State) (m : UpdMsg) (p : Bool), (m.target = s.unitPath) ∧ ((s.sup.phase =
  .off ∨ s.sup.phase = .bootRom)) ∧ (s.rack.held.length < 16) :=
  ⟨{ (flds [] (runs [(.svc, 0), (.upd, 0), (.qspi, 0)] onAll)) with sup := { onAll.sup with phase := .bootRom }, rack := { onAll.rack with coord := 0 } }, ⟨[0, 0, 0, 0], [1, 0, 0, 0], 0, 0, 0, 0, beBytes 4 3 ++ List.replicate 16 0⟩, true, by decide⟩

/-- The hypotheses of a clause are met. -/
theorem witness_MailboxCommands_19 : ∃ (s : State) (m : UpdMsg), (s.sound = true) ∧ (s.alive .svc 0 = true) ∧ (m.target =
  s.unitPath) ∧ (s.sup.phase = .firmware) ∧ (s.sup.remote = some m.origin) ∧ (s.sup.job = none) :=
  ⟨{ (flds [] (runs [(.svc, 0), (.upd, 0), (.qspi, 0)] onAll)) with sup := { onAll.sup with phase := .firmware, remote := some [1, 0, 0, 0] }, rack := { onAll.rack with coord := 0 } }, ⟨[0, 0, 0, 0], [1, 0, 0, 0], 0, 0, 0, 0, beBytes 4 3 ++ List.replicate 16 0⟩, by decide⟩

/-- The hypotheses of a clause are met. -/
theorem witness_MailboxCommands_20 : ∃ (s : State), (s.sound = true) ∧ (s.alive .svc 0 = true) ∧ (s.sup.phase =
  .firmware) ∧ (s.sup.remote.isSome = true) ∧ (s.sup.job = none) :=
  ⟨{ (flds [] (runs [(.svc, 0), (.upd, 0), (.qspi, 0)] onAll)) with sup := { onAll.sup with phase := .firmware, remote := some [1, 0, 0, 0] }, rack := { onAll.rack with coord := 0 } }, by decide⟩

/-- The hypotheses of a clause are met. -/
theorem witness_RackingCoordinator_1 : ∃ (s : State), (s.sound = true) ∧ (s.mbxReady) ∧ (s.masterFree = true) ∧
  (s.sup.unread = []) :=
  ⟨{ (flds [] (runs [(.svc, 0), (.upd, 0), (.qspi, 0)] onAll)) with sup := { onAll.sup with phase := .firmware }, rack := { onAll.rack with coord := 0 } }, by decide⟩

/-- The hypotheses of a clause are met. -/
theorem witness_RackingCoordinator_2 : ∃ (s : State), (s.sound = true) ∧ (s.mbxReady) ∧ (s.rack.coord = 3) ∧ (s.farUnits)
  :=
  ⟨{ (flds [] (runs [(.svc, 0), (.upd, 0), (.qspi, 0)] onAll)) with sup := { onAll.sup with phase := .firmware }, rack := { onAll.rack with coord := 3, units := [⟨[1, 0, 0, 0], [], false, [], [], []⟩] } }, by decide⟩

/-- The hypotheses of a clause are met. -/
theorem witness_RackingCoordinator_3 : ∃ (s : State), (s.sound = true) ∧ (s.mbxReady) ∧ (s.rack.coord = 3) ∧ (s.farUnits)
  :=
  ⟨{ (flds [] (runs [(.svc, 0), (.upd, 0), (.qspi, 0)] onAll)) with sup := { onAll.sup with phase := .firmware }, rack := { onAll.rack with coord := 3, units := [⟨[1, 0, 0, 0], [], false, [], [], []⟩] } }, by decide⟩

/-- The hypotheses of a clause are met. -/
theorem witness_RackingCoordinator_4 : ∃ (s : State), (s.sound = true) ∧ (s.mbxReady) ∧ (s.rack.coord ≠ 3) :=
  ⟨{ (flds [] (runs [(.svc, 0), (.upd, 0), (.qspi, 0)] onAll)) with sup := { onAll.sup with phase := .firmware }, rack := { onAll.rack with coord := 0 } }, by decide⟩

/-- The hypotheses of a clause are met. -/
theorem witness_RackingCoordinator_5 : ∃ (s : State), (s.sound = true) ∧ (s.mbxReady) ∧ (s.rack.coord ≠ 3) :=
  ⟨{ (flds [] (runs [(.svc, 0), (.upd, 0), (.qspi, 0)] onAll)) with sup := { onAll.sup with phase := .firmware }, rack := { onAll.rack with coord := 0 } }, by decide⟩

/-- The hypotheses of a clause are met. -/
theorem witness_RackingCoordinator_6 : ∃ (s : State) (twin : Bool) (m : UpdMsg), (s.sound = true) ∧ (s.domOn 3 = true) ∧
  (s.rack.coord = 1) ∧ (s.isOurs m) ∧ (m.code ≠ 0) ∧ (s.rack.units.any (fun u => u.path == m.origin) = true) ∧
  (s.farUnits) :=
  ⟨{ (flds [] (runs [(.svc, 0), (.upd, 0), (.qspi, 0)] onAll)) with sup := { onAll.sup with phase := .firmware }, rack := { onAll.rack with coord := 1, units := [⟨[1, 0, 0, 0], [], false, [], [], []⟩] } }, false, ⟨[0, 0, 0, 0], [1, 0, 0, 0], 0, 14, 0, 0, []⟩, by decide⟩

/-- The hypotheses of a clause are met. -/
theorem witness_RackingCoordinator_7 : ∃ (s : State) (twin : Bool) (m : UpdMsg), (s.sound = true) ∧ (s.domOn 3 = true) ∧
  (s.rack.coord = 1) ∧ (s.isOurs m) ∧ (m.code = 0) ∧ (s.rack.units.all (fun u => answered (u.twin || (twin && u.path ==
  m.origin)) (if u.path = m.origin then u.ready ++ [(m.flags, m.code)] else u.ready)) = true) ∧ (s.farUnits) :=
  ⟨{ (flds [] (runs [(.svc, 0), (.upd, 0), (.qspi, 0)] onAll)) with sup := { onAll.sup with phase := .firmware }, rack := { onAll.rack with coord := 1, units := [⟨[1, 0, 0, 0], [], false, [], [], []⟩] } }, false, ⟨[0, 0, 0, 0], [1, 0, 0, 0], 0, 0, 0, 0, []⟩, by decide⟩

/-- The hypotheses of a clause are met. -/
theorem witness_RackingCoordinator_8 : ∃ (s : State) (twin : Bool) (m : UpdMsg), (s.sound = true) ∧ (s.domOn 3 = true) ∧
  (s.rack.coord = 1) ∧ (s.isOurs m) ∧ (m.code = 0) ∧ (¬ (s.rack.units.all (fun u => answered (u.twin || (twin && u.path
  == m.origin)) (if u.path = m.origin then u.ready ++ [(m.flags, m.code)] else u.ready)) = true)) :=
  ⟨{ (flds [] (runs [(.svc, 0), (.upd, 0), (.qspi, 0)] onAll)) with sup := { onAll.sup with phase := .firmware }, rack := { onAll.rack with coord := 1, units := [⟨[1, 0, 0, 0], [], false, [], [], []⟩, ⟨[2, 0, 0, 0], [], false, [], [], []⟩] } }, false, ⟨[0, 0, 0, 0], [1, 0, 0, 0], 0, 0, 0, 0, []⟩, by decide⟩

/-- The hypotheses of a clause are met. -/
theorem witness_RackingCoordinator_9 : ∃ (s : State) (twin : Bool) (m : UpdMsg), (s.sound = true) ∧ (s.domOn 3 = true) ∧
  (s.rack.coord = 2) ∧ (s.isOurs m) ∧ (m.code = 0) ∧ (s.rack.units.any (fun u => u.path == m.origin) = true) ∧
  (s.rack.units.all (fun u => answered (u.twin || (twin && u.path == m.origin)) (if u.path = m.origin then u.done ++
  [(m.flags, m.code)] else u.done)) = true) :=
  ⟨{ (flds [] (runs [(.svc, 0), (.upd, 0), (.qspi, 0)] onAll)) with sup := { onAll.sup with phase := .firmware }, rack := { onAll.rack with coord := 2, units := [⟨[1, 0, 0, 0], [], false, [], [], []⟩] } }, false, ⟨[0, 0, 0, 0], [1, 0, 0, 0], 0, 0, 0, 0, []⟩, by decide⟩

/-- The hypotheses of a clause are met. -/
theorem witness_RackingCoordinator_10 : ∃ (s : State) (twin : Bool) (m : UpdMsg), (s.sound = true) ∧ (s.domOn 3 = true) ∧
  (s.rack.coord = 2) ∧ (s.isOurs m) ∧ (m.code ≠ 0) ∧ (s.rack.units.any (fun u => u.path == m.origin) = true) ∧
  (s.farUnits) :=
  ⟨{ (flds [] (runs [(.svc, 0), (.upd, 0), (.qspi, 0)] onAll)) with sup := { onAll.sup with phase := .firmware }, rack := { onAll.rack with coord := 2, units := [⟨[1, 0, 0, 0], [], false, [], [], []⟩] } }, false, ⟨[0, 0, 0, 0], [1, 0, 0, 0], 0, 16, 0, 0, []⟩, by decide⟩

/-- The hypotheses of a clause are met. -/
theorem witness_RackingCoordinator_11 : ∃ (s : State) (twin : Bool) (m : UpdMsg), (s.sound = true) ∧ (s.domOn 3 = true) ∧
  (s.rack.coord = 4) ∧ (s.isOurs m) ∧ (m.time = s.tRev) ∧ (s.rack.units.all (fun u => answered (u.twin || (twin && u.path
  == m.origin)) (if u.path = m.origin then u.reverted ++ [(m.flags, m.code)] else u.reverted)) = true) :=
  ⟨{ (flds [] (runs [(.svc, 0), (.upd, 0), (.qspi, 0)] onAll)) with sup := { onAll.sup with phase := .firmware }, rack := { onAll.rack with coord := 4, units := [⟨[1, 0, 0, 0], [], false, [], [], []⟩] } }, false, ⟨[0, 0, 0, 0], [1, 0, 0, 0], 0, 0, 0, 0, []⟩, by decide⟩

/-- The hypotheses of a clause are met. -/
theorem witness_RackingCoordinator_12 : ∃ (s : State), (s.sound = true) ∧ (s.domOn 3 = true) ∧ (s.rack.coord = 1) ∧
  (s.tAct ≤ s.now + s.updMs F.upd_RACK_TMR1_ARM_LEAD_MS) ∧ (s.farUnits) :=
  ⟨{ (flds [] (runs [(.svc, 0), (.upd, 0), (.qspi, 0)] onAll)) with sup := { onAll.sup with phase := .firmware }, rack := { onAll.rack with coord := 1, units := [⟨[1, 0, 0, 0], [], false, [], [], []⟩] } }, by decide⟩

/-- The hypotheses of a clause are met. -/
theorem witness_RackingCoordinator_13 : ∃ (s : State), (s.sound = true) ∧ (s.domOn 3 = true) ∧ (s.rack.coord = 2) ∧
  (s.tAct + s.updMs F.upd_RACK_TMR2_CHECK_MS ≤ s.now) ∧ (s.farUnits) :=
  ⟨{ { (flds [] (runs [(.svc, 0), (.upd, 0), (.qspi, 0)] onAll)) with sup := { onAll.sup with phase := .firmware }, rack := { onAll.rack with coord := 2, units := [⟨[1, 0, 0, 0], [], false, [], [], []⟩] } } with time := 60000000 * 2 ^ 28 }, by decide⟩

/-- The hypotheses of a clause are met. -/
theorem witness_RackingCoordinator_14 : ∃ (s : State), (s.sound = true) ∧ (s.domOn 3 = true) ∧ (s.rack.coord = 4) ∧
  (s.tRev + s.updMs F.upd_RACK_TMR2_CHECK_MS ≤ s.now) :=
  ⟨{ { (flds [] (runs [(.svc, 0), (.upd, 0), (.qspi, 0)] onAll)) with sup := { onAll.sup with phase := .firmware }, rack := { onAll.rack with coord := 4, units := [⟨[1, 0, 0, 0], [], false, [], [], []⟩] } } with time := 60000000 * 2 ^ 28 }, by decide⟩

/-- The hypotheses of a clause are met. -/
theorem witness_RackingParticipant_1 : ∃ (s : State) (m : UpdMsg) (ecc : List (Nat × Nat)), (s.sound = true) ∧ (s.domOn 3
  = true) ∧ (s.sup.phase = .firmware) ∧ (s.rack.part = 0) ∧ (m.target = s.unitPath) :=
  ⟨{ (flds [] (runs [(.svc, 0), (.upd, 0), (.qspi, 0)] onAll)) with sup := { onAll.sup with phase := .firmware }, rack := { onAll.rack with part := 0, origin := [1, 0, 0, 0] } }, ⟨[0, 0, 0, 0], [1, 0, 0, 0], 0, 0, 0, 9, []⟩, [], by decide⟩

/-- The hypotheses of a clause are met. -/
theorem witness_RackingParticipant_2 : ∃ (s : State) (e : Bytes) (l : List Bytes), (s.sup.unread = []) :=
  ⟨{ (flds [] (runs [(.svc, 0), (.upd, 0), (.qspi, 0)] onAll)) with sup := { onAll.sup with phase := .firmware }, rack := { onAll.rack with coord := 0 } }, List.replicate 64 0, [], by decide⟩

/-- The hypotheses of a clause are met. -/
theorem witness_RackingParticipant_3 : ∃ (s : State) (ecc : List (Nat × Nat)), (s.sound = true) ∧ (s.domOn 3 = true) ∧
  (s.sup.phase = .firmware) ∧ (s.rack.part = 8) ∧ (s.gf sgB F.sigGlobal_BUILD_STS_BUSY = 0) ∧ (s.masterFree = true) ∧
  (s.rack.todo = []) ∧ (s.rack.code = 0) ∧ ((s.rack.building = true → s.gf sgB F.sigGlobal_BUILD_STS_RESULT = 0)) ∧
  (s.farOrigin) :=
  ⟨{ (flds [] (runs [(.svc, 0), (.upd, 0), (.qspi, 0)] onAll)) with sup := { onAll.sup with phase := .firmware }, rack := { onAll.rack with part := 8, origin := [1, 0, 0, 0] } }, [], by decide⟩

/-- The hypotheses of a clause are met. -/
theorem witness_RackingParticipant_4 : ∃ (s : State), (s.sound = true) ∧ (s.domOn 3 = true) ∧ (s.sup.phase = .firmware) ∧
  (s.rack.part = 8) ∧ (s.gf sgB F.sigGlobal_BUILD_STS_BUSY = 0) ∧ (s.masterFree = true) ∧ (s.rack.todo = []) ∧
  (s.rack.building = false) ∧ (s.sup.unread = []) ∧ (s.rack.code = 0) ∧ (s.rack.entries.all (fun e => entPart e == 0 ||
  entPart e == 2) = true) ∧ (s.farOrigin) :=
  ⟨{ (flds [] (runs [(.svc, 0), (.upd, 0), (.qspi, 0)] onAll)) with sup := { onAll.sup with phase := .firmware }, rack := { onAll.rack with part := 8, origin := [1, 0, 0, 0] } }, by decide⟩

/-- The hypotheses of a clause are met. -/
theorem witness_RackingParticipant_5 : ∃ (s : State), (s.sound = true) ∧ (s.domOn 3 = true) ∧ (s.sup.phase = .firmware) ∧
  (s.rack.part = 8) ∧ (s.gf sgB F.sigGlobal_BUILD_STS_BUSY = 0) ∧ (s.masterFree = true) ∧ (s.rack.todo = []) ∧
  (s.rack.building = false) ∧ (s.sup.unread = []) ∧ (s.rack.code ≠ 0) ∧ (s.farOrigin) :=
  ⟨{ (flds [] (runs [(.svc, 0), (.upd, 0), (.qspi, 0)] onAll)) with sup := { onAll.sup with phase := .firmware }, rack := { onAll.rack with part := 8, origin := [1, 0, 0, 0], code := 14 } }, by decide⟩

/-- The hypotheses of a clause are met. -/
theorem witness_RackingParticipant_6 : ∃ (s : State) (ecc : List (Nat × Nat)), (s.sound = true) ∧ (s.domOn 3 = true) ∧
  (s.sup.phase = .firmware) ∧ (s.rack.part = 8) ∧ (s.gf sgB F.sigGlobal_BUILD_STS_BUSY = 0) ∧ (s.masterFree = true) ∧
  (s.rack.building = true) ∧ (s.gf sgB F.sigGlobal_BUILD_STS_RESULT ≠ 0) ∧ (s.farOrigin) :=
  ⟨flds [(.sigGlobal, 0, F.sigGlobal_BUILD_STS_RESULT, 5)] ({ (flds [] (runs [(.svc, 0), (.upd, 0), (.qspi, 0)] onAll)) with sup := { onAll.sup with phase := .firmware }, rack := { onAll.rack with part := 8, origin := [1, 0, 0, 0], building := true } }), [], by decide⟩

/-- The hypotheses of a clause are met. -/
theorem witness_RackingParticipant_7 : ∃ (s : State) (m : UpdMsg), (s.sound = true) ∧ (s.domOn 3 = true) ∧ (s.sup.phase =
  .firmware) ∧ (s.rack.part = 9) ∧ (s.isOurs m) :=
  ⟨{ (flds [] (runs [(.svc, 0), (.upd, 0), (.qspi, 0)] onAll)) with sup := { onAll.sup with phase := .firmware }, rack := { onAll.rack with part := 9, origin := [1, 0, 0, 0] } }, ⟨[0, 0, 0, 0], [1, 0, 0, 0], 0, 0, 0, 9, []⟩, by decide⟩

/-- The hypotheses of a clause are met. -/
theorem witness_RackingParticipant_8 : ∃ (s : State) (m : UpdMsg), (s.sound = true) ∧ (s.domOn 3 = true) ∧ (s.sup.phase =
  .firmware) ∧ (s.rack.part = 9) ∧ (s.isOurs m) :=
  ⟨{ (flds [] (runs [(.svc, 0), (.upd, 0), (.qspi, 0)] onAll)) with sup := { onAll.sup with phase := .firmware }, rack := { onAll.rack with part := 9, origin := [1, 0, 0, 0] } }, ⟨[0, 0, 0, 0], [1, 0, 0, 0], 0, 0, 0, 9, []⟩, by decide⟩

/-- The hypotheses of a clause are met. -/
theorem witness_RackingParticipant_9 : ∃ (s : State) (m : UpdMsg), (s.sound = true) ∧ (s.domOn 3 = true) ∧ (s.sup.phase =
  .firmware) ∧ (s.rack.part = 9) ∧ (s.isOurs m) ∧ (s.rack.gens = []) ∧ (s.rackHas 1 = false) ∧ (s.rackHas 3 = false) :=
  ⟨{ (flds [] (runs [(.svc, 0), (.upd, 0), (.qspi, 0)] onAll)) with sup := { onAll.sup with phase := .firmware }, rack := { onAll.rack with part := 9, origin := [1, 0, 0, 0] } }, ⟨[0, 0, 0, 0], [1, 0, 0, 0], 0, 0, 0, 9, []⟩, by decide⟩

/-- The hypotheses of a clause are met. -/
theorem witness_RackingParticipant_10 : ∃ (s : State), (s.sound = true) ∧ (s.domOn 3 = true) ∧ (s.sup.phase = .firmware)
  ∧ (s.rack.part = 9) ∧ (s.tAct ≤ s.now + s.updMs F.upd_RACK_TMR1_GUARD_MS) ∧ (s.farOrigin) :=
  ⟨{ (flds [] (runs [(.svc, 0), (.upd, 0), (.qspi, 0)] onAll)) with sup := { onAll.sup with phase := .firmware }, rack := { onAll.rack with part := 9, origin := [1, 0, 0, 0] } }, by decide⟩

/-- The hypotheses of a clause are met. -/
theorem witness_RackingParticipant_11 : ∃ (s : State), (s.sound = true) ∧ (s.domOn 3 = true) ∧ (s.sup.phase = .firmware)
  ∧ (s.rack.part = 10) ∧ (s.tAct ≤ s.now) ∧ (s.actionsFailed = some false) ∧ (s.rack.held = []) ∧ (s.farOrigin) :=
  ⟨{ (flds [] (runs [(.svc, 0), (.upd, 0), (.qspi, 0)] onAll)) with sup := { onAll.sup with phase := .firmware }, rack := { onAll.rack with part := 10, origin := [1, 0, 0, 0] } }, by decide⟩

/-- The hypotheses of a clause are met. -/
theorem witness_RackingParticipant_12 : ∃ (s : State), (s.sound = true) ∧ (s.domOn 3 = true) ∧ (s.sup.phase = .firmware)
  ∧ (s.rack.part = 10) ∧ (s.tAct ≤ s.now) ∧ (s.actionsFailed = some true) ∧ (s.rack.held = []) ∧ (s.farOrigin) :=
  ⟨{ (flds [] (runs [(.svc, 0), (.upd, 0), (.qspi, 0)] onAll)) with sup := { onAll.sup with phase := .firmware }, rack := { onAll.rack with part := 10, origin := [1, 0, 0, 0], gens := [(3, 0)] } }, by decide⟩

/-- The hypotheses of a clause are met. -/
theorem witness_RackingParticipant_13 : ∃ (s : State), (s.sound = true) ∧ (s.domOn 3 = true) ∧ (s.sup.phase = .firmware)
  ∧ (s.rack.part = 10) ∧ (s.tAct ≤ s.now) ∧ (s.rackHas 0 = true) ∧ (s.rack.restarted = false) ∧ (s.actionsFailed = none)
  :=
  ⟨{ (flds [] (runs [(.svc, 0), (.upd, 0), (.qspi, 0)] onAll)) with sup := { onAll.sup with phase := .firmware }, rack := { onAll.rack with part := 10, origin := [1, 0, 0, 0], entries := [List.replicate 64 0] } }, by decide⟩

/-- The hypotheses of a clause are met. -/
theorem witness_RackingParticipant_14 : ∃ (s : State) (m : UpdMsg), (s.sound = true) ∧ (s.domOn 3 = true) ∧ (s.sup.phase
  = .firmware) ∧ (s.rack.part = 10) ∧ (s.isOurs m) ∧ (s.now < s.tAct) :=
  ⟨flds [(.upd, 0, F.upd_T_ACT_LO_NS, 9)] { (flds [] (runs [(.svc, 0), (.upd, 0), (.qspi, 0)] onAll)) with sup := { onAll.sup with phase := .firmware }, rack := { onAll.rack with part := 10, origin := [1, 0, 0, 0] } }, ⟨[0, 0, 0, 0], [1, 0, 0, 0], 0, 0, 0, 9, []⟩, by decide⟩

/-- The hypotheses of a clause are met. -/
theorem witness_RackingParticipant_15 : ∃ (s : State) (m : UpdMsg), (s.sound = true) ∧ (s.domOn 3 = true) ∧ (s.sup.phase
  = .firmware) ∧ ((s.rack.part = 11 ∨ s.rack.part = 12)) ∧ (s.isOurs m) ∧ (s.rackHas 1 = false) ∧ (s.rackHas 3 = false)
  :=
  ⟨{ (flds [] (runs [(.svc, 0), (.upd, 0), (.qspi, 0)] onAll)) with sup := { onAll.sup with phase := .firmware }, rack := { onAll.rack with part := 11, origin := [1, 0, 0, 0] } }, ⟨[0, 0, 0, 0], [1, 0, 0, 0], 0, 0, 0, 9, []⟩, by decide⟩

/-- The hypotheses of a clause are met. -/
theorem witness_RackingParticipant_16 : ∃ (s : State), (s.sound = true) ∧ (s.domOn 3 = true) ∧ (s.sup.phase = .firmware)
  ∧ (s.rack.part = 13) ∧ (s.tRev ≤ s.now) ∧ ((s.rackHas 0 = false ∨ s.rack.taken = false ∨ s.rack.restarted = true)) ∧
  (s.rack.held = []) ∧ (s.farOrigin) :=
  ⟨{ (flds [] (runs [(.svc, 0), (.upd, 0), (.qspi, 0)] onAll)) with sup := { onAll.sup with phase := .firmware }, rack := { onAll.rack with part := 13, origin := [1, 0, 0, 0] } }, by decide⟩

/-- The hypotheses of a clause are met. -/
theorem witness_RackingParticipant_17 : ∃ (s : State) (m : UpdMsg), (s.sound = true) ∧ (s.domOn 3 = true) ∧ (s.sup.phase
  = .firmware) ∧ (s.rack.part = 11) ∧ (s.isOurs m) :=
  ⟨{ (flds [] (runs [(.svc, 0), (.upd, 0), (.qspi, 0)] onAll)) with sup := { onAll.sup with phase := .firmware }, rack := { onAll.rack with part := 11, origin := [1, 0, 0, 0] } }, ⟨[0, 0, 0, 0], [1, 0, 0, 0], 0, 0, 0, 9, []⟩, by decide⟩

/-- The hypotheses of a clause are met. -/
theorem witness_RackingParticipant_18 : ∃ (s : State) (m : UpdMsg), (m.target = s.unitPath) ∧ ((s.sup.phase = .off ∨
  s.sup.phase = .bootRom)) ∧ (s.rack.held.length < 16) :=
  ⟨{ (flds [] (runs [(.svc, 0), (.upd, 0), (.qspi, 0)] onAll)) with sup := { onAll.sup with phase := .bootRom }, rack := { onAll.rack with coord := 0 } }, ⟨[0, 0, 0, 0], [1, 0, 0, 0], 0, 0, 0, 0, []⟩, by decide⟩

/-- The hypotheses of a clause are met. -/
theorem witness_RackingParticipant_19 : ∃ (s : State) (m : UpdMsg), (m.target ≠ s.unitPath) :=
  ⟨onAll, ⟨[5, 0, 0, 0], [1, 0, 0, 0], 0, 0, 0, 0, []⟩, by decide⟩

/-- The hypotheses of a clause are met. -/
theorem witness_DegradedOperation_2 : ∃ (s : State) (w : Word), (s.sound = true) ∧ (s.domOn 3 = true) ∧ (s.unwatched (guB
  + 0x044)) ∧ (w.getLsbD 30 = false) :=
  ⟨{ (flds [(.pwrMain, 0, F.pwrMain_PSTATE_STATE, 4), (.caskRec, 0, F.caskRec_STS_SCANNED, 1)] (runs [(.guardGlobal, 0)] onAll)) with guard := { State.reset.guard with batch := none } }, 0x00070082, by decide⟩

/-- The hypotheses of a clause are met. -/
theorem witness_DegradedOperation_3 : ∃ (s : State) (w : Word), (s.sound = true) ∧ (s.domOn 3 = true) ∧ (s.unwatched (guB
  + 0x044)) ∧ (w.getLsbD 30 = true) ∧ (s.pstate = 5) :=
  ⟨{ (flds [(.pwrMain, 0, F.pwrMain_PSTATE_STATE, 4), (.caskRec, 0, F.caskRec_STS_SCANNED, 1), (.pwrMain, 0, F.pwrMain_PSTATE_STATE, 5)] (runs [(.guardGlobal, 0)] onAll)) with guard := { State.reset.guard with batch := none } }, 0x40070082, by decide⟩

/-- The hypotheses of a clause are met. -/
theorem witness_DegradedOperation_4 : ∃ (s : State) (c d : Nat) (rest : List (Nat × Nat)), (s.sound = true) ∧ (s.domOn 3
  = true) ∧ (s.degPend = (c, d) :: rest) ∧ (s.sup.phase = .firmware) ∧ (3 ≤ s.pstate) ∧ (c < 8) ∧ (d < 2 ^ 15) :=
  ⟨{ (flds [(.pwrMain, 0, F.pwrMain_PSTATE_STATE, 4), (.caskRec, 0, F.caskRec_STS_SCANNED, 1)] (runs [(.guardGlobal, 0)] onAll)) with guard := { State.reset.guard with batch := none }, degPend := [(7, 0x80)], sup := { onAll.sup with phase := .firmware } }, 7, 0x80, [], by decide⟩

/-- The hypotheses of a clause are met. -/
theorem witness_DegradedOperation_5 : ∃ (s : State), (s.sup.phase = .off ∨ s.sup.phase = .bootRom) :=
  ⟨onAll, by decide⟩

/-- The hypotheses of a clause are met. -/
theorem witness_DegradedOperation_6 : ∃ (s : State) (w : Word), (s.sound = true) ∧ (s.domOn 3 = true) ∧ (s.unwatched (guB
  + 0x044)) ∧ (w.getLsbD 31 = false) :=
  ⟨{ (flds [(.pwrMain, 0, F.pwrMain_PSTATE_STATE, 4), (.caskRec, 0, F.caskRec_STS_SCANNED, 1), (.pwrMain, 0, F.pwrMain_PSTATE_STATE, 5)] (runs [(.guardGlobal, 0)] onAll)) with guard := { State.reset.guard with batch := none } }, 0, by decide⟩

/-- The hypotheses of a clause are met. -/
theorem witness_DegradedOperation_7 : ∃ (s : State) (n : Nat), (s.sound = true) ∧ (s.domOn 3 = true) ∧ (s.dieLost =
  false) ∧ (3 ≤ n) :=
  ⟨{ (flds [(.pwrMain, 0, F.pwrMain_PSTATE_STATE, 4), (.caskRec, 0, F.caskRec_STS_SCANNED, 1)] (runs [(.guardGlobal, 0)] onAll)) with guard := { State.reset.guard with batch := none } }, 3, by decide⟩

/-- The hypotheses of a clause are met. -/
theorem witness_DegradedOperation_8 : ∃ (s : State) (n : Nat), (n < 3) :=
  ⟨onAll, 2, by decide⟩

/-- The hypotheses of a clause are met. -/
theorem witness_DegradedOperation_9 : ∃ (s : State), (s.sound = true) ∧ (s.domOn 3 = true) ∧ (s.dieLost = true) ∧
  (s.sup.phase = .firmware) :=
  ⟨{ { (flds [(.pwrMain, 0, F.pwrMain_PSTATE_STATE, 4), (.caskRec, 0, F.caskRec_STS_SCANNED, 1)] (runs [(.guardGlobal, 0)] onAll)) with guard := { State.reset.guard with batch := none } } with dieLost := true, sup := { onAll.sup with phase := .firmware } }, by decide⟩

/-- The hypotheses of a clause are met. -/
theorem witness_CellarerCycle_1 : ∃ (s : State), (s.sound = true) ∧ (s.run .guardGlobal 0 = true) ∧ (s.rulesOn.all (fun q
  => decide (s.ruleF q F.guardRule_SRC_ADDR < 2 ^ 26)) = true) :=
  ⟨{ (flds [(.pwrMain, 0, F.pwrMain_PSTATE_STATE, 4), (.caskRec, 0, F.caskRec_STS_SCANNED, 1), (.guardRule, 0, F.guardRule_RULE_CTL_EN, 1), (.guardRule, 0, F.guardRule_RULE_CTL_HOLD, 1), (.guardRule, 0, F.guardRule_MASK_MASK, 0xFFFFFFFF), (.guardRule, 0, F.guardRule_WINDOW_CYCLES, 100), (.guardRule, 0, F.guardRule_SRC_ADDR, 0x40)] (runs [(.guardGlobal, 0)] onAll)) with guard := { State.reset.guard with batch := none } }, by decide⟩

/-- The hypotheses of a clause are met. -/
theorem witness_CellarerCycle_2 : ∃ (s : State) (r : Nat), (s.sound = true) ∧ (s.run .guardGlobal 0 = true) ∧ (r ∈
  s.rulesOn) ∧ (s.rulesOn.all (fun q => decide (s.ruleF q F.guardRule_SRC_ADDR < 2 ^ 26)) = true) ∧ ((s.ruleSt r).fresh =
  true) :=
  ⟨{ (flds [(.pwrMain, 0, F.pwrMain_PSTATE_STATE, 4), (.caskRec, 0, F.caskRec_STS_SCANNED, 1), (.guardRule, 0, F.guardRule_RULE_CTL_EN, 1), (.guardRule, 0, F.guardRule_RULE_CTL_HOLD, 1), (.guardRule, 0, F.guardRule_MASK_MASK, 0xFFFFFFFF), (.guardRule, 0, F.guardRule_WINDOW_CYCLES, 100), (.guardRule, 0, F.guardRule_SRC_ADDR, 0x40)] (runs [(.guardGlobal, 0)] onAll)) with guard := { State.reset.guard with batch := none } }, 0, by decide⟩

/-- The hypotheses of a clause are met. -/
theorem witness_CellarerCycle_3 : ∃ (s : State) (r : Nat), (s.sound = true) ∧ (s.run .guardGlobal 0 = true) ∧ (r ∈
  s.rulesOn) ∧ (s.rulesOn.all (fun q => decide (s.ruleF q F.guardRule_SRC_ADDR < 2 ^ 26)) = true) ∧ ((s.ruleSt r).fresh =
  false) :=
  ⟨{ (flds [(.pwrMain, 0, F.pwrMain_PSTATE_STATE, 4), (.caskRec, 0, F.caskRec_STS_SCANNED, 1), (.guardRule, 0, F.guardRule_RULE_CTL_EN, 1), (.guardRule, 0, F.guardRule_RULE_CTL_HOLD, 1), (.guardRule, 0, F.guardRule_MASK_MASK, 0xFFFFFFFF), (.guardRule, 0, F.guardRule_WINDOW_CYCLES, 100), (.guardRule, 0, F.guardRule_SRC_ADDR, 0x40)] (runs [(.guardGlobal, 0)] onAll)) with guard := { State.reset.guard with rules := [(0, ⟨false, 3, 3, 4, 0, 0⟩)] } }, 0, by decide⟩

/-- The hypotheses of a clause are met. -/
theorem witness_CellarerCycle_4 : ∃ (s : State) (r : Nat), (s.sound = true) ∧ (s.run .guardGlobal 0 = true) ∧ (r ∈
  s.rulesOn) ∧ (s.rulesOn.all (fun q => decide (s.ruleF q F.guardRule_SRC_ADDR < 2 ^ 26)) = true) ∧ ((s.ruleSt r).fresh =
  false) ∧ (s.ruleF r F.guardRule_RULE_CTL_LATCHED = 0) ∧ (s.ruleF r F.guardRule_RULE_CTL_HOLD ≤ (if s.ruleTrue r then
  (s.ruleSt r).held + 1 else 0)) ∧ (s.guard.queue.length + s.rulesOn.length ≤ 256) :=
  ⟨{ (flds [(.pwrMain, 0, F.pwrMain_PSTATE_STATE, 4), (.caskRec, 0, F.caskRec_STS_SCANNED, 1), (.guardRule, 0, F.guardRule_RULE_CTL_EN, 1), (.guardRule, 0, F.guardRule_RULE_CTL_HOLD, 1), (.guardRule, 0, F.guardRule_MASK_MASK, 0xFFFFFFFF), (.guardRule, 0, F.guardRule_WINDOW_CYCLES, 100), (.guardRule, 0, F.guardRule_SRC_ADDR, 0x40), (.guardRule, 0, F.guardRule_RULE_CTL_CMP, 3), (.guardRule, 0, F.guardRule_THRESH_VALUE, 77)] (runs [(.guardGlobal, 0)] onAll)) with guard := { State.reset.guard with rules := [(0, ⟨false, 3, 3, 4, 0, 0⟩)] } }, 0, by decide⟩

/-- The hypotheses of a clause are met. -/
theorem witness_CellarerCycle_5 : ∃ (s : State) (r : Nat), (s.sound = true) ∧ (s.run .guardGlobal 0 = true) ∧ (r ∈
  s.rulesOn) ∧ (s.rulesOn.all (fun q => decide (s.ruleF q F.guardRule_SRC_ADDR < 2 ^ 26)) = true) ∧ ((s.ruleSt r).fresh =
  false) ∧ (s.ruleF r F.guardRule_RULE_CTL_LATCHED = 0) ∧ ((if s.ruleTrue r then (s.ruleSt r).held + 1 else 0) < s.ruleF
  r F.guardRule_RULE_CTL_HOLD) :=
  ⟨{ (flds [(.pwrMain, 0, F.pwrMain_PSTATE_STATE, 4), (.caskRec, 0, F.caskRec_STS_SCANNED, 1), (.guardRule, 0, F.guardRule_RULE_CTL_EN, 1), (.guardRule, 0, F.guardRule_RULE_CTL_HOLD, 1), (.guardRule, 0, F.guardRule_MASK_MASK, 0xFFFFFFFF), (.guardRule, 0, F.guardRule_WINDOW_CYCLES, 100), (.guardRule, 0, F.guardRule_SRC_ADDR, 0x40), (.guardRule, 0, F.guardRule_RULE_CTL_CMP, 2), (.guardRule, 0, F.guardRule_THRESH_VALUE, 77)] (runs [(.guardGlobal, 0)] onAll)) with guard := { State.reset.guard with rules := [(0, ⟨false, 3, 3, 4, 0, 0⟩)] } }, 0, by decide⟩

/-- The hypotheses of a clause are met. -/
theorem witness_CellarerCycle_6 : ∃ (s : State) (r : Nat), (s.sound = true) ∧ (s.run .guardGlobal 0 = true) ∧ (r ∈
  s.rulesOn) ∧ (s.rulesOn.all (fun q => decide (s.ruleF q F.guardRule_SRC_ADDR < 2 ^ 26)) = true) ∧ (s.guard.queue.length
  = 256) ∧ (s.ruleF r F.guardRule_RULE_CTL_LATCHED = 0) :=
  ⟨{ (flds [(.pwrMain, 0, F.pwrMain_PSTATE_STATE, 4), (.caskRec, 0, F.caskRec_STS_SCANNED, 1), (.guardRule, 0, F.guardRule_RULE_CTL_EN, 1), (.guardRule, 0, F.guardRule_RULE_CTL_HOLD, 1), (.guardRule, 0, F.guardRule_MASK_MASK, 0xFFFFFFFF), (.guardRule, 0, F.guardRule_WINDOW_CYCLES, 100), (.guardRule, 0, F.guardRule_SRC_ADDR, 0x40)] (runs [(.guardGlobal, 0)] onAll)) with guard := { State.reset.guard with rules := [(0, ⟨false, 3, 3, 4, 0, 0⟩)], queue := List.replicate 256 ⟨0, 0, 0, 0⟩ } }, 0, by decide⟩

/-- The hypotheses of a clause are met. -/
theorem witness_CellarerCycle_7 : ∃ (s : State) (r : Nat), (s.sound = true) ∧ (s.run .guardGlobal 0 = true) ∧ (r ∈
  s.rulesOn) ∧ (s.rulesOn.all (fun q => decide (s.ruleF q F.guardRule_SRC_ADDR < 2 ^ 26)) = true) ∧ ((s.ruleSt r).fresh =
  false) ∧ (s.ruleF r F.guardRule_RULE_CTL_LATCHED = 1) :=
  ⟨{ (flds [(.pwrMain, 0, F.pwrMain_PSTATE_STATE, 4), (.caskRec, 0, F.caskRec_STS_SCANNED, 1), (.guardRule, 0, F.guardRule_RULE_CTL_EN, 1), (.guardRule, 0, F.guardRule_RULE_CTL_HOLD, 1), (.guardRule, 0, F.guardRule_MASK_MASK, 0xFFFFFFFF), (.guardRule, 0, F.guardRule_WINDOW_CYCLES, 100), (.guardRule, 0, F.guardRule_SRC_ADDR, 0x40), (.guardRule, 0, F.guardRule_RULE_CTL_LATCHED, 1), (.guardRule, 0, F.guardRule_RULE_CTL_REARM, 3), (.guardRule, 0, F.guardRule_RULE_CTL_CMP, 2), (.guardRule, 0, F.guardRule_THRESH_VALUE, 77)] (runs [(.guardGlobal, 0)] onAll)) with guard := { State.reset.guard with rules := [(0, ⟨false, 3, 3, 4, 0, 2⟩)] } }, 0, by decide⟩

/-- The hypotheses of a clause are met. -/
theorem witness_CellarerCycle_8 : ∃ (s : State) (r : Nat), (s.sound = true) ∧ (s.run .guardGlobal 0 = true) ∧ (r ∈
  s.rulesOn) ∧ (s.rulesOn.all (fun q => decide (s.ruleF q F.guardRule_SRC_ADDR < 2 ^ 26)) = true) :=
  ⟨{ (flds [(.pwrMain, 0, F.pwrMain_PSTATE_STATE, 4), (.caskRec, 0, F.caskRec_STS_SCANNED, 1), (.guardRule, 0, F.guardRule_RULE_CTL_EN, 1), (.guardRule, 0, F.guardRule_RULE_CTL_HOLD, 1), (.guardRule, 0, F.guardRule_MASK_MASK, 0xFFFFFFFF), (.guardRule, 0, F.guardRule_WINDOW_CYCLES, 100), (.guardRule, 0, F.guardRule_SRC_ADDR, 0x40)] (runs [(.guardGlobal, 0)] onAll)) with guard := { State.reset.guard with rules := [(0, ⟨false, 3, 3, 4, 0, 0⟩)] } }, 0, by decide⟩

/-- The hypotheses of a clause are met. -/
theorem witness_CellarerCycle_9 : ∃ (s : State) (l : List Nat), (s.run .guardGlobal 0 = false) :=
  ⟨onAll, [], by decide⟩

/-- The hypotheses of a clause are met. -/
theorem witness_CellarerCycle_10 : ∃ (s : State) (r : Nat), (s.sound = true) ∧ (s.alive .guardRule (r / 64) = true) ∧ (r
  < 256) ∧ (s.unwatched (pageBase .guardRule (r / 64) + 0x100 + 32 * (r % 64))) :=
  ⟨{ (flds [(.pwrMain, 0, F.pwrMain_PSTATE_STATE, 4), (.caskRec, 0, F.caskRec_STS_SCANNED, 1), (.guardRule, 0, F.guardRule_RULE_CTL_EN, 1), (.guardRule, 0, F.guardRule_RULE_CTL_HOLD, 1), (.guardRule, 0, F.guardRule_MASK_MASK, 0xFFFFFFFF), (.guardRule, 0, F.guardRule_WINDOW_CYCLES, 100), (.guardRule, 0, F.guardRule_SRC_ADDR, 0x40), (.guardRule, 0, F.guardRule_RULE_CTL_LATCHED, 1)] (runs [(.guardGlobal, 0)] onAll)) with guard := { State.reset.guard with batch := none } }, 0, by decide⟩

/-- The hypotheses of a clause are met. -/
theorem witness_CellarerActions_1 : ∃ (s : State) (a : GuardAct) (rest : List GuardAct), (s.sound = true) ∧ (s.domOn 3 =
  true) ∧ (s.guard.queue = a :: rest) ∧ (a.code = 0) ∧ (s.takes 1 16) ∧ (a.rule < 2 ^ 16) :=
  ⟨{ (flds [(.pwrMain, 0, F.pwrMain_PSTATE_STATE, 4), (.caskRec, 0, F.caskRec_STS_SCANNED, 1)] (runs [(.guardGlobal, 0)] onAll)) with guard := { State.reset.guard with queue := [⟨5, 0, 0, 0⟩] } }, ⟨5, 0, 0, 0⟩, [], by decide⟩

/-- The hypotheses of a clause are met. -/
theorem witness_CellarerActions_2 : ∃ (s : State) (a : GuardAct) (rest : List GuardAct), (s.sound = true) ∧ (s.domOn 3 =
  true) ∧ (s.guard.queue = a :: rest) ∧ (a.code = 1) :=
  ⟨{ (flds [(.pwrMain, 0, F.pwrMain_PSTATE_STATE, 4), (.caskRec, 0, F.caskRec_STS_SCANNED, 1)] (runs [(.guardGlobal, 0)] onAll)) with guard := { State.reset.guard with queue := [⟨5, 1, 0, 0x23⟩] } }, ⟨5, 1, 0, 0x23⟩, [], by decide⟩

/-- The hypotheses of a clause are met. -/
theorem witness_CellarerActions_3 : ∃ (s : State) (a : GuardAct) (rest : List GuardAct), (s.sound = true) ∧ (s.domOn 3 =
  true) ∧ (s.guard.queue = a :: rest) ∧ (a.code = 2) ∧ (0x451A0000 ≤ a.target) ∧ (a.target < 0x451B0000) ∧ (a.target % 16
  = 0) :=
  ⟨{ (flds [(.pwrMain, 0, F.pwrMain_PSTATE_STATE, 4), (.caskRec, 0, F.caskRec_STS_SCANNED, 1)] (runs [(.guardGlobal, 0)] onAll)) with guard := { State.reset.guard with queue := [⟨5, 2, 0x451A0020, 0x1234⟩] } }, ⟨5, 2, 0x451A0020, 0x1234⟩, [], by decide⟩

/-- The hypotheses of a clause are met. -/
theorem witness_CellarerActions_4 : ∃ (s : State) (a : GuardAct) (rest : List GuardAct) (n : Nat), (s.sound = true) ∧
  (s.domOn 3 = true) ∧ (s.guard.queue = a :: rest) ∧ (a.code = 3) ∧ (n < 24) ∧ (s.alive .can n = true) ∧ (s.dieLost =
  false) ∧ (a.target = caB n + 0x060) :=
  ⟨{ (flds [(.pwrMain, 0, F.pwrMain_PSTATE_STATE, 4), (.caskRec, 0, F.caskRec_STS_SCANNED, 1)] (runs [(.guardGlobal, 0)] onAll)) with guard := { State.reset.guard with queue := [⟨5, 3, 0x150060, 0⟩] } }, ⟨5, 3, 0x150060, 0⟩, [], 0, by decide⟩

/-- The hypotheses of a clause are met. -/
theorem witness_CellarerActions_5 : ∃ (s : State) (a : GuardAct) (rest : List GuardAct), (s.sound = true) ∧ (s.domOn 3 =
  true) ∧ (s.guard.queue = a :: rest) ∧ (a.code = 4) ∧ (0x44000000 ≤ a.target) ∧ (a.target < 0x44040400) ∧ (s.domOn 4 =
  true) ∧ (a.target % 16 = 0) ∧ (bitOf (s.b2w (a.target - 0x40000000 + 4)) 31 = true) :=
  ⟨{ (flds [(.pwrMain, 0, F.pwrMain_PSTATE_STATE, 4), (.caskRec, 0, F.caskRec_STS_SCANNED, 1)] (runs [(.guardGlobal, 0)] onAll)) with guard := { State.reset.guard with queue := [⟨5, 4, 0x44000010, 0⟩] }, bar2 := [(0x4000017, 0x80)] }, ⟨5, 4, 0x44000010, 0⟩, [], by decide⟩

/-- The hypotheses of a clause are met. -/
theorem witness_CellarerActions_6 : ∃ (s : State) (a : GuardAct) (rest : List GuardAct), (s.sound = true) ∧ (s.domOn 3 =
  true) ∧ (s.guard.queue = a :: rest) ∧ (a.code = 5) ∧ (s.unwatched (fabB + 0x054)) :=
  ⟨{ (flds [(.pwrMain, 0, F.pwrMain_PSTATE_STATE, 4), (.caskRec, 0, F.caskRec_STS_SCANNED, 1)] (runs [(.guardGlobal, 0)] onAll)) with guard := { State.reset.guard with queue := [⟨5, 5, 0, 0⟩] } }, ⟨5, 5, 0, 0⟩, [], by decide⟩

/-- The hypotheses of a clause are met. -/
theorem witness_CellarerActions_7 : ∃ (s : State) (a : GuardAct) (rest : List GuardAct), (s.sound = true) ∧ (s.domOn 3 =
  true) ∧ (s.guard.queue = a :: rest) ∧ (a.code = 6) ∧ (s.sig.build = none) ∧ (s.guard.batch = none) ∧ ((s.on sgB hdrLock
  = false)) :=
  ⟨{ (flds [(.pwrMain, 0, F.pwrMain_PSTATE_STATE, 4), (.caskRec, 0, F.caskRec_STS_SCANNED, 1)] (runs [(.guardGlobal, 0), (.sigGlobal, 0)] onAll)) with guard := { State.reset.guard with queue := [⟨5, 6, 0, 2⟩] } }, ⟨5, 6, 0, 2⟩, [], by decide⟩

/-- The hypotheses of a clause are met. -/
theorem witness_CellarerActions_8 : ∃ (s : State) (a : GuardAct) (rest : List GuardAct) (p : Nat), (s.sound = true) ∧
  (s.domOn 3 = true) ∧ (s.guard.queue = a :: rest) ∧ (a.code = 7) ∧ (p < 24) ∧ (a.target = (shB + 0x10C + 16 * p)) :=
  ⟨{ (flds [(.pwrMain, 0, F.pwrMain_PSTATE_STATE, 4), (.caskRec, 0, F.caskRec_STS_SCANNED, 1)] (runs [(.guardGlobal, 0)] onAll)) with guard := { State.reset.guard with queue := [⟨5, 7, 0xC210C + 0x20, 0⟩] } }, ⟨5, 7, 0xC210C + 0x20, 0⟩, [], 2, by decide⟩

/-- The hypotheses of a clause are met. -/
theorem witness_CellarerActions_9 : ∃ (s : State) (a : GuardAct) (rest : List GuardAct), (s.sound = true) ∧ (s.domOn 3 =
  true) ∧ (s.guard.queue = a :: rest) ∧ (a.code = 8) :=
  ⟨{ (flds [(.pwrMain, 0, F.pwrMain_PSTATE_STATE, 4), (.caskRec, 0, F.caskRec_STS_SCANNED, 1)] (runs [(.guardGlobal, 0)] onAll)) with guard := { State.reset.guard with queue := [⟨5, 8, 0, 0x80⟩] } }, ⟨5, 8, 0, 0x80⟩, [], by decide⟩

/-- The hypotheses of a clause are met. -/
theorem witness_CellarerActions_10 : ∃ (s : State) (a : GuardAct) (rest : List GuardAct), (s.sound = true) ∧ (s.domOn 3 =
  true) ∧ (s.guard.queue = a :: rest) ∧ (a.code = 2) ∧ (a.target < 0x451A0000 ∨ 0x451B0000 ≤ a.target ∨ a.target % 16 ≠
  0) :=
  ⟨{ (flds [(.pwrMain, 0, F.pwrMain_PSTATE_STATE, 4), (.caskRec, 0, F.caskRec_STS_SCANNED, 1)] (runs [(.guardGlobal, 0)] onAll)) with guard := { State.reset.guard with queue := [⟨5, 2, 0x451B0000, 5⟩] } }, ⟨5, 2, 0x451B0000, 5⟩, [], by decide⟩

/-- The hypotheses of a clause are met. -/
theorem witness_CellarerActions_11 : ∃ (s : State) (a : GuardAct) (rest : List GuardAct) (l : Bool), (s.sound = true) ∧
  (s.domOn 3 = true) ∧ (s.guard.queue = a :: rest) ∧ (a.code = 3) ∧ (a.target % 0x1000 ≠ 0x060) :=
  ⟨{ (flds [(.pwrMain, 0, F.pwrMain_PSTATE_STATE, 4), (.caskRec, 0, F.caskRec_STS_SCANNED, 1)] (runs [(.guardGlobal, 0)] onAll)) with guard := { State.reset.guard with queue := [⟨5, 3, 0x150064, 0⟩] } }, ⟨5, 3, 0x150064, 0⟩, [], false, by decide⟩

/-- The hypotheses of a clause are met. -/
theorem witness_CellarerActions_12 : ∃ (s : State) (a : GuardAct) (rest : List GuardAct), (s.sound = true) ∧ (s.domOn 3 =
  true) ∧ (s.guard.queue = a :: rest) ∧ (a.code = 4) ∧ (a.target % 16 ≠ 0 ∨ bitOf (s.b2w (a.target - 0x40000000 + 4)) 31
  = false) ∧ (2 ^ 30 ≤ a.target) ∧ (a.target < 2 ^ 31) :=
  ⟨{ (flds [(.pwrMain, 0, F.pwrMain_PSTATE_STATE, 4), (.caskRec, 0, F.caskRec_STS_SCANNED, 1)] (runs [(.guardGlobal, 0)] onAll)) with guard := { State.reset.guard with queue := [⟨5, 4, 0x44000010, 0⟩] } }, ⟨5, 4, 0x44000010, 0⟩, [], by decide⟩

/-- The hypotheses of a clause are met. -/
theorem witness_CellarerActions_13 : ∃ (s : State) (a : GuardAct) (rest : List GuardAct) (l : Bool), (s.sound = true) ∧
  (s.domOn 3 = true) ∧ (s.guard.queue = a :: rest) ∧ (a.code = 7) ∧ (a.target < shB + 0x10C ∨ shB + 0x10C + 16 * 24 ≤
  a.target) :=
  ⟨{ (flds [(.pwrMain, 0, F.pwrMain_PSTATE_STATE, 4), (.caskRec, 0, F.caskRec_STS_SCANNED, 1)] (runs [(.guardGlobal, 0)] onAll)) with guard := { State.reset.guard with queue := [⟨5, 7, 0xC2100, 0⟩] } }, ⟨5, 7, 0xC2100, 0⟩, [], false, by decide⟩

/-- The hypotheses of a clause are met. -/
theorem witness_CellarerActions_14 : ∃ (s : State) (a : GuardAct) (rest : List GuardAct), (s.sound = true) ∧ (s.domOn 3 =
  true) ∧ (s.guard.queue = a :: rest) ∧ (a.code = 8) ∧ (s.unwatched (guB + 0x044)) :=
  ⟨{ (flds [(.pwrMain, 0, F.pwrMain_PSTATE_STATE, 4), (.caskRec, 0, F.caskRec_STS_SCANNED, 1)] (runs [(.guardGlobal, 0)] onAll)) with guard := { State.reset.guard with queue := [⟨5, 8, 0, 0x80⟩] } }, ⟨5, 8, 0, 0x80⟩, [], by decide⟩

/-- The hypotheses of a clause are met. -/
theorem witness_ResetAndPins_1 : ∃ (s : State) (ns : Nat), (s.sound = true) ∧ (s.domOn 3 = true) ∧ (s.railGood 2 = true)
  ∧ (1000 ≤ ns) :=
  ⟨flds [(.pwrMain, 0, F.pwrMain_SUPPLY_STS_GOOD, 0x3FF)] onAll, 1000, by decide⟩

/-- The hypotheses of a clause are met. -/
theorem witness_ResetAndPins_2 : ∃ (s : State) (ns : Nat), (ns ≤ 100 ∨ s.railGood 2 = false) :=
  ⟨onAll, 100, by decide⟩

/-- The hypotheses of a clause are met. -/
theorem witness_ResetAndPins_3 : ∃ (s : State) (ns : Nat), (s.sound = true) ∧ (s.domOn 3 = true) ∧ (s.railGood 2 = true)
  ∧ (100 < ns) ∧ (ns < 1000) :=
  ⟨flds [(.pwrMain, 0, F.pwrMain_SUPPLY_STS_GOOD, 0x3FF)] onAll, 500, by decide⟩

/-- The hypotheses of a clause are met. -/
theorem witness_ResetAndPins_4 : ∃ (s : State), (s.sound = true) ∧ (s.power.resetN = true) ∧ (s.power.hold = false) ∧
  (s.jtag.test = 0) ∧ (s.railsGood = true) ∧ (s.domOn 3 = false) :=
  ⟨{ (flds [] (runs [] { State.reset with regs := [(0x2004C, 0)] })) with power := { State.reset.power with resetN := true } }, by decide⟩

/-- The hypotheses of a clause are met. -/
theorem witness_ResetAndPins_5 : ∃ (s : State), (s.power.resetN = true) ∧ (s.power.hold = true ∨ s.jtag.test ≠ 0 ∨
  s.railsGood = false) :=
  ⟨{ (flds [] (runs [] { State.reset with regs := [(0x2004C, 0)] })) with power := { State.reset.power with resetN := true, hold := true } }, by decide⟩

/-- The hypotheses of a clause are met. -/
theorem witness_ResetAndPins_6 : ∃ (s : State) (l : Nat), (s.sound = true) ∧ (s.domOn 3 = true) ∧ (l % 4 ≠ 0) :=
  ⟨onAll, 2, by decide⟩

/-- The hypotheses of a clause are met. -/
theorem witness_ResetAndPins_7 : ∃ (s : State) (l : Nat), (s.sound = true) ∧ (s.power.release = true) ∧ (s.jtag.test ≠ 0)
  ∧ (l % 4 = 0) ∧ (s.power.hold = false) ∧ (s.power.resetN = false) ∧ (s.railsGood = true) ∧ (s.domOn 3 = false) :=
  ⟨{ { (flds [] (runs [] { State.reset with regs := [(0x2004C, 0)] })) with power := { State.reset.power with resetN := false, release := true } } with jtag := { State.reset.jtag with test := 1 } }, 0, by decide⟩

/-- The hypotheses of a clause are met. -/
theorem witness_ResetAndPins_8 : ∃ (s : State) (h : Nat), (h < 2) :=
  ⟨onAll, 1, by decide⟩

/-- The hypotheses of a clause are met. -/
theorem witness_ResetAndPins_9 : ∃ (s : State) (up : Bool) (gen width : Nat), (s.sound = true) ∧ (s.alive .hostGlobal 0 =
  true) ∧ (0 < s.grade.hPorts) ∧ (up = false ∨ bitOf s.jtag.perst 0 = true) ∧ (gen < 16) ∧ (width < 16) :=
  ⟨{ onAll with jtag := { onAll.jtag with perst := 3 } }, true, 4, 4, by decide⟩

/-- The hypotheses of a clause are met. -/
theorem witness_ResetAndPins_10 : ∃ (s : State) (up : Bool) (gen width : Nat), (s.sound = true) ∧ (s.alive .hostGlobal 0
  = true) ∧ (1 < s.grade.hPorts) ∧ (up = false ∨ bitOf s.jtag.perst 1 = true) ∧ (gen < 16) ∧ (width < 16) :=
  ⟨{ onAll with jtag := { onAll.jtag with perst := 3 } }, true, 4, 4, by decide⟩

/-- The hypotheses of a clause are met. -/
theorem witness_ResetAndPins_11 : ∃ (s : State) (p : Pin) (r : Nat), (p.rail = some r) ∧ (s.railGood r = false) :=
  ⟨({ (flds [] (runs [] { State.reset with regs := [(0x2004C, 0)] })) with power := { State.reset.power with resetN := true } }).pf pwB F.pwrMain_SUPPLY_STS_GOOD 0, .fault, 2, by decide⟩

/-- The hypotheses of a clause are met. -/
theorem witness_ResetAndPins_12 : ∃ (s : State) (n : Nat), (s.scanForce = false) ∧ (s.railGood 2 = true) ∧ (16 ≤ n) ∧ (n
  < 24) ∧ (s.grade.hasPage .can n = true) ∧ (s.ran.contains (pageBase .can n) = false) :=
  ⟨{ (onAll.pf pwB F.pwrMain_SUPPLY_STS_GOOD 15) with jtag := { onAll.jtag with ir := 5 } }, 16, by decide⟩

/-- The hypotheses of a clause are met. -/
theorem witness_ResetAndPins_13 : ∃ (s : State) (k : Nat), (s.scanForce = false) ∧ (s.railGood 2 = true) ∧
  (s.ran.contains (pageBase .timePulse 0) = false) :=
  ⟨{ (onAll.pf pwB F.pwrMain_SUPPLY_STS_GOOD 15) with jtag := { onAll.jtag with ir := 5 } }, 1, by decide⟩

/-- The hypotheses of a clause are met. -/
theorem witness_JtagPort_6 : ∃ (s : State) (c : Nat), (c < 256) ∧ (c ∉ [0x00, 0x01, 0x02, 0x03, 0x04, 0x40, 0x41]) :=
  ⟨onAll, 0x55, by decide⟩

/-- The hypotheses of a clause are met. -/
theorem witness_JtagPort_8 : ∃ (s : State) (v : Nat), (v ≠ 0x44424751) :=
  ⟨onAll, 0, by decide⟩

/-- The hypotheses of a clause are met. -/
theorem witness_JtagPort_9 : ∃ (s : State), (s.sound = true) ∧ (s.alive .kilnMain 0 = true) ∧ ((s.lifecycle = 0 ∨ (1 ≤
  s.lifecycle ∧ s.lifecycle ≤ 3 ∧ bitOf (s.idf F.kilnId_DEBUG_CFG_ALLOW) (s.lifecycle - 1) = true))) :=
  ⟨onAll, by decide⟩

/-- The hypotheses of a clause are met. -/
theorem witness_JtagPort_10 : ∃ (s : State), (s.alive .kilnMain 0 = true) ∧ ((4 ≤ s.lifecycle ∨ (1 ≤ s.lifecycle ∧ bitOf
  (s.idf F.kilnId_DEBUG_CFG_ALLOW) (s.lifecycle - 1) = false))) :=
  ⟨flds [(.kilnId, 0, F.kilnId_LC_STS_STATE, 2)] onAll, by decide⟩

/-- The hypotheses of a clause are met. -/
theorem witness_JtagPort_11 : ∃ (s : State) (op addr data : Nat) (l : Bool), (s.jtag.granted = false) :=
  ⟨onAll, 1, 0, 0, false, by decide⟩

/-- The hypotheses of a clause are met. -/
theorem witness_JtagPort_12 : ∃ (s : State) (op addr data : Nat), (s.jtag.granted = true) ∧ (s.domOn 3 = true) ∧ (op = 1)
  ∧ (addr < 2 ^ 32) :=
  ⟨{ onAll with jtag := { onAll.jtag with granted := true } }, 1, 0x40, 0, by decide⟩

/-- The hypotheses of a clause are met. -/
theorem witness_JtagPort_13 : ∃ (s : State) (op addr data : Nat), (s.jtag.granted = true) ∧ (s.domOn 3 = true) ∧ (op = 2)
  ∧ (addr < 2 ^ 26) ∧ (data < 2 ^ 32) :=
  ⟨{ onAll with jtag := { onAll.jtag with granted := true } }, 2, 0x40, 5, by decide⟩

/-- The hypotheses of a clause are met. -/
theorem witness_JtagPort_14 : ∃ (s : State) (op addr data : Nat), (s.jtag.granted = true) ∧ (s.domOn 3 = true) ∧ (op = 1)
  ∧ (addr < 2 ^ 26) :=
  ⟨{ onAll with jtag := { onAll.jtag with granted := true } }, 1, 0x40, 0, by decide⟩
end

/-! Every command answers a next state (R11, log entry 1): the forms that an answer takes, the recipe instructions, and
all commands. -/

namespace Sys2Proof.Machine

/-- The answer is a next state, neither a fault nor a refusal. -/
def AnswersNext (a : Answer) : Prop := ∃ t, a = .next t

theorem AnswersNext.next {t : State} : AnswersNext (.next t) := ⟨t, rfl⟩

theorem AnswersNext.ite {c : Prop} [Decidable c] {a b : Answer} (ha : AnswersNext a) (hb : AnswersNext b) :
    AnswersNext (if c then a else b) := by
  split
  · exact ha
  · exact hb

/-! ### The recipe instructions: all of them run through `State.recipe` -/

/-- A fault of the recipe instruction is no fault of the block: the core takes it and the block goes on (R330). So each
way out, before the fetch, at the fetch, or with the go, fault or stall that `f` ends in, is a next state. -/
theorem recipe_answersNext (s : State) (k : Nat) (is : Nat → Bool) (wait mem : Nat) (f : Nat → State → CoreEnd) :
    AnswersNext (s.recipe k is wait mem f) := by
  fun_cases State.recipe s k is wait mem f <;> exact .next

theorem alu_answersNext (s : State) (k op cycles wait mem : Nat) (f : Nat → (Nat → BitVec 64) → BitVec 64) :
    AnswersNext (s.alu k op cycles wait mem f) := recipe_answersNext ..

theorem aluR_answersNext (s : State) (k op cycles wait mem : Nat) (f : BitVec 64 → BitVec 64 → BitVec 64) :
    AnswersNext (s.aluR k op cycles wait mem f) := alu_answersNext ..

theorem aluI_answersNext (s : State) (k op wait mem : Nat) (e : Nat → BitVec 64)
    (f : BitVec 64 → BitVec 64 → BitVec 64) : AnswersNext (s.aluI k op wait mem e f) := alu_answersNext ..

theorem loadOp_answersNext (s : State) (k op n wait mem : Nat) :
    AnswersNext (s.loadOp k op n wait mem) := recipe_answersNext ..

theorem storeOp_answersNext (s : State) (k op n wait mem : Nat) :
    AnswersNext (s.storeOp k op n wait mem) := recipe_answersNext ..

theorem branch_answersNext (s : State) (k op wait mem : Nat) (f : BitVec 64 → BitVec 64 → Bool) :
    AnswersNext (s.branch k op wait mem f) := recipe_answersNext ..

theorem extOp_answersNext (s : State) (k op wait mem : Nat) (desc : Nat → State → Nat) :
    AnswersNext (s.extOp k op wait mem desc) := recipe_answersNext ..

theorem insOp_answersNext (s : State) (k op wait mem : Nat) (desc : Nat → State → Nat) :
    AnswersNext (s.insOp k op wait mem desc) := recipe_answersNext ..

theorem cvu_answersNext (s : State) (k mode wait uwait mem : Nat)
    (f : CrcCfg → State → Nat → Region → Nat → Nat → Bytes → State × Nat) (append : Bool) :
    AnswersNext (s.cvu k mode wait uwait mem f append) := recipe_answersNext ..

/-! ### All commands -/

theorem exec_answersNext (c : Instr) (s : State) : AnswersNext (exec c s) := by
  cases c <;> dsimp only [exec]
  -- Recipe instructions (Table 10-7).
  case opAdd | opSub | opAnd | opOr | opXor | opShl | opShr | opSar | opMul | opSlt | opSltu |
      opMin | opMax =>
    exact aluR_answersNext ..
  case opAddi | opAndi | opOri | opXori | opShli | opShri | opSari | opShin =>
    exact aluI_answersNext ..
  case opLd8 | opLd16 | opLd32 | opLd64 => exact loadOp_answersNext ..
  case opSt8 | opSt16 | opSt32 | opSt64 => exact storeOp_answersNext ..
  case opBeq | opBne | opBlt | opBge | opBltu | opBgeu => exact branch_answersNext ..
  case opExti | opExt => exact extOp_answersNext ..
  case opInsi | opIns => exact insOp_answersNext ..
  case opCvuCalc | opCvuFeed | opCvuStrip | opCvuAppend => exact cvu_answersNext ..
  case opJal | opJr | opAadd | opSrec | opPrec | opSrcv | opSfwd | opSval | opSset | opXfm |
      opPget | opPcnt | opE2ec | opPasm | opE2ep | opSend | opCvuFinal | opTime | opEnd |
      opBadop =>
    exact recipe_answersNext ..
  -- Commands under conditions: one that fails leads to a next state too (R11, log entry 1).
  case hspiRead | hspiWrite | dieLinkCheckFail | dieLinkRetry | sliceLeavePattern |
      purgeComplete | sliceRebuildStart | sliceJoinPattern | sliceReadmitDone | hotPosition |
      seedPairMove | seedPairAbandon | seedHoldRetry | configChange | gateConfigApply |
      egressQuiesceTimeout | fdbFlush | fdbFlushComplete | srfResetTimeout | streamDrainEnd |
      linkUp | linkDown | tsPop | tsFlush | t1sNodeDepart | plcaBeacon | plcaBeaconLost |
      objectW7Write | canIntegrated | canRecover | canRecoveryComplete | trcvStateRequest |
      trcvStateReached | linResponseTimeout | rtDrainEnd | tunnelHoldExpiry |
      tunnelFragTimeout | jaldenReplayTimeout | jaldenIdleAck | jlRetry | raccTimeout |
      twinStateRx | twinPeerTimeout | ktlFragTimeout | jobBudgetExpiry | coreResume |
      sigDrainEnd | nodeSummarySend | childHoldExpiry | twinNodeHoldExpiry | ddrTrainingDone |
      pdelayReqSend | syncOriginate | syncReceiptTimeout | ppsCapture | drbgHealthFail |
      cipherParityError | alarmTrip | alarmRestoreDone | railGood | railNotGood |
      seqErrorRelease | powerOn | thermalRecovery | lpEntryAuto | wakeInput | linBusWake |
      linIdleSleep | wakeSuppliesGood | wakeSupplyTimeout | wakeRetry | pnSuspend |
      pnSuspendEffect | nmWakeRequest | nmRingSend | nmTmaxTimeout | nmWbsExpiry |
      nmAddressTimeout | bootFirmwareStart | mbxUnknownOp | rackPreparationDone |
      cellarerCycle | ruleClear | resetNRelease | pcieLinkChange | dbgAccess |
      supervisorLockstepMismatch | transceiverFaultClear | plcaBeaconReceived =>
    exact .ite .next .next
  case hspiUnknownCommand | pointerFlush | lpiEntry | lpiWakeEnd | deadlineVisit | xferAckRx |
      xferTimeout | resetNAssert =>
    exact .ite .next (.ite .next .next)
  case rebuildComplete | t1sCollision | canProtocolException | jlBlockLock | jlBlockLockLost |
      discoverSend | raccCompletionRx | thermalShutdown | bootStart | rackActivation | dbgReq =>
    exact .ite (.ite .next .next) .next
  case bar0LongRead | eTxSelect | txSchedulerVisit | nmTerrTimeout | xferRx =>
    exact .ite .next (.ite .next (.ite .next .next))
  case linHeaderRx | rackRevertApply => exact .ite (.ite .next (.ite .next .next)) .next
  case spargeVisit | jaldenFrameRx | canBusWake =>
    exact .ite (.ite .next (.ite .next (.ite .next (.ite .next .next)))) .next
  case linSlotStart => exact .ite (.ite (.ite .next .next) .next) .next
  -- Commands that look up what they act on: each branch of the definition, "nothing found" too, ends in a next state.
  case registerAccessTimeout => fun_cases execRegisterAccessTimeout <;> exact .next
  case quiesceDrained => fun_cases execQuiesceDrained <;> exact .next
  case pageResetComplete => fun_cases execPageResetComplete <;> exact .next
  case evtPendClear => fun_cases execEvtPendClear <;> exact .next
  case frameAdmission => fun_cases execFrameAdmission <;> exact .next
  case outputCellTake => fun_cases execOutputCellTake <;> exact .next
  case ctUnderrun => fun_cases execCtUnderrun <;> exact .next
  case hostRxPublish => fun_cases execHostRxPublish <;> exact .next
  case hostTxFetch => fun_cases execHostTxFetch <;> exact .next
  case frameLookup => fun_cases execFrameLookup <;> exact .next
  case gristEdit => fun_cases execGristEdit <;> exact .next
  case learnCommit => fun_cases execLearnCommit <;> exact .next
  case ethRxFrame => fun_cases execEthRxFrame <;> exact .next
  case t1sRxFrame => fun_cases execT1sRxFrame <;> exact .next
  case canTxComplete => fun_cases execCanTxComplete <;> exact .next
  case canArbLost => fun_cases execCanArbLost <;> exact .next
  case canError => fun_cases execCanError <;> exact .next
  case linResponseRx => fun_cases execLinResponseRx <;> exact .next
  case routeLookup => fun_cases execRouteLookup <;> exact .next
  case f20FrameRx => fun_cases execF20FrameRx <;> exact .next
  case tunnelFrameSend => fun_cases execTunnelFrameSend <;> exact .next
  case discoverRx => fun_cases execDiscoverRx <;> exact .next
  case raccRequestRx => fun_cases execRaccRequestRx <;> exact .next
  case twinStateSend => fun_cases execTwinStateSend <;> exact .next
  case ktlDispatchFrame => fun_cases execKtlDispatchFrame <;> exact .next
  case jobStart => fun_cases execJobStart <;> exact .next
  case buildDone => fun_cases execBuildDone <;> exact .next
  case nodeDepartTimeout => fun_cases execNodeDepartTimeout <;> exact .next
  case nodeSummaryRx => fun_cases execNodeSummaryRx <;> exact .next
  case servoSample => fun_cases execServoSample <;> exact .next
  case hostStepApply => fun_cases execHostStepApply <;> exact .next
  case ppsWidthEnd => fun_cases execPpsWidthEnd <;> exact .next
  case slotFire => fun_cases execSlotFire <;> exact .next
  case kilnCommandDone => fun_cases execKilnCommandDone <;> exact .next
  case timedCommit => fun_cases execTimedCommit <;> exact .next
  case kilnIdReady => fun_cases execKilnIdReady <;> exact .next
  case maskSweepVisit => fun_cases execMaskSweepVisit <;> exact .next
  case blockOpDone => fun_cases execBlockOpDone <;> exact .next
  case domainSwitchDone => fun_cases execDomainSwitchDone <;> exact .next
  case domainCutTimeout => fun_cases execDomainCutTimeout <;> exact .next
  case lpEntryComplete => fun_cases execLpEntryComplete <;> exact .next
  case nmMsgComplete => fun_cases execNmMsgComplete <;> exact .next
  case caskRecordWrite => fun_cases execCaskRecordWrite <;> exact .next
  case caskCommandDone => fun_cases execCaskCommandDone <;> exact .next
  case caskScanDone => fun_cases execCaskScanDone <;> exact .next
  case hcmdDone => fun_cases execHcmdDone <;> exact .next
  case degradeGrant => fun_cases execDegradeGrant <;> exact .next
  case mailboxCommandDone => fun_cases execMailboxCommandDone <;> exact .next
  -- The other meanings are a next state outright: any condition stands inside it.
  all_goals exact .next

/-- Settles O2, command by command along the branches of its meaning. -/
theorem everyCommandAnswersNext : Obligations.EveryCommandAnswersNext := by
  unfold Obligations.EveryCommandAnswersNext
  exact exec_answersNext

end Sys2Proof.Machine

/-! Retrying the die-to-die link (R14, R413, R473): what reports events or writes TRCV_CTL leaves the word of TEC and REC
of C0 as it was; the suspension that ends with the retry does not. -/

namespace Sys2Proof.Machine

/-- The register of C0 that holds TEC and REC. -/
def c0ErrCnt : Nat := caB 0 + F.can_ERR_CNT_TEC.off

theorem c0ErrCnt_not_evOff : ¬ evOff c0ErrCnt := by unfold evOff; decide

/-- Between two states the error counters of C0 have not changed. -/
structure KeepsErrCnt (s t : State) : Prop where
  rd : t.rd c0ErrCnt = s.rd c0ErrCnt

theorem KeepsErrCnt.refl (s : State) : KeepsErrCnt s s := ⟨rfl⟩

theorem KeepsErrCnt.trans {s t u : State} (h1 : KeepsErrCnt s t) (h2 : KeepsErrCnt t u) : KeepsErrCnt s u :=
  ⟨h2.rd.trans h1.rd⟩

/-- What AON holds and the channels' own state are no registers. -/
theorem KeepsErrCnt.setPower (s : State) (p : Power) : KeepsErrCnt s (s.setPower p) := ⟨rfl⟩
theorem KeepsErrCnt.setCan (s : State) (n : Nat) (c : CanCh) : KeepsErrCnt s (s.setCan n c) := ⟨rfl⟩

theorem KeepsErrCnt.ite {c : Prop} [Decidable c] {s t u : State} (h1 : KeepsErrCnt s t) (h2 : KeepsErrCnt s u) :
    KeepsErrCnt s (if c then t else u) := by
  split
  · exact h1
  · exact h2

theorem KeepsErrCnt.pf (s : State) (b : Nat) (f : Fld) (v : Nat) (h : c0ErrCnt ≠ b + f.off) :
    KeepsErrCnt s (s.pf b f v) :=
  ⟨rd_pf_other s b f v c0ErrCnt h⟩

/-- A field whose offset in its page is not that of ERR_CNT. -/
theorem KeepsErrCnt.pf_page (s : State) (k : PageKind) (i : Nat) (f : Fld) (v : Nat) (h : f.off % 0x1000 ≠ 0x5C) :
    KeepsErrCnt s (s.pf (pageBase k i) f v) := by
  have hk := pageBase_mod k i
  have e : c0ErrCnt % 0x1000 = 0x5C := rfl
  exact .pf s _ f v (by omega)

theorem KeepsErrCnt.tec {s t : State} (h : KeepsErrCnt s t) :
    t.gf (caB 0) F.can_ERR_CNT_TEC = s.gf (caB 0) F.can_ERR_CNT_TEC :=
  congrArg (fun w : Word => bitsOf w.toNat 24 16) h.rd

theorem EvStep.keepsErrCnt {s t : State} (h : EvStep s t) : KeepsErrCnt s t := ⟨h.regs _ c0ErrCnt_not_evOff⟩

theorem KeepsErrCnt.foldl {β : Type} (f : State → β → State) (l : List β) (s : State)
    (h : ∀ a, ∀ b ∈ l, KeepsErrCnt a (f a b)) : KeepsErrCnt s (l.foldl f s) :=
  List.foldlRecOn (motive := KeepsErrCnt s) l f (.refl s) fun a ha b hb => ha.trans (h a b hb)

/-! ### A write of TRCV_CTL -/

/-- A rejected write is noted in the SYS page and reported. -/
theorem reject_keepsErrCnt (s : State) (off : Nat) : KeepsErrCnt s (s.reject off) := by
  unfold State.reject State.inc State.addSat
  refine .ite (.trans ?_ (raise_ev _ _ _).keepsErrCnt) (.refl s)
  exact (KeepsErrCnt.pf_page s _ _ _ _ (by decide)).trans (.pf_page _ _ _ _ _ (by decide))

/-- A block register other than ERR_CNT, with the notes of the page header. -/
theorem descWrite_keepsErrCnt (s : State) (k : PageKind) (i o data : Nat) (d : RegDesc) (ho : o % 0x1000 ≠ 0x5C) :
    KeepsErrCnt s (s.descWrite (pageBase k i) o data d).1 := by
  have hk := pageBase_mod k i
  have e : c0ErrCnt % 0x1000 = 0x5C := rfl
  have hwr (w : Word) : KeepsErrCnt s (s.wr (pageBase k i + o) w) := ⟨rd_wr_other s _ c0ErrCnt w (by omega)⟩
  unfold State.descWrite State.noteViol State.noteClamp State.inc State.addSat
  refine .trans ?_ (.ite (.pf_page _ _ _ _ _ (by decide)) (.refl _))
  refine .trans (hwr _) (.ite ?_ (.refl _))
  exact (KeepsErrCnt.pf_page _ _ _ _ _ (by decide)).trans (.pf_page _ _ _ _ _ (by decide))

theorem KeepsErrCnt.ite_fst {α : Type} {c : Prop} [Decidable c] {s : State} {x y : State × α} (h1 : KeepsErrCnt s x.1)
    (h2 : KeepsErrCnt s y.1) : KeepsErrCnt s (if c then x else y).1 := by
  split
  · exact h1
  · exact h2

/-- Where TRCV_CTL of a channel stands. -/
theorem trcvCtl_place : ∀ m < 16, pageOf ((caB m + 0x060) / 0x1000) = some (.can, m) ∧
    (caB m + 0x060) % 0x1000 / 4 * 4 = 0x060 := by decide

theorem regWrite_trcvCtl_keepsErrCnt (s : State) (m : Nat) (hm : m < 16) (w : Word) :
    KeepsErrCnt s (s.regWrite (caB m + 0x060) w).1 := by
  obtain ⟨hpage, ho⟩ := trcvCtl_place m hm
  obtain ⟨d, hd⟩ : ∃ d, descAt .can 0x060 = some d := ⟨_, rfl⟩
  simp only [State.regWrite, hpage, ho, absentReg, hd, reduceCtorEq, Nat.reduceLT, Bool.false_eq_true, if_false]
  have hreject := reject_keepsErrCnt s (caB m + 0x060)
  have hdesc := descWrite_keepsErrCnt s .can m 0x060 w.toNat d (by decide)
  exact .ite_fst (.refl s) (.ite_fst (.refl s) (.ite_fst hreject (.ite_fst hreject hdesc)))

/-- An accepted write under watch enters records and counts in the Cask's page. -/
theorem noteOverride_ev (s : State) (who : Writer) (addr value : Nat) : EvStep s (s.noteOverride who addr value) := by
  have hcask (a : State) (c : Cask) : EvStep a { a with cask := c } := .rest a _ _ _ _ _
  unfold State.noteOverride
  split
  · exact .refl s
  · refine .ite (hcask _ _) (.trans ?_ (.inc _ _ _ (evOff_rec _ (by decide))))
    refine .trans (.trans (hcask s _) (hcask _ _)) (.trans (caskRecord_ev _ _ _ _) (.ite (hcask _ _) (.refl _)))

theorem trcvAsk_keepsErrCnt (s : State) (m st : Nat) (hm : m < 16) : KeepsErrCnt s (s.trcvAsk m st) := by
  unfold State.trcvAsk
  simp only
  generalize BitVec.ofNat 32 _ = w
  have hw := regWrite_trcvCtl_keepsErrCnt s m hm w
  obtain ⟨t, ht, h⟩ | ⟨t, r, _, ht, h⟩ := writeBy_cases s .supervisor (caB m + 0x060) w (State.canTrigger m 0x060 w)
  · rw [ht] at hw
    rw [h]
    exact hw.trans ((noteOverride_ev t _ _ _).keepsErrCnt.trans (.setCan _ _ _))
  · rw [ht] at hw
    rw [h]
    exact hw

/-! ### What a retry does to each channel and segment -/

theorem endSuspend_keepsErrCnt (s : State) (m : Nat) (hm : m < 16) (h0 : m ≠ 0) : KeepsErrCnt s (s.endSuspend m) := by
  have hother (f : Fld) (hf : f.off = 0x5C) : c0ErrCnt ≠ caB m + f.off := by
    simp only [c0ErrCnt, caB, pageBase, F.can_ERR_CNT_TEC]
    omega
  have hzero (a : State) : KeepsErrCnt a (a.canZero m) :=
    (KeepsErrCnt.pf a _ _ _ (hother _ rfl)).trans (.pf _ _ _ _ (hother _ rfl))
  have hclear (a : State) : KeepsErrCnt a (a.pf wkB (F.pwrWake_PN_CTL_SUSPEND.at (32 * m)) 0) := by
    refine .pf_page a .pwrWake 0 _ _ ?_
    simp only [Fld.at, F.pwrWake_PN_CTL_SUSPEND]
    omega
  have hend (a : State) : KeepsErrCnt a
      ((if a.on wkB (F.pwrWake_PN_CTL_FREEZE.at (32 * m)) then a else a.canZero m).trcvAsk m 0) :=
    .trans (.ite (.refl a) (hzero a)) (trcvAsk_keepsErrCnt _ m 0 hm)
  simp only [State.endSuspend]
  refine .trans ((KeepsErrCnt.setPower s _).trans (hclear _)) (.ite ?_ (.refl _))
  exact .trans (.setCan _ m _) (.ite (.refl _) (hend _))

theorem segPhy_keepsErrCnt (s : State) (m : Nat) : KeepsErrCnt s (s.segPhy m) := by
  unfold State.segPhy State.segLevel
  exact .ite ((KeepsErrCnt.pf_page s .t1s m _ _ (by decide)).trans (level_ev _ _ _ _).keepsErrCnt) (.refl s)

theorem regroupAll_keepsErrCnt (s : State) : KeepsErrCnt s s.regroupAll :=
  .foldl _ _ s fun a g _ => (regroup_ev a g).keepsErrCnt

/-! ### The suspended channel -/

/-- C0 is suspended with FREEZE 0 and its SUSPEND has been taken back: the end of the suspension is due. -/
structure EndDue (s : State) : Prop where
  wf : Memory.wf s = true
  link : s.dieLost = false
  alive : s.alive .can 0 = true
  susp : (s.canCh 0).susp = true
  ended : s.on wkB F.pwrWake_PN_CTL_SUSPEND = false
  unfrozen : s.on wkB F.pwrWake_PN_CTL_FREEZE = false

theorem alive_congr {s t : State} (hdom : t.rd (pageBase .pwrMain 0 + 0x04C) = s.rd (pageBase .pwrMain 0 + 0x04C))
    (hgrade : t.grade = s.grade) (k : PageKind) (i : Nat) : t.alive k i = s.alive k i := by
  simp only [State.alive, State.domOn, hgrade, hdom]

/-- It stays due while DOM_STS, PN_CTL and the channels' own state stay. -/
theorem EndDue.congr {s t : State} (h : EndDue s) (hwf : Memory.wf t = true) (hlink : t.dieLost = s.dieLost)
    (hgrade : t.grade = s.grade) (hcan : t.can = s.can)
    (hdom : t.rd (pageBase .pwrMain 0 + 0x04C) = s.rd (pageBase .pwrMain 0 + 0x04C))
    (hpn : t.rd (wkB + 0x118) = s.rd (wkB + 0x118)) : EndDue t where
  wf := hwf
  link := hlink.trans h.link
  alive := (alive_congr hdom hgrade _ _).trans h.alive
  susp := by simpa only [State.canCh, hcan] using h.susp
  ended := by simpa only [State.on, State.gf, F.pwrWake_PN_CTL_SUSPEND, hpn] using h.ended
  unfrozen := by simpa only [State.on, State.gf, F.pwrWake_PN_CTL_FREEZE, hpn] using h.unfrozen

theorem EndDue.evStep {s t : State} (h : EndDue s) (hst : EvStep s t) : EndDue t :=
  h.congr (hst.wf h.wf) (congrArg (·.dieLost) hst.same :) (congrArg (·.grade) hst.same :) (congrArg (·.can) hst.same :)
    (hst.regs _ (by unfold evOff; decide)) (hst.regs _ (by unfold evOff; decide))

/-- Any channel may change its state meanwhile. -/
theorem EndDue.setCanState {s : State} (h : EndDue s) (m st : Nat) : EndDue (s.setCanState m st) := by
  have hsts : EndDue (s.pf (caB m) F.can_STS_STATE st) :=
    h.congr (pf_wf _ _ _ _ h.wf) rfl rfl rfl
      (rd_pf_other _ _ _ _ _ (by simp only [caB, F.can_STS_STATE, pageBase]; omega))
      (rd_pf_other _ _ _ _ _ (by simp only [caB, wkB, F.can_STS_STATE, pageBase]; omega))
  unfold State.setCanState State.raiseIf
  split
  · exact h
  · split
    · exact hsts.evStep (raise_ev _ _ _)
    · exact hsts

theorem EndDue.canIntegrate {s : State} (h : EndDue s) (m : Nat) : EndDue (s.canIntegrate m) := by
  unfold State.canIntegrate
  simp only
  split
  · exact h.setCanState m 1
  · exact (h.setCanState m 1).setCanState m 6

theorem canZero_tec (s : State) (n : Nat) (h : Memory.wf s = true) : (s.canZero n).gf (caB n) F.can_ERR_CNT_TEC = 0 := by
  have hrec := gf_pf_beside (s.pf (caB n) F.can_ERR_CNT_TEC 0) (caB n) F.can_ERR_CNT_REC F.can_ERR_CNT_TEC 0 rfl
    (by decide) (by decide) (by decide) (pf_wf _ _ _ _ h)
  exact hrec.trans (gf_pf_same s _ F.can_ERR_CNT_TEC 0 (by decide) (by decide) h)

/-- The end of the suspension zeroes TEC (R413). -/
theorem EndDue.endSuspend_tec {s : State} (h : EndDue s) : (s.endSuspend 0).gf (caB 0) F.can_ERR_CNT_TEC = 0 := by
  simp only [State.endSuspend]
  generalize ({ s.power with suspend := _ } : Power) = p
  generalize hs1 : (s.setPower p).pf wkB (F.pwrWake_PN_CTL_SUSPEND.at (32 * 0)) 0 = s1
  have hwf : Memory.wf s1 = true := hs1 ▸ pf_wf _ _ _ _ h.wf
  have hsusp : (s1.canCh 0).susp = true := hs1 ▸ h.susp
  have hlink : s1.dieLost = false := hs1 ▸ h.link
  have halive : s1.alive .can 0 = true := by
    subst hs1
    have hdom := rd_pf_other (s.setPower p) wkB (F.pwrWake_PN_CTL_SUSPEND.at (32 * 0)) 0 (pageBase .pwrMain 0 + 0x04C)
      (by decide)
    exact (alive_congr hdom rfl .can 0).trans h.alive
  have hfreeze : s1.on wkB (F.pwrWake_PN_CTL_FREEZE.at (32 * 0)) = false := by
    subst hs1
    have hkept := gf_pf_beside (s.setPower p) wkB (F.pwrWake_PN_CTL_SUSPEND.at (32 * 0))
      (F.pwrWake_PN_CTL_FREEZE.at (32 * 0)) 0 rfl (by decide) (by decide) (by decide) h.wf
    exact (congrArg (· != 0) hkept).trans h.unfrozen
  rw [if_pos ⟨hsusp, by simp only [hlink, Bool.and_false, Bool.not_false]⟩]
  generalize { s1.canCh 0 with susp := false } = c
  change (if !s1.alive .can 0 then _ else
    State.trcvAsk (if s1.on wkB (F.pwrWake_PN_CTL_FREEZE.at (32 * 0)) then _ else _) 0 0 : State).gf _ _ = 0
  rw [halive, hfreeze]
  exact (trcvAsk_keepsErrCnt _ 0 0 (by decide)).tec.trans (canZero_tec (s1.setCan 0 c) 0 hwf)

/-- R413 meets R473: a retry that passes ends the suspension that the lost link held up, and TEC of C0 becomes 0. -/
theorem dieLinkRetry_zeroes_tec (s : State) (hlost : s.dieLost = true) (hup : s.supUp = true)
    (h : EndDue { s with dieLost := false }) :
    Runs (.dieLinkRetry true) s fun t => t.gf (caB 0) F.can_ERR_CNT_TEC = 0 := by
  refine ⟨_, if_pos ⟨rfl, hlost, hup⟩, ?_⟩
  have hrange : List.range 16 = 0 :: List.range' 1 15 := rfl
  -- the channels integrate, C0's suspension ends, then the other channels, the segments and the summaries follow
  have hdue := List.foldlRecOn (motive := EndDue) (List.range 16)
    (fun (a : State) n => if a.run .can n ∧ 1 ≤ a.canState n ∧ a.canState n ≤ 3 then a.canIntegrate n else a) h
    fun a ha n _ => by
      split
      · exact ha.canIntegrate n
      · exact ha
  generalize List.foldl _ _ (List.range 16) = a at hdue ⊢
  have hended : (!a.on wkB (F.pwrWake_PN_CTL_SUSPEND.at (32 * 0))) = true := congrArg (!·) hdue.ended
  rw [hrange, List.foldl_cons, if_pos ⟨hdue.susp, hended⟩]
  refine (KeepsErrCnt.tec ?_).trans hdue.endSuspend_tec
  refine .trans (.trans (.foldl _ _ _ fun b m hm => ?_) (.foldl _ _ _ fun b m _ => segPhy_keepsErrCnt b m))
    (regroupAll_keepsErrCnt _)
  have hm := List.mem_range'_1.1 hm
  exact .ite (endSuspend_keepsErrCnt b m (by omega) (by omega)) (.refl b)

/-- C0 runs with TEC 8 and has been suspended with FREEZE 0; then the die-to-die link was lost, and SUSPEND was written
0 meanwhile. PD1 and PD3 are on. -/
def c0HeldSuspended : State :=
  let s := (((State.reset.pf pwB F.pwrMain_DOM_STS_ON 0b101).pf wkB F.pwrWake_PN_CTL_FREEZE 0).pf
    (caB 0) F.can_STS_STATE 2).pf (caB 0) F.can_ERR_CNT_TEC 8
  { s with
    pages := [(caB 0, .run)]
    can := [(0, { CanCh.new with susp := true })]
    sup := { s.sup with phase := .firmware }
    dieLost := true }

/-- Refutes O56: its clause for a retry that passes keeps TEC of every channel, but a suspension with FREEZE 0 whose end
the lost link held up (log entry 125) ends with that retry and zeroes TEC (R413): of C0 it goes from 8 to 0. -/
theorem not_degradedOperation : ¬ Obligations.DegradedOperation := by
  unfold Obligations.DegradedOperation
  rintro ⟨-, -, -, -, -, -, -, -, hretry, -⟩
  have hdue : EndDue { c0HeldSuspended with dieLost := false } :=
    ⟨by decide, rfl, by decide, by decide, by decide, by decide⟩
  obtain ⟨t, ht, -, -, hkept, -⟩ := hretry c0HeldSuspended (by decide) (by decide) (by decide) (by decide)
  obtain ⟨t', ht', hzero⟩ := dieLinkRetry_zeroes_tec c0HeldSuspended (by decide) (by decide) hdue
  obtain rfl : t = t' := by
    rw [ht] at ht'
    injection ht'
  have htec : c0HeldSuspended.gf (caB 0) F.can_ERR_CNT_TEC = 8 := by decide
  have := hkept 0 (by decide)
  omega

end Sys2Proof.Machine

/-! The fall of a link (LINK_DOWN, R180, R192) on a lane that holds no block lock: nothing that follows the link sets
BLOCK_LOCK of its port. -/

namespace Sys2Proof.Machine

/-- Between two states BLOCK_LOCK of En has not changed, and the stores keep their form. -/
structure KeepsBlockLock (n : Nat) (s t : State) : Prop where
  wf : Memory.wf s = true → Memory.wf t = true
  lock : Memory.wf s = true → t.gf (emB n) F.emac_LINK_STS_BLOCK_LOCK = s.gf (emB n) F.emac_LINK_STS_BLOCK_LOCK

theorem KeepsBlockLock.refl (n : Nat) (s : State) : KeepsBlockLock n s s := ⟨id, fun _ => rfl⟩

theorem KeepsBlockLock.trans {n : Nat} {s t u : State} (h1 : KeepsBlockLock n s t) (h2 : KeepsBlockLock n t u) :
    KeepsBlockLock n s u :=
  ⟨fun h => h2.wf (h1.wf h), fun h => (h2.lock (h1.wf h)).trans (h1.lock h)⟩

theorem KeepsBlockLock.ite {c : Prop} [Decidable c] {n : Nat} {s t u : State} (h1 : KeepsBlockLock n s t)
    (h2 : KeepsBlockLock n s u) : KeepsBlockLock n s (if c then t else u) := by
  split
  · exact h1
  · exact h2

/-- A port's egress side is no register. -/
theorem KeepsBlockLock.setEg (n : Nat) (s : State) (p : Nat) (e : Egress) : KeepsBlockLock n s (s.setEg p e) :=
  ⟨id, fun _ => rfl⟩

/-- A field of another register. -/
theorem KeepsBlockLock.pf (n : Nat) (s : State) (b : Nat) (f : Fld) (v : Nat) (h : emB n + 0x44 ≠ b + f.off) :
    KeepsBlockLock n s (s.pf b f v) :=
  ⟨pf_wf s b f v, fun _ => gf_pf_other s b (emB n) f F.emac_LINK_STS_BLOCK_LOCK v h⟩

/-- Another field of LINK_STS: it lies below or above bit 2. -/
theorem KeepsBlockLock.pf_linkSts (n : Nat) (s : State) (f : Fld) (v : Nat) (ho : f.off = 0x44) (hf : f.lo ≤ f.hi)
    (hh : f.hi ≤ 31) (hd : 2 < f.lo ∨ f.hi < 2) : KeepsBlockLock n s (s.pf (emB n) f v) :=
  ⟨pf_wf s _ f v, fun h =>
    gf_pf_beside s _ f F.emac_LINK_STS_BLOCK_LOCK v ho.symm hf hh (hd.imp_left fun h2 => ⟨h2, Nat.le_refl 2⟩) h⟩

theorem KeepsBlockLock.foldl {β : Type} (n : Nat) (f : State → β → State) (l : List β) (s : State)
    (h : ∀ a, ∀ b ∈ l, KeepsBlockLock n a (f a b)) : KeepsBlockLock n s (l.foldl f s) :=
  List.foldlRecOn (motive := KeepsBlockLock n s) l f (.refl n s) fun a ha b hb => ha.trans (h a b hb)

/-- LINK_STS is none of the registers that event reporting writes. -/
theorem linkSts_not_evOff (n : Nat) (hn : n < 16) : ¬ evOff (emB n + 0x44) := by
  simp only [emB, pageBase, evOff]
  omega

theorem EvStep.keepsBlockLock {s t : State} (h : EvStep s t) (n : Nat) (hn : n < 16) : KeepsBlockLock n s t :=
  ⟨h.wf, fun _ => congrArg (fun w : Word => bitsOf w.toNat 2 2) (h.regs _ (linkSts_not_evOff n hn))⟩

/-- The credits are shown in the egress pages. -/
theorem creditRun_keepsBlockLock (n : Nat) (hn : n < 16) (s : State) (p t : Nat) :
    KeepsBlockLock n s (s.creditRun p t) := by
  unfold State.creditRun State.showCredits
  refine .ite ((KeepsBlockLock.setEg n s p _).trans (.foldl n _ _ _ fun a c _ => .pf n a _ _ _ ?_)) (.refl n s)
  simp only [emB, egBase, pageBase]
  omega

theorem abortTx_of_idle (s : State) (n : Nat) (hidle : (s.eg n).sending = none) : s.abortTx n = s := by
  simp only [State.abortTx, State.cutTx, hidle]

theorem lpiSeen_keepsBlockLock (n : Nat) (s : State) : KeepsBlockLock n s (s.lpiSeen n) :=
  .ite (.refl n s) (.pf_linkSts n s _ 0 rfl (by decide) (by decide) (by decide))

/-- LINK, AN_DONE and SPEED follow BLOCK_LOCK and leave it (R179, R180). -/
theorem linkFollow_keepsBlockLock (n : Nat) (hn : n < 16) (s : State) (hidle : (s.eg n).sending = none) :
    KeepsBlockLock n s (s.linkFollow n) := by
  have hsts (a : State) (f : Fld) (v : Nat) (ho : f.off = 0x44) (hf : f.lo ≤ f.hi) (hh : f.hi ≤ 31)
      (hd : 2 < f.lo ∨ f.hi < 2) : KeepsBlockLock n a (a.pf (emB n) f v) := .pf_linkSts n a f v ho hf hh hd
  unfold State.linkFollow State.linkLevel
  simp only [abortTx_of_idle s n hidle]
  refine .ite (.refl n s) (.trans ?_ ((level_ev _ _ _ _).keepsBlockLock n hn))
  refine .trans ?_ (lpiSeen_keepsBlockLock n _)
  refine .trans ?_ (hsts _ F.emac_LINK_STS_LINK _ rfl (by decide) (by decide) (by decide))
  have hdone (a : State) (v : Nat) := hsts a F.emac_LINK_STS_AN_DONE v rfl (by decide) (by decide) (by decide)
  have hcredit (c : Prop) [Decidable c] : KeepsBlockLock n s (if c then s else s.creditRun n s.ps) :=
    .ite (.refl n s) (creditRun_keepsBlockLock n hn s n s.ps)
  exact .ite (((hcredit _).trans (hdone _ _)).trans
    (hsts _ F.emac_LINK_STS_SPEED _ rfl (by decide) (by decide) (by decide))) ((hcredit _).trans (hdone _ _))

/-- LINK_DOWN of an idle lane without block lock leaves BLOCK_LOCK 0, also where `lock` says that block lock is held. -/
theorem linkDown_without_blockLock (s : State) (n : Nat) (lock : Bool) (hwf : Memory.wf s = true) (hn : n < 16)
    (halive : s.alive .emac n = true) (hlo : 1 ≤ (s.port n).mode) (hhi : (s.port n).mode ≤ 4)
    (hlink : s.gf (emB n) F.emac_LINK_STS_LINK = 1) (hlock : s.gf (emB n) F.emac_LINK_STS_BLOCK_LOCK = 0)
    (hidle : (s.eg n).sending = none) :
    Runs (.linkDown n lock) s fun t => t.gf (emB n) F.emac_LINK_STS_BLOCK_LOCK = 0 := by
  have hup : s.on (emB n) F.emac_LINK_STS_LINK = true := by simp [State.on, hlink]
  have hoff : s.on (emB n) F.emac_LINK_STS_BLOCK_LOCK = false := by simp [State.on, hlock]
  refine ⟨_, if_pos ⟨halive, hn, hlo, hhi, .inl hup⟩, ?_⟩
  simp only [hoff, Bool.and_false, Bool.false_and]
  generalize hs1 : s.setPort n _ = s1
  have hwf1 : Memory.wf s1 = true := hs1 ▸ hwf
  have hidle1 : (s1.eg n).sending = none := hs1 ▸ hidle
  have hfollow := linkFollow_keepsBlockLock n hn (s1.pf (emB n) F.emac_LINK_STS_BLOCK_LOCK (b2n false)) hidle1
  exact (hfollow.lock (pf_wf _ _ _ _ hwf1)).trans (gf_pf_same s1 _ _ _ (by decide) (by decide) hwf1)

/-- E0 in 10GBASE-R with PD11 on: LINK is 1 and BLOCK_LOCK 0, no frame is in transmission. -/
def e0LinkedWithoutLock : State :=
  let s := (State.reset.pf (pageBase .pwrMain 0) F.pwrMain_DOM_STS_ON 0x400).pf (emB 0) F.emac_LINK_STS_LINK 1
  { s with ports := [(0, { EPort.new with mode := 4 })] }

/-- Refutes O21: its LINK_DOWN clause takes BLOCK_LOCK from the operand `lock` and the mode alone. It lacks the premise
that the lane holds block lock, which R180 ties to LINK 1 and the canonical form does not: with LINK 1 and BLOCK_LOCK 0
in 10GBASE-R, LINK_DOWN with `lock` leaves BLOCK_LOCK 0 where the clause says 1. -/
theorem not_ethernetPortCommands : ¬ Obligations.EthernetPortCommands := by
  unfold Obligations.EthernetPortCommands
  rintro ⟨-, -, hdown, -⟩
  have hwf : Memory.wf e0LinkedWithoutLock = true := by decide
  have halive : e0LinkedWithoutLock.alive .emac 0 = true := by decide
  have hlink : e0LinkedWithoutLock.gf (emB 0) F.emac_LINK_STS_LINK = 1 := by decide
  have hmode : (e0LinkedWithoutLock.port 0).mode = 4 := rfl
  obtain ⟨t, ht, -, hclaim, -⟩ := hdown e0LinkedWithoutLock 0 true (by decide) (by decide) halive (by omega) (by omega)
    hlink rfl
  obtain ⟨t', ht', hzero⟩ := linkDown_without_blockLock e0LinkedWithoutLock 0 true hwf (by decide) halive (by omega)
    (by omega) hlink (by decide) rfl
  obtain rfl : t = t' := by
    rw [ht] at ht'
    injection ht'
  rw [hzero, hmode] at hclaim
  exact absurd hclaim (by decide)

end Sys2Proof.Machine

/-! The coordinator's BEACON (R203): none is sent before the cycle of NODE_COUNT opportunities has passed. -/

namespace Sys2Proof.Machine

/-- A further PLCA_BEACON within the cycle does not take place. -/
theorem plcaBeacon_within_cycle (s : State) (n : Nat) (h : s.ps < (s.seg n).cycleTo) : Idle (.plcaBeacon n) s := by
  refine if_neg ?_
  rintro ⟨-, -, -, -, hover⟩
  omega

/-- S0 coordinates and sent a BEACON one cycle of CLK_SYS ago: its own opportunity begins 2 µs after the BEACON, and 8
opportunities of 32 bit times follow before the next one. PD2 and PD3 are on. -/
def s0BeaconSent : State :=
  let s := (State.reset.pf (pageBase .pwrMain 0) F.pwrMain_DOM_STS_ON 0b110).pf (t1B 0) F.t1s_SEG_STS_PHY_OK 1
  let s1 := (s.pf (t1B 0) F.t1s_SEG_STS_COORD 1).pf (t1B 0) F.t1s_SEG_STS_PLCA_OK 1
  { s1 with
    pages := [(t1B 0, .run)]
    segs := [(0, { Segment.new with burst := 1, waitTo := 2000000, limit := 5199999, cycleTo := 27600000 })]
    cycles := 1 }

/-- Refutes O22: its PLCA_BEACON clause lacks the premise that the previous cycle of opportunities has passed. Within it
the command does not take place (R203), so the own opportunity stays where it was: 2 µs after the BEACON sent, and not 2
µs from now. -/
theorem not_t1sCommands : ¬ Obligations.T1sCommands := by
  unfold Obligations.T1sCommands
  rintro ⟨-, -, -, -, hbeacon, -⟩
  obtain ⟨t, ht, -, -, -, -, hwait, -⟩ :=
    hbeacon s0BeaconSent 0 (by decide) (by decide) (by decide) (by decide) (by decide) rfl
  have hsame := plcaBeacon_within_cycle s0BeaconSent 0 (by decide)
  obtain rfl : s0BeaconSent = t := by
    rw [hsame] at ht
    injection ht
  exact absurd hwait (by decide)

end Sys2Proof.Machine
